-- ==== Sys2Proof/Word.lean ====
section
/-! DEFINITION. The word of the register bus (R3) and the byte. -/

namespace Sys2Proof

/-- A register word: 32 bits (R3). -/
abbrev Word := BitVec 32

/-- A byte of memory or of a frame. -/
abbrev Byte := BitVec 8

end Sys2Proof
end

