-- ==== Sys2Proof/Machine/Bits.lean ====
section
/-! DEFINITION. Bit fields of a word, two's complement readings, rounding and saturation. -/

namespace Sys2Proof.Machine

/-- The mask of the `n` bits from bit `lo` up. -/
def fieldMask (lo n : Nat) : Word := BitVec.ofNat 32 ((2 ^ n - 1) * 2 ^ lo)

/-- The field of `n` bits from bit `lo` up, as a number. -/
def fget (w : Word) (lo n : Nat) : Nat := w.toNat / 2 ^ lo % 2 ^ n

/-- The word with its field of `n` bits from bit `lo` up replaced by `v` (its low `n` bits). -/
def fset (w : Word) (lo n v : Nat) : Word :=
  (w &&& ~~~ fieldMask lo n) ||| BitVec.ofNat 32 (v % 2 ^ n * 2 ^ lo)

/-- `n` read as a two's complement number of `b` bits. -/
def sgn (b n : Nat) : Int :=
  let m := n % 2 ^ b
  if m < 2 ^ (b - 1) then (m : Int) else (m : Int) - (2 ^ b : Nat)

/-- The low `b` bits of `i` in two's complement. -/
def unsgn (b : Nat) (i : Int) : Nat := (i % ((2 ^ b : Nat) : Int)).toNat

/-- `i` clipped to a signed number of `b` bits. -/
def clipS (b : Nat) (i : Int) : Int :=
  let hi : Int := (2 ^ (b - 1) : Nat)
  if i ≥ hi then hi - 1 else if i < -hi then -hi else i

/-- The quotient `i / d` rounded to nearest, ties away from zero (`d > 0`). -/
def divRound (i : Int) (d : Nat) : Int :=
  if 0 ≤ i then (2 * i + d) / (2 * d) else -((2 * (-i) + d) / (2 * d))

/-- The largest value of a field of `w` bits. -/
def fieldMax (w : Nat) : Nat := 2 ^ w - 1

/-- A counter of `w` bits that saturates (R5, the ROC counters). -/
def satAdd (w old n : Nat) : Nat := min (fieldMax w) (old + n)

/-- Bit `n` of a number. -/
def bit (v n : Nat) : Nat := v / 2 ^ n % 2

/-- Whether bit `n` of a number is set. -/
def hasBit (v n : Nat) : Bool := bit v n == 1

/-- The big-endian bytes of `v`, `n` of them. -/
def beBytes : Nat → Nat → List Byte
  | 0, _ => []
  | n + 1, v => BitVec.ofNat 8 (v / 2 ^ (8 * n)) :: beBytes n v

/-- The number that a list of bytes spells, most significant first. -/
def beNat (l : List Byte) : Nat := l.foldl (fun a b => a * 256 + b.toNat) 0

/-- The little-endian bytes of `v`, `n` of them. -/
def leBytes : Nat → Nat → List Byte
  | 0, _ => []
  | n + 1, v => BitVec.ofNat 8 v :: leBytes n (v / 256)

/-- The number that a list of bytes spells, least significant first. -/
def leNat (l : List Byte) : Nat := l.foldr (fun b a => b.toNat + 256 * a) 0

/-- The first `n` bytes of a list, zero where the list ends. -/
def takePad : Nat → List Byte → List Byte
  | 0, _ => []
  | n + 1, [] => 0 :: takePad n []
  | n + 1, b :: l => b :: takePad n l

/-- `n` bytes of a list from place `i`, zero where the list ends. -/
def slice (l : List Byte) (i n : Nat) : List Byte := takePad n (l.drop i)

/-- Every member of a list in blocks of `n` (the last may be shorter); `fuel` bounds the blocks. -/
def chunks {α : Type} (n : Nat) : Nat → List α → List (List α)
  | 0, _ => []
  | _ + 1, [] => []
  | fuel + 1, l => l.take n :: chunks n fuel (l.drop n)

/-- A list with a member put before the first one that it may precede. -/
def insertBy {α : Type} (le : α → α → Bool) (x : α) : List α → List α
  | [] => [x]
  | y :: l => if le x y then x :: y :: l else y :: insertBy le x l

/-- A list sorted by an order; members that are equal in it keep their places. -/
def sortBy {α : Type} (le : α → α → Bool) (l : List α) : List α := l.foldr (insertBy le) []

/-- One step of CRC-16 over a byte: polynomial 0x1021, most significant bit first (R396, R41). -/
def crc16Byte (c : Nat) (b : Byte) : Nat :=
  (List.range 8).foldl
    (fun c _ => if c ≥ 0x8000 then (c * 2) % 0x10000 ^^^ 0x1021 else c * 2)
    (c ^^^ (b.toNat * 256))

/-- CRC-16 of R396: polynomial 0x1021, initial value 0xFFFF, no reflection, no final XOR. -/
def crc16 (l : List Byte) : Nat := l.foldl crc16Byte 0xFFFF

/-- One step of a reflected CRC of 32 bits over a byte. -/
def crc32Byte (poly c : Nat) (b : Byte) : Nat :=
  (List.range 8).foldl
    (fun c _ => if c % 2 = 1 then c / 2 ^^^ poly else c / 2) (c ^^^ b.toNat)

/-- The fold of a step over bytes, each value computed before the next byte is taken. -/
def foldNat (f : Nat → Byte → Nat) : Nat → List Byte → Nat
  | c, [] => c
  | c, b :: l => match f c b with
    | 0 => foldNat f 0 l
    | n + 1 => foldNat f (n + 1) l

/-- A reflected CRC of 32 bits with a given initial value and final XOR 0xFFFF_FFFF. -/
def crc32With (poly init : Nat) (l : List Byte) : Nat := foldNat (crc32Byte poly) init l ^^^ 0xFFFFFFFF

/-- CRC-32 of gzip members (R234). -/
def crc32 : List Byte → Nat := crc32With 0xEDB88320 0xFFFFFFFF

/-- CRC-32C as R306 parameterises it, with an initial value of its own. -/
def crc32cFrom (init : Nat) : List Byte → Nat := crc32With 0x82F63B78 init

/-- CRC-32C with the initial value 0xFFFF_FFFF. -/
def crc32c : List Byte → Nat := crc32cFrom 0xFFFFFFFF

end Sys2Proof.Machine
end

