-- ==== Sys2Proof/Machine/Frames.lean ====
section
/-! DEFINITION. What crosses the pins and the wire: requesters of the register bus, Ethernet envelopes, Pebiyr
frames (Table 10.3), PTP messages, ARP and MKA messages. The operands of the commands are made of these. -/

namespace Sys2Proof.Machine

/-- A requester of the register bus with its class (R3, Table 13.7): a core at a privilege level, the host SPI port,
or the MGMT engine acting for a role. -/
inductive Requester where
  | core0 (pl : Fin 4)
  | core1 (pl : Fin 4)
  | host
  | mgmt (role : Fin 4)
  deriving DecidableEq, Repr

/-- The number of the requester's SYS_REQERR registers (Table 15.13). -/
def Requester.no : Requester → Nat
  | .core0 _ => 0
  | .core1 _ => 1
  | .host => 2
  | .mgmt _ => 3

/-- The requester class of Table 13.7. -/
def Requester.cls : Requester → Nat
  | .core0 p => p.val
  | .core1 p => p.val
  | .host => 4
  | .mgmt r => 5 + r.val

/-- Level PL0, which may always reach the PROT block (R361). -/
def Requester.isPl0 : Requester → Bool
  | .core0 p => p.val == 0
  | .core1 p => p.val == 0
  | _ => false

/-- A Pebiyr frame: the header of Table 10.3 by its fields, and the payload as received (padding removed or not). -/
structure Frame where
  ver : Nat := 3
  flow : Nat := 0
  multi : Bool := false
  sfol : Bool := false
  ch : Nat := 0
  line : Nat := 0
  src : Nat := 0
  dst : Nat := 0
  stype : Nat := 0
  dtype : Nat := 0
  type : Nat := 0
  length : Nat := 0
  a : Nat := 0
  b : Nat := 0
  payload : List Byte := []
  deriving DecidableEq, Repr

/-- The 16 header bytes of a frame, big-endian (Table 10.3). -/
def Frame.header (f : Frame) : List Byte :=
  beBytes 1 (f.ver * 16 + f.flow)
    ++ beBytes 1 ((if f.multi then 0x80 else 0) + (if f.sfol then 0x40 else 0) + f.ch)
    ++ beBytes 1 f.line
    ++ beBytes 3 (f.src * 2 ^ 14 + f.dst * 2 ^ 4 + f.stype * 2 ^ 2 + f.dtype)
    ++ beBytes 2 (f.type * 2 ^ 11 + f.length)
    ++ beBytes 4 f.a ++ beBytes 4 f.b

/-- The payload that LENGTH names: the bytes behind it are padding and are ignored (R256). -/
def Frame.body (f : Frame) : List Byte := f.payload.take f.length

/-- The SecTAG of a protected frame as the receiving SecY sees it: its AN, its packet number, whether the ICV holds. -/
structure SecTag where
  an : Fin 4
  pn : Nat
  icvOk : Bool
  deriving DecidableEq, Repr

/-- The IPv4 and UDP envelope of a datagram (R255). -/
structure IpInfo where
  src : Nat
  dst : Nat
  sport : Nat
  dport : Nat
  fragment : Bool
  options : Bool
  /-- The UDP checksum is 0 or correct. -/
  sumOk : Bool
  deriving DecidableEq, Repr

/-- The Ethernet envelope of a received frame; `bytes` is its length without SecTAG and ICV (R253). -/
structure Eth where
  dst : Nat := 0x035354000001
  src : Nat := 0
  etype : Nat := 0x88B5
  tagged : Bool := false
  bytes : Nat := 64
  fcsOk : Bool := true
  sec : Option SecTag := none
  ip : Option IpInfo := none
  deriving DecidableEq, Repr

/-- A received frame: the port, the envelope and the Pebiyr frame in it. -/
structure Rx where
  port : Fin 4
  eth : Eth := {}
  frame : Frame
  deriving DecidableEq, Repr

/-- The kinds of PTP message that the hub uses; every other kind is forwarded unchanged. -/
inductive PtpKind where
  | sync | followUp | delayReq | delayResp | pdelayReq | pdelayResp | pdelayRespFollowUp | announce | other
  deriving DecidableEq, Repr

/-- A PTP message: `corr` is its correctionField and `ts` the timestamp it carries, both in 2^-16 ns. -/
structure PtpMsg where
  kind : PtpKind
  domain : Nat
  seq : Nat
  twoStep : Bool := false
  corr : Int := 0
  ts : Nat := 0
  /-- The requesting port of a Delay_Resp or Pdelay_Resp is this hub's (Table 7.3). -/
  mine : Bool := false
  malformed : Bool := false
  /-- Carried in UDP/IPv4 rather than under EtherType 0x88F7. -/
  udp : Bool := false
  deriving DecidableEq, Repr

/-- An ARP packet. -/
structure ArpMsg where
  request : Bool
  senderMac : Nat
  senderIp : Nat
  targetIp : Nat
  deriving DecidableEq, Repr

/-- An MKPDU as MKA reads it (R275): the CKN that names the CAK, whether its ICV holds under that CAK, the sender's
key server priority and SCI, whether it lists this hub as a live peer, and the AN and wrapped SAK it distributes. -/
structure Mkpdu where
  ckn : List Byte
  icvOk : Bool
  sci : Nat
  prio : Nat
  listsUs : Bool
  sak : Option (Fin 4 × Nat)
  deriving DecidableEq, Repr

end Sys2Proof.Machine
end

