-- ==== Sys2Proof/Machine/Operands.lean ====
section
/-! DEFINITION. The operand forms of the commands that are no frames: events on pins, readings and results that come
from the field side, and the like. -/

namespace Sys2Proof.Machine

/-- A decoded quadrature transition (R177): a count up, a count down, or both channels at once. -/
inductive QuadEdge where
  | up | down | illegal
  deriving DecidableEq, Repr

/-- What the field side of a tile delivers for a frame (R41, R82, R94): attempts of the transfer that failed their
check; the 18-bit results of the step conversions in slot order, and of the reserved conversions from the second one on;
the beacon value corrected by the factory coefficients; channels whose overload detector fired in the settling interval
(R60); I_set / I_measured of the channels that carry a force current, in 2^-30 (R55); and the excitation sources that the
monitor found in fault in the frame's window, with the class (R67): groups 0 to 23, then channels from 24 on. -/
structure TileRes where
  fails : Fin 4 := 0
  codes : List Int := []
  resv : List Int := []
  beacon : Int := 0
  overload : List Nat := []
  ratios : List (Nat × Nat) := []
  exc : List (Nat × Nat) := []
  deriving DecidableEq, Repr

/-- What a write to some command registers depends on beside the word: VDD18 in mV (R134), the fuse bits, by word and number, that
do not take (R134, R349), the digest of the image that the partner holds pending (R342), and whether what is written to
flash reads back (R317, R323). -/
structure Phys where
  vdd18 : Nat := 1800
  missed : List (Nat × Nat) := []
  peer : Option (List Byte) := none
  flashOk : Bool := true
  deriving DecidableEq, Repr

end Sys2Proof.Machine
end

