-- ==== Sys2Proof/Machine/Types.lean ====
section
/-! DEFINITION. The parts of the hub's state that are no registers: time bases, digital inputs and outputs, streams,
queues, history and ports. Times called local are in units of 2^-16 ns since power-on; base times are in the same
unit on a wide base. -/

namespace Sys2Proof.Machine

/-! Log -/

/-- One entry of the event log (Table 15.9). -/
structure LogEntry where
  seq : Nat := 0
  sec : Nat := 0
  ns : Nat := 0
  code : Nat := 0
  plane : Nat := 0
  sev : Nat := 0
  asFollow : Bool := false
  copied : Bool := false
  hdo : Bool := false
  repeats : Nat := 0
  kind : Nat := 0
  index : Nat := 0
  detail : Nat := 0
  data : Nat := 0
  deriving DecidableEq, Repr

/-- A code that is logged once per control cycle: its first event of the cycle and how many there were (R421). -/
structure CycRec where
  t : Nat
  kind : Nat
  index : Nat
  detail : Nat
  data : Nat
  count : Nat
  deriving DecidableEq, Repr

/-- The answer of the hub to a requester's last bus access. -/
structure BusResp where
  err : Bool := false
  data : Nat := 0
  deriving DecidableEq, Repr

/-! Time bases (R158 to R183) -/

/-- A wide base: `off` is the base's time minus the local time since reset release (2^-16 ns), and the servo's
running counts. -/
structure WbSt where
  off : Int := 0
  inLim : Nat := 0
  outLim : Nat := 0
  lastOfs : Int := 0
  /-- That offset less the steps made since. -/
  left : Int := 0
  measAt : Nat := 0
  leftAt : Nat := 0
  e0 : Nat := 0
  df : Nat := 0
  holdLogged : Bool := false
  largeAt : Option Nat := none
  deriving DecidableEq, Repr

/-- What a PTP clock unit keeps for one port: the last valid Sync, its run of valid Syncs, a two-step Sync waiting for
its Follow_Up (sequence, ingress time on the base, correction) and a peer-delay exchange (sequence, t1, then t2 with
correction and t4 of the answer waiting for its follow-up). -/
structure PtpPort where
  lastSync : Option Nat := none
  run : Nat := 0
  pend : Option (Nat × Int × Int) := none
  pdReq : Option (Nat × Int) := none
  pdResp : Option (Nat × Int × Int) := none
  deriving DecidableEq, Repr

/-- A PTP clock unit (R165, R166). `sync` is the last complete Sync on the selected port: origin time with its
correction, and ingress time. `dreq` is the Delay_Req in flight: its sequence and egress time. -/
structure PtpSt where
  ports : Tbl PtpPort := []
  /-- The port chosen first, once one is (R166). -/
  first : Option Nat := none
  dlyOk : Bool := false
  sync : Option (Int × Int) := none
  dreq : Option (Nat × Int) := none
  dseq : Nat := 0
  deriving DecidableEq, Repr

/-- A Sync in transit: domain, sequence, egress port and the residence to add to its Follow_Up (R167). -/
structure TcRec where
  domain : Nat
  seq : Nat
  port : Nat
  add : Int
  deriving DecidableEq, Repr

/-- A tempo base: the network predictor of R181, the encoder's count and edges (R177), the mains phase (R178). -/
structure TmpSt where
  p0 : Rat := 0
  v0 : Rat := 0
  a : Rat := 0
  t0 : Int := 0
  corr : Rat := 0
  trx : Nat := 0
  seq : Option Nat := none
  lastT : Option Int := none
  errs : List Rat := []
  errNew : Rat := 0
  /-- Encoder: position after the last edge in 2^-16 counts; the edges, newest first (local time, counts). -/
  pos : Int := 0
  edges : List (Nat × Int) := []
  /-- Position held while LOST, in 2^-16 counts. -/
  held : Int := 0
  /-- Mains: edges counted, local time of the last one, period in local units (0: not yet known). -/
  cnt : Nat := 0
  mainsAt : Option Nat := none
  mainsPer : Nat := 0
  deriving DecidableEq, Repr

/-- One entry of a tempo record: its number on the 2^TRSH µs grid and the position there (48.16 counts). -/
abbrev RecEntry := Nat × Int

/-- The time part of the state. -/
structure TimeSt where
  wb : Tbl WbSt := []
  ptp : Tbl PtpSt := []
  tc : List TcRec := []
  tmp : Tbl TmpSt := []
  tmpRec : Tbl (Tbl RecEntry) := []
  /-- PPS_OUT is high until this local time. -/
  ppsHigh : Option Nat := none
  ppsIn : Option Nat := none
  /-- The low word written to TIM_WB1_SETL, and the seconds that wait for the next PPS_IN edge. -/
  setLo : Nat := 0
  set1 : Option Nat := none
  /-- The number of whole 2^32 ns that each narrow base's source had reached at its last epoch record. -/
  epochs : Tbl Nat := []
  /-- The control cycle: local time of its boundary, its number on the WB0 grid of R172, and how many boundaries have
  passed since reset release. -/
  cycleAt : Nat := 0
  cycleIdx : Nat := 0
  cycleNo : Nat := 0
  /-- A tile has strobed since reset release (R160). -/
  strobed : Bool := false
  /-- The last whole second at which each base's PPS_OUT rose. -/
  ppsSec : Option Nat := none
  /-- Raw quadrature count of each encoder, and local time of its last illegal transition (R177, R303). -/
  enc : Tbl Int := []
  encBad : Tbl (Option Nat) := []
  deriving DecidableEq, Repr

/-! Digital inputs and outputs (R184 to R193), blanking (R77, R78) -/

/-- An accepted edge of a digital input that waits for the level sample before it: its stamp on WB0 and in local time,
the level after it, its position stamp, and whether it carries STL (R184 to R186). -/
structure DiEdge where
  at_ : Int
  loc : Nat
  level : Bool
  pos : Int := 0
  stl : Bool := false
  deriving DecidableEq, Repr

/-- A digital input: the accepted level, the level after the last edge that has been counted, the level of the last level
sample, edges counted since then with whether one was dropped, the edge budget in 1/secU tokens, and edges that wait. -/
structure DiSt where
  level : Bool := false
  shown : Bool := false
  reported : Bool := false
  edges : Nat := 0
  dropped : Bool := false
  tokens : Nat := 16 * 65536000000000
  tokenAt : Nat := 0
  waiting : List DiEdge := []
  /-- The next level sample carries STL. -/
  stl : Bool := false
  /-- Instant of the last level sample, and the commit boundary that the first one must follow, both on WB0; instants of
  before that boundary whose samples are still to come. -/
  last : Option Int := none
  after : Int := 0
  rest : List Int := []
  deriving DecidableEq, Repr

/-- An entry of a DO queue (R189): its target is a WB0 time in 2^-16 ns or a position in 2^-16 counts; `fixed` is its
edge time on WB0 in 2^-16 ns once fixed, and `edge` whether an edge was predicted (R192). -/
structure DoEntry where
  order : Nat
  level : Bool
  byPos : Bool
  tempo : Nat
  dir : Nat
  target : Int
  fixed : Option Int := none
  edge : Bool := false
  deriving DecidableEq, Repr

/-- A digital output: the level in force and the queue. -/
structure DoSt where
  level : Bool := false
  queue : List DoEntry := []
  /-- Edge time of the last fixed entry that executed. -/
  ran : Option Int := none
  deriving DecidableEq, Repr

/-- A self-blanking span: tiles by bit, first and last instant on WB0 (R78). -/
structure Blanking where
  tiles : Nat
  fr : Int
  till : Int
  deriving DecidableEq, Repr

/-- The I/O part of the state. -/
structure DioSt where
  di : Tbl DiSt := []
  dout : Tbl DoSt := []
  order : Nat := 0
  blank : List Blanking := []
  /-- Filtered levels of BLANK0 to BLANK3 by bit, and the local time of each pin's last change. -/
  pins : Nat := 0
  pinAt : Tbl Nat := []
  /-- All DOs are held off (R34, R35, R50, R51); the I/O tile has lost its traffic (R35). -/
  off : Bool := true
  lost : Bool := false
  /-- IOT_DOCMD was written since the last control cycle boundary (R193). -/
  docmd : Bool := false
  /-- Local time at which the field supplies were last found good after a fault (R184). -/
  goodAt : Option Nat := none
  deriving DecidableEq, Repr

/-! Tiles and filter chains (R53 to R157) -/

/-- A frame of a tile: index, strobe instant on WB0, on the base of its narrow base, and in local time; whether the
strobe was taken, and whether the schedule was in holdover (R82, R85, R173). -/
structure FrameRec where
  f : Nat
  t : Int
  stamp : Int
  loc : Nat
  taken : Bool
  hdo : Bool
  deriving DecidableEq, Repr

/-- A strobe request of a tempo schedule: when it is asked for, when it will be taken, and its grid point (R175, R88). -/
structure StrobeReq where
  asked : Int
  at_ : Int
  deriving DecidableEq, Repr

/-- A fault class on an excitation source: onset, and windows since it was last present (R67, R69). -/
structure ExcClass where
  cls : Nat
  onset : Nat
  absent : Nat := 0
  deriving DecidableEq, Repr

/-- An excitation source: the classes that are not cleared, and the local time of the last retry while it is tripped. -/
structure ExcSt where
  classes : List ExcClass := []
  tripAt : Option Nat := none
  deriving DecidableEq, Repr

/-- Open-input state of a channel: OPN, and tests passed since it was set (R74). -/
structure OpnSt where
  isOpen : Bool := false
  passes : Nat := 0
  deriving DecidableEq, Repr

/-- A calibration run of a batch of channels at one gain code (R123): whether it is run B, the level of the next borrow
(0 ZERO, 1 SPAN+, 2 SPAN-), for each channel the sums of borrowed values in 2^-38 counts and their counts by run and
level, the junction temperature at its start, whether the reference has been bad, and whether it is complete. -/
structure CalRun where
  chans : List Nat
  code : Nat
  isB : Bool := false
  level : Nat := 0
  sums : Tbl (Tbl (Int × Nat)) := []
  tj : Int := 0
  refBad : Bool := false
  ended : Bool := false
  deriving DecidableEq, Repr

/-- A tile. -/
structure TileSt where
  /-- Strobes start after this WB0 instant; none while the tile may not strobe. -/
  start : Option Int := none
  /-- The last strobe since that start, its frame index, and the frame whose results are still on their way. -/
  last : Option Int := none
  f : Nat := 0
  cur : Option FrameRec := none
  /-- Results of that frame that wait for the other tiles of its beacon comparison (R104). -/
  res : Option TileRes := none
  /-- A strobe has been taken since reset release; the last frame fell on a field supply
  fault. -/
  held : Bool := false
  faulted : Bool := false
  /-- Tempo: requests fixed and not yet strobed, oldest first, and the furthest grid point asked for. -/
  reqs : List StrobeReq := []
  far : Option Int := none
  /-- Blanking: strobes of TAIL to come, a source has ended since the last strobe, a source was active at it, and the
  instant up to which ends of spans have been seen. -/
  tail : Nat := 0
  armed : Bool := false
  active : Bool := false
  seen : Option Int := none
  /-- Next reading of reserved conversion 1: 0 ground, 1 reference path, 2 temperature. -/
  turn : Nat := 0
  /-- Rotation of the slices (R91): the register, the slot number it stands at, last start slot of each slice. -/
  lfsr : Nat := 1
  lfsrAt : Int := 0
  starts : List Int := []
  exc : Tbl ExcSt := []
  opn : Tbl OpnSt := []
  opnCnt : Nat := 0
  opnTest : Bool := false
  /-- The last value that each channel delivered. -/
  vals : Tbl Int := []
  /-- The last frame delivered: its index, the mean of the values it converted, its beacon value (R340). -/
  digest : Option (Nat × Int × Int) := none
  /-- Beacon: the last frame failed, and passing frames since. -/
  bcnBad : Bool := false
  bcnRun : Nat := 0
  /-- Good readings of the reference since the last bad one (R119). -/
  refGood : Nat := 0
  /-- Junction temperature in 0.01 °C, and whether its drift has been logged (R133). -/
  tj : Int := 2500
  drifted : Bool := false
  /-- Slice estimator: conversions of the block (slice, value in 2^-38 counts), good blocks while frozen, and new pairs
  that wait for the frame boundary. -/
  block : List (Nat × Int) := []
  goodRun : Nat := 0
  frozen : Bool := false
  slices : Option (List (Int × Nat)) := none
  /-- Calibration: channels and gain codes still to run in this pass, the run in progress, endpoints logged this sweep,
  whether a REQUEST pass is on, and pairs accepted and waiting for the boundary. -/
  todo : List (Nat × Nat) := []
  run : Option CalRun := none
  logged : List Nat := []
  pass : Bool := false
  deriving DecidableEq, Repr

/-- An input value of the resampler: position in 2^-16 counts and value in 2^-8 counts. -/
structure RsIn where
  pos : Int
  val : Int
  deriving DecidableEq, Repr

/-- A filter chain: the CIC registers and phase, the memories of COMP and HB, the resampler's inputs (newest first) and
furthest grid point, the blocker's b and last y in 2^-48, flags of the open window and of the windows before, the settle
count, and output samples since the last cause of a freeze. -/
structure ChainSt where
  ints : List Int := []
  combs : List (List Int) := []
  cnt : Nat := 0
  cHist : List Int := []
  hHist : List Int := []
  hbOdd : Bool := false
  rs : List RsIn := []
  far : Option Int := none
  b : Int := 0
  y : Int := 0
  win : Nat := 0
  winStl : Bool := false
  reach : List Nat := []
  arm : Bool := false
  settle : Nat := 0
  cause : Option Nat := none
  /-- Timestamp of an IEPE current step of a handover (R149). -/
  stepAt : Option Int := none
  deriving DecidableEq, Repr

/-- Calibration and fuses: written marks of the shadow pairs (bit 0 OFS, bit 1 GAIN) and source of each pair by endpoint
× 16 + index; a burn in progress: its generation, and when it started. -/
structure CalSt where
  marks : Tbl Nat := []
  srcs : Tbl Nat := []
  burn : Option (Nat × Nat) := none
  /-- The tiles whose pairs the burn has still to take, and the pairs taken: OFS, GAIN, class × 8 + code, VALID. -/
  burnTiles : Nat := 0
  taken : Tbl (Nat × Nat × Nat × Nat) := []
  tempAt : Nat := 0
  /-- Excitation fault records on their way to the safety processor: endpoint, class, local time (R69, R301). -/
  recs : List (Nat × Nat × Nat) := []
  deriving DecidableEq, Repr

/-! Streams, queues and history (R196 to R225) -/

/-- A packet in a queue: its words, and for a stream its PSN, kind, rows and newest SSN; for a pull segment the pull
it belongs to. -/
structure Packet where
  words : List Nat
  record : Bool := false
  psn : Nat := 0
  ssn : Nat := 0
  rows : Nat := 0
  lastSsn : Nat := 0
  /-- Base times of its first and of its last row; of the row it precedes for a record. -/
  t : Int := 0
  lastT : Int := 0
  /-- Local times of the commit and of the first send. -/
  at_ : Nat := 0
  sentAt : Option Nat := none
  /-- Where a pull segment goes: port, and STYPE and SRC of its requester; and the fragments already sent. -/
  pull : Option (Nat × Nat × Nat) := none
  frags : Nat := 0
  deriving DecidableEq, Repr

/-- A queue: committed packets oldest first, words of word mode, and how many producers wait under STALL. -/
structure QueueSt where
  pkts : List Packet := []
  fifo : List Nat := []
  waiting : Nat := 0
  deriving DecidableEq, Repr

/-- A row being gathered: its time, and the members' words so far (by place in the roster). -/
structure PartRow where
  t : Int := 0
  grid : Nat := 0
  words : Tbl Nat := []
  deriving DecidableEq, Repr

/-- An output sample on its way out: its word, its base time in 2^-16 ns on the base its narrow base follows, and its
grid index if it is resampled. -/
structure Sample where
  word : Nat
  t : Int
  grid : Nat := 0
  deriving DecidableEq, Repr

/-- A formed row: SSN, base time in 2^-16 ns, and its words. -/
structure Row where
  ssn : Nat
  t : Int
  words : List Nat
  deriving DecidableEq, Repr

/-- The open window of one member of a REDUCED stream (R204). -/
structure RedWin where
  n : Nat := 0
  sum : Int := 0
  sq : Nat := 0
  least : Int := 0
  most : Int := 0
  peak : Int := 0
  newest : Int := 0
  flags : Nat := 0
  deriving DecidableEq, Repr

/-- A stream: the packet being assembled, its send point and port, ledger, delivery memory and reducer windows. -/
structure StreamSt where
  /-- Rows of the open packet, oldest first, and the local time the first of them entered. -/
  rows : List Row := []
  openAt : Nat := 0
  parts : Tbl PartRow := []
  wins : Tbl RedWin := []
  /-- A record packet (EPOCH and SYNC) owed before the next data packet: its SYNC REASON and EPOCH REASON. -/
  owed : Option (Nat × Nat) := none
  skipping : Bool := false
  /-- PSN of the next packet to send, newest PSN sent plus one, and the port in use. -/
  sendPsn : Nat := 0
  sentTop : Nat := 0
  port : Nat := 0
  moved : Bool := false
  produced : Nat := 0
  acked : Nat := 0
  dropped : Nat := 0
  skipped : Nat := 0
  /-- The acknowledged frontier, the lost ranges (newest first) and the proof floor (R225), each by member key: the
  endpoint in an EVENT stream, 512 in a stream whose members share their SSNs. -/
  frontier : Tbl (Option Nat) := []
  lost : List (Nat × Nat × Nat) := []
  floor : Tbl (Option Nat) := []
  deriving DecidableEq, Repr

/-- A sample of a history block: base time, grid index, word. -/
structure HSamp where
  t : Int
  grid : Nat
  word : Nat
  deriving DecidableEq, Repr

/-- A history block (R214, Table 8.5). -/
structure HBlock where
  format : Nat
  nb : Nat
  runid : Nat
  period : Nat
  ssn : Nat
  samples : List HSamp := []
  isOpen : Bool := true
  damaged : Bool := false
  deriving DecidableEq, Repr

/-- The history of one endpoint: its blocks oldest first, its allocation, the retentions published since its oldest
block was written (local time, ms). -/
structure HistEp where
  blocks : List HBlock := []
  alloc : Nat := 0
  rets : List (Nat × Nat) := []
  deriving DecidableEq, Repr

/-- A pull segment being built: the part of one history block in range, by endpoint and SSN (R222). -/
structure SegJob where
  e : Nat
  ssn : Nat
  count : Nat
  format : Nat
  t : Int
  period : Nat
  last : Bool
  words : List Nat
  deriving DecidableEq, Repr

/-- A pull in flight (R219 to R222): who asked (STYPE, SRC, port), what, and where it stands. An entry with `code`
set is a request that is only answered with that code. -/
structure PullSt where
  id : Nat
  stype : Nat
  src : Nat
  port : Nat
  tag : Nat
  gen : Nat
  format : Nat
  shuf : Bool
  bySsn : Bool
  nb : Nat
  start : Nat
  stop : Nat
  /-- The lowest endpoint of the request; endpoints still to send, each with the newest SSN at acceptance; the SSN
  after the last one sent of the first of them. -/
  first : Nat := 0
  eps : List (Nat × Nat) := []
  next : Option Nat := none
  code : Nat := 0
  /-- The segment that a compression job is making. -/
  job : Option SegJob := none
  seg : Nat := 0
  short : Bool := false
  notYet : Bool := false
  damaged : Bool := false
  /-- A segment waits for room in Q64 (R223). -/
  retry : Bool := false
  at_ : Nat := 0
  deriving DecidableEq, Repr

/-- The stream part of the state. -/
structure StrmSt where
  streams : Tbl StreamSt := []
  queues : Tbl QueueSt := []
  hist : Tbl HistEp := []
  free : Nat := 0
  pulls : List PullSt := []
  pullId : Nat := 0
  /-- Next SSN of each endpoint. -/
  ssn : Tbl Nat := []
  /-- Latest output sample of each endpoint: word and its NB time word (R106). -/
  latest : Tbl (Nat × Nat) := []
  deriving DecidableEq, Repr

/-! Monitors (R412 to R414) -/

/-- A monitor unit: the live bank, control cycles begun since the interval began, and the SEQ of the interval's MON_LIMIT
entry. -/
structure MonSt where
  count : Nat := 0
  least : Int := 0
  most : Int := 0
  sum : Int := 0
  bins : Tbl Nat := []
  ran : Nat := 0
  crossed : Option Nat := none
  deriving DecidableEq, Repr

/-! Compression (R227 to R248) -/

/-- What an engine runs: a software slot, or the segment of a pull. -/
inductive EngJob where
  | slot (j : Nat)
  | pull (id : Nat)
  deriving DecidableEq, Repr

/-- A push that waits for room under STALL (R238): slot, engine, queue, packet words, and the job's results. -/
structure PushWait where
  slot : Nat
  eng : Nat
  queue : Nat
  words : List Nat
  outlen : Nat
  consumed : Nat
  spare : Nat
  aux : Nat
  deriving DecidableEq, Repr

/-- The compression part of the state: what engines C0 to C3 (0 to 3) and D0, D1 (4, 5) run, slots in the order of
their GO with the class of the requester that wrote it, pull jobs in their order, input bytes read. -/
structure CmpSt where
  eng : Tbl (Option EngJob) := []
  slots : List Nat := []
  cls : Tbl Nat := []
  pulls : List Nat := []
  /-- Pushes that wait for room under STALL, in their order. -/
  waiting : List PushWait := []
  inBytes : Nat := 0
  deriving DecidableEq, Repr

/-! Ports (R249 to R278) -/

/-- What waits at an egress port: an own or transit Pebiyr frame, the stream whose send point waits here, the next
fragment of Q64, or a message of another protocol. `rx` is the local ingress time of a PTP message in transit. -/
inductive TxBody where
  | peb (f : Frame)
  | strm (s : Nat)
  | pull
  | ptp (m : PtpMsg) (rx : Option Nat) (own : Option Nat)
  | arp (m : ArpMsg)
  | mkpdu (m : Mkpdu)
  deriving DecidableEq, Repr

/-- A waiting frame with its egress priority and the order in which it became ready (R16, R270). -/
structure TxItem where
  prio : Nat
  transit : Bool := false
  /-- Local time and order in which it became ready. -/
  ready : Nat := 0
  order : Nat := 0
  bytes : Nat := 0
  body : TxBody
  deriving DecidableEq, Repr

/-- A frame on the wire: what it is, the frame as sent, when it began and when it ends (local). -/
structure WireRec where
  body : TxBody
  sent : Option Frame := none
  fr : Nat
  till : Nat
  deriving DecidableEq, Repr

/-- A MACsec association installed on a port. -/
structure SaRec where
  an : Nat
  key : Nat
  salt : Nat := 0
  txPn : Nat := 1
  rxPn : Nat := 0
  deriving DecidableEq, Repr

/-- A line port: hellos and misses (R263), root hellos (R264), the SGMII control word, egress frames, MACsec. -/
structure PortSt where
  /-- Speed in Mb/s; 0 while none is set. -/
  speed : Nat := 0
  good : Nat := 0
  lastHello : Option Nat := none
  misses : Nat := 0
  seq : Nat := 0
  helloAt : Option Nat := none
  linkAt : Nat := 0
  peerUnit : Nat := 0
  peerFollow : Bool := false
  peerVer : Nat := 0
  pathVer : Nat := 0
  rootAt : Option Nat := none
  rootMiss : Nat := 0
  rootGood : Nat := 0
  sgmiiOk : Bool := false
  txq : List TxItem := []
  wire : Option WireRec := none
  arpOk : Bool := false
  arpMac : Nat := 0
  /-- A branch port has met chain traffic since link-up (R265). -/
  chainSeen : Bool := false
  sas : List SaRec := []
  txAn : Nat := 0
  oldAn : Option Nat := none
  /-- Live MKA peers: SCI, priority, local time of the last MKPDU. -/
  peers : List (Nat × Nat × Nat) := []
  /-- When the next UPDATE frame of the chip's own may start (R367). -/
  updAt : Nat := 0
  mkaAt : Option Nat := none
  /-- A CAK has been written since reset (Table 10.11, row 5). -/
  cakSet : Bool := false
  rekeyAt : Nat := 0
  failLogged : Bool := false
  deriving DecidableEq, Repr

/-- The ports part of the state. -/
structure PortsSt where
  port : Tbl PortSt := []
  order : Nat := 0
  deriving DecidableEq, Repr

end Sys2Proof.Machine
end

