-- ==== Sys2Proof/Machine/Units.lean ====
section
/-! DEFINITION. The state of the safety functions, the pair, security and update, the choreography and the host and
management interfaces, and the messages of the partner link. -/

namespace Sys2Proof.Machine

/-! Safety functions (R280 to R323) -/

/-- A safe input in one unit: its state (0 RUN, 1 DEMAND, 2 WAIT_ACK, 3 FAULT), the fault class (1 DISCREPANCY, 2 TEST),
the discrepancy count, and the filtered levels by bit: 0 channel A, 1 channel B. -/
structure SiSt where
  st : Nat := 1
  fcls : Nat := 0
  cnt : Nat := 0
  lev : Nat := 0
  /-- A gap check has failed since the last tick. -/
  test : Bool := false
  deriving DecidableEq, Repr

/-- One of the two units: its inputs, SACK as sampled at the last tick with the length of the press that runs or has just
ended, ticks for which it has read off, whether a press counts at all since the start, whether the last press began
so, and the permits by bit. -/
structure SafeUnit where
  si : Tbl SiSt := []
  sack : Bool := false
  press : Nat := 0
  offRun : Nat := 0
  armed : Bool := false
  counts : Bool := false
  /-- A press that has ended and whose outcome is still to come. -/
  ended : Option Nat := none
  stuck : Bool := false
  permits : Nat := 0
  /-- The unit has started and takes the other's states at the next tick (R284). -/
  fresh : Bool := true
  deriving DecidableEq, Repr

/-- A switch test pulse (R299): whether the high side is tested, when the pulse began, how it is confirmed (0 SBV
below 1 V, 1 SBI below a tenth of IMIN, 2 SBV of 3 V or more). -/
structure SwTest where
  high : Bool
  at_ : Nat
  how : Nat
  deriving DecidableEq, Repr

/-- A brake channel: fault bits by number (Table 11.13), the drives, when a command last changed, the fault that the
readings show and for how many ticks, since when they are as expected, the pulse that runs, switch faults acknowledged
and waiting for a passing test, endpoints whose records raised SIG_FAULT, the test periods last served by side, and the
time and announcement of the holding test. -/
structure BkSt where
  faults : Nat := 0
  hs : Bool := false
  ls : Bool := false
  changed : Nat := 0
  seen : Nat := 0
  run : Nat := 0
  okAt : Option Nat := none
  pulse : Option SwTest := none
  acked : Nat := 0
  sigs : List Nat := []
  tested : Tbl Nat := []
  passAt : Nat := 0
  due : Bool := false
  overdue : Bool := false
  deriving DecidableEq, Repr

/-- A Zhocy connection: whether it accepts only a new incarnation, its deadline, and when it sends next. -/
structure ZcSt where
  fresh : Bool := true
  deadline : Option Nat := none
  sentAt : Option Nat := none
  deriving DecidableEq, Repr

/-- A holding test (R303): channel, phase (0 engaging, 1 waiting for torque, 2 holding, 3 restoring), when the phase
began, the count C0 and the largest creep. -/
structure HoldTest where
  ch : Nat
  phase : Nat := 0
  at_ : Nat
  c0 : Int := 0
  creep : Nat := 0
  deriving DecidableEq, Repr

/-- A safety configuration on its way (R319): the tick at which both units switch, its parameters, whether it came by
LOAD_SAFETY, and bytes 14 to 27 of its change log entry. -/
structure NewCfg where
  tick : Nat
  cfg : Tbl Nat
  load : Bool
  entry : List Byte := []
  deriving DecidableEq, Repr

/-- The safety functions. `cfg` holds the parameters in force by ID; `stop` is the STOP mask of the last tick; `salt` and
`pw` are the stored password, `incs` the receiving incarnation stored for each CONNID, `incTx` the sending one and `mode`
the mode of the configuration, all kept in the SAFETY region. -/
structure SafeSt where
  sp : SafeUnit := {}
  kp : SafeUnit := {}
  cfg : Tbl Nat := []
  mode : Nat := 0
  tick : Option Nat := none
  cross : Bool := false
  kclk : Bool := false
  disagree : Nat := 0
  partnerRun : Nat := 0
  stop : Nat := 0
  sitOvl : Nat := 0
  /-- VFLD at the last tick, in 10 mV. -/
  vfld : Nat := 0
  bk : Tbl BkSt := []
  zc : Tbl ZcSt := []
  test : Option HoldTest := none
  /-- The channel whose test gave the last result. -/
  lastTest : Nat := 0
  unnamed : Nat := 0
  pending : Option (List Byte) := none
  newCfg : Option NewCfg := none
  salt : List Byte := []
  pw : Option (List Byte) := none
  incs : Tbl Nat := []
  incTx : Nat := 0
  wrong : Nat := 0
  lockAt : Option Nat := none
  /-- The SP's outputs are off until its restart ends (R285). -/
  down : Bool := false
  deriving DecidableEq, Repr

/-- What reaches the two units at a tick from outside: SACK's filtered level as the safety processor (bit 0) and Keeper
(bit 1) sample it; which vectors arrive (bit 0 Keeper's, bit 1 the safety processor's); SBV in 10 mV and SBI in 0.02 mV by
channel; VFLD in 10 mV; and in a pair the partner's input states, permits and SBI, with a bit for each path that it has
on. -/
structure TickIn where
  sack : Fin 4 := 0
  vectors : Fin 4 := 3
  sbv : List Nat := []
  sbi : List Nat := []
  vfld : Nat := 2400
  partner : Option (List Nat × Nat × List Nat × Nat) := none
  deriving DecidableEq, Repr

/-! Messages of the partner link (Table 12.3) -/

/-- The state copy of Table 12.5 in its parts: the cycle, RUNID, digest words and pending flags of the header; SSN and NB
timestamp word of each endpoint's newest sample; next PSN, base time of the oldest unacknowledged row and ledger counts of
each stream; position, velocity and state of each tempo base; SEQ and incarnation of each Zhocy connection; log entries
and how many could not be carried. -/
structure StateCopy where
  cycle : Nat := 0
  runid : Nat := 0
  digest : List Nat := []
  flags : Nat := 0
  eps : Tbl (Nat × Nat) := []
  strms : Tbl (Nat × Option Int × List Nat) := []
  tempo : Tbl (Int × Rat × Nat) := []
  zc : Tbl (Nat × Nat) := []
  entries : List LogEntry := []
  lost : Nat := 0
  deriving DecidableEq, Repr

/-- What the lead mirrors to the follow: DO pushes with their two position words, CLEARs, IOT_DOCMD and IOT_BRKREQ writes
(R327), an accepted Zhocy message (R313), and for a frame of a tile the mean of its values with its beacon value
(R340), a change of the safety configuration (R319), and at a swap the rehearsal with or without the pending image, the
number of the control cycle at B, and the return from a rehearsal (R342). -/
inductive Mirror where
  | doPush (p0 p1 ctl : Word)
  | docmd (v : Word)
  | brkReq (v : Word)
  | zhocy (bytes : List Byte)
  | digest (tile : Fin 4) (f : Nat) (mean beacon : Int)
  | safety (n : NewCfg)
  | rehearse (image : Bool)
  | boundary (cycle : Nat)
  | back
  deriving DecidableEq, Repr

/-- A pair commit as the lead mirrors it (R333): the shadow writes, the commits by bit (0 TIM, 1 IOT, 2 QUE, 3 PAR, 4 to 7
TILE, 8 to 11 FLT), the number of the control cycle whose boundary is B, and the choreography image whose apply it
is. -/
structure CommitMsg where
  words : List (Nat × Word)
  kinds : Nat
  at_ : Nat
  image : Option (List Byte) := none
  deriving DecidableEq, Repr

/-- A swap in progress (R342): its step, whether it applies the pending image, when the step began, and the number of the
control cycle whose boundary is B. -/
structure SwapSt where
  step : Nat
  image : Bool
  at_ : Nat
  b : Option Nat := none
  deriving DecidableEq, Repr

/-- What an old lead hands over at a swap, for each stream: its packets that are not yet acknowledged and its next PSN,
and the next SSN of each endpoint (R342). -/
structure Handover where
  strms : Tbl (List Packet × Nat) := []
  ssn : Tbl Nat := []
  deriving DecidableEq, Repr

/-- The pair part of the state: heartbeats sent and received, what they said of the partner, the declaration in progress
with its time, the copies, the last messages sent, a commit mirrored from the lead and whether this chip has confirmed
it, the swap, and the self-test. -/
structure PairSt where
  beatTx : Option Nat := none
  beatAt : Option Nat := none
  partnerFollow : Bool := false
  partnerUnit : Nat := 0
  partnerState : Nat := 0
  partnerCycle : Nat := 0
  /-- The declaration of a lost lead: local time, cause, age of the copy in use (µs). -/
  declared : Option (Nat × Nat × Nat) := none
  copy : Option StateCopy := none
  copyAt : Nat := 0
  copies : Nat := 0
  copyTx : Option StateCopy := none
  /-- SEQ of the first log entry that no copy has carried. -/
  logged : Nat := 0
  mirrorTx : Option Mirror := none
  commitTx : Option CommitMsg := none
  confirmed : Bool := false
  handover : Option Handover := none
  swap : Option SwapSt := none
  /-- The last FAULT beat sent, and the last fault of the self-test. -/
  faultTx : Option Nat := none
  faultAt : Option Nat := none
  /-- Endpoints that rehearse: their samples take no SSNs and go nowhere (R342). -/
  mute : List Nat := []
  digRun : Tbl Nat := []
  bcnRun : Tbl Nat := []
  /-- Counts of the health report: BIST bits, SCRUBC, SCRUBU, DIGFAIL, BCNFAIL, COPYINC, SSNALIGN since the last one. -/
  bist : Nat := 0
  scrubC : Nat := 0
  scrubU : Nat := 0
  digFail : Nat := 0
  bcnFail : Nat := 0
  copyInc : Nat := 0
  ssnAlign : Nat := 0
  healthTx : Option Nat := none
  /-- The last health report received from the partner. -/
  health : Option (List Byte) := none
  deriving DecidableEq, Repr

/-! Security and update (chapter 13) -/

/-- A holder of an image (R364), by STYPE × 1024 + SRC: local time of its OFFER, image with VERSION × 2^32 + BUILD and number
of blocks, blocks held by bit, HOPS_A, the chain port towards it, and its blocks that failed their hash in this session. -/
structure Holder where
  at_ : Nat := 0
  img : Nat := 0
  rank : Nat := 0
  count : Nat := 0
  have_ : List Byte := []
  hopsA : Nat := 0
  port : Nat := 0
  bad : Nat := 0
  deriving DecidableEq, Repr

/-- A block request outstanding toward a chain port (R366): holder, block, RID, when it was asked last, tries, the fragments
received, and holders that have failed to deliver it. -/
structure FetchSt where
  src : Nat
  block : Nat
  rid : Nat
  at_ : Nat
  tries : Nat := 0
  frags : Tbl (List Byte) := []
  tried : List Nat := []
  deriving DecidableEq, Repr

/-- A manifest that is being fetched (R365): image with its VERSION and BUILD, holder asked, when, tries, fragments received
and their number once known, the digest that a FETCH named, and holders that failed. -/
structure ManFetch where
  img : Nat
  rank : Nat := 0
  src : Option Nat := none
  at_ : Nat := 0
  tries : Nat := 0
  frags : Tbl (List Byte) := []
  count : Option Nat := none
  named : Option Nat := none
  tried : List Nat := []
  deriving DecidableEq, Repr

/-- A session (R365): its manifest, blocks verified with their bytes (the working copy in DRAM), blocks stored in STAGING,
requests by chain port, next RID, and whether every block is stored. -/
structure SessSt where
  man : List Byte
  blocks : Tbl (List Byte) := []
  stored : List Nat := []
  fetch : Tbl (Option FetchSt) := []
  rid : Nat := 0
  complete : Bool := false
  deriving DecidableEq, Repr

/-- A block request that waits for its block: requester (STYPE × 1024 + SRC), chain port, block, RID, fragments by bit (none
for all), when it came. -/
structure HeldReq where
  key : Nat
  port : Nat
  block : Nat
  rid : Nat
  mask : Option Nat
  at_ : Nat
  deriving DecidableEq, Repr

/-- The security and update part of the state. Image slots are 0 and 1. -/
structure SecSt where
  act : Option Nat := none
  fall : Option Nat := none
  /-- The BOOT copy to try last at the next start (R356), and why the last reset came (1 confirm window, 2 ROLLBACK). -/
  bootWd : Option Nat := none
  why : Nat := 0
  /-- The confirm timer: its deadline in local time, and whether PL0 has rewritten the window at this start. -/
  deadline : Option Nat := none
  rewritten : Bool := false
  sess : Option SessSt := none
  mfetch : Option ManFetch := none
  holders : Tbl Holder := []
  /-- Digests refused within the last hour, with the time and the reason that a requester hears. -/
  bads : List (Nat × Nat × Nat) := []
  /-- The conflict list: digests with their VERSION and BUILD. -/
  confl : List (Nat × Nat) := []
  held : List HeldReq := []
  offerAt : Option Nat := none
  /-- What the follow of a pair has gathered of the lead's manifest and of a block (R369): image, block, fragments, their
  number once known. -/
  pushMan : Option (Nat × Tbl (List Byte) × Option Nat) := none
  pushBlk : Option (Nat × Tbl (List Byte)) := none
  /-- Digest of the settings slot in use, and FORMAT of the newest valid slot (0: none). -/
  settings : List Byte := []
  format : Nat := 0
  /-- A flash operation of recovery: ERASE (bit 0) and PROGRAM (bit 1), and its address. -/
  rcv : Option (Nat × Nat) := none
  deriving DecidableEq, Repr

/-- What the firmware finds in the SETTINGS slots (R374): the slot in use, if one is; the newest FORMAT of a valid slot (0: both
are blank); the register writes that the settings ask for; the content of the other slot after a migration; whether no
slot can be read. -/
structure Settings where
  slot : Option (Fin 2) := none
  newest : Nat := 0
  words : List (Nat × Word) := []
  migrated : Option (List Byte) := none
  unreadable : Bool := false
  deriving DecidableEq, Repr

/-! Choreography (chapter 14) -/

/-- The choreography part of the state: the pending image; the image in force; an apply in progress, with its boundary B
on WB0 and the tiles that still wait; whether CHOR_BUSY has been logged for it; whether the expectations are still to be
checked; the slot that is to take the image in force. -/
structure ChorSt where
  pend : Option (List Byte) := none
  force : Option (List Byte) := none
  b : Option Int := none
  tiles : Nat := 0
  busy : Bool := false
  expect : Bool := false
  toStore : Option Nat := none
  /-- No slot was usable at the start (R392). -/
  bare : Bool := false
  deriving DecidableEq, Repr

/-! Host and management (chapter 15) -/

/-- A write that waits for the firmware because it meets a mediated register (R405): who asked (the host, or a role over the
line), the words left with their addresses and the index of the first of them in the request; for the line the port and
the request; whether the host's frame was a legacy one, or ended early (R398). -/
structure MedReq where
  req : Requester
  words : List (Nat × Word)
  index : Nat := 0
  rx : Option (Nat × Frame) := none
  legacy : Bool := false
  early : Bool := false
  deriving DecidableEq, Repr

/-- The host and management part of the state: CODE of the previous host frame, frames ended with OK, the words that the last
frame put on HMISO (WAIT words apart), the legacy pipeline (result, kept high half and held low half by word address, each
for the next frame only); keys in force by role; mediated writes; and the SEQ up to which log entries have been pushed. -/
structure HostSt where
  code : Nat := 0
  frames : Nat := 0
  miso : List Word := []
  result : Nat := 0
  kept : Option (Nat × Nat) := none
  low : Option (Nat × Nat) := none
  keys : Tbl (Option (List Byte)) := []
  meds : List MedReq := []
  pushed : Nat := 0
  deriving DecidableEq, Repr

end Sys2Proof.Machine
end

