-- ==== Sys2Proof/Syntax.lean ====
section
/-! DEFINITION. The commands of the hub: one constructor per row of the table of operations and events, each with the
local instant at which it happens (`now`, in units of 2^-16 ns since power-on) and the row's operands. -/

namespace Sys2Proof
open Sys2Proof.Machine

/-- A command of the hub. The docstring of each names the rule that governs it. -/
inductive Instr where
  /-- REGISTER_WRITE, R5. -/
  | registerWrite (now : Nat) (req : Requester) (addr : Nat) (size : Nat) (data : Nat) (ph : Phys)
  /-- ROC_READ, R5. -/
  | rocRead (now : Nat) (req : Requester) (addr : Nat) (size : Nat)
  /-- POWER_ON_RESET, R48. -/
  | powerOnReset (now : Nat)
  /-- LOGIC_SUPPLY_FALL, R33. -/
  | logicSupplyFall (now : Nat) (supply : Fin 3)
  /-- FIELD_SUPPLY_FAULT, R34. -/
  | fieldSupplyFault (now : Nat) (which : Fin 4)
  /-- FIELD_SUPPLY_GOOD, R34. -/
  | fieldSupplyGood (now : Nat)
  /-- LOGIC_TRAFFIC_LOSS, R35. -/
  | logicTrafficLoss (now : Nat)
  /-- TJ_HIGH, R37. -/
  | tjHigh (now : Nat)
  /-- THERMAL_RESET, R38. -/
  | thermalReset (now : Nat)
  /-- THERMAL_RECOVERY, R38. -/
  | thermalRecovery (now : Nat)
  /-- REFCLK_LOSS, R45. -/
  | refclkLoss (now : Nat)
  /-- REFCLK_RETURN, R45. -/
  | refclkReturn (now : Nat)
  /-- RESET_N_ASSERT, R49. -/
  | resetNAssert (now : Nat) (ns : Nat)
  /-- RESET_N_RELEASE, R50. -/
  | resetNRelease (now : Nat)
  /-- WATCHDOG_RESET, R48. -/
  | watchdogReset (now : Nat)
  /-- SOFT_RESET, R48. -/
  | softReset (now : Nat) (req : Requester) (data : Word)
  /-- RESET_RELEASE, R52. -/
  | resetRelease (now : Nat) (refEdges : Nat) (role : Bool)
  /-- BOOT_STAGE_START, R355. -/
  | bootStageStart (now : Nat)
  /-- BOOT_WATCHDOG, R356. -/
  | bootWatchdog (now : Nat)
  /-- FIRMWARE_START, R52. -/
  | firmwareStart (now : Nat) (settings : Settings)
  /-- ROLE_RESOLVE, R46. -/
  | roleResolve (now : Nat) (acts : Bool) (unit : Nat) (pin : Bool)
  /-- SEAL_CHANGE, R47. -/
  | sealChange (now : Nat) (code : Fin 16)
  /-- SEAL_CODE_ACCEPT, R47. -/
  | sealCodeAccept (now : Nat)
  /-- CONTROL_CYCLE, R172. -/
  | controlCycle (now : Nat)
  /-- FRAME_STROBE, R82. -/
  | frameStrobe (now : Nat) (tile : Fin 4)
  /-- TEMPO_STROBE_FIX, R175. -/
  | tempoStrobeFix (now : Nat) (tile : Fin 4)
  /-- TILE_RESULT_TRANSFER, R41. -/
  | tileResultTransfer (now : Nat) (tile : Fin 4) (res : TileRes)
  /-- EXC_FAULT, R67. -/
  | excFault (now : Nat) (tile : Fin 4) (src : Fin 120) (cls : Fin 9) (onset : Nat)
  /-- EXC_TRIP, R68. -/
  | excTrip (now : Nat) (tile : Fin 4) (group : Fin 24)
  /-- EXC_TRIP_RETRY, R68. -/
  | excTripRetry (now : Nat) (tile : Fin 4) (group : Fin 24) (limited : Bool)
  /-- EXC_CLEAR, R69. -/
  | excClear (now : Nat) (tile : Fin 4) (src : Fin 120)
  /-- OPEN_INPUT_TEST, R72. -/
  | openInputTest (now : Nat) (tile : Fin 4) (failed : List Nat)
  /-- BLANK_PIN_EDGE, R77. -/
  | blankPinEdge (now : Nat) (pin : Fin 4) (on : Bool)
  /-- BCN_CLEAR, R105. -/
  | bcnClear (now : Nat) (tile : Fin 4)
  /-- CAL_REF_RECOVER, R119. -/
  | calRefRecover (now : Nat) (tile : Fin 4)
  /-- SLICE_BLOCK_END, R115. -/
  | sliceBlockEnd (now : Nat) (tile : Fin 4)
  /-- CAL_RUN_END, R124. -/
  | calRunEnd (now : Nat) (tile : Fin 4)
  /-- CAL_START, R126. -/
  | calStart (now : Nat) (req : Requester) (data : Word)
  /-- CAL_COMMIT, R128. -/
  | calCommit (now : Nat) (req : Requester) (data : Word)
  /-- CAL_TEMP_CHECK, R133. -/
  | calTempCheck (now : Nat)
  /-- CAL_BURN, R134. -/
  | calBurn (now : Nat) (req : Requester) (data : Word) (vdd18 : Nat)
  /-- CAL_BURN_END, R134. -/
  | calBurnEnd (now : Nat) (missed : List (Nat × Nat))
  /-- TILE_COMMIT, R419. -/
  | tileCommit (now : Nat) (req : Requester) (data : Word)
  /-- CAL_CONFIG_COMMIT, R419. -/
  | calConfigCommit (now : Nat) (req : Requester) (data : Word)
  /-- FLT_COMMIT, R155. -/
  | fltCommit (now : Nat) (req : Requester) (data : Word)
  /-- TIM_COMMIT, R194. -/
  | timCommit (now : Nat) (req : Requester) (data : Word)
  /-- TIM_REANCHOR, R160. -/
  | timReanchor (now : Nat) (req : Requester) (data : Word)
  /-- IOT_COMMIT, R194. -/
  | iotCommit (now : Nat) (req : Requester) (data : Word)
  /-- QUE_COMMIT, R226. -/
  | queCommit (now : Nat) (req : Requester) (data : Word)
  /-- PRT_COMMIT, R278. -/
  | prtCommit (now : Nat) (req : Requester) (data : Word)
  /-- PAR_COMMIT, R344. -/
  | parCommit (now : Nat) (req : Requester) (data : Word)
  /-- RES_LO_READ, R107. -/
  | resLoRead (now : Nat) (req : Requester) (e : Fin 512)
  /-- RES_HI_READ, R107. -/
  | resHiRead (now : Nat) (req : Requester) (e : Fin 512)
  /-- WB_NS_READ, R158. -/
  | wbNsRead (now : Nat) (req : Requester) (k : Fin 2)
  /-- NB_NS_READ, R163. -/
  | nbNsRead (now : Nat) (req : Requester) (n : Fin 6)
  /-- TEMPO_POS_READ, R176. -/
  | tempoPosRead (now : Nat) (req : Requester) (n : Fin 4)
  /-- LEDGER_READ, R224. -/
  | ledgerRead (now : Nat) (req : Requester) (st : Fin 64)
  /-- CMP_INBYTES_READ, R248. -/
  | cmpInbytesRead (now : Nat) (req : Requester)
  /-- LOG_ENTRY_READ, R409. -/
  | logEntryRead (now : Nat) (req : Requester) (slot : Fin 8192)
  /-- PTP_RX, R165. -/
  | ptpRx (now : Nat) (port : Fin 4) (m : PtpMsg)
  /-- PTP_DELAY_REQ_SEND, R166. -/
  | ptpDelayReqSend (now : Nat) (k : Fin 2)
  /-- PTP_SYNC_LOSS, R166. -/
  | ptpSyncLoss (now : Nat) (k : Fin 2)
  /-- HOLD_LIMIT_EXCEEDED, R161. -/
  | holdLimitExceeded (now : Nat) (k : Fin 2)
  /-- TIM_OFFSET_LARGE, R160. -/
  | timOffsetLarge (now : Nat)
  /-- NB_WRAP, R164. -/
  | nbWrap (now : Nat) (n : Fin 6)
  /-- PPS_OUT_PULSE, R169. -/
  | ppsOutPulse (now : Nat)
  /-- PPS_IN_EDGE, R169. -/
  | ppsInEdge (now : Nat)
  /-- PPS_IN_LOSS, R159. -/
  | ppsInLoss (now : Nat)
  /-- WB1_SET, R158. -/
  | wb1Set (now : Nat) (req : Requester) (data : Word)
  /-- ENCODER_EDGE, R177. -/
  | encoderEdge (now : Nat) (enc : Fin 4) (edge : QuadEdge)
  /-- ENCODER_INDEX, R177. -/
  | encoderIndex (now : Nat) (enc : Fin 4)
  /-- MAINS_EDGE, R178. -/
  | mainsEdge (now : Nat)
  /-- MAINS_HOLDOVER, R178. -/
  | mainsHoldover (now : Nat)
  /-- MAINS_LOST, R178. -/
  | mainsLost (now : Nat)
  /-- TEMPO_RX, R179. -/
  | tempoRx (now : Nat) (rx : Rx)
  /-- TEMPO_HOLDOVER, R182. -/
  | tempoHoldover (now : Nat) (n : Fin 4)
  /-- TEMPO_LOST, R182. -/
  | tempoLost (now : Nat) (n : Fin 4)
  /-- TEMPO_RECORD_WRITE, R183. -/
  | tempoRecordWrite (now : Nat) (n : Fin 4)
  /-- DI_LEVEL_ACCEPT, R184. -/
  | diLevelAccept (now : Nat) (input : Fin 128) (level : Bool) (since : Nat)
  /-- DI_LEVEL_SAMPLE, R186. -/
  | diLevelSample (now : Nat) (input : Fin 128) (transferFailed : Bool)
  /-- DO_PUSH, R189. -/
  | doPush (now : Nat) (req : Requester) (data : Word)
  /-- DO_CLEAR, R189. -/
  | doClear (now : Nat) (req : Requester) (data : Word)
  /-- DO_FIX, R191. -/
  | doFix (now : Nat) (d : Fin 32)
  /-- DO_EDGE, R190. -/
  | doEdge (now : Nat) (d : Fin 32)
  /-- STREAM_FLUSH, R201. -/
  | streamFlush (now : Nat) (st : Fin 64)
  /-- QUEUE_STALL_RESUME, R210. -/
  | queueStallResume (now : Nat) (q : Fin 80)
  /-- STREAM_SKIP_RESUME, R210. -/
  | streamSkipResume (now : Nat) (st : Fin 64)
  /-- HISTORY_BLOCK_RELEASE, R217. -/
  | historyBlockRelease (now : Nat) (e : Fin 512)
  /-- STREAM_ACK_RX, R203. -/
  | streamAckRx (now : Nat) (rx : Rx)
  /-- STREAM_NAK_RX, R260. -/
  | streamNakRx (now : Nat) (rx : Rx)
  /-- STREAM_ACKS_RX, R260. -/
  | streamAcksRx (now : Nat) (rx : Rx)
  /-- PULL_REQUEST_RX, R220. -/
  | pullRequestRx (now : Nat) (rx : Rx)
  /-- PULL_CANCEL_RX, R220. -/
  | pullCancelRx (now : Nat) (rx : Rx)
  /-- PULL_SEGMENT, R222. -/
  | pullSegment (now : Nat) (id : Nat) (crcFails : Bool)
  /-- PULL_SEGMENT_RETRY, R223. -/
  | pullSegmentRetry (now : Nat) (id : Nat)
  /-- CMP_JOB_SUBMIT, R248. -/
  | cmpJobSubmit (now : Nat) (req : Requester) (j : Fin 32) (data : Word)
  /-- CMP_JOB_CANCEL, R244. -/
  | cmpJobCancel (now : Nat) (req : Requester) (j : Fin 32) (data : Word)
  /-- CMP_JOB_START, R228. -/
  | cmpJobStart (now : Nat) (e : Fin 6)
  /-- CMP_JOB_END, R238. -/
  | cmpJobEnd (now : Nat) (e : Fin 6)
  /-- PHY_LINK_UP, R263. -/
  | phyLinkUp (now : Nat) (port : Fin 4) (pcs : Nat) (master : Bool) (snr : Nat) (peerOk : Bool)
  /-- PHY_LINK_LOSS, R20. -/
  | phyLinkLoss (now : Nat) (port : Fin 4)
  /-- SGMII_CONTROL_WORD, R252. -/
  | sgmiiControlWord (now : Nat) (port : Fin 4) (link : Bool) (fullDuplex : Bool) (speed : Nat)
  /-- LINK_HELLO_SEND, R263. -/
  | linkHelloSend (now : Nat) (port : Fin 4)
  /-- LINK_HELLO_RX, R263. -/
  | linkHelloRx (now : Nat) (rx : Rx)
  /-- HELLO_MISS, R263. -/
  | helloMiss (now : Nat) (port : Fin 4)
  /-- ROOT_HELLO_RX, R264. -/
  | rootHelloRx (now : Nat) (rx : Rx)
  /-- ROOT_HELLO_MISS, R264. -/
  | rootHelloMiss (now : Nat) (port : Fin 4)
  /-- TRANSIT_FRAME_RX, R268. -/
  | transitFrameRx (now : Nat) (rx : Rx)
  /-- FRAME_RX_DISCARD, R257. -/
  | frameRxDiscard (now : Nat) (rx : Rx)
  /-- FRAME_TRANSMIT, R16. -/
  | frameTransmit (now : Nat) (port : Fin 4)
  /-- ARP_RX, R255. -/
  | arpRx (now : Nat) (port : Fin 4) (eth : Eth) (m : ArpMsg)
  /-- MKPDU_RX, R275. -/
  | mkpduRx (now : Nat) (port : Fin 4) (m : Mkpdu)
  /-- MKA_HELLO_SEND, R275. -/
  | mkaHelloSend (now : Nat) (port : Fin 4)
  /-- MKA_REKEY, R275. -/
  | mkaRekey (now : Nat) (port : Fin 4)
  /-- MKA_FAIL, R275. -/
  | mkaFail (now : Nat) (port : Fin 4)
  /-- MACSEC_INSTALL, R276. -/
  | macsecInstall (now : Nat) (req : Requester) (port : Fin 4) (data : Word)
  /-- MGMT_READ_REQ, R405. -/
  | mgmtReadReq (now : Nat) (rx : Rx)
  /-- MGMT_WRITE_REQ, R405. -/
  | mgmtWriteReq (now : Nat) (rx : Rx)
  /-- MEDIATED_WRITE_DONE, R405. -/
  | mediatedWriteDone (now : Nat) (ph : Phys)
  /-- MGMT_HEALTH_RX, R341. -/
  | mgmtHealthRx (now : Nat) (rx : Rx)
  /-- MGMT_UPD_PUSH_RX, R369. -/
  | mgmtUpdPushRx (now : Nat) (rx : Rx)
  /-- MGMT_KEY_WRITE, R403. -/
  | mgmtKeyWrite (now : Nat) (req : Requester) (role : Fin 4) (data : Word)
  /-- HOST_READ, R397. -/
  | hostRead (now : Nat) (header : Word) (addr : Word) (crc : Word) (late : Bool)
  /-- HOST_WRITE, R397. -/
  | hostWrite (now : Nat) (header : Word) (addr : Word) (data : List Word) (crc : Word)
  /-- HOST_NOP, R395. -/
  | hostNop (now : Nat) (header : Word) (addr : Word) (crc : Word)
  /-- HOST_FRAME_ABORT, R398. -/
  | hostFrameAbort (now : Nat) (request : Option (Word × Word × List Word × Word)) (late : Bool)
  /-- HOST_LEGACY_READ, R400. -/
  | hostLegacyRead (now : Nat) (half : Fin 8192) (clocks : Nat)
  /-- HOST_LEGACY_WRITE, R400. -/
  | hostLegacyWrite (now : Nat) (half : Fin 8192) (data : BitVec 16) (clocks : Nat)
  /-- SAFETY_TICK, R281. -/
  | safetyTick (now : Nat) (t : TickIn)
  /-- KEEPER_MARKER_TIMEOUT, R281. -/
  | keeperMarkerTimeout (now : Nat) (rc : Nat)
  /-- CROSS_LATCH, R283. -/
  | crossLatch (now : Nat)
  /-- SP_WATCHDOG, R285. -/
  | spWatchdog (now : Nat)
  /-- SAFE_INPUT_FILTER, R288. -/
  | safeInputFilter (now : Nat) (input : Fin 16) (ch : Fin 2) (level : Bool) (unit : Fin 2) (since : Nat)
  /-- SIT_GAP_CHECK, R287. -/
  | sitGapCheck (now : Nat) (k : Fin 4) (on : List Nat)
  /-- SIT_OVL, R287. -/
  | sitOvl (now : Nat) (k : Fin 4) (low : Bool)
  /-- SI_DISCREPANCY, R290. -/
  | siDiscrepancy (now : Nat) (input : Fin 16)
  /-- SACK_RELEASE, R291. -/
  | sackRelease (now : Nat)
  /-- SACK_STUCK, R292. -/
  | sackStuck (now : Nat)
  /-- SACK_STUCK_CLEAR, R292. -/
  | sackStuckClear (now : Nat)
  /-- BRAKE_READBACK_FAULT, R297. -/
  | brakeReadbackFault (now : Nat) (n : Fin 8)
  /-- BRAKE_OVERCURRENT, R298. -/
  | brakeOvercurrent (now : Nat) (n : Fin 8) (sbi : Nat)
  /-- BRAKE_SWITCH_TEST, R299. -/
  | brakeSwitchTest (now : Nat) (n : Fin 8) (high : Bool)
  /-- BRAKE_SWITCH_CONFIRM, R299. -/
  | brakeSwitchConfirm (now : Nat) (n : Fin 8) (sbv : Nat) (sbi : Nat)
  /-- BRAKE_SWITCH_TIMEOUT, R299. -/
  | brakeSwitchTimeout (now : Nat) (n : Fin 8)
  /-- SAS_FAULT_RECORD, R301. -/
  | sasFaultRecord (now : Nat)
  /-- BRAKE_TEST_ENGAGE, R303. -/
  | brakeTestEngage (now : Nat)
  /-- BRAKE_TEST_TORQUE, R303. -/
  | brakeTestTorque (now : Nat)
  /-- BRAKE_TEST_NO_TORQUE, R303. -/
  | brakeTestNoTorque (now : Nat)
  /-- BRAKE_TEST_HOLD_END, R303. -/
  | brakeTestHoldEnd (now : Nat)
  /-- BRAKE_TEST_RESTORE, R303. -/
  | brakeTestRestore (now : Nat)
  /-- TEST_DUE, R304. -/
  | testDue (now : Nat) (n : Fin 8)
  /-- TEST_GRACE_EXPIRY, R304. -/
  | testGraceExpiry (now : Nat) (n : Fin 8)
  /-- ZHOCY_RX, R307. -/
  | zhocyRx (now : Nat) (rx : Rx)
  /-- ZHOCY_WD, R310. -/
  | zhocyWd (now : Nat) (c : Fin 8)
  /-- ZHOCY_SEND, R312. -/
  | zhocySend (now : Nat) (c : Fin 8)
  /-- PAIR_SAFE_MISMATCH, R314. -/
  | pairSafeMismatch (now : Nat)
  /-- SPMB_LOAD_SAFETY, R320. -/
  | spmbLoadSafety (now : Nat) (req : Requester) (data : Word) (flashOk : Bool)
  /-- SPMB_SET_PARAM, R322. -/
  | spmbSetParam (now : Nat) (req : Requester) (data : Word) (flashOk : Bool)
  /-- SPMB_SET_PASSWORD, R323. -/
  | spmbSetPassword (now : Nat) (req : Requester) (data : Word) (flashOk : Bool)
  /-- SPMB_CLEAR_LOG, R318. -/
  | spmbClearLog (now : Nat) (req : Requester) (data : Word) (flashOk : Bool)
  /-- SPMB_BRAKE_TEST, R303. -/
  | spmbBrakeTest (now : Nat) (req : Requester) (data : Word) (flashOk : Bool)
  /-- SPMB_ABORT_TEST, R323. -/
  | spmbAbortTest (now : Nat) (req : Requester) (data : Word) (flashOk : Bool)
  /-- SPMB_READ_LOG, R323. -/
  | spmbReadLog (now : Nat) (req : Requester) (data : Word) (flashOk : Bool)
  /-- SPMB_BAD_OP, R323. -/
  | spmbBadOp (now : Nat) (req : Requester) (data : Word) (flashOk : Bool)
  /-- SAFETY_CONFIG_SWITCH, R319. -/
  | safetyConfigSwitch (now : Nat) (confirmed : Bool) (flashOk : Bool)
  /-- SAFE_LOCKOUT_END, R317. -/
  | safeLockoutEnd (now : Nat)
  /-- PARTNER_HEARTBEAT_SEND, R327. -/
  | partnerHeartbeatSend (now : Nat)
  /-- PARTNER_HEARTBEAT_RX, R328. -/
  | partnerHeartbeatRx (now : Nat) (follow : Bool) (unit : Nat) (cycle : Nat) (state : Fin 4)
  /-- HEARTBEAT_TIMEOUT, R328. -/
  | heartbeatTimeout (now : Nat) (cut : List Nat)
  /-- FAULT_BEAT_RX, R328. -/
  | faultBeatRx (now : Nat) (cut : List Nat)
  /-- TAKEOVER_COMPLETE, R334. -/
  | takeoverComplete (now : Nat)
  /-- PARTNER_LANE_LOSS, R327. -/
  | partnerLaneLoss (now : Nat) (lane : Fin 2)
  /-- PARTNER_MIRROR_RX, R327. -/
  | partnerMirrorRx (now : Nat) (m : Mirror)
  /-- STATE_COPY_RX, R331. -/
  | stateCopyRx (now : Nat) (c : StateCopy) (good : Bool)
  /-- PAIR_COMMIT_MIRROR_RX, R333. -/
  | pairCommitMirrorRx (now : Nat) (m : CommitMsg)
  /-- PAIR_COMMIT_FAIL, R333. -/
  | pairCommitFail (now : Nat)
  /-- FOLLOW_BIST, R340. -/
  | followBist (now : Nat) (engine : Fin 7) (ok : Bool)
  /-- MEMORY_SCRUB, R340. -/
  | memoryScrub (now : Nat) (corrected : Nat) (uncorrected : Nat)
  /-- FOLLOW_DEGRADED_CLEAR, R340. -/
  | followDegradedClear (now : Nat)
  /-- HEALTH_REPORT_SEND, R341. -/
  | healthReportSend (now : Nat) (tjMax : Int)
  /-- PAR_SWAP, R342. -/
  | parSwap (now : Nat) (req : Requester) (data : Word) (peer : Option (List Byte))
  /-- SWAP_READY, R342. -/
  | swapReady (now : Nat)
  /-- SWAP_TIMEOUT, R342. -/
  | swapTimeout (now : Nat)
  /-- SWAP_BOUNDARY, R342. -/
  | swapBoundary (now : Nat) (h : Handover)
  /-- SWAP_REJOIN, R342. -/
  | swapRejoin (now : Nat)
  /-- SEC_REPORT, R358. -/
  | secReport (now : Nat) (req : Requester) (data : Word) (missed : List (Nat × Nat))
  /-- SEC_ENROL, R349. -/
  | secEnrol (now : Nat) (req : Requester) (data : Word) (missed : List (Nat × Nat))
  /-- SEC_REVOKE, R349. -/
  | secRevoke (now : Nat) (req : Requester) (data : Word) (missed : List (Nat × Nat))
  /-- SEC_SET_OWNER_FW, R349. -/
  | secSetOwnerFw (now : Nat) (req : Requester) (data : Word) (missed : List (Nat × Nat))
  /-- SEC_BAD_OP, R377. -/
  | secBadOp (now : Nat) (req : Requester) (data : Word) (missed : List (Nat × Nat))
  /-- DM_EXTEND, R354. -/
  | dmExtend (now : Nat) (req : Requester) (data : Word)
  /-- DM_LOCK, R354. -/
  | dmLock (now : Nat) (req : Requester) (data : Word)
  /-- PROT_WRITE, R362. -/
  | protWrite (now : Nat) (req : Requester) (w : Fin 256) (data : Word)
  /-- UPD_OFFER_SEND, R364. -/
  | updOfferSend (now : Nat)
  /-- UPD_OFFER_RX, R365. -/
  | updOfferRx (now : Nat) (rx : Rx)
  /-- UPD_FETCH, R365. -/
  | updFetch (now : Nat) (req : Requester) (digest : List Byte)
  /-- UPD_MAN_REQ_RX, R363. -/
  | updManReqRx (now : Nat) (rx : Rx)
  /-- UPD_MAN_RX, R365. -/
  | updManRx (now : Nat) (rx : Rx)
  /-- UPD_BLK_REQ_RX, R367. -/
  | updBlkReqRx (now : Nat) (rx : Rx)
  /-- UPD_BLK_RX, R366. -/
  | updBlkRx (now : Nat) (rx : Rx)
  /-- UPD_REFUSE_RX, R366. -/
  | updRefuseRx (now : Nat) (rx : Rx)
  /-- UPD_FRAGMENT_TIMEOUT, R366. -/
  | updFragmentTimeout (now : Nat) (which : Fin 3)
  /-- UPD_HELD_REQUEST_EXPIRY, R366. -/
  | updHeldRequestExpiry (now : Nat)
  /-- UPD_BLOCK_STORED, R366. -/
  | updBlockStored (now : Nat) (block : Nat) (ok : Bool)
  /-- UPD_ACTIVATE, R372. -/
  | updActivate (now : Nat) (req : Requester) (data : Word)
  /-- UPD_CONFIRM, R373. -/
  | updConfirm (now : Nat) (req : Requester) (data : Word)
  /-- UPD_ROLLBACK, R375. -/
  | updRollback (now : Nat) (req : Requester) (data : Word)
  /-- UPD_ABORT, R377. -/
  | updAbort (now : Nat) (req : Requester) (data : Word)
  /-- UPD_CLRCONF, R368. -/
  | updClrconf (now : Nat) (req : Requester) (data : Word)
  /-- CONFTMR_WRITE, R373. -/
  | conftmrWrite (now : Nat) (req : Requester) (data : Word)
  /-- CONFIRM_WINDOW_EXPIRY, R373. -/
  | confirmWindowExpiry (now : Nat)
  /-- RCV_ERASE, R357. -/
  | rcvErase (now : Nat) (req : Requester) (data : Word)
  /-- RCV_PROGRAM, R357. -/
  | rcvProgram (now : Nat) (req : Requester) (data : Word)
  /-- RCV_FLASH_DONE, R357. -/
  | rcvFlashDone (now : Nat) (ok : Bool)
  /-- CHOR_LOAD, R383. -/
  | chorLoad (now : Nat) (req : Requester) (data : Word)
  /-- CHOR_APPLY, R388. -/
  | chorApply (now : Nat) (req : Requester) (data : Word)
  /-- CHOR_DISCARD, R393. -/
  | chorDiscard (now : Nat) (req : Requester) (data : Word)
  /-- CHOR_APPLY_BOUNDARY, R386. -/
  | chorApplyBoundary (now : Nat)
  /-- CHOR_STORE, R390. -/
  | chorStore (now : Nat) (ok : Bool)
  /-- MONITOR_SAMPLE, R412. -/
  | monitorSample (now : Nat) (u : Fin 32) (v : Int)
  /-- MONITOR_INTERVAL_END, R413. -/
  | monitorIntervalEnd (now : Nat) (u : Fin 32)
  /-- PARTNER_LANE_UP, R327. -/
  | partnerLaneUp (now : Nat) (lane : Fin 2)
  /-- MKA_LIFE_TIME_EXPIRY, R275. -/
  | mkaLifeTimeExpiry (now : Nat) (port : Fin 4) (sci : Nat)
  deriving DecidableEq, Repr

end Sys2Proof
end

