-- ==== Sys2Proof/Config.lean ====
section
/-! DEFINITION. What the spec leaves open: free values and functions with no body. Nothing can be proved about them
but what holds for every choice. -/

namespace Sys2Proof.Config

/-- The free values: value `n` of a sequence that the spec does not determine (a random draw, an undefined result, an
outcome that it leaves between limits). The state counts how many have been taken. -/
opaque freeNat : Nat → Nat

/-- The plane that posts a log code where the spec does not say (Table 15.9, ATTR). -/
opaque logPlane : Nat → Nat

/-- The ROM filter coefficients as numbered by FLT_COEF (R142): fixed in every chip, and not given by the spec beyond
their properties. -/
opaque romCoef : Nat → Nat

/-- What the rotation of the slices is seeded from, by unit ID and tile (R91): the derivation is not given. -/
opaque slotSeed : Nat → Nat → Nat

/-- The size of the xSPI flash on the board, in MiB (R350). -/
opaque flashMiB : Nat

end Sys2Proof.Config
end

