-- ==== Sys2Proof/Machine/LogCodes.lean ====
section
/-! DEFINITION. The log codes of Table 15.10 with their severities. -/

namespace Sys2Proof.L

abbrev REG_RANGE : Nat := 0x0101
abbrev FLD_UV : Nat := 0x0102
abbrev FLD_OV : Nat := 0x0103
abbrev TJ_HIGH : Nat := 0x0104
abbrev ROLE_OVERRIDE : Nat := 0x0105
abbrev ROLE_CONFLICT : Nat := 0x0106
abbrev SEAL_INVALID : Nat := 0x0107
abbrev RST_KEY_BAD : Nat := 0x0108
abbrev EXC_FAULT : Nat := 0x0201
abbrev EXC_CLEAR : Nat := 0x0202
abbrev TILE_CFG_REJ : Nat := 0x0203
abbrev STRB_DROP : Nat := 0x0204
abbrev BCN_XCK : Nat := 0x0205
abbrev BCN_CLEAR : Nat := 0x0206
abbrev SLC_IMPLAUS : Nat := 0x0301
abbrev CAL_REF_BAD : Nat := 0x0302
abbrev CAL_CFG_REJ : Nat := 0x0303
abbrev CAL_DISAGREE : Nat := 0x0304
abbrev CAL_IMPLAUS : Nat := 0x0305
abbrev CAL_HALF_PAIR : Nat := 0x0306
abbrev CAL_TEMP_DRIFT : Nat := 0x0307
abbrev FUSE_FACT_BAD : Nat := 0x0308
abbrev FUSE_GEN_BAD : Nat := 0x0309
abbrev FUSE_FULL : Nat := 0x030A
abbrev FUSE_BURN_OK : Nat := 0x030B
abbrev FUSE_BURN_FAIL : Nat := 0x030C
abbrev FLT_CFG_REJ : Nat := 0x0401
abbrev RSMP_OVERRUN : Nat := 0x0402
abbrev TIM_LOCK : Nat := 0x0501
abbrev TIM_UNLOCK : Nat := 0x0502
abbrev TIM_STEP : Nat := 0x0503
abbrev TIM_OFFSET_LARGE : Nat := 0x0504
abbrev TIM_HOLD_LIMIT : Nat := 0x0505
abbrev TIM_CFG_REJ : Nat := 0x0506
abbrev ENC_ERR : Nat := 0x0507
abbrev TEMPO_STEP : Nat := 0x0508
abbrev TEMPO_HOLD : Nat := 0x0509
abbrev TEMPO_LOST : Nat := 0x050A
abbrev DI_EDGE_RATE : Nat := 0x050B
abbrev DO_QFULL : Nat := 0x050C
abbrev DO_LATE : Nat := 0x050D
abbrev DO_MISSED : Nat := 0x050E
abbrev PKT_TOO_LONG : Nat := 0x0601
abbrev QUE_SKIP : Nat := 0x0602
abbrev QUE_CFG_REJ : Nat := 0x0603
abbrev HIST_EXC : Nat := 0x0604
abbrev CMP_FAIL : Nat := 0x0701
abbrev PRT_VER : Nat := 0x0801
abbrev PRT_MISWIRE : Nat := 0x0802
abbrev PRT_ADDR_DUP : Nat := 0x0803
abbrev PRT_MKA_FAIL : Nat := 0x0804
abbrev PRT_CFG_REJ : Nat := 0x0805
abbrev CROSS_FAULT : Nat := 0x0901
abbrev KEEPER_CLK : Nat := 0x0902
abbrev SI_DISCREPANCY : Nat := 0x0903
abbrev SI_TEST : Nat := 0x0904
abbrev SIT_OVL : Nat := 0x0905
abbrev SACK_STUCK : Nat := 0x0906
abbrev BRAKE_FAULT : Nat := 0x0907
abbrev SAFE_ACK : Nat := 0x0908
abbrev BRAKE_TEST : Nat := 0x0909
abbrev TEST_DUE : Nat := 0x090A
abbrev ZHOCY_WD : Nat := 0x090B
abbrev PAIR_SAFE_MISMATCH : Nat := 0x090C
abbrev SAFE_LOCKOUT : Nat := 0x090D
abbrev SAFE_SECT_PENDING : Nat := 0x090E
abbrev SAFE_MODE : Nat := 0x090F
abbrev PAIR_LEAD_LOST : Nat := 0x0A01
abbrev PAIR_FOLLOW_LOST : Nat := 0x0A02
abbrev PAIR_LANE : Nat := 0x0A03
abbrev PAIR_TAKEOVER : Nat := 0x0A04
abbrev PAIR_SSN_ALIGN : Nat := 0x0A05
abbrev PAIR_COMMIT_FAIL : Nat := 0x0A06
abbrev PAIR_SPLIT : Nat := 0x0A07
abbrev PAIR_FOLLOW_DEGRADED : Nat := 0x0A08
abbrev PAIR_SWAP : Nat := 0x0A09
abbrev PAIR_SWAP_FAIL : Nat := 0x0A0A
abbrev BOOT_COPY_BAD : Nat := 0x0B01
abbrev SEC_ENROL : Nat := 0x0B02
abbrev SEC_REVOKE : Nat := 0x0B03
abbrev PROT_DENY : Nat := 0x0B04
abbrev ARB_ADVANCE : Nat := 0x0B05
abbrev UPD_BAD_MANIFEST : Nat := 0x0C01
abbrev UPD_COMPLETE : Nat := 0x0C02
abbrev UPD_SUPERSEDED : Nat := 0x0C03
abbrev UPD_CONFLICT : Nat := 0x0C04
abbrev UPD_SVN : Nat := 0x0C05
abbrev UPD_ACTIVATED : Nat := 0x0C06
abbrev UPD_ACT_FAIL : Nat := 0x0C07
abbrev UPD_FALLBACK : Nat := 0x0C08
abbrev UPD_NO_FALLBACK : Nat := 0x0C09
abbrev UPD_MIGRATE_FAIL : Nat := 0x0C0A
abbrev UPD_ROLLBACK_REFUSED : Nat := 0x0C0B
abbrev CHOR_LOADED : Nat := 0x0D01
abbrev CHOR_REJ : Nat := 0x0D02
abbrev CHOR_BUSY : Nat := 0x0D03
abbrev CHOR_EXPECT : Nat := 0x0D04
abbrev CHOR_RESTART : Nat := 0x0D05
abbrev CHOR_STORE_FAIL : Nat := 0x0D06
abbrev CHOR_SLOT_BAD : Nat := 0x0D07
abbrev CHOR_NONE : Nat := 0x0D08
abbrev LOG_COPY_LOST : Nat := 0x0E01
abbrev MON_LIMIT : Nat := 0x0E02
abbrev HOST_ERR : Nat := 0x0E03
abbrev MGMT_AUTH : Nat := 0x0E04

/-- The codes of each severity above INFO: WARN, ERROR, FAULT. -/
def warnCodes : List Nat := [0x0101, 0x0104, 0x0106, 0x0107, 0x0108, 0x0204, 0x0301, 0x0304, 0x0305, 0x0306, 0x0307, 0x0309, 0x030A, 0x0402, 0x0502, 0x0504, 0x0505, 0x0507, 0x0508, 0x0509, 0x050B, 0x050C, 0x050D, 0x0601, 0x0602, 0x0701, 0x090A, 0x090D, 0x0A03, 0x0A05, 0x0A08, 0x0B03, 0x0B04, 0x0C01, 0x0C05, 0x0C09, 0x0C0B, 0x0D03, 0x0D04, 0x0E01, 0x0E02, 0x0E03, 0x0E04]
def errorCodes : List Nat := [0x0102, 0x0103, 0x0201, 0x0203, 0x0205, 0x0302, 0x0303, 0x0308, 0x030C, 0x0401, 0x0506, 0x050A, 0x050E, 0x0603, 0x0604, 0x0801, 0x0802, 0x0803, 0x0804, 0x0805, 0x0A01, 0x0A02, 0x0A04, 0x0A06, 0x0A07, 0x0A0A, 0x0B01, 0x0C04, 0x0C07, 0x0C08, 0x0C0A, 0x0D02, 0x0D06, 0x0D07]
def faultCodes : List Nat := [0x0901, 0x0902, 0x0903, 0x0904, 0x0905, 0x0906, 0x0907, 0x090B, 0x090C, 0x0D08]

/-- The severity of a code: 0 INFO, 1 WARN, 2 ERROR, 3 FAULT (Table 15.10). -/
def severity (code : Nat) : Nat :=
  if faultCodes.contains code then 3
  else if errorCodes.contains code then 2
  else if warnCodes.contains code then 1 else 0

end Sys2Proof.L
end

