-- ==== Sys2Proof/Machine/Regs.lean ====
section
/-! DEFINITION. The registers of the hub by name: the address and reset value of each, and the place of each of
its fields, as the register tables of the chapters give them (R415, R417 and the last rule of each chapter). -/

namespace Sys2Proof.Machine

/-- A register: its byte address and the word it holds after reset. -/
structure RegAt where
  addr : Nat
  reset : Word
  deriving DecidableEq, Repr

/-- A field of a register: the register, its lowest bit and its width. -/
structure FldAt where
  reg : RegAt
  lo : Nat
  w : Nat
  deriving DecidableEq, Repr

end Sys2Proof.Machine

namespace Sys2Proof.R
open Sys2Proof.Machine

def SYS_HWTYPE : RegAt := ⟨0x0, 0x53840100⟩
def SYS_HWTYPE.HWTYPE : FldAt := ⟨SYS_HWTYPE, 0, 32⟩

def SYS_IDCODE : RegAt := ⟨0x4, 0x15384a3f⟩
def SYS_IDCODE.IDCODE : FldAt := ⟨SYS_IDCODE, 0, 32⟩

def SYS_ROMVER : RegAt := ⟨0x8, 0⟩
def SYS_ROMVER.ROMVER : FldAt := ⟨SYS_ROMVER, 0, 32⟩

def SYS_FWVER : RegAt := ⟨0xc, 0⟩
def SYS_FWVER.VERSION : FldAt := ⟨SYS_FWVER, 0, 32⟩

def SYS_FWBUILD : RegAt := ⟨0x10, 0⟩
def SYS_FWBUILD.BUILD : FldAt := ⟨SYS_FWBUILD, 0, 32⟩

def SYS_UNITIDL : RegAt := ⟨0x14, 0⟩
def SYS_UNITIDL.UNIT_ID : FldAt := ⟨SYS_UNITIDL, 0, 32⟩

def SYS_UNITIDH : RegAt := ⟨0x18, 0⟩
def SYS_UNITIDH.UNIT_ID : FldAt := ⟨SYS_UNITIDH, 0, 32⟩

def SYS_LINEADDR : RegAt := ⟨0x100, 0⟩
def SYS_LINEADDR.LINE_ID : FldAt := ⟨SYS_LINEADDR, 0, 8⟩
def SYS_LINEADDR.HUB_ADDR : FldAt := ⟨SYS_LINEADDR, 8, 10⟩
def SYS_LINEADDR.SEGMENT : FldAt := ⟨SYS_LINEADDR, 18, 4⟩

def SYS_CHAINPOS : RegAt := ⟨0x104, 0⟩
def SYS_CHAINPOS.HOPS_A : FldAt := ⟨SYS_CHAINPOS, 0, 8⟩
def SYS_CHAINPOS.HOPS_B : FldAt := ⟨SYS_CHAINPOS, 8, 8⟩
def SYS_CHAINPOS.REACH_A : FldAt := ⟨SYS_CHAINPOS, 16, 1⟩
def SYS_CHAINPOS.REACH_B : FldAt := ⟨SYS_CHAINPOS, 17, 1⟩
def SYS_CHAINPOS.PAIRED : FldAt := ⟨SYS_CHAINPOS, 18, 1⟩
def SYS_CHAINPOS.FOLLOW : FldAt := ⟨SYS_CHAINPOS, 19, 1⟩

def SYS_RRCNT : RegAt := ⟨0x108, 0⟩
def SYS_RRCNT.REROUTES : FldAt := ⟨SYS_RRCNT, 0, 16⟩
def SYS_RRCNT.REPAIRS : FldAt := ⟨SYS_RRCNT, 16, 16⟩

def SYS_RSTCAUSE : RegAt := ⟨0x200, 0⟩
def SYS_RSTCAUSE.POR : FldAt := ⟨SYS_RSTCAUSE, 0, 1⟩
def SYS_RSTCAUSE.BROWNOUT : FldAt := ⟨SYS_RSTCAUSE, 1, 1⟩
def SYS_RSTCAUSE.PIN : FldAt := ⟨SYS_RSTCAUSE, 2, 1⟩
def SYS_RSTCAUSE.WATCHDOG : FldAt := ⟨SYS_RSTCAUSE, 3, 1⟩
def SYS_RSTCAUSE.SOFT : FldAt := ⟨SYS_RSTCAUSE, 4, 1⟩
def SYS_RSTCAUSE.ACTIVATE : FldAt := ⟨SYS_RSTCAUSE, 5, 1⟩
def SYS_RSTCAUSE.REFLOSS : FldAt := ⟨SYS_RSTCAUSE, 6, 1⟩
def SYS_RSTCAUSE.THERMAL : FldAt := ⟨SYS_RSTCAUSE, 7, 1⟩

def SYS_RSTCTL : RegAt := ⟨0x204, 0⟩
def SYS_RSTCTL.KEY : FldAt := ⟨SYS_RSTCTL, 0, 16⟩
def SYS_RSTCTL.WARM : FldAt := ⟨SYS_RSTCTL, 16, 1⟩

def SYS_PWRSTAT : RegAt := ⟨0x208, 0x7⟩
def SYS_PWRSTAT.VDD09_OK : FldAt := ⟨SYS_PWRSTAT, 0, 1⟩
def SYS_PWRSTAT.VDD11_OK : FldAt := ⟨SYS_PWRSTAT, 1, 1⟩
def SYS_PWRSTAT.VDD18_OK : FldAt := ⟨SYS_PWRSTAT, 2, 1⟩
def SYS_PWRSTAT.VFLD_OK : FldAt := ⟨SYS_PWRSTAT, 3, 1⟩
def SYS_PWRSTAT.VFA50_OK : FldAt := ⟨SYS_PWRSTAT, 4, 1⟩
def SYS_PWRSTAT.VFD18_OK : FldAt := ⟨SYS_PWRSTAT, 5, 1⟩
def SYS_PWRSTAT.FLD_GOOD : FldAt := ⟨SYS_PWRSTAT, 6, 1⟩
def SYS_PWRSTAT.VFLD_OV : FldAt := ⟨SYS_PWRSTAT, 7, 1⟩
def SYS_PWRSTAT.FLD_DROPS : FldAt := ⟨SYS_PWRSTAT, 16, 8⟩

def SYS_STRAP : RegAt := ⟨0x20c, 0x400⟩
def SYS_STRAP.ROLE_PIN : FldAt := ⟨SYS_STRAP, 0, 1⟩
def SYS_STRAP.CLKSRC : FldAt := ⟨SYS_STRAP, 1, 1⟩
def SYS_STRAP.SEAL : FldAt := ⟨SYS_STRAP, 4, 4⟩
def SYS_STRAP.SEAL_OPEN : FldAt := ⟨SYS_STRAP, 8, 1⟩
def SYS_STRAP.SEAL_CLOSED : FldAt := ⟨SYS_STRAP, 9, 1⟩
def SYS_STRAP.SEAL_INVALID : FldAt := ⟨SYS_STRAP, 10, 1⟩

def SYS_TLERR : RegAt := ⟨0x210, 0⟩
def SYS_TLERR.RETRIES : FldAt := ⟨SYS_TLERR, 0, 16⟩
def SYS_TLERR.FAILED : FldAt := ⟨SYS_TLERR, 16, 16⟩

def SYS_CHOR_SRC : RegAt := ⟨0x300, 0⟩
def SYS_CHOR_SRC.SRC : FldAt := ⟨SYS_CHOR_SRC, 0, 31⟩

def SYS_CHOR_LEN : RegAt := ⟨0x304, 0⟩
def SYS_CHOR_LEN.LEN : FldAt := ⟨SYS_CHOR_LEN, 0, 21⟩

def SYS_CHOR_CTL : RegAt := ⟨0x308, 0⟩
def SYS_CHOR_CTL.KEY : FldAt := ⟨SYS_CHOR_CTL, 0, 16⟩
def SYS_CHOR_CTL.LOAD : FldAt := ⟨SYS_CHOR_CTL, 16, 1⟩
def SYS_CHOR_CTL.APPLY : FldAt := ⟨SYS_CHOR_CTL, 17, 1⟩
def SYS_CHOR_CTL.DISCARD : FldAt := ⟨SYS_CHOR_CTL, 18, 1⟩

def SYS_CHOR_ST : RegAt := ⟨0x30c, 0⟩
def SYS_CHOR_ST.STATE : FldAt := ⟨SYS_CHOR_ST, 0, 2⟩
def SYS_CHOR_ST.CODE : FldAt := ⟨SYS_CHOR_ST, 2, 4⟩
def SYS_CHOR_ST.CLASS : FldAt := ⟨SYS_CHOR_ST, 6, 2⟩
def SYS_CHOR_ST.SLOT : FldAt := ⟨SYS_CHOR_ST, 8, 1⟩
def SYS_CHOR_ST.STORED : FldAt := ⟨SYS_CHOR_ST, 9, 1⟩
def SYS_CHOR_ST.DRIFTED : FldAt := ⟨SYS_CHOR_ST, 10, 1⟩
def SYS_CHOR_ST.EXPECT : FldAt := ⟨SYS_CHOR_ST, 11, 1⟩

def SYS_CHOR_ERR : RegAt := ⟨0x310, 0⟩
def SYS_CHOR_ERR.SECTION : FldAt := ⟨SYS_CHOR_ERR, 0, 8⟩
def SYS_CHOR_ERR.ROW : FldAt := ⟨SYS_CHOR_ERR, 8, 8⟩

def SYS_CHOR_SERIAL : RegAt := ⟨0x314, 0⟩
def SYS_CHOR_SERIAL.SERIAL : FldAt := ⟨SYS_CHOR_SERIAL, 0, 32⟩

def SYS_CHOR_PSERIAL : RegAt := ⟨0x318, 0⟩
def SYS_CHOR_PSERIAL.SERIAL : FldAt := ⟨SYS_CHOR_PSERIAL, 0, 32⟩

def SYS_CHOR_CNT : RegAt := ⟨0x31c, 0⟩
def SYS_CHOR_CNT.CWIGN : FldAt := ⟨SYS_CHOR_CNT, 0, 16⟩
def SYS_CHOR_CNT.APPLIES : FldAt := ⟨SYS_CHOR_CNT, 16, 16⟩

def SYS_TCOMMIT : RegAt := ⟨0x320, 0⟩
def SYS_TCOMMIT.TILES : FldAt := ⟨SYS_TCOMMIT, 0, 4⟩
def SYS_TCOMMIT.CALCFG : FldAt := ⟨SYS_TCOMMIT, 4, 4⟩

def SYS_CHOR_DIG (w : Nat) : RegAt := ⟨0x340 + w * 0x4, 0⟩
def SYS_CHOR_DIG.DIGEST (w : Nat) : FldAt := ⟨SYS_CHOR_DIG w, 0, 32⟩

def SYS_CHOR_PDIG (w : Nat) : RegAt := ⟨0x380 + w * 0x4, 0⟩
def SYS_CHOR_PDIG.DIGEST (w : Nat) : FldAt := ⟨SYS_CHOR_PDIG w, 0, 32⟩

def SYS_HOSTCNT : RegAt := ⟨0x400, 0⟩
def SYS_HOSTCNT.FRAMES : FldAt := ⟨SYS_HOSTCNT, 0, 16⟩
def SYS_HOSTCNT.CRCERR : FldAt := ⟨SYS_HOSTCNT, 16, 8⟩
def SYS_HOSTCNT.ABORTS : FldAt := ⟨SYS_HOSTCNT, 24, 8⟩

def SYS_HOSTCNT2 : RegAt := ⟨0x404, 0⟩
def SYS_HOSTCNT2.LEGACY : FldAt := ⟨SYS_HOSTCNT2, 0, 16⟩
def SYS_HOSTCNT2.LEGERR : FldAt := ⟨SYS_HOSTCNT2, 16, 16⟩

def SYS_HOSTPAGE : RegAt := ⟨0x408, 0⟩
def SYS_HOSTPAGE.PAGE : FldAt := ⟨SYS_HOSTPAGE, 13, 19⟩

def SYS_HINTST : RegAt := ⟨0x420, 0⟩
def SYS_HINTST.CAUSE : FldAt := ⟨SYS_HINTST, 0, 8⟩

def SYS_HINTEN : RegAt := ⟨0x424, 0⟩
def SYS_HINTEN.EN : FldAt := ⟨SYS_HINTEN, 0, 8⟩

def SYS_REQERR (r : Nat) : RegAt := ⟨0x440 + r * 0x8, 0⟩
def SYS_REQERR.ALIGN (r : Nat) : FldAt := ⟨SYS_REQERR r, 0, 16⟩
def SYS_REQERR.UNMAPPED (r : Nat) : FldAt := ⟨SYS_REQERR r, 16, 16⟩

def SYS_REQERR2 (r : Nat) : RegAt := ⟨0x444 + r * 0x8, 0⟩
def SYS_REQERR2.RSVD (r : Nat) : FldAt := ⟨SYS_REQERR2 r, 0, 16⟩

def SYS_MGMTNONCE : RegAt := ⟨0x500, 0⟩
def SYS_MGMTNONCE.NONCE : FldAt := ⟨SYS_MGMTNONCE, 0, 32⟩

def SYS_MGMTKEY (r : Nat) (w : Nat) : RegAt := ⟨0x540 + r * 0x20 + w * 0x4, 0⟩
def SYS_MGMTKEY.KEY (r : Nat) (w : Nat) : FldAt := ⟨SYS_MGMTKEY r w, 0, 32⟩

def SYS_MGMTCNT : RegAt := ⟨0x5c0, 0⟩
def SYS_MGMTCNT.ACCEPTED : FldAt := ⟨SYS_MGMTCNT, 0, 16⟩
def SYS_MGMTCNT.REJECTED : FldAt := ⟨SYS_MGMTCNT, 16, 16⟩

def SYS_MGMTLAST (r : Nat) : RegAt := ⟨0x5d0 + r * 0x4, 0⟩
def SYS_MGMTLAST.COUNTER (r : Nat) : FldAt := ⟨SYS_MGMTLAST r, 0, 32⟩

def SYS_SPMB_REQ (w : Nat) : RegAt := ⟨0x800 + w * 0x4, 0⟩
def SYS_SPMB_REQ.REQ (w : Nat) : FldAt := ⟨SYS_SPMB_REQ w, 0, 32⟩

def SYS_SPMB_CTL : RegAt := ⟨0x880, 0⟩
def SYS_SPMB_CTL.GO : FldAt := ⟨SYS_SPMB_CTL, 0, 1⟩

def SYS_SPMB_ST : RegAt := ⟨0x884, 0⟩
def SYS_SPMB_ST.BUSY : FldAt := ⟨SYS_SPMB_ST, 0, 1⟩
def SYS_SPMB_ST.CODE : FldAt := ⟨SYS_SPMB_ST, 1, 4⟩

def SYS_SPMB_RSP (w : Nat) : RegAt := ⟨0x900 + w * 0x4, 0⟩
def SYS_SPMB_RSP.RSP (w : Nat) : FldAt := ⟨SYS_SPMB_RSP w, 0, 32⟩

def SYS_SPMB_REQ_HI (w : Nat) : RegAt := ⟨0xa00 + w * 0x4, 0⟩
def SYS_SPMB_REQ_HI.REQ (w : Nat) : FldAt := ⟨SYS_SPMB_REQ_HI w, 0, 32⟩

def PROT_BASE (n : Nat) : RegAt := ⟨0x100000 + n * 0x10, 0⟩
def PROT_BASE.BASE (n : Nat) : FldAt := ⟨PROT_BASE n, 0, 24⟩

def PROT_LIMIT (n : Nat) : RegAt := ⟨0x100004 + n * 0x10, 0⟩
def PROT_LIMIT.LIMIT (n : Nat) : FldAt := ⟨PROT_LIMIT n, 0, 24⟩
def PROT_LIMIT.EN (n : Nat) : FldAt := ⟨PROT_LIMIT n, 31, 1⟩

def PROT_PERM (n : Nat) : RegAt := ⟨0x100008 + n * 0x10, 0⟩
def PROT_PERM.PERM (n : Nat) : FldAt := ⟨PROT_PERM n, 0, 20⟩

def PROT_DENY (c : Nat) : RegAt := ⟨0x100200 + c * 0x4, 0⟩
def PROT_DENY.COUNT (c : Nat) : FldAt := ⟨PROT_DENY c, 0, 16⟩

def PROT_LASTL : RegAt := ⟨0x100240, 0⟩
def PROT_LASTL.ADDR : FldAt := ⟨PROT_LASTL, 0, 32⟩

def PROT_LASTH : RegAt := ⟨0x100244, 0⟩
def PROT_LASTH.ADDR : FldAt := ⟨PROT_LASTH, 0, 4⟩

def TILE_STEPA (t : Nat) (i : Nat) : RegAt := ⟨0x1001000 + t * 0x40000 + i * 0x8, 0⟩
def TILE_STEPA.SRC (t : Nat) (i : Nat) : FldAt := ⟨TILE_STEPA t i, 0, 7⟩
def TILE_STEPA.REPEAT (t : Nat) (i : Nat) : FldAt := ⟨TILE_STEPA t i, 8, 8⟩
def TILE_STEPA.DELAY (t : Nat) (i : Nat) : FldAt := ⟨TILE_STEPA t i, 16, 16⟩

def TILE_STEPB (t : Nat) (i : Nat) : RegAt := ⟨0x1001004 + t * 0x40000 + i * 0x8, 0⟩
def TILE_STEPB.EVERY (t : Nat) (i : Nat) : FldAt := ⟨TILE_STEPB t i, 0, 13⟩
def TILE_STEPB.PHASE (t : Nat) (i : Nat) : FldAt := ⟨TILE_STEPB t i, 16, 12⟩

def TILE_CHCFG (t : Nat) (c : Nat) : RegAt := ⟨0x1000000 + t * 0x40000 + c * 0x4, 0⟩
def TILE_CHCFG.MODE (t : Nat) (c : Nat) : FldAt := ⟨TILE_CHCFG t c, 0, 3⟩
def TILE_CHCFG.GAIN (t : Nat) (c : Nat) : FldAt := ⟨TILE_CHCFG t c, 3, 3⟩
def TILE_CHCFG.RTD_I (t : Nat) (c : Nat) : FldAt := ⟨TILE_CHCFG t c, 6, 4⟩
def TILE_CHCFG.IEPE_I (t : Nat) (c : Nat) : FldAt := ⟨TILE_CHCFG t c, 10, 2⟩
def TILE_CHCFG.SAFE (t : Nat) (c : Nat) : FldAt := ⟨TILE_CHCFG t c, 12, 1⟩
def TILE_CHCFG.OPN_EN (t : Nat) (c : Nat) : FldAt := ⟨TILE_CHCFG t c, 13, 1⟩
def TILE_CHCFG.AAF (t : Nat) (c : Nat) : FldAt := ⟨TILE_CHCFG t c, 14, 2⟩

def TILE_GRP (t : Nat) (g : Nat) : RegAt := ⟨0x1000200 + t * 0x40000 + g * 0x4, 0⟩
def TILE_GRP.KIND (t : Nat) (g : Nat) : FldAt := ⟨TILE_GRP t g, 0, 2⟩
def TILE_GRP.LEVEL (t : Nat) (g : Nat) : FldAt := ⟨TILE_GRP t g, 2, 4⟩
def TILE_GRP.IMIN (t : Nat) (g : Nat) : FldAt := ⟨TILE_GRP t g, 6, 8⟩
def TILE_GRP.IMAX (t : Nat) (g : Nat) : FldAt := ⟨TILE_GRP t g, 14, 8⟩

def TILE_GRPT (t : Nat) (g : Nat) : RegAt := ⟨0x1000280 + t * 0x40000 + g * 0x4, 0⟩
def TILE_GRPT.LEAD (t : Nat) (g : Nat) : FldAt := ⟨TILE_GRPT t g, 0, 16⟩
def TILE_GRPT.WIDTH (t : Nat) (g : Nat) : FldAt := ⟨TILE_GRPT t g, 16, 16⟩

def TILE_OPNK (t : Nat) : RegAt := ⟨0x1000400 + t * 0x40000, 0⟩
def TILE_OPNK.K (t : Nat) : FldAt := ⟨TILE_OPNK t, 0, 16⟩

def TILE_BLANK (t : Nat) : RegAt := ⟨0x1000404 + t * 0x40000, 0⟩
def TILE_BLANK.PINMASK (t : Nat) : FldAt := ⟨TILE_BLANK t, 0, 4⟩
def TILE_BLANK.TAIL (t : Nat) : FldAt := ⟨TILE_BLANK t, 16, 16⟩

def TILE_CNT0 (t : Nat) : RegAt := ⟨0x1000408 + t * 0x40000, 0⟩
def TILE_CNT0.EXFFRM (t : Nat) : FldAt := ⟨TILE_CNT0 t, 0, 16⟩
def TILE_CNT0.BLKFRM (t : Nat) : FldAt := ⟨TILE_CNT0 t, 16, 16⟩

def TILE_CNT1 (t : Nat) : RegAt := ⟨0x100040c + t * 0x40000, 0⟩
def TILE_CNT1.OPNFAIL (t : Nat) : FldAt := ⟨TILE_CNT1 t, 0, 16⟩
def TILE_CNT1.TRIPS (t : Nat) : FldAt := ⟨TILE_CNT1 t, 16, 16⟩

def TILE_GRPST (t : Nat) (g : Nat) : RegAt := ⟨0x1000500 + t * 0x40000 + g * 0x4, 0⟩
def TILE_GRPST.CLASS (t : Nat) (g : Nat) : FldAt := ⟨TILE_GRPST t g, 0, 4⟩
def TILE_GRPST.TRIPPED (t : Nat) (g : Nat) : FldAt := ⟨TILE_GRPST t g, 4, 1⟩
def TILE_GRPST.SEEN (t : Nat) (g : Nat) : FldAt := ⟨TILE_GRPST t g, 5, 1⟩

def TILE_CHST (t : Nat) (c : Nat) : RegAt := ⟨0x1000600 + t * 0x40000 + c * 0x4, 0⟩
def TILE_CHST.CLASS (t : Nat) (c : Nat) : FldAt := ⟨TILE_CHST t c, 0, 4⟩
def TILE_CHST.SEEN (t : Nat) (c : Nat) : FldAt := ⟨TILE_CHST t c, 5, 1⟩
def TILE_CHST.OPEN (t : Nat) (c : Nat) : FldAt := ⟨TILE_CHST t c, 6, 1⟩

def TILE_FRAMEL (t : Nat) : RegAt := ⟨0x1000a00 + t * 0x40000, 0⟩
def TILE_FRAMEL.FRAME (t : Nat) : FldAt := ⟨TILE_FRAMEL t, 0, 32⟩

def TILE_FRAMEH (t : Nat) : RegAt := ⟨0x1000a04 + t * 0x40000, 0⟩
def TILE_FRAMEH.FRAME (t : Nat) : FldAt := ⟨TILE_FRAMEH t, 0, 1⟩

def TILE_STRB (t : Nat) : RegAt := ⟨0x1000a08 + t * 0x40000, 0⟩
def TILE_STRB.STRBSRC (t : Nat) : FldAt := ⟨TILE_STRB t, 0, 3⟩

def TILE_STRBCNT (t : Nat) : RegAt := ⟨0x1000a0c + t * 0x40000, 0⟩
def TILE_STRBCNT.EARLY (t : Nat) : FldAt := ⟨TILE_STRBCNT t, 0, 16⟩
def TILE_STRBCNT.DROP (t : Nat) : FldAt := ⟨TILE_STRBCNT t, 16, 16⟩

def TILE_BUDGET (t : Nat) : RegAt := ⟨0x1000a10 + t * 0x40000, 0⟩
def TILE_BUDGET.END (t : Nat) : FldAt := ⟨TILE_BUDGET t, 0, 32⟩

def TILE_BUDGET2 (t : Nat) : RegAt := ⟨0x1000a14 + t * 0x40000, 0⟩
def TILE_BUDGET2.CONV (t : Nat) : FldAt := ⟨TILE_BUDGET2 t, 0, 16⟩
def TILE_BUDGET2.DIS (t : Nat) : FldAt := ⟨TILE_BUDGET2 t, 16, 9⟩

def TILE_ROT (t : Nat) : RegAt := ⟨0x1000a18 + t * 0x40000, 0⟩
def TILE_ROT.FIXED (t : Nat) : FldAt := ⟨TILE_ROT t, 0, 1⟩

def TILE_SLCNT (t : Nat) (s : Nat) : RegAt := ⟨0x1000a20 + t * 0x40000 + s * 0x4, 0⟩
def TILE_SLCNT.CONV (t : Nat) (s : Nat) : FldAt := ⟨TILE_SLCNT t s, 0, 32⟩

def TILE_BCN (t : Nat) : RegAt := ⟨0x1000a40 + t * 0x40000, 0⟩
def TILE_BCN.TOL (t : Nat) : FldAt := ⟨TILE_BCN t, 0, 16⟩

def TILE_BCNST (t : Nat) : RegAt := ⟨0x1000a44 + t * 0x40000, 0x3⟩
def TILE_BCNST.RESULT (t : Nat) : FldAt := ⟨TILE_BCNST t, 0, 2⟩
def TILE_BCNST.SEEN (t : Nat) : FldAt := ⟨TILE_BCNST t, 2, 1⟩

def TILE_BCNDEV (t : Nat) : RegAt := ⟨0x1000a48 + t * 0x40000, 0⟩
def TILE_BCNDEV.DEV (t : Nat) : FldAt := ⟨TILE_BCNDEV t, 8, 24⟩

def TILE_BCNCNT (t : Nat) : RegAt := ⟨0x1000a4c + t * 0x40000, 0⟩
def TILE_BCNCNT.FAILFRM (t : Nat) : FldAt := ⟨TILE_BCNCNT t, 0, 16⟩
def TILE_BCNCNT.NOCMP (t : Nat) : FldAt := ⟨TILE_BCNCNT t, 16, 16⟩

def TILE_DIAG (t : Nat) (n : Nat) : RegAt := ⟨0x1000a60 + t * 0x40000 + n * 0x4, 0⟩
def TILE_DIAG.VALUE (t : Nat) (n : Nat) : FldAt := ⟨TILE_DIAG t n, 8, 24⟩

def IOT_DICFG (i : Nat) : RegAt := ⟨0x1100000 + i * 0x4, 0⟩
def IOT_DICFG.EN (i : Nat) : FldAt := ⟨IOT_DICFG i, 0, 1⟩
def IOT_DICFG.FILT (i : Nat) : FldAt := ⟨IOT_DICFG i, 1, 4⟩
def IOT_DICFG.EDGE_R (i : Nat) : FldAt := ⟨IOT_DICFG i, 5, 1⟩
def IOT_DICFG.EDGE_F (i : Nat) : FldAt := ⟨IOT_DICFG i, 6, 1⟩
def IOT_DICFG.TEN (i : Nat) : FldAt := ⟨IOT_DICFG i, 7, 1⟩
def IOT_DICFG.TSEL (i : Nat) : FldAt := ⟨IOT_DICFG i, 8, 2⟩
def IOT_DICFG.NB (i : Nat) : FldAt := ⟨IOT_DICFG i, 10, 3⟩

def IOT_DIPER (i : Nat) : RegAt := ⟨0x1100200 + i * 0x4, 0⟩
def IOT_DIPER.P (i : Nat) : FldAt := ⟨IOT_DIPER i, 0, 20⟩
def IOT_DIPER.EMAX (i : Nat) : FldAt := ⟨IOT_DIPER i, 20, 12⟩

def IOT_DIPOSL (i : Nat) : RegAt := ⟨0x1100400 + i * 0x8, 0⟩
def IOT_DIPOSL.POS (i : Nat) : FldAt := ⟨IOT_DIPOSL i, 0, 32⟩

def IOT_DIPOSH (i : Nat) : RegAt := ⟨0x1100404 + i * 0x8, 0⟩
def IOT_DIPOSH.POS (i : Nat) : FldAt := ⟨IOT_DIPOSH i, 0, 32⟩

def IOT_SBLK (d : Nat) : RegAt := ⟨0x1100800 + d * 0x4, 0⟩
def IOT_SBLK.PRE (d : Nat) : FldAt := ⟨IOT_SBLK d, 0, 12⟩
def IOT_SBLK.POST (d : Nat) : FldAt := ⟨IOT_SBLK d, 12, 12⟩
def IOT_SBLK.TILES (d : Nat) : FldAt := ⟨IOT_SBLK d, 24, 4⟩
def IOT_SBLK.ON_EDGE (d : Nat) : FldAt := ⟨IOT_SBLK d, 28, 1⟩
def IOT_SBLK.OFF_EDGE (d : Nat) : FldAt := ⟨IOT_SBLK d, 29, 1⟩

def IOT_BLANKST : RegAt := ⟨0x1100880, 0⟩
def IOT_BLANKST.PIN : FldAt := ⟨IOT_BLANKST, 0, 4⟩
def IOT_BLANKST.TILEBLK : FldAt := ⟨IOT_BLANKST, 4, 4⟩

def IOT_DOQ_P0 : RegAt := ⟨0x1100900, 0⟩
def IOT_DOQ_P0.P : FldAt := ⟨IOT_DOQ_P0, 0, 32⟩

def IOT_DOQ_P1 : RegAt := ⟨0x1100904, 0⟩
def IOT_DOQ_P1.P : FldAt := ⟨IOT_DOQ_P1, 0, 32⟩

def IOT_DOQ_CTL : RegAt := ⟨0x1100908, 0⟩
def IOT_DOQ_CTL.DO : FldAt := ⟨IOT_DOQ_CTL, 0, 5⟩
def IOT_DOQ_CTL.LEVEL : FldAt := ⟨IOT_DOQ_CTL, 5, 1⟩
def IOT_DOQ_CTL.KIND : FldAt := ⟨IOT_DOQ_CTL, 6, 1⟩
def IOT_DOQ_CTL.TEMPO : FldAt := ⟨IOT_DOQ_CTL, 7, 2⟩
def IOT_DOQ_CTL.DIR : FldAt := ⟨IOT_DOQ_CTL, 9, 1⟩
def IOT_DOQ_CTL.CLEAR : FldAt := ⟨IOT_DOQ_CTL, 10, 1⟩

def IOT_DOLAT (d : Nat) : RegAt := ⟨0x1100980 + d * 0x4, 0⟩
def IOT_DOLAT.LATC (d : Nat) : FldAt := ⟨IOT_DOLAT d, 0, 16⟩
def IOT_DOLAT.LATEMAX (d : Nat) : FldAt := ⟨IOT_DOLAT d, 16, 16⟩

def IOT_DOQST (d : Nat) : RegAt := ⟨0x1100a80 + d * 0x4, 0⟩
def IOT_DOQST.DEPTH (d : Nat) : FldAt := ⟨IOT_DOQST d, 0, 5⟩
def IOT_DOQST.FIXED (d : Nat) : FldAt := ⟨IOT_DOQST d, 5, 1⟩

def IOT_DOCMD : RegAt := ⟨0x1100b00, 0⟩
def IOT_DOCMD.LEVEL : FldAt := ⟨IOT_DOCMD, 0, 32⟩

def IOT_DOCNT : RegAt := ⟨0x1100b04, 0⟩
def IOT_DOCNT.LATE : FldAt := ⟨IOT_DOCNT, 0, 8⟩
def IOT_DOCNT.MISSED : FldAt := ⟨IOT_DOCNT, 8, 8⟩
def IOT_DOCNT.QFULL : FldAt := ⟨IOT_DOCNT, 16, 8⟩
def IOT_DOCNT.SUPERSEDED : FldAt := ⟨IOT_DOCNT, 24, 8⟩

def IOT_DICNT : RegAt := ⟨0x1100b08, 0⟩
def IOT_DICNT.EDGEDROP : FldAt := ⟨IOT_DICNT, 0, 16⟩

def IOT_COMMIT : RegAt := ⟨0x1100b0c, 0⟩
def IOT_COMMIT.GO : FldAt := ⟨IOT_COMMIT, 0, 1⟩

def IOT_BRKREQ : RegAt := ⟨0x1100b10, 0⟩
def IOT_BRKREQ.REQ : FldAt := ⟨IOT_BRKREQ, 0, 8⟩

def CAL_CFG (t : Nat) : RegAt := ⟨0x2000000 + t * 0x4, 0⟩
def CAL_CFG.MODE (t : Nat) : FldAt := ⟨CAL_CFG t, 0, 2⟩
def CAL_CFG.ALLGAIN (t : Nat) : FldAt := ⟨CAL_CFG t, 2, 1⟩
def CAL_CFG.OWNER (t : Nat) : FldAt := ⟨CAL_CFG t, 3, 1⟩
def CAL_CFG.NAVG (t : Nat) : FldAt := ⟨CAL_CFG t, 16, 13⟩

def CAL_TOL0 (t : Nat) : RegAt := ⟨0x2000010 + t * 0x4, 0⟩
def CAL_TOL0.AGREE_OFS (t : Nat) : FldAt := ⟨CAL_TOL0 t, 0, 16⟩
def CAL_TOL0.AGREE_GAIN (t : Nat) : FldAt := ⟨CAL_TOL0 t, 16, 16⟩

def CAL_TOL1 (t : Nat) : RegAt := ⟨0x2000020 + t * 0x4, 0⟩
def CAL_TOL1.LIN_TOL (t : Nat) : FldAt := ⟨CAL_TOL1 t, 0, 16⟩
def CAL_TOL1.PLAUS_GAIN (t : Nat) : FldAt := ⟨CAL_TOL1 t, 16, 16⟩

def CAL_TOL2 (t : Nat) : RegAt := ⟨0x2000030 + t * 0x4, 0⟩
def CAL_TOL2.PLAUS_OFS (t : Nat) : FldAt := ⟨CAL_TOL2 t, 0, 16⟩
def CAL_TOL2.DRIFT (t : Nat) : FldAt := ⟨CAL_TOL2 t, 16, 16⟩

def CAL_REFV : RegAt := ⟨0x2000040, 0⟩
def CAL_REFV.VREF : FldAt := ⟨CAL_REFV, 0, 32⟩

def CAL_COMMIT : RegAt := ⟨0x2000044, 0⟩
def CAL_COMMIT.TILES : FldAt := ⟨CAL_COMMIT, 0, 4⟩

def CAL_START : RegAt := ⟨0x2000048, 0⟩
def CAL_START.TILES : FldAt := ⟨CAL_START, 0, 4⟩

def CAL_REFID (w : Nat) : RegAt := ⟨0x2000050 + w * 0x4, 0⟩
def CAL_REFID.ID (w : Nat) : FldAt := ⟨CAL_REFID w, 0, 32⟩

def CAL_REQM (t : Nat) (w : Nat) : RegAt := ⟨0x2000080 + t * 0x10 + w * 0x4, 0⟩
def CAL_REQM.MASK (t : Nat) (w : Nat) : FldAt := ⟨CAL_REQM t w, 0, 32⟩

def CAL_STAT (t : Nat) : RegAt := ⟨0x2000100 + t * 0x4, 0⟩
def CAL_STAT.PENDING (t : Nat) : FldAt := ⟨CAL_STAT t, 0, 1⟩
def CAL_STAT.SWEEPING (t : Nat) : FldAt := ⟨CAL_STAT t, 1, 1⟩
def CAL_STAT.DONE (t : Nat) : FldAt := ⟨CAL_STAT t, 2, 1⟩
def CAL_STAT.REF_BAD (t : Nat) : FldAt := ⟨CAL_STAT t, 3, 1⟩
def CAL_STAT.SLC_FROZEN (t : Nat) : FldAt := ⟨CAL_STAT t, 4, 1⟩
def CAL_STAT.BPF (t : Nat) : FldAt := ⟨CAL_STAT t, 8, 8⟩

def CAL_CNT (t : Nat) : RegAt := ⟨0x2000110 + t * 0x4, 0⟩
def CAL_CNT.ACCEPT (t : Nat) : FldAt := ⟨CAL_CNT t, 0, 16⟩
def CAL_CNT.REJECT (t : Nat) : FldAt := ⟨CAL_CNT t, 16, 16⟩

def CAL_CNT2 (t : Nat) : RegAt := ⟨0x2000120 + t * 0x4, 0⟩
def CAL_CNT2.ABANDON (t : Nat) : FldAt := ⟨CAL_CNT2 t, 0, 8⟩
def CAL_CNT2.HALFPAIR (t : Nat) : FldAt := ⟨CAL_CNT2 t, 8, 8⟩
def CAL_CNT2.WIGN (t : Nat) : FldAt := ⟨CAL_CNT2 t, 16, 16⟩

def CAL_TJ (t : Nat) : RegAt := ⟨0x2000130 + t * 0x4, 0⟩
def CAL_TJ.TJ (t : Nat) : FldAt := ⟨CAL_TJ t, 0, 16⟩

def CAL_SLCCFG : RegAt := ⟨0x2000200, 0x78⟩
def CAL_SLCCFG.SBLK : FldAt := ⟨CAL_SLCCFG, 0, 5⟩
def CAL_SLCCFG.SW : FldAt := ⟨CAL_SLCCFG, 5, 4⟩
def CAL_SLCCFG.HOLD : FldAt := ⟨CAL_SLCCFG, 9, 1⟩

def CAL_SOFS (t : Nat) (s : Nat) : RegAt := ⟨0x2000400 + t * 0x20 + s * 0x4, 0⟩
def CAL_SOFS.SOFS (t : Nat) (s : Nat) : FldAt := ⟨CAL_SOFS t s, 0, 32⟩

def CAL_SGAIN (t : Nat) (s : Nat) : RegAt := ⟨0x2000480 + t * 0x20 + s * 0x4, 0x40000000⟩
def CAL_SGAIN.SGAIN (t : Nat) (s : Nat) : FldAt := ⟨CAL_SGAIN t s, 0, 32⟩

def CAL_FUSEST : RegAt := ⟨0x2000500, 0⟩
def CAL_FUSEST.GEN1 : FldAt := ⟨CAL_FUSEST, 0, 2⟩
def CAL_FUSEST.GEN2 : FldAt := ⟨CAL_FUSEST, 2, 2⟩
def CAL_FUSEST.GEN3 : FldAt := ⟨CAL_FUSEST, 4, 2⟩
def CAL_FUSEST.LOADED : FldAt := ⟨CAL_FUSEST, 6, 2⟩
def CAL_FUSEST.FACT_OK : FldAt := ⟨CAL_FUSEST, 8, 1⟩

def CAL_BURN : RegAt := ⟨0x2000504, 0⟩
def CAL_BURN.KEY : FldAt := ⟨CAL_BURN, 0, 16⟩
def CAL_BURN.GO : FldAt := ⟨CAL_BURN, 16, 1⟩

def CAL_BURNST : RegAt := ⟨0x2000508, 0⟩
def CAL_BURNST.BUSY : FldAt := ⟨CAL_BURNST, 0, 1⟩
def CAL_BURNST.RESULT : FldAt := ⟨CAL_BURNST, 1, 3⟩
def CAL_BURNST.GEN : FldAt := ⟨CAL_BURNST, 8, 2⟩

def CAL_OFS (e : Nat) (i : Nat) : RegAt := ⟨0x2010000 + e * 0x80 + i * 0x8, 0⟩
def CAL_OFS.OFS (e : Nat) (i : Nat) : FldAt := ⟨CAL_OFS e i, 0, 32⟩

def CAL_GAIN (e : Nat) (i : Nat) : RegAt := ⟨0x2010004 + e * 0x80 + i * 0x8, 0x40000000⟩
def CAL_GAIN.GAIN (e : Nat) (i : Nat) : FldAt := ⟨CAL_GAIN e i, 0, 32⟩

def CAL_UOFS (e : Nat) (i : Nat) : RegAt := ⟨0x2020000 + e * 0x80 + i * 0x8, 0⟩
def CAL_UOFS.OFS (e : Nat) (i : Nat) : FldAt := ⟨CAL_UOFS e i, 0, 32⟩

def CAL_UGAIN (e : Nat) (i : Nat) : RegAt := ⟨0x2020004 + e * 0x80 + i * 0x8, 0x40000000⟩
def CAL_UGAIN.GAIN (e : Nat) (i : Nat) : FldAt := ⟨CAL_UGAIN e i, 0, 32⟩

def CAL_SRC (e : Nat) : RegAt := ⟨0x2030000 + e * 0x4, 0⟩
def CAL_SRC.SRC (e : Nat) : FldAt := ⟨CAL_SRC e, 0, 2⟩
def CAL_SRC.HALF (e : Nat) : FldAt := ⟨CAL_SRC e, 2, 1⟩

def CAL_FUSERD (w : Nat) : RegAt := ⟨0x2040000 + w * 0x4, 0⟩
def CAL_FUSERD.DATA (w : Nat) : FldAt := ⟨CAL_FUSERD w, 0, 32⟩

def FLT_CFG (e : Nat) : RegAt := ⟨0x3000000 + e * 0x20, 0⟩
def FLT_CFG.N (e : Nat) : FldAt := ⟨FLT_CFG e, 0, 3⟩
def FLT_CFG.M (e : Nat) : FldAt := ⟨FLT_CFG e, 3, 2⟩
def FLT_CFG.R (e : Nat) : FldAt := ⟨FLT_CFG e, 5, 13⟩
def FLT_CFG.COMP (e : Nat) : FldAt := ⟨FLT_CFG e, 18, 4⟩
def FLT_CFG.HB (e : Nat) : FldAt := ⟨FLT_CFG e, 22, 4⟩
def FLT_CFG.DCB_K (e : Nat) : FldAt := ⟨FLT_CFG e, 26, 5⟩
def FLT_CFG.RS_EN (e : Nat) : FldAt := ⟨FLT_CFG e, 31, 1⟩

def FLT_CFG2 (e : Nat) : RegAt := ⟨0x3000004 + e * 0x20, 0⟩
def FLT_CFG2.FRZHOLD (e : Nat) : FldAt := ⟨FLT_CFG2 e, 0, 16⟩

def FLT_RS (e : Nat) : RegAt := ⟨0x3000008 + e * 0x20, 0⟩
def FLT_RS.DELTA (e : Nat) : FldAt := ⟨FLT_RS e, 0, 24⟩
def FLT_RS.RS_TEMPO (e : Nat) : FldAt := ⟨FLT_RS e, 24, 2⟩
def FLT_RS.DIR (e : Nat) : FldAt := ⟨FLT_RS e, 26, 1⟩

def FLT_GDLY (e : Nat) : RegAt := ⟨0x300000c + e * 0x20, 0⟩
def FLT_GDLY.INT (e : Nat) : FldAt := ⟨FLT_GDLY e, 0, 32⟩

def FLT_GDLYF (e : Nat) : RegAt := ⟨0x3000010 + e * 0x20, 0⟩
def FLT_GDLYF.FRAC (e : Nat) : FldAt := ⟨FLT_GDLYF e, 0, 16⟩

def FLT_NORM (e : Nat) : RegAt := ⟨0x3000014 + e * 0x20, 0x40000000⟩
def FLT_NORM.KNORM (e : Nat) : FldAt := ⟨FLT_NORM e, 0, 32⟩

def FLT_STAT (e : Nat) : RegAt := ⟨0x3000018 + e * 0x20, 0⟩
def FLT_STAT.SETTLE (e : Nat) : FldAt := ⟨FLT_STAT e, 0, 16⟩
def FLT_STAT.FROZEN (e : Nat) : FldAt := ⟨FLT_STAT e, 16, 1⟩
def FLT_STAT.F_MAN (e : Nat) : FldAt := ⟨FLT_STAT e, 17, 1⟩
def FLT_STAT.F_BLK (e : Nat) : FldAt := ⟨FLT_STAT e, 18, 1⟩
def FLT_STAT.F_EXF (e : Nat) : FldAt := ⟨FLT_STAT e, 19, 1⟩
def FLT_STAT.F_PAIR (e : Nat) : FldAt := ⟨FLT_STAT e, 20, 1⟩

def FLT_COMMIT : RegAt := ⟨0x3004000, 0⟩
def FLT_COMMIT.GO : FldAt := ⟨FLT_COMMIT, 0, 1⟩

def FLT_RATE : RegAt := ⟨0x3004004, 0⟩
def FLT_RATE.RATE : FldAt := ⟨FLT_RATE, 0, 25⟩

def FLT_CNT : RegAt := ⟨0x3004008, 0⟩
def FLT_CNT.RSOVR : FldAt := ⟨FLT_CNT, 0, 16⟩
def FLT_CNT.CLIP : FldAt := ⟨FLT_CNT, 16, 16⟩

def FLT_PHOLD : RegAt := ⟨0x300400c, 0⟩
def FLT_PHOLD.PHOLD : FldAt := ⟨FLT_PHOLD, 0, 16⟩

def FLT_FRZ (w : Nat) : RegAt := ⟨0x3004010 + w * 0x4, 0⟩
def FLT_FRZ.FREEZE (w : Nat) : FldAt := ⟨FLT_FRZ w, 0, 32⟩

def FLT_COEF (n : Nat) : RegAt := ⟨0x3005000 + n * 0x4, 0⟩
def FLT_COEF.COEF (n : Nat) : FldAt := ⟨FLT_COEF n, 0, 24⟩

def TIM_WB_NS (k : Nat) : RegAt := ⟨0x4000000 + k * 0x40, 0⟩
def TIM_WB_NS.NS (k : Nat) : FldAt := ⟨TIM_WB_NS k, 0, 32⟩

def TIM_WB_FRAC (k : Nat) : RegAt := ⟨0x4000004 + k * 0x40, 0⟩
def TIM_WB_FRAC.FRAC (k : Nat) : FldAt := ⟨TIM_WB_FRAC k, 0, 16⟩
def TIM_WB_FRAC.SNAP (k : Nat) : FldAt := ⟨TIM_WB_FRAC k, 16, 1⟩

def TIM_WB_SECL (k : Nat) : RegAt := ⟨0x4000008 + k * 0x40, 0⟩
def TIM_WB_SECL.SEC (k : Nat) : FldAt := ⟨TIM_WB_SECL k, 0, 32⟩

def TIM_WB_SECH (k : Nat) : RegAt := ⟨0x400000c + k * 0x40, 0⟩
def TIM_WB_SECH.SEC (k : Nat) : FldAt := ⟨TIM_WB_SECH k, 0, 16⟩

def TIM_WB_STAT (k : Nat) : RegAt := ⟨0x4000010 + k * 0x40, 0⟩
def TIM_WB_STAT.STATE (k : Nat) : FldAt := ⟨TIM_WB_STAT k, 0, 2⟩
def TIM_WB_STAT.PORT (k : Nat) : FldAt := ⟨TIM_WB_STAT k, 2, 1⟩

def TIM_WB_OFS (k : Nat) : RegAt := ⟨0x4000014 + k * 0x40, 0⟩
def TIM_WB_OFS.OFS (k : Nat) : FldAt := ⟨TIM_WB_OFS k, 0, 32⟩

def TIM_WB_HOERR (k : Nat) : RegAt := ⟨0x4000018 + k * 0x40, 0⟩
def TIM_WB_HOERR.HOERR (k : Nat) : FldAt := ⟨TIM_WB_HOERR k, 0, 32⟩

def TIM_WB_CFG (k : Nat) : RegAt := ⟨0x400001c + k * 0x40, 0⟩
def TIM_WB_CFG.SRC (k : Nat) : FldAt := ⟨TIM_WB_CFG k, 0, 1⟩
def TIM_WB_CFG.LOCKLIM (k : Nat) : FldAt := ⟨TIM_WB_CFG k, 8, 8⟩
def TIM_WB_CFG.SLEWMAX (k : Nat) : FldAt := ⟨TIM_WB_CFG k, 16, 12⟩

def TIM_WB_HOCFG (k : Nat) : RegAt := ⟨0x4000020 + k * 0x40, 0⟩
def TIM_WB_HOCFG.DRIFT (k : Nat) : FldAt := ⟨TIM_WB_HOCFG k, 0, 16⟩
def TIM_WB_HOCFG.HOLIM (k : Nat) : FldAt := ⟨TIM_WB_HOCFG k, 16, 16⟩

def TIM_WB_STEPLIM (k : Nat) : RegAt := ⟨0x4000024 + k * 0x40, 0⟩
def TIM_WB_STEPLIM.STEPLIM (k : Nat) : FldAt := ⟨TIM_WB_STEPLIM k, 0, 20⟩

def TIM_WB1_SETL : RegAt := ⟨0x4000068, 0⟩
def TIM_WB1_SETL.SEC : FldAt := ⟨TIM_WB1_SETL, 0, 32⟩

def TIM_WB1_SETH : RegAt := ⟨0x400006c, 0⟩
def TIM_WB1_SETH.SEC : FldAt := ⟨TIM_WB1_SETH, 0, 16⟩

def TIM_PTP_CFG (k : Nat) : RegAt := ⟨0x4000100 + k * 0x40, 0x3000⟩
def TIM_PTP_CFG.EN (k : Nat) : FldAt := ⟨TIM_PTP_CFG k, 0, 1⟩
def TIM_PTP_CFG.PROFILE (k : Nat) : FldAt := ⟨TIM_PTP_CFG k, 1, 2⟩
def TIM_PTP_CFG.ONESTEP (k : Nat) : FldAt := ⟨TIM_PTP_CFG k, 3, 1⟩
def TIM_PTP_CFG.UDP (k : Nat) : FldAt := ⟨TIM_PTP_CFG k, 4, 1⟩
def TIM_PTP_CFG.DOMAIN (k : Nat) : FldAt := ⟨TIM_PTP_CFG k, 5, 7⟩
def TIM_PTP_CFG.PORTS (k : Nat) : FldAt := ⟨TIM_PTP_CFG k, 12, 4⟩

def TIM_PTP_INT (k : Nat) : RegAt := ⟨0x4000104 + k * 0x40, 0x3fcfc⟩
def TIM_PTP_INT.LOGSYNC (k : Nat) : FldAt := ⟨TIM_PTP_INT k, 0, 8⟩
def TIM_PTP_INT.LOGDELAY (k : Nat) : FldAt := ⟨TIM_PTP_INT k, 8, 8⟩
def TIM_PTP_INT.SYNCLOSS (k : Nat) : FldAt := ⟨TIM_PTP_INT k, 16, 8⟩

def TIM_PTP_CNT (k : Nat) : RegAt := ⟨0x4000108 + k * 0x40, 0⟩
def TIM_PTP_CNT.SYNCRX (k : Nat) : FldAt := ⟨TIM_PTP_CNT k, 0, 16⟩
def TIM_PTP_CNT.BADMSG (k : Nat) : FldAt := ⟨TIM_PTP_CNT k, 16, 16⟩

def TIM_PTP_DLY (k : Nat) (p : Nat) : RegAt := ⟨0x4000110 + k * 0x40 + p * 0x4, 0⟩
def TIM_PTP_DLY.DLY (k : Nat) (p : Nat) : FldAt := ⟨TIM_PTP_DLY k p, 0, 32⟩

def TIM_PORT_EGR (p : Nat) : RegAt := ⟨0x4000200 + p * 0x20, 0⟩
def TIM_PORT_EGR.EGR (p : Nat) : FldAt := ⟨TIM_PORT_EGR p, 0, 32⟩

def TIM_PORT_ING (p : Nat) : RegAt := ⟨0x4000204 + p * 0x20, 0⟩
def TIM_PORT_ING.ING (p : Nat) : FldAt := ⟨TIM_PORT_ING p, 0, 32⟩

def TIM_PORT_PCS (p : Nat) : RegAt := ⟨0x4000208 + p * 0x20, 0⟩
def TIM_PORT_PCS.PCS (p : Nat) : FldAt := ⟨TIM_PORT_PCS p, 0, 16⟩

def TIM_PORT_EXT (p : Nat) : RegAt := ⟨0x400020c + p * 0x20, 0⟩
def TIM_PORT_EXT.EXTEGR (p : Nat) : FldAt := ⟨TIM_PORT_EXT p, 0, 16⟩
def TIM_PORT_EXT.EXTING (p : Nat) : FldAt := ⟨TIM_PORT_EXT p, 16, 16⟩

def TIM_PORT_ASYM (p : Nat) : RegAt := ⟨0x4000210 + p * 0x20, 0⟩
def TIM_PORT_ASYM.ASYM (p : Nat) : FldAt := ⟨TIM_PORT_ASYM p, 0, 32⟩

def TIM_NB_CFG (n : Nat) : RegAt := ⟨0x4000400 + n * 0x10, 0⟩
def TIM_NB_CFG.SRC (n : Nat) : FldAt := ⟨TIM_NB_CFG n, 0, 2⟩

def TIM_NB_NS (n : Nat) : RegAt := ⟨0x4000404 + n * 0x10, 0⟩
def TIM_NB_NS.NS (n : Nat) : FldAt := ⟨TIM_NB_NS n, 0, 32⟩

def TIM_NB_EP (n : Nat) : RegAt := ⟨0x4000408 + n * 0x10, 0⟩
def TIM_NB_EP.EPOCH (n : Nat) : FldAt := ⟨TIM_NB_EP n, 0, 16⟩
def TIM_NB_EP.SNAP (n : Nat) : FldAt := ⟨TIM_NB_EP n, 16, 1⟩

def TIM_SCH_CFG (s : Nat) : RegAt := ⟨0x4000800 + s * 0x20, 0⟩
def TIM_SCH_CFG.KIND (s : Nat) : FldAt := ⟨TIM_SCH_CFG s, 0, 2⟩
def TIM_SCH_CFG.TEMPO (s : Nat) : FldAt := ⟨TIM_SCH_CFG s, 2, 2⟩
def TIM_SCH_CFG.DIR (s : Nat) : FldAt := ⟨TIM_SCH_CFG s, 4, 1⟩
def TIM_SCH_CFG.NB (s : Nat) : FldAt := ⟨TIM_SCH_CFG s, 5, 3⟩

def TIM_SCH_A0 (s : Nat) : RegAt := ⟨0x4000804 + s * 0x20, 0⟩
def TIM_SCH_A0.ANCHOR (s : Nat) : FldAt := ⟨TIM_SCH_A0 s, 0, 32⟩

def TIM_SCH_A1 (s : Nat) : RegAt := ⟨0x4000808 + s * 0x20, 0⟩
def TIM_SCH_A1.ANCHOR (s : Nat) : FldAt := ⟨TIM_SCH_A1 s, 0, 32⟩

def TIM_SCH_I0 (s : Nat) : RegAt := ⟨0x400080c + s * 0x20, 0⟩
def TIM_SCH_I0.INTERVAL (s : Nat) : FldAt := ⟨TIM_SCH_I0 s, 0, 32⟩

def TIM_SCH_I1 (s : Nat) : RegAt := ⟨0x4000810 + s * 0x20, 0⟩
def TIM_SCH_I1.INTERVAL (s : Nat) : FldAt := ⟨TIM_SCH_I1 s, 0, 32⟩

def TIM_SCH_LATC (s : Nat) : RegAt := ⟨0x4000814 + s * 0x20, 0⟩
def TIM_SCH_LATC.LATC (s : Nat) : FldAt := ⟨TIM_SCH_LATC s, 0, 32⟩

def TIM_TMP_CFG (n : Nat) : RegAt := ⟨0x4000c00 + n * 0x40, 0x80⟩
def TIM_TMP_CFG.SRC (n : Nat) : FldAt := ⟨TIM_TMP_CFG n, 0, 2⟩
def TIM_TMP_CFG.ENC (n : Nat) : FldAt := ⟨TIM_TMP_CFG n, 2, 2⟩
def TIM_TMP_CFG.PUBLISH (n : Nat) : FldAt := ⟨TIM_TMP_CFG n, 4, 1⟩
def TIM_TMP_CFG.TRSH (n : Nat) : FldAt := ⟨TIM_TMP_CFG n, 5, 4⟩
def TIM_TMP_CFG.TID (n : Nat) : FldAt := ⟨TIM_TMP_CFG n, 16, 16⟩

def TIM_TMP_SCALE (n : Nat) : RegAt := ⟨0x4000c04 + n * 0x40, 0⟩
def TIM_TMP_SCALE.SCALE (n : Nat) : FldAt := ⟨TIM_TMP_SCALE n, 0, 32⟩

def TIM_TMP_HOLD (n : Nat) : RegAt := ⟨0x4000c08 + n * 0x40, 0x640fa0⟩
def TIM_TMP_HOLD.HOLDT (n : Nat) : FldAt := ⟨TIM_TMP_HOLD n, 0, 16⟩
def TIM_TMP_HOLD.LOSST (n : Nat) : FldAt := ⟨TIM_TMP_HOLD n, 16, 16⟩

def TIM_TMP_POSL (n : Nat) : RegAt := ⟨0x4000c0c + n * 0x40, 0⟩
def TIM_TMP_POSL.POS (n : Nat) : FldAt := ⟨TIM_TMP_POSL n, 0, 32⟩

def TIM_TMP_POSH (n : Nat) : RegAt := ⟨0x4000c10 + n * 0x40, 0⟩
def TIM_TMP_POSH.POS (n : Nat) : FldAt := ⟨TIM_TMP_POSH n, 0, 32⟩

def TIM_TMP_VEL (n : Nat) : RegAt := ⟨0x4000c14 + n * 0x40, 0⟩
def TIM_TMP_VEL.VEL (n : Nat) : FldAt := ⟨TIM_TMP_VEL n, 0, 32⟩

def TIM_TMP_ERR (n : Nat) : RegAt := ⟨0x4000c18 + n * 0x40, 0⟩
def TIM_TMP_ERR.TPERR (n : Nat) : FldAt := ⟨TIM_TMP_ERR n, 0, 32⟩

def TIM_TMP_STAT (n : Nat) : RegAt := ⟨0x4000c1c + n * 0x40, 0⟩
def TIM_TMP_STAT.STATE (n : Nat) : FldAt := ⟨TIM_TMP_STAT n, 0, 2⟩
def TIM_TMP_STAT.ENCERR (n : Nat) : FldAt := ⟨TIM_TMP_STAT n, 16, 8⟩
def TIM_TMP_STAT.DISCARD (n : Nat) : FldAt := ⟨TIM_TMP_STAT n, 24, 8⟩

def TIM_TMP_ZPOSL (n : Nat) : RegAt := ⟨0x4000c20 + n * 0x40, 0⟩
def TIM_TMP_ZPOSL.ZPOS (n : Nat) : FldAt := ⟨TIM_TMP_ZPOSL n, 0, 32⟩

def TIM_TMP_ZPOSH (n : Nat) : RegAt := ⟨0x4000c24 + n * 0x40, 0⟩
def TIM_TMP_ZPOSH.ZPOS (n : Nat) : FldAt := ⟨TIM_TMP_ZPOSH n, 0, 32⟩

def TIM_CYCLE : RegAt := ⟨0x4000f00, 0x3e8⟩
def TIM_CYCLE.CYCLE : FldAt := ⟨TIM_CYCLE, 0, 14⟩

def TIM_PPS : RegAt := ⟨0x4000f04, 0xa00⟩
def TIM_PPS.PPS_SRC : FldAt := ⟨TIM_PPS, 0, 1⟩
def TIM_PPS.WIDTH : FldAt := ⟨TIM_PPS, 8, 8⟩

def TIM_PPSIN (w : Nat) : RegAt := ⟨0x4000f08 + w * 0x4, 0⟩
def TIM_PPSIN.CAP (w : Nat) : FldAt := ⟨TIM_PPSIN w, 0, 32⟩

def TIM_COMMIT : RegAt := ⟨0x4000f1c, 0⟩
def TIM_COMMIT.GO : FldAt := ⟨TIM_COMMIT, 0, 1⟩
def TIM_COMMIT.REANCHOR : FldAt := ⟨TIM_COMMIT, 1, 1⟩

def QUE_Q_CFG (q : Nat) : RegAt := ⟨0x5000000 + q * 0x20, 0⟩
def QUE_Q_CFG.SIZE (q : Nat) : FldAt := ⟨QUE_Q_CFG q, 0, 15⟩
def QUE_Q_CFG.POLICY (q : Nat) : FldAt := ⟨QUE_Q_CFG q, 15, 1⟩
def QUE_Q_CFG.PKT (q : Nat) : FldAt := ⟨QUE_Q_CFG q, 16, 1⟩

def QUE_Q_STAT (q : Nat) : RegAt := ⟨0x5000004 + q * 0x20, 0⟩
def QUE_Q_STAT.DEPTH (q : Nat) : FldAt := ⟨QUE_Q_STAT q, 0, 29⟩

def QUE_Q_CNT0 (q : Nat) : RegAt := ⟨0x5000008 + q * 0x20, 0⟩
def QUE_Q_CNT0.LOSTPKT (q : Nat) : FldAt := ⟨QUE_Q_CNT0 q, 0, 16⟩
def QUE_Q_CNT0.TOOLONG (q : Nat) : FldAt := ⟨QUE_Q_CNT0 q, 16, 8⟩
def QUE_Q_CNT0.PUSHREJ (q : Nat) : FldAt := ⟨QUE_Q_CNT0 q, 24, 8⟩

def QUE_Q_CNT1 (q : Nat) : RegAt := ⟨0x500000c + q * 0x20, 0⟩
def QUE_Q_CNT1.LOSTWORD (q : Nat) : FldAt := ⟨QUE_Q_CNT1 q, 0, 32⟩

def QUE_Q_CNT2 (q : Nat) : RegAt := ⟨0x5000010 + q * 0x20, 0⟩
def QUE_Q_CNT2.ABORTS (q : Nat) : FldAt := ⟨QUE_Q_CNT2 q, 0, 16⟩
def QUE_Q_CNT2.STALLS (q : Nat) : FldAt := ⟨QUE_Q_CNT2 q, 16, 16⟩

def QUE_S_CFG (s : Nat) : RegAt := ⟨0x5000c00 + s * 0x40, 0⟩
def QUE_S_CFG.EN (s : Nat) : FldAt := ⟨QUE_S_CFG s, 0, 1⟩
def QUE_S_CFG.KIND (s : Nat) : FldAt := ⟨QUE_S_CFG s, 1, 1⟩
def QUE_S_CFG.CLASS (s : Nat) : FldAt := ⟨QUE_S_CFG s, 2, 2⟩
def QUE_S_CFG.HOME (s : Nat) : FldAt := ⟨QUE_S_CFG s, 4, 1⟩
def QUE_S_CFG.BASE (s : Nat) : FldAt := ⟨QUE_S_CFG s, 5, 10⟩
def QUE_S_CFG.WIDTH (s : Nat) : FldAt := ⟨QUE_S_CFG s, 15, 9⟩

def QUE_S_RED (s : Nat) : RegAt := ⟨0x5000c04 + s * 0x40, 0⟩
def QUE_S_RED.OP (s : Nat) : FldAt := ⟨QUE_S_RED s, 0, 3⟩
def QUE_S_RED.DSH (s : Nat) : FldAt := ⟨QUE_S_RED s, 3, 5⟩

def QUE_S_FLUSH (s : Nat) : RegAt := ⟨0x5000c08 + s * 0x40, 0⟩
def QUE_S_FLUSH.FLUSH (s : Nat) : FldAt := ⟨QUE_S_FLUSH s, 0, 20⟩

def QUE_S_RET (s : Nat) : RegAt := ⟨0x5000c0c + s * 0x40, 0⟩
def QUE_S_RET.RET (s : Nat) : FldAt := ⟨QUE_S_RET s, 0, 32⟩

def QUE_S_PSN (s : Nat) : RegAt := ⟨0x5000c10 + s * 0x40, 0⟩
def QUE_S_PSN.PSN (s : Nat) : FldAt := ⟨QUE_S_PSN s, 0, 32⟩

def QUE_S_QUEUED (s : Nat) : RegAt := ⟨0x5000c14 + s * 0x40, 0⟩
def QUE_S_QUEUED.QUEUED (s : Nat) : FldAt := ⟨QUE_S_QUEUED s, 0, 32⟩

def QUE_S_BADACK (s : Nat) : RegAt := ⟨0x5000c18 + s * 0x40, 0⟩
def QUE_S_BADACK.BADACK (s : Nat) : FldAt := ⟨QUE_S_BADACK s, 0, 16⟩

def QUE_S_LEDGER (s : Nat) (w : Nat) : RegAt := ⟨0x5000c20 + s * 0x40 + w * 0x4, 0⟩
def QUE_S_LEDGER.VALUE (s : Nat) (w : Nat) : FldAt := ⟨QUE_S_LEDGER s w, 0, 32⟩

def QUE_ROSTER (j : Nat) : RegAt := ⟨0x5002000 + j * 0x4, 0⟩
def QUE_ROSTER.EP (j : Nat) : FldAt := ⟨QUE_ROSTER j, 0, 9⟩

def QUE_PART : RegAt := ⟨0x5003000, 0x81860⟩
def QUE_PART.HISTSZ : FldAt := ⟨QUE_PART, 0, 8⟩
def QUE_PART.QUESZ : FldAt := ⟨QUE_PART, 8, 8⟩
def QUE_PART.WORK : FldAt := ⟨QUE_PART, 16, 8⟩

def QUE_HWRATE : RegAt := ⟨0x5003004, 0⟩
def QUE_HWRATE.W : FldAt := ⟨QUE_HWRATE, 0, 25⟩

def QUE_HFREE : RegAt := ⟨0x5003008, 0⟩
def QUE_HFREE.FREE : FldAt := ⟨QUE_HFREE, 0, 32⟩

def QUE_EXC_EARLY : RegAt := ⟨0x5003010, 0⟩
def QUE_EXC_EARLY.COUNT : FldAt := ⟨QUE_EXC_EARLY, 0, 32⟩

def QUE_EXC_RESET : RegAt := ⟨0x5003014, 0⟩
def QUE_EXC_RESET.COUNT : FldAt := ⟨QUE_EXC_RESET, 0, 32⟩

def QUE_EXC_DAMAGED : RegAt := ⟨0x5003018, 0⟩
def QUE_EXC_DAMAGED.COUNT : FldAt := ⟨QUE_EXC_DAMAGED, 0, 32⟩

def QUE_RUNID : RegAt := ⟨0x5003020, 0⟩
def QUE_RUNID.RUNID : FldAt := ⟨QUE_RUNID, 0, 16⟩

def QUE_HRET (e : Nat) : RegAt := ⟨0x5003100 + e * 0x4, 0⟩
def QUE_HRET.RET (e : Nat) : FldAt := ⟨QUE_HRET e, 0, 32⟩

def QUE_PULLST : RegAt := ⟨0x5003a00, 0⟩
def QUE_PULLST.INFLIGHT : FldAt := ⟨QUE_PULLST, 0, 9⟩

def QUE_PULLCNT : RegAt := ⟨0x5003a04, 0⟩
def QUE_PULLCNT.ACCEPTED : FldAt := ⟨QUE_PULLCNT, 0, 16⟩
def QUE_PULLCNT.REJECTED : FldAt := ⟨QUE_PULLCNT, 16, 16⟩

def QUE_PULLCNT2 : RegAt := ⟨0x5003a08, 0⟩
def QUE_PULLCNT2.SHORT : FldAt := ⟨QUE_PULLCNT2, 0, 16⟩
def QUE_PULLCNT2.RETRY : FldAt := ⟨QUE_PULLCNT2, 16, 16⟩

def QUE_COMMIT : RegAt := ⟨0x5003f00, 0⟩
def QUE_COMMIT.GO : FldAt := ⟨QUE_COMMIT, 0, 1⟩

def CMP_CFG : RegAt := ⟨0x6000000, 0x3⟩
def CMP_CFG.PULLMAX : FldAt := ⟨CMP_CFG, 0, 3⟩

def CMP_STAT : RegAt := ⟨0x6000004, 0⟩
def CMP_STAT.BUSYC : FldAt := ⟨CMP_STAT, 0, 4⟩
def CMP_STAT.BUSYD : FldAt := ⟨CMP_STAT, 4, 2⟩
def CMP_STAT.PULLWAIT : FldAt := ⟨CMP_STAT, 6, 9⟩

def CMP_DONE : RegAt := ⟨0x6000008, 0⟩
def CMP_DONE.SLOT : FldAt := ⟨CMP_DONE, 0, 32⟩

def CMP_CNT0 : RegAt := ⟨0x600000c, 0⟩
def CMP_CNT0.JOBS : FldAt := ⟨CMP_CNT0, 0, 16⟩
def CMP_CNT0.FAILS : FldAt := ⟨CMP_CNT0, 16, 16⟩

def CMP_CNT1 : RegAt := ⟨0x6000010, 0⟩
def CMP_CNT1.OOS : FldAt := ⟨CMP_CNT1, 0, 16⟩
def CMP_CNT1.WIGN : FldAt := ⟨CMP_CNT1, 16, 16⟩

def CMP_INBYTESL : RegAt := ⟨0x6000018, 0⟩
def CMP_INBYTESL.INBYTES : FldAt := ⟨CMP_INBYTESL, 0, 32⟩

def CMP_INBYTESH : RegAt := ⟨0x600001c, 0⟩
def CMP_INBYTESH.INBYTES : FldAt := ⟨CMP_INBYTESH, 0, 32⟩

def CMP_J_D0 (j : Nat) : RegAt := ⟨0x6001000 + j * 0x80, 0⟩
def CMP_J_D0.OP (j : Nat) : FldAt := ⟨CMP_J_D0 j, 0, 2⟩
def CMP_J_D0.MODE (j : Nat) : FldAt := ⟨CMP_J_D0 j, 2, 1⟩
def CMP_J_D0.SHUF (j : Nat) : FldAt := ⟨CMP_J_D0 j, 3, 2⟩
def CMP_J_D0.UNSHUF (j : Nat) : FldAt := ⟨CMP_J_D0 j, 5, 1⟩
def CMP_J_D0.WAIT (j : Nat) : FldAt := ⟨CMP_J_D0 j, 6, 1⟩
def CMP_J_D0.QUEUE (j : Nat) : FldAt := ⟨CMP_J_D0 j, 7, 7⟩
def CMP_J_D0.PREFIX (j : Nat) : FldAt := ⟨CMP_J_D0 j, 14, 4⟩
def CMP_J_D0.PATCH (j : Nat) : FldAt := ⟨CMP_J_D0 j, 18, 3⟩
def CMP_J_D0.PATCH_EN (j : Nat) : FldAt := ⟨CMP_J_D0 j, 21, 1⟩

def CMP_J_D1 (j : Nat) : RegAt := ⟨0x6001004 + j * 0x80, 0⟩
def CMP_J_D1.SRC (j : Nat) : FldAt := ⟨CMP_J_D1 j, 0, 32⟩

def CMP_J_D2 (j : Nat) : RegAt := ⟨0x6001008 + j * 0x80, 0⟩
def CMP_J_D2.INLEN (j : Nat) : FldAt := ⟨CMP_J_D2 j, 0, 24⟩

def CMP_J_D3 (j : Nat) : RegAt := ⟨0x600100c + j * 0x80, 0⟩
def CMP_J_D3.STRIDE (j : Nat) : FldAt := ⟨CMP_J_D3 j, 0, 9⟩

def CMP_J_D4 (j : Nat) : RegAt := ⟨0x6001010 + j * 0x80, 0⟩
def CMP_J_D4.OUTMAX (j : Nat) : FldAt := ⟨CMP_J_D4 j, 0, 15⟩

def CMP_J_D5 (j : Nat) (w : Nat) : RegAt := ⟨0x6001014 + j * 0x80 + w * 0x4, 0⟩

def CMP_J_D8 (j : Nat) (w : Nat) : RegAt := ⟨0x6001020 + j * 0x80 + w * 0x4, 0⟩
def CMP_J_D8.PFX (j : Nat) (w : Nat) : FldAt := ⟨CMP_J_D8 j w, 0, 32⟩

def CMP_J_CTL (j : Nat) : RegAt := ⟨0x6001040 + j * 0x80, 0⟩
def CMP_J_CTL.GO (j : Nat) : FldAt := ⟨CMP_J_CTL j, 0, 1⟩
def CMP_J_CTL.CANCEL (j : Nat) : FldAt := ⟨CMP_J_CTL j, 1, 1⟩

def CMP_J_ST (j : Nat) : RegAt := ⟨0x6001044 + j * 0x80, 0⟩
def CMP_J_ST.STATE (j : Nat) : FldAt := ⟨CMP_J_ST j, 0, 2⟩
def CMP_J_ST.CODE (j : Nat) : FldAt := ⟨CMP_J_ST j, 2, 4⟩
def CMP_J_ST.ENGINE (j : Nat) : FldAt := ⟨CMP_J_ST j, 6, 2⟩

def CMP_J_OUT (j : Nat) : RegAt := ⟨0x6001048 + j * 0x80, 0⟩
def CMP_J_OUT.OUTLEN (j : Nat) : FldAt := ⟨CMP_J_OUT j, 0, 15⟩

def CMP_J_USED (j : Nat) : RegAt := ⟨0x600104c + j * 0x80, 0⟩
def CMP_J_USED.CONSUMED (j : Nat) : FldAt := ⟨CMP_J_USED j, 0, 24⟩
def CMP_J_USED.SPARE (j : Nat) : FldAt := ⟨CMP_J_USED j, 24, 8⟩

def CMP_J_AUX (j : Nat) : RegAt := ⟨0x6001050 + j * 0x80, 0⟩
def CMP_J_AUX.AUX (j : Nat) : FldAt := ⟨CMP_J_AUX j, 0, 32⟩

def PRT_P_CFG (p : Nat) : RegAt := ⟨0x7000000 + p * 0x1000, 0⟩
def PRT_P_CFG.USE (p : Nat) : FldAt := ⟨PRT_P_CFG p, 0, 3⟩
def PRT_P_CFG.MODE (p : Nat) : FldAt := ⟨PRT_P_CFG p, 3, 3⟩
def PRT_P_CFG.MS (p : Nat) : FldAt := ⟨PRT_P_CFG p, 6, 2⟩
def PRT_P_CFG.AN (p : Nat) : FldAt := ⟨PRT_P_CFG p, 8, 1⟩
def PRT_P_CFG.AMP24 (p : Nat) : FldAt := ⟨PRT_P_CFG p, 9, 1⟩
def PRT_P_CFG.TRANSPORT (p : Nat) : FldAt := ⟨PRT_P_CFG p, 10, 1⟩
def PRT_P_CFG.MACSEC (p : Nat) : FldAt := ⟨PRT_P_CFG p, 11, 2⟩
def PRT_P_CFG.ENCRYPT (p : Nat) : FldAt := ⟨PRT_P_CFG p, 13, 1⟩
def PRT_P_CFG.MKA_FAST (p : Nat) : FldAt := ⟨PRT_P_CFG p, 14, 1⟩

def PRT_P_STAT (p : Nat) : RegAt := ⟨0x7000004 + p * 0x1000, 0⟩
def PRT_P_STAT.LINK (p : Nat) : FldAt := ⟨PRT_P_STAT p, 0, 1⟩
def PRT_P_STAT.UP (p : Nat) : FldAt := ⟨PRT_P_STAT p, 1, 1⟩
def PRT_P_STAT.LVER (p : Nat) : FldAt := ⟨PRT_P_STAT p, 2, 2⟩
def PRT_P_STAT.SECURED (p : Nat) : FldAt := ⟨PRT_P_STAT p, 4, 1⟩
def PRT_P_STAT.MISWIRE (p : Nat) : FldAt := ⟨PRT_P_STAT p, 5, 1⟩
def PRT_P_STAT.DUP (p : Nat) : FldAt := ⟨PRT_P_STAT p, 6, 1⟩
def PRT_P_STAT.MASTER (p : Nat) : FldAt := ⟨PRT_P_STAT p, 7, 1⟩
def PRT_P_STAT.PEERPORT (p : Nat) : FldAt := ⟨PRT_P_STAT p, 8, 2⟩
def PRT_P_STAT.PEERROOT (p : Nat) : FldAt := ⟨PRT_P_STAT p, 10, 1⟩
def PRT_P_STAT.PARTNER (p : Nat) : FldAt := ⟨PRT_P_STAT p, 11, 1⟩

def PRT_P_PHY (p : Nat) : RegAt := ⟨0x7000008 + p * 0x1000, 0⟩
def PRT_P_PHY.SNR (p : Nat) : FldAt := ⟨PRT_P_PHY p, 0, 8⟩
def PRT_P_PHY.PEEROK (p : Nat) : FldAt := ⟨PRT_P_PHY p, 8, 1⟩

def PRT_P_MAC0 (p : Nat) : RegAt := ⟨0x700000c + p * 0x1000, 0⟩
def PRT_P_MAC0.MAC (p : Nat) : FldAt := ⟨PRT_P_MAC0 p, 0, 32⟩

def PRT_P_MAC1 (p : Nat) : RegAt := ⟨0x7000010 + p * 0x1000, 0⟩
def PRT_P_MAC1.MAC (p : Nat) : FldAt := ⟨PRT_P_MAC1 p, 0, 16⟩

def PRT_P_IPA (p : Nat) : RegAt := ⟨0x7000014 + p * 0x1000, 0⟩
def PRT_P_IPA.IPA (p : Nat) : FldAt := ⟨PRT_P_IPA p, 0, 32⟩

def PRT_P_IPB (p : Nat) : RegAt := ⟨0x7000018 + p * 0x1000, 0⟩
def PRT_P_IPB.IPB (p : Nat) : FldAt := ⟨PRT_P_IPB p, 0, 32⟩

def PRT_P_MIRL (p : Nat) : RegAt := ⟨0x700001c + p * 0x1000, 0⟩
def PRT_P_MIRL.MASK (p : Nat) : FldAt := ⟨PRT_P_MIRL p, 0, 32⟩

def PRT_P_MIRH (p : Nat) : RegAt := ⟨0x7000020 + p * 0x1000, 0⟩
def PRT_P_MIRH.MASK (p : Nat) : FldAt := ⟨PRT_P_MIRH p, 0, 32⟩

def PRT_P_CNT0 (p : Nat) : RegAt := ⟨0x7000040 + p * 0x1000, 0⟩
def PRT_P_CNT0.RXFRM (p : Nat) : FldAt := ⟨PRT_P_CNT0 p, 0, 32⟩

def PRT_P_CNT1 (p : Nat) : RegAt := ⟨0x7000044 + p * 0x1000, 0⟩
def PRT_P_CNT1.TXFRM (p : Nat) : FldAt := ⟨PRT_P_CNT1 p, 0, 32⟩

def PRT_P_CNT2 (p : Nat) : RegAt := ⟨0x7000048 + p * 0x1000, 0⟩
def PRT_P_CNT2.RXERR (p : Nat) : FldAt := ⟨PRT_P_CNT2 p, 0, 16⟩
def PRT_P_CNT2.BADHDR (p : Nat) : FldAt := ⟨PRT_P_CNT2 p, 16, 16⟩

def PRT_P_CNT3 (p : Nat) : RegAt := ⟨0x700004c + p * 0x1000, 0⟩
def PRT_P_CNT3.NOROUTE (p : Nat) : FldAt := ⟨PRT_P_CNT3 p, 0, 16⟩
def PRT_P_CNT3.MISDIR (p : Nat) : FldAt := ⟨PRT_P_CNT3 p, 16, 16⟩

def PRT_P_CNT4 (p : Nat) : RegAt := ⟨0x7000050 + p * 0x1000, 0⟩
def PRT_P_CNT4.VERDROP (p : Nat) : FldAt := ⟨PRT_P_CNT4 p, 0, 16⟩
def PRT_P_CNT4.TXDROP (p : Nat) : FldAt := ⟨PRT_P_CNT4 p, 16, 16⟩

def PRT_P_CNT5 (p : Nat) : RegAt := ⟨0x7000054 + p * 0x1000, 0⟩
def PRT_P_CNT5.DOWNS (p : Nat) : FldAt := ⟨PRT_P_CNT5 p, 0, 8⟩
def PRT_P_CNT5.DISCARD (p : Nat) : FldAt := ⟨PRT_P_CNT5 p, 16, 16⟩

def PRT_P_MKA (p : Nat) : RegAt := ⟨0x7000080 + p * 0x1000, 0xff⟩
def PRT_P_MKA.PRIO (p : Nat) : FldAt := ⟨PRT_P_MKA p, 0, 8⟩
def PRT_P_MKA.CKNLEN (p : Nat) : FldAt := ⟨PRT_P_MKA p, 8, 8⟩
def PRT_P_MKA.REKEY (p : Nat) : FldAt := ⟨PRT_P_MKA p, 16, 16⟩

def PRT_P_REPLAYWIN (p : Nat) : RegAt := ⟨0x7000084 + p * 0x1000, 0⟩
def PRT_P_REPLAYWIN.WIN (p : Nat) : FldAt := ⟨PRT_P_REPLAYWIN p, 0, 32⟩

def PRT_P_CKN (p : Nat) (w : Nat) : RegAt := ⟨0x70000a0 + p * 0x1000 + w * 0x4, 0⟩
def PRT_P_CKN.CKN (p : Nat) (w : Nat) : FldAt := ⟨PRT_P_CKN p w, 0, 32⟩

def PRT_P_CAK (p : Nat) (w : Nat) : RegAt := ⟨0x70000c0 + p * 0x1000 + w * 0x4, 0⟩
def PRT_P_CAK.CAK (p : Nat) (w : Nat) : FldAt := ⟨PRT_P_CAK p w, 0, 32⟩

def PRT_P_SAK (p : Nat) (w : Nat) : RegAt := ⟨0x7000100 + p * 0x1000 + w * 0x4, 0⟩
def PRT_P_SAK.SAK (p : Nat) (w : Nat) : FldAt := ⟨PRT_P_SAK p w, 0, 32⟩

def PRT_P_SALT (p : Nat) (w : Nat) : RegAt := ⟨0x7000120 + p * 0x1000 + w * 0x4, 0⟩
def PRT_P_SALT.SALT (p : Nat) (w : Nat) : FldAt := ⟨PRT_P_SALT p w, 0, 32⟩

def PRT_P_SSCI (p : Nat) (w : Nat) : RegAt := ⟨0x700012c + p * 0x1000 + w * 0x4, 0⟩
def PRT_P_SSCI.SSCI (p : Nat) (w : Nat) : FldAt := ⟨PRT_P_SSCI p w, 0, 32⟩

def PRT_P_SCTL (p : Nat) : RegAt := ⟨0x7000134 + p * 0x1000, 0⟩
def PRT_P_SCTL.AN (p : Nat) : FldAt := ⟨PRT_P_SCTL p, 0, 2⟩
def PRT_P_SCTL.INSTALL (p : Nat) : FldAt := ⟨PRT_P_SCTL p, 2, 1⟩

def PRT_P_SECST (p : Nat) : RegAt := ⟨0x7000138 + p * 0x1000, 0⟩
def PRT_P_SECST.TXAN (p : Nat) : FldAt := ⟨PRT_P_SECST p, 0, 2⟩
def PRT_P_SECST.KEYSRV (p : Nat) : FldAt := ⟨PRT_P_SECST p, 2, 1⟩
def PRT_P_SECST.LIVE (p : Nat) : FldAt := ⟨PRT_P_SECST p, 3, 1⟩

def PRT_P_SECCNT0 (p : Nat) : RegAt := ⟨0x7000140 + p * 0x1000, 0⟩
def PRT_P_SECCNT0.NOTVALID (p : Nat) : FldAt := ⟨PRT_P_SECCNT0 p, 0, 16⟩
def PRT_P_SECCNT0.LATE (p : Nat) : FldAt := ⟨PRT_P_SECCNT0 p, 16, 16⟩

def PRT_P_SECCNT1 (p : Nat) : RegAt := ⟨0x7000144 + p * 0x1000, 0⟩
def PRT_P_SECCNT1.NOSA (p : Nat) : FldAt := ⟨PRT_P_SECCNT1 p, 0, 16⟩
def PRT_P_SECCNT1.UNTAGGED (p : Nat) : FldAt := ⟨PRT_P_SECCNT1 p, 16, 16⟩

def PRT_P_SECCNT2 (p : Nat) : RegAt := ⟨0x7000148 + p * 0x1000, 0⟩
def PRT_P_SECCNT2.OK (p : Nat) : FldAt := ⟨PRT_P_SECCNT2 p, 0, 32⟩

def PRT_VER : RegAt := ⟨0x7008000, 0x388b5⟩
def PRT_VER.ETYPE : FldAt := ⟨PRT_VER, 0, 16⟩
def PRT_VER.VMAX : FldAt := ⟨PRT_VER, 16, 4⟩

def PRT_UDP : RegAt := ⟨0x7008004, 0xb905⟩
def PRT_UDP.UDPPORT : FldAt := ⟨PRT_UDP, 0, 16⟩

def PRT_COMMIT : RegAt := ⟨0x7008010, 0⟩
def PRT_COMMIT.GO : FldAt := ⟨PRT_COMMIT, 0, 1⟩

def SAFV_STATE : RegAt := ⟨0x8000000, 0⟩
def SAFV_STATE.MODE : FldAt := ⟨SAFV_STATE, 0, 2⟩
def SAFV_STATE.CROSS : FldAt := ⟨SAFV_STATE, 2, 1⟩
def SAFV_STATE.KCLK : FldAt := ⟨SAFV_STATE, 3, 1⟩
def SAFV_STATE.SACK_STUCK : FldAt := ⟨SAFV_STATE, 4, 1⟩
def SAFV_STATE.SACK : FldAt := ⟨SAFV_STATE, 5, 1⟩
def SAFV_STATE.SEAL_OPEN : FldAt := ⟨SAFV_STATE, 6, 1⟩
def SAFV_STATE.PENDING : FldAt := ⟨SAFV_STATE, 7, 1⟩
def SAFV_STATE.LOCKOUT : FldAt := ⟨SAFV_STATE, 8, 1⟩
def SAFV_STATE.DISAGREE : FldAt := ⟨SAFV_STATE, 16, 16⟩

def SAFV_DIGEST (w : Nat) : RegAt := ⟨0x8000040 + w * 0x4, 0⟩
def SAFV_DIGEST.DIGEST (w : Nat) : FldAt := ⟨SAFV_DIGEST w, 0, 32⟩

def SAFV_SI (i : Nat) : RegAt := ⟨0x8000100 + i * 0x4, 0x1⟩
def SAFV_SI.STATE (i : Nat) : FldAt := ⟨SAFV_SI i, 0, 2⟩
def SAFV_SI.FCLASS (i : Nat) : FldAt := ⟨SAFV_SI i, 2, 2⟩
def SAFV_SI.SAFE_A (i : Nat) : FldAt := ⟨SAFV_SI i, 4, 1⟩
def SAFV_SI.SAFE_B (i : Nat) : FldAt := ⟨SAFV_SI i, 5, 1⟩
def SAFV_SI.EN (i : Nat) : FldAt := ⟨SAFV_SI i, 6, 1⟩
def SAFV_SI.DCNT (i : Nat) : FldAt := ⟨SAFV_SI i, 16, 13⟩

def SAFV_BK (n : Nat) : RegAt := ⟨0x8000200 + n * 0x8, 0x20⟩
def SAFV_BK.PERMIT_SP (n : Nat) : FldAt := ⟨SAFV_BK n, 0, 1⟩
def SAFV_BK.PERMIT_K (n : Nat) : FldAt := ⟨SAFV_BK n, 1, 1⟩
def SAFV_BK.REQ (n : Nat) : FldAt := ⟨SAFV_BK n, 2, 1⟩
def SAFV_BK.HS (n : Nat) : FldAt := ⟨SAFV_BK n, 3, 1⟩
def SAFV_BK.LS (n : Nat) : FldAt := ⟨SAFV_BK n, 4, 1⟩
def SAFV_BK.APPLIED (n : Nat) : FldAt := ⟨SAFV_BK n, 5, 1⟩
def SAFV_BK.FAULT (n : Nat) : FldAt := ⟨SAFV_BK n, 6, 4⟩
def SAFV_BK.TEST (n : Nat) : FldAt := ⟨SAFV_BK n, 10, 4⟩
def SAFV_BK.TESTING (n : Nat) : FldAt := ⟨SAFV_BK n, 14, 1⟩
def SAFV_BK.TORQUE_REQ (n : Nat) : FldAt := ⟨SAFV_BK n, 15, 1⟩
def SAFV_BK.HOURS (n : Nat) : FldAt := ⟨SAFV_BK n, 16, 16⟩

def SAFV_BKM (n : Nat) : RegAt := ⟨0x8000204 + n * 0x8, 0⟩
def SAFV_BKM.SBV (n : Nat) : FldAt := ⟨SAFV_BKM n, 0, 16⟩
def SAFV_BKM.SBI (n : Nat) : FldAt := ⟨SAFV_BKM n, 16, 16⟩

def SAFV_CNT : RegAt := ⟨0x8000400, 0⟩
def SAFV_CNT.SWPASS : FldAt := ⟨SAFV_CNT, 0, 16⟩
def SAFV_CNT.SWFAIL : FldAt := ⟨SAFV_CNT, 16, 16⟩

def SAFV_LOG : RegAt := ⟨0x8000404, 0⟩
def SAFV_LOG.ENTRIES : FldAt := ⟨SAFV_LOG, 0, 13⟩
def SAFV_LOG.PWFAIL : FldAt := ⟨SAFV_LOG, 16, 16⟩

def SAFV_ZCERR : RegAt := ⟨0x8000408, 0⟩
def SAFV_ZCERR.BADLEN : FldAt := ⟨SAFV_ZCERR, 0, 16⟩
def SAFV_ZCERR.NOCONN : FldAt := ⟨SAFV_ZCERR, 16, 16⟩

def SAFV_ZC_ST (c : Nat) : RegAt := ⟨0x8000300 + c * 0x20, 0⟩
def SAFV_ZC_ST.STATE (c : Nat) : FldAt := ⟨SAFV_ZC_ST c, 0, 2⟩
def SAFV_ZC_ST.INC_CUR (c : Nat) : FldAt := ⟨SAFV_ZC_ST c, 16, 16⟩

def SAFV_ZC_SEQ (c : Nat) : RegAt := ⟨0x8000304 + c * 0x20, 0⟩
def SAFV_ZC_SEQ.SEQRX (c : Nat) : FldAt := ⟨SAFV_ZC_SEQ c, 0, 16⟩
def SAFV_ZC_SEQ.SEQTX (c : Nat) : FldAt := ⟨SAFV_ZC_SEQ c, 16, 16⟩

def SAFV_ZC_INC (c : Nat) : RegAt := ⟨0x8000308 + c * 0x20, 0xff0000⟩
def SAFV_ZC_INC.INCTX (c : Nat) : FldAt := ⟨SAFV_ZC_INC c, 0, 16⟩
def SAFV_ZC_INC.STOPMASK (c : Nat) : FldAt := ⟨SAFV_ZC_INC c, 16, 8⟩

def SAFV_ZC_C0 (c : Nat) : RegAt := ⟨0x800030c + c * 0x20, 0⟩
def SAFV_ZC_C0.CRCERR (c : Nat) : FldAt := ⟨SAFV_ZC_C0 c, 0, 16⟩
def SAFV_ZC_C0.OLDINC (c : Nat) : FldAt := ⟨SAFV_ZC_C0 c, 16, 16⟩

def SAFV_ZC_C1 (c : Nat) : RegAt := ⟨0x8000310 + c * 0x20, 0⟩
def SAFV_ZC_C1.SEQERR (c : Nat) : FldAt := ⟨SAFV_ZC_C1 c, 0, 16⟩
def SAFV_ZC_C1.DUP (c : Nat) : FldAt := ⟨SAFV_ZC_C1 c, 16, 16⟩

def SAFV_ZC_C2 (c : Nat) : RegAt := ⟨0x8000314 + c * 0x20, 0⟩
def SAFV_ZC_C2.WDFAIL (c : Nat) : FldAt := ⟨SAFV_ZC_C2 c, 0, 16⟩
def SAFV_ZC_C2.PAYERR (c : Nat) : FldAt := ⟨SAFV_ZC_C2 c, 16, 16⟩

def PAR_STAT : RegAt := ⟨0x9000000, 0⟩
def PAR_STAT.FOLLOW : FldAt := ⟨PAR_STAT, 0, 1⟩
def PAR_STAT.STATE : FldAt := ⟨PAR_STAT, 1, 2⟩
def PAR_STAT.LANES : FldAt := ⟨PAR_STAT, 3, 2⟩
def PAR_STAT.SWAPPING : FldAt := ⟨PAR_STAT, 5, 1⟩
def PAR_STAT.COPYAGE : FldAt := ⟨PAR_STAT, 16, 16⟩

def PAR_CFG : RegAt := ⟨0x9000004, 0⟩
def PAR_CFG.DTOL : FldAt := ⟨PAR_CFG, 0, 16⟩

def PAR_SWAP : RegAt := ⟨0x9000008, 0⟩
def PAR_SWAP.KEY : FldAt := ⟨PAR_SWAP, 0, 16⟩
def PAR_SWAP.GO : FldAt := ⟨PAR_SWAP, 16, 1⟩
def PAR_SWAP.IMAGE : FldAt := ⟨PAR_SWAP, 17, 1⟩

def PAR_SWAPST : RegAt := ⟨0x900000c, 0⟩
def PAR_SWAPST.RESULT : FldAt := ⟨PAR_SWAPST, 0, 3⟩
def PAR_SWAPST.STEP : FldAt := ⟨PAR_SWAPST, 3, 3⟩

def PAR_CNT0 : RegAt := ⟨0x9000010, 0⟩
def PAR_CNT0.TAKEOVERS : FldAt := ⟨PAR_CNT0, 0, 8⟩
def PAR_CNT0.SPLITS : FldAt := ⟨PAR_CNT0, 8, 8⟩
def PAR_CNT0.DIGFAIL : FldAt := ⟨PAR_CNT0, 16, 16⟩

def PAR_CNT1 : RegAt := ⟨0x9000014, 0⟩
def PAR_CNT1.COPYINC : FldAt := ⟨PAR_CNT1, 0, 16⟩
def PAR_CNT1.LANEDOWN : FldAt := ⟨PAR_CNT1, 16, 8⟩
def PAR_CNT1.SSNALIGN : FldAt := ⟨PAR_CNT1, 24, 8⟩

def PAR_LAST : RegAt := ⟨0x9000018, 0⟩
def PAR_LAST.CAUSE : FldAt := ⟨PAR_LAST, 0, 3⟩

def PAR_COMMIT : RegAt := ⟨0x900001c, 0⟩
def PAR_COMMIT.GO : FldAt := ⟨PAR_COMMIT, 0, 1⟩

def SEC_UNITIDL : RegAt := ⟨0xa000000, 0⟩
def SEC_UNITIDL.UNIT_ID : FldAt := ⟨SEC_UNITIDL, 0, 32⟩

def SEC_UNITIDH : RegAt := ⟨0xa000004, 0⟩
def SEC_UNITIDH.UNIT_ID : FldAt := ⟨SEC_UNITIDH, 0, 32⟩

def SEC_HWTYPE : RegAt := ⟨0xa000008, 0x53840100⟩
def SEC_HWTYPE.HWTYPE : FldAt := ⟨SEC_HWTYPE, 0, 32⟩

def SEC_ARB : RegAt := ⟨0xa00000c, 0⟩
def SEC_ARB.COUNT : FldAt := ⟨SEC_ARB, 0, 7⟩

def SEC_OWNST : RegAt := ⟨0xa000010, 0⟩
def SEC_OWNST.ENROLLED : FldAt := ⟨SEC_OWNST, 0, 4⟩
def SEC_OWNST.REVOKED : FldAt := ⟨SEC_OWNST, 4, 4⟩
def SEC_OWNST.OWNER_FW : FldAt := ⟨SEC_OWNST, 8, 1⟩
def SEC_OWNST.VENDOR : FldAt := ⟨SEC_OWNST, 9, 1⟩

def SEC_BOOTST : RegAt := ⟨0xa000014, 0⟩
def SEC_BOOTST.COPY : FldAt := ⟨SEC_BOOTST, 0, 1⟩
def SEC_BOOTST.OTHER_BAD : FldAt := ⟨SEC_BOOTST, 1, 1⟩
def SEC_BOOTST.ACTIVATED : FldAt := ⟨SEC_BOOTST, 2, 1⟩
def SEC_BOOTST.RESTORED : FldAt := ⟨SEC_BOOTST, 3, 1⟩
def SEC_BOOTST.RECOVERY : FldAt := ⟨SEC_BOOTST, 4, 1⟩
def SEC_BOOTST.TRIAL : FldAt := ⟨SEC_BOOTST, 5, 1⟩

def SEC_OWNH (k : Nat) (w : Nat) : RegAt := ⟨0xa000020 + k * 0x30 + w * 0x4, 0⟩
def SEC_OWNH.HASH (k : Nat) (w : Nat) : FldAt := ⟨SEC_OWNH k w, 0, 32⟩

def SEC_DM (k : Nat) (w : Nat) : RegAt := ⟨0xa000100 + k * 0x40 + w * 0x4, 0⟩
def SEC_DM.DM (k : Nat) (w : Nat) : FldAt := ⟨SEC_DM k w, 0, 32⟩

def SEC_DMEXT (w : Nat) : RegAt := ⟨0xa000400 + w * 0x4, 0⟩
def SEC_DMEXT.VALUE (w : Nat) : FldAt := ⟨SEC_DMEXT w, 0, 32⟩

def SEC_DMCTL : RegAt := ⟨0xa000430, 0⟩
def SEC_DMCTL.REG : FldAt := ⟨SEC_DMCTL, 0, 3⟩
def SEC_DMCTL.GO : FldAt := ⟨SEC_DMCTL, 3, 1⟩
def SEC_DMCTL.LOCK : FldAt := ⟨SEC_DMCTL, 4, 1⟩
def SEC_DMCTL.LOCKED : FldAt := ⟨SEC_DMCTL, 5, 1⟩

def SEC_IDPUB (w : Nat) : RegAt := ⟨0xa000500 + w * 0x4, 0⟩
def SEC_IDPUB.KEY (w : Nat) : FldAt := ⟨SEC_IDPUB w, 0, 32⟩

def SEC_NONCE (w : Nat) : RegAt := ⟨0xa000580 + w * 0x4, 0⟩
def SEC_NONCE.NONCE (w : Nat) : FldAt := ⟨SEC_NONCE w, 0, 32⟩

def SEC_REQ (w : Nat) : RegAt := ⟨0xa000600 + w * 0x4, 0⟩
def SEC_REQ.REQ (w : Nat) : FldAt := ⟨SEC_REQ w, 0, 32⟩

def SEC_CMD : RegAt := ⟨0xa000800, 0⟩
def SEC_CMD.OP : FldAt := ⟨SEC_CMD, 0, 4⟩
def SEC_CMD.SLOT : FldAt := ⟨SEC_CMD, 4, 2⟩
def SEC_CMD.GO : FldAt := ⟨SEC_CMD, 6, 1⟩

def SEC_ST : RegAt := ⟨0xa000804, 0⟩
def SEC_ST.BUSY : FldAt := ⟨SEC_ST, 0, 1⟩
def SEC_ST.CODE : FldAt := ⟨SEC_ST, 1, 4⟩

def SEC_RSP (w : Nat) : RegAt := ⟨0xa000a00 + w * 0x4, 0⟩
def SEC_RSP.RSP (w : Nat) : FldAt := ⟨SEC_RSP w, 0, 32⟩

def UPD_STAT : RegAt := ⟨0xb000000, 0⟩
def UPD_STAT.SESSION : FldAt := ⟨UPD_STAT, 0, 3⟩
def UPD_STAT.CONFLICT : FldAt := ⟨UPD_STAT, 3, 1⟩
def UPD_STAT.CONFEXP : FldAt := ⟨UPD_STAT, 4, 1⟩
def UPD_STAT.HELD : FldAt := ⟨UPD_STAT, 16, 9⟩

def UPD_IMG : RegAt := ⟨0xb000004, 0⟩
def UPD_IMG.IMGID : FldAt := ⟨UPD_IMG, 0, 32⟩

def UPD_SVER : RegAt := ⟨0xb000008, 0⟩
def UPD_SVER.VERSION : FldAt := ⟨UPD_SVER, 0, 32⟩

def UPD_SBUILD : RegAt := ⟨0xb00000c, 0⟩
def UPD_SBUILD.BUILD : FldAt := ⟨UPD_SBUILD, 0, 32⟩

def UPD_AVER : RegAt := ⟨0xb000010, 0⟩
def UPD_AVER.VERSION : FldAt := ⟨UPD_AVER, 0, 32⟩

def UPD_ABUILD : RegAt := ⟨0xb000014, 0⟩
def UPD_ABUILD.BUILD : FldAt := ⟨UPD_ABUILD, 0, 32⟩

def UPD_CONFTMR : RegAt := ⟨0xb000018, 0⟩
def UPD_CONFTMR.WINDOW : FldAt := ⟨UPD_CONFTMR, 0, 12⟩
def UPD_CONFTMR.REMAIN : FldAt := ⟨UPD_CONFTMR, 16, 12⟩

def UPD_CTL : RegAt := ⟨0xb000020, 0⟩
def UPD_CTL.KEY : FldAt := ⟨UPD_CTL, 0, 16⟩
def UPD_CTL.ACTIVATE : FldAt := ⟨UPD_CTL, 16, 1⟩
def UPD_CTL.CONFIRM : FldAt := ⟨UPD_CTL, 17, 1⟩
def UPD_CTL.ROLLBACK : FldAt := ⟨UPD_CTL, 18, 1⟩
def UPD_CTL.ABORT : FldAt := ⟨UPD_CTL, 19, 1⟩
def UPD_CTL.CLRCONF : FldAt := ⟨UPD_CTL, 20, 1⟩

def UPD_CFG : RegAt := ⟨0xb000024, 0x14⟩
def UPD_CFG.UPDRATE : FldAt := ⟨UPD_CFG, 0, 8⟩

def UPD_CNT0 : RegAt := ⟨0xb000030, 0⟩
def UPD_CNT0.BADBLK : FldAt := ⟨UPD_CNT0, 0, 16⟩
def UPD_CNT0.BADMAN : FldAt := ⟨UPD_CNT0, 16, 16⟩

def UPD_CNT1 : RegAt := ⟨0xb000034, 0⟩
def UPD_CNT1.SERVED : FldAt := ⟨UPD_CNT1, 0, 16⟩
def UPD_CNT1.REFUSED : FldAt := ⟨UPD_CNT1, 16, 16⟩

def UPD_CNT2 : RegAt := ⟨0xb000038, 0⟩
def UPD_CNT2.SUPERSEDED : FldAt := ⟨UPD_CNT2, 0, 8⟩
def UPD_CNT2.CONFLICTS : FldAt := ⟨UPD_CNT2, 8, 8⟩
def UPD_CNT2.RETRIES : FldAt := ⟨UPD_CNT2, 16, 16⟩

def UPD_RCVADDR : RegAt := ⟨0xb000040, 0⟩
def UPD_RCVADDR.ADDR : FldAt := ⟨UPD_RCVADDR, 0, 32⟩

def UPD_RCVCTL : RegAt := ⟨0xb000044, 0⟩
def UPD_RCVCTL.ERASE : FldAt := ⟨UPD_RCVCTL, 0, 1⟩
def UPD_RCVCTL.PROGRAM : FldAt := ⟨UPD_RCVCTL, 1, 1⟩
def UPD_RCVCTL.BUSY : FldAt := ⟨UPD_RCVCTL, 2, 1⟩
def UPD_RCVCTL.FAIL : FldAt := ⟨UPD_RCVCTL, 3, 1⟩

def UPD_RCVDATA (w : Nat) : RegAt := ⟨0xb000100 + w * 0x4, 0⟩
def UPD_RCVDATA.DATA (w : Nat) : FldAt := ⟨UPD_RCVDATA w, 0, 32⟩

def LOG_ENTRY (s : Nat) (w : Nat) : RegAt := ⟨0xc000000 + s * 0x20 + w * 0x4, 0⟩
def LOG_ENTRY.WORDS (s : Nat) (w : Nat) : FldAt := ⟨LOG_ENTRY s w, 0, 32⟩

def LOG_HEAD : RegAt := ⟨0xc040000, 0⟩
def LOG_HEAD.SEQ : FldAt := ⟨LOG_HEAD, 0, 32⟩

def LOG_RDSEQ : RegAt := ⟨0xc040004, 0⟩
def LOG_RDSEQ.SEQ : FldAt := ⟨LOG_RDSEQ, 0, 32⟩

def LOG_CFG : RegAt := ⟨0xc040008, 0x8⟩
def LOG_CFG.MINSEV : FldAt := ⟨LOG_CFG, 0, 2⟩
def LOG_CFG.HINTSEV : FldAt := ⟨LOG_CFG, 2, 2⟩
def LOG_CFG.PUSHSEV : FldAt := ⟨LOG_CFG, 4, 3⟩

def LOG_CNT : RegAt := ⟨0xc04000c, 0⟩
def LOG_CNT.LOST : FldAt := ⟨LOG_CNT, 0, 16⟩
def LOG_CNT.FILTERED : FldAt := ⟨LOG_CNT, 16, 16⟩

def MON_CFG (u : Nat) : RegAt := ⟨0xc100000 + u * 0x200, 0⟩
def MON_CFG.QTY (u : Nat) : FldAt := ⟨MON_CFG u, 0, 4⟩
def MON_CFG.INDEX (u : Nat) : FldAt := ⟨MON_CFG u, 4, 9⟩
def MON_CFG.BW (u : Nat) : FldAt := ⟨MON_CFG u, 13, 5⟩
def MON_CFG.HIEN (u : Nat) : FldAt := ⟨MON_CFG u, 18, 1⟩
def MON_CFG.LOEN (u : Nat) : FldAt := ⟨MON_CFG u, 19, 1⟩

def MON_INT (u : Nat) : RegAt := ⟨0xc100004 + u * 0x200, 0⟩
def MON_INT.INTERVAL (u : Nat) : FldAt := ⟨MON_INT u, 0, 16⟩
def MON_INT.EPOCH (u : Nat) : FldAt := ⟨MON_INT u, 16, 16⟩

def MON_LO (u : Nat) : RegAt := ⟨0xc100008 + u * 0x200, 0⟩
def MON_LO.LO (u : Nat) : FldAt := ⟨MON_LO u, 0, 32⟩

def MON_HI (u : Nat) : RegAt := ⟨0xc10000c + u * 0x200, 0⟩
def MON_HI.HI (u : Nat) : FldAt := ⟨MON_HI u, 0, 32⟩

def MON_LOLIM (u : Nat) : RegAt := ⟨0xc100010 + u * 0x200, 0⟩
def MON_LOLIM.LO_LIM (u : Nat) : FldAt := ⟨MON_LOLIM u, 0, 32⟩

def MON_COUNT (u : Nat) : RegAt := ⟨0xc100020 + u * 0x200, 0⟩
def MON_COUNT.COUNT (u : Nat) : FldAt := ⟨MON_COUNT u, 0, 32⟩

def MON_MIN (u : Nat) : RegAt := ⟨0xc100024 + u * 0x200, 0⟩
def MON_MIN.MIN (u : Nat) : FldAt := ⟨MON_MIN u, 0, 32⟩

def MON_MAX (u : Nat) : RegAt := ⟨0xc100028 + u * 0x200, 0⟩
def MON_MAX.MAX (u : Nat) : FldAt := ⟨MON_MAX u, 0, 32⟩

def MON_SUML (u : Nat) : RegAt := ⟨0xc10002c + u * 0x200, 0⟩
def MON_SUML.SUM (u : Nat) : FldAt := ⟨MON_SUML u, 0, 32⟩

def MON_SUMH (u : Nat) : RegAt := ⟨0xc100030 + u * 0x200, 0⟩
def MON_SUMH.SUM (u : Nat) : FldAt := ⟨MON_SUMH u, 0, 32⟩

def MON_MEAN (u : Nat) : RegAt := ⟨0xc100034 + u * 0x200, 0⟩
def MON_MEAN.MEAN (u : Nat) : FldAt := ⟨MON_MEAN u, 0, 32⟩

def MON_BIN (u : Nat) (b : Nat) : RegAt := ⟨0xc100100 + u * 0x200 + b * 0x4, 0⟩
def MON_BIN.BIN (u : Nat) (b : Nat) : FldAt := ⟨MON_BIN u b, 0, 32⟩

def RES_LO (n : Nat) : RegAt := ⟨0x10000000 + n * 0x8, 0x80⟩
def RES_LO.WORD (n : Nat) : FldAt := ⟨RES_LO n, 0, 32⟩

def RES_HI (n : Nat) : RegAt := ⟨0x10000004 + n * 0x8, 0⟩
def RES_HI.TIME (n : Nat) : FldAt := ⟨RES_HI n, 0, 31⟩
def RES_HI.SNAP (n : Nat) : FldAt := ⟨RES_HI n, 31, 1⟩

end Sys2Proof.R
end

