-- ==== Sys2Proof/Machine/RegMap.lean ====
section
/-! DEFINITION. The register map as data: every register with its address pattern, its block and its fields with
their types (Table 0.3), resets and ranges (R6, R415), and the search for the register that holds an address. -/

namespace Sys2Proof.Machine

/-- The field types of Table 0.3. -/
inductive FldTy where
  | ro | rw | rws | w1c | wo | roc
  deriving DecidableEq, Repr

/-- A field as its register table gives it; `range` lists the accepted values as closed intervals, none for all. -/
structure FldInfo where
  lo : Nat
  w : Nat
  ty : FldTy
  reset : Nat := 0
  range : List (Nat × Nat) := []
  deriving DecidableEq, Repr

/-- The blocks of Table 15.12 that hold registers. -/
inductive Blk where
  | sys | prot | tile | iot | cal | flt | tim | que | cmp | prt | safv | par | sec | upd | log | mon | res
  deriving DecidableEq, Repr

/-- A register of the map: its number in the map, its block, the address of its first copy, its dimensions (how many
and how far apart) and its fields. -/
structure RegInfo where
  id : Nat
  blk : Blk
  base : Nat
  dims : List (Nat × Nat)
  fields : List FldInfo
  deriving DecidableEq, Repr

def regsSYS0 : List RegInfo := [
  ⟨0, .sys, 0x0, [],
    [⟨0, 32, .ro, 0x53840100, []⟩]⟩,
  ⟨1, .sys, 0x4, [],
    [⟨0, 32, .ro, 0x15384a3f, []⟩]⟩,
  ⟨2, .sys, 0x8, [],
    [⟨0, 32, .ro, 0, []⟩]⟩,
  ⟨3, .sys, 0xc, [],
    [⟨0, 32, .ro, 0, []⟩]⟩,
  ⟨4, .sys, 0x10, [],
    [⟨0, 32, .ro, 0, []⟩]⟩,
  ⟨5, .sys, 0x14, [],
    [⟨0, 32, .ro, 0, []⟩]⟩,
  ⟨6, .sys, 0x18, [],
    [⟨0, 32, .ro, 0, []⟩]⟩,
  ⟨7, .sys, 0x100, [],
    [⟨0, 8, .ro, 0, []⟩, ⟨8, 10, .ro, 0, []⟩, ⟨18, 4, .ro, 0, []⟩]⟩,
  ⟨8, .sys, 0x104, [],
    [⟨0, 8, .ro, 0, []⟩, ⟨8, 8, .ro, 0, []⟩, ⟨16, 1, .ro, 0, []⟩, ⟨17, 1, .ro, 0, []⟩, ⟨18, 1, .ro, 0, []⟩, ⟨19, 1, .ro, 0, []⟩]⟩,
  ⟨9, .sys, 0x108, [],
    [⟨0, 16, .roc, 0, []⟩, ⟨16, 16, .roc, 0, []⟩]⟩,
  ⟨10, .sys, 0x200, [],
    [⟨0, 1, .w1c, 0, []⟩, ⟨1, 1, .w1c, 0, []⟩, ⟨2, 1, .w1c, 0, []⟩, ⟨3, 1, .w1c, 0, []⟩, ⟨4, 1, .w1c, 0, []⟩, ⟨5, 1, .w1c, 0, []⟩, ⟨6, 1, .w1c, 0, []⟩, ⟨7, 1, .w1c, 0, []⟩]⟩,
  ⟨11, .sys, 0x204, [],
    [⟨0, 16, .wo, 0, []⟩, ⟨16, 1, .wo, 0, []⟩]⟩]

def regsSYS1 : List RegInfo := [
  ⟨12, .sys, 0x208, [],
    [⟨0, 1, .ro, 1, []⟩, ⟨1, 1, .ro, 1, []⟩, ⟨2, 1, .ro, 1, []⟩, ⟨3, 1, .ro, 0, []⟩, ⟨4, 1, .ro, 0, []⟩, ⟨5, 1, .ro, 0, []⟩, ⟨6, 1, .ro, 0, []⟩, ⟨7, 1, .ro, 0, []⟩, ⟨16, 8, .roc, 0, []⟩]⟩,
  ⟨13, .sys, 0x20c, [],
    [⟨0, 1, .ro, 0, []⟩, ⟨1, 1, .ro, 0, []⟩, ⟨4, 4, .ro, 0, []⟩, ⟨8, 1, .ro, 0, []⟩, ⟨9, 1, .ro, 0, []⟩, ⟨10, 1, .ro, 1, []⟩]⟩,
  ⟨14, .sys, 0x210, [],
    [⟨0, 16, .roc, 0, []⟩, ⟨16, 16, .roc, 0, []⟩]⟩,
  ⟨15, .sys, 0x300, [],
    [⟨0, 31, .rw, 0, []⟩]⟩,
  ⟨16, .sys, 0x304, [],
    [⟨0, 21, .rw, 0, [(0, 0), (64, 1048576)]⟩]⟩,
  ⟨17, .sys, 0x308, [],
    [⟨0, 16, .wo, 0, []⟩, ⟨16, 1, .wo, 0, []⟩, ⟨17, 1, .wo, 0, []⟩, ⟨18, 1, .wo, 0, []⟩]⟩,
  ⟨18, .sys, 0x30c, [],
    [⟨0, 2, .ro, 0, []⟩, ⟨2, 4, .ro, 0, []⟩, ⟨6, 2, .ro, 0, []⟩, ⟨8, 1, .ro, 0, []⟩, ⟨9, 1, .ro, 0, []⟩, ⟨10, 1, .ro, 0, []⟩, ⟨11, 1, .w1c, 0, []⟩]⟩,
  ⟨19, .sys, 0x310, [],
    [⟨0, 8, .ro, 0, []⟩, ⟨8, 8, .ro, 0, []⟩]⟩,
  ⟨20, .sys, 0x314, [],
    [⟨0, 32, .ro, 0, []⟩]⟩,
  ⟨21, .sys, 0x318, [],
    [⟨0, 32, .ro, 0, []⟩]⟩,
  ⟨22, .sys, 0x31c, [],
    [⟨0, 16, .roc, 0, []⟩, ⟨16, 16, .roc, 0, []⟩]⟩,
  ⟨23, .sys, 0x320, [],
    [⟨0, 4, .wo, 0, []⟩, ⟨4, 4, .wo, 0, []⟩]⟩]

def regsSYS2 : List RegInfo := [
  ⟨24, .sys, 0x340, [(12, 0x4)],
    [⟨0, 32, .ro, 0, []⟩]⟩,
  ⟨25, .sys, 0x380, [(12, 0x4)],
    [⟨0, 32, .ro, 0, []⟩]⟩,
  ⟨26, .sys, 0x400, [],
    [⟨0, 16, .roc, 0, []⟩, ⟨16, 8, .roc, 0, []⟩, ⟨24, 8, .roc, 0, []⟩]⟩,
  ⟨27, .sys, 0x404, [],
    [⟨0, 16, .roc, 0, []⟩, ⟨16, 16, .roc, 0, []⟩]⟩,
  ⟨28, .sys, 0x408, [],
    [⟨13, 19, .rw, 0, []⟩]⟩,
  ⟨29, .sys, 0x420, [],
    [⟨0, 8, .w1c, 0, []⟩]⟩,
  ⟨30, .sys, 0x424, [],
    [⟨0, 8, .rw, 0, []⟩]⟩,
  ⟨31, .sys, 0x440, [(4, 0x8)],
    [⟨0, 16, .roc, 0, []⟩, ⟨16, 16, .roc, 0, []⟩]⟩,
  ⟨32, .sys, 0x444, [(4, 0x8)],
    [⟨0, 16, .roc, 0, []⟩]⟩,
  ⟨33, .sys, 0x500, [],
    [⟨0, 32, .ro, 0, []⟩]⟩,
  ⟨34, .sys, 0x540, [(4, 0x20), (8, 0x4)],
    [⟨0, 32, .wo, 0, []⟩]⟩,
  ⟨35, .sys, 0x5c0, [],
    [⟨0, 16, .roc, 0, []⟩, ⟨16, 16, .roc, 0, []⟩]⟩]

def regsSYS3 : List RegInfo := [
  ⟨36, .sys, 0x5d0, [(4, 0x4)],
    [⟨0, 32, .ro, 0, []⟩]⟩,
  ⟨37, .sys, 0x800, [(32, 0x4)],
    [⟨0, 32, .rw, 0, []⟩]⟩,
  ⟨38, .sys, 0x880, [],
    [⟨0, 1, .wo, 0, []⟩]⟩,
  ⟨39, .sys, 0x884, [],
    [⟨0, 1, .ro, 0, []⟩, ⟨1, 4, .ro, 0, []⟩]⟩,
  ⟨40, .sys, 0x900, [(64, 0x4)],
    [⟨0, 32, .ro, 0, []⟩]⟩,
  ⟨41, .sys, 0xa00, [(16, 0x4)],
    [⟨0, 32, .rw, 0, []⟩]⟩]

/-- The registers of block SYS. -/
def regsSYS : List RegInfo := regsSYS0 ++ regsSYS1 ++ regsSYS2 ++ regsSYS3

def regsPROT0 : List RegInfo := [
  ⟨42, .prot, 0x100000, [(32, 0x10)],
    [⟨0, 24, .rw, 0, []⟩]⟩,
  ⟨43, .prot, 0x100004, [(32, 0x10)],
    [⟨0, 24, .rw, 0, []⟩, ⟨31, 1, .rw, 0, []⟩]⟩,
  ⟨44, .prot, 0x100008, [(32, 0x10)],
    [⟨0, 20, .rw, 0, []⟩]⟩,
  ⟨45, .prot, 0x100200, [(9, 0x4)],
    [⟨0, 16, .roc, 0, []⟩]⟩,
  ⟨46, .prot, 0x100240, [],
    [⟨0, 32, .ro, 0, []⟩]⟩,
  ⟨47, .prot, 0x100244, [],
    [⟨0, 4, .ro, 0, []⟩]⟩]

/-- The registers of block PROT. -/
def regsPROT : List RegInfo := regsPROT0

def regsTILE0 : List RegInfo := [
  ⟨48, .tile, 0x1001000, [(4, 0x40000), (512, 0x8)],
    [⟨0, 7, .rws, 0, []⟩, ⟨8, 8, .rws, 0, []⟩, ⟨16, 16, .rws, 0, []⟩]⟩,
  ⟨49, .tile, 0x1001004, [(4, 0x40000), (512, 0x8)],
    [⟨0, 13, .rws, 0, []⟩, ⟨16, 12, .rws, 0, []⟩]⟩,
  ⟨50, .tile, 0x1000000, [(4, 0x40000), (96, 0x4)],
    [⟨0, 3, .rws, 0, []⟩, ⟨3, 3, .rws, 0, []⟩, ⟨6, 4, .rws, 0, []⟩, ⟨10, 2, .rws, 0, []⟩, ⟨12, 1, .rws, 0, []⟩, ⟨13, 1, .rws, 0, []⟩, ⟨14, 2, .rws, 0, []⟩]⟩,
  ⟨51, .tile, 0x1000200, [(4, 0x40000), (24, 0x4)],
    [⟨0, 2, .rws, 0, []⟩, ⟨2, 4, .rws, 0, []⟩, ⟨6, 8, .rws, 0, []⟩, ⟨14, 8, .rws, 0, []⟩]⟩,
  ⟨52, .tile, 0x1000280, [(4, 0x40000), (24, 0x4)],
    [⟨0, 16, .rws, 0, []⟩, ⟨16, 16, .rws, 0, []⟩]⟩,
  ⟨53, .tile, 0x1000400, [(4, 0x40000)],
    [⟨0, 16, .rws, 0, []⟩]⟩,
  ⟨54, .tile, 0x1000404, [(4, 0x40000)],
    [⟨0, 4, .rws, 0, []⟩, ⟨16, 16, .rws, 0, []⟩]⟩,
  ⟨55, .tile, 0x1000408, [(4, 0x40000)],
    [⟨0, 16, .roc, 0, []⟩, ⟨16, 16, .roc, 0, []⟩]⟩,
  ⟨56, .tile, 0x100040c, [(4, 0x40000)],
    [⟨0, 16, .roc, 0, []⟩, ⟨16, 16, .roc, 0, []⟩]⟩,
  ⟨57, .tile, 0x1000500, [(4, 0x40000), (24, 0x4)],
    [⟨0, 4, .ro, 0, []⟩, ⟨4, 1, .ro, 0, []⟩, ⟨5, 1, .w1c, 0, []⟩]⟩,
  ⟨58, .tile, 0x1000600, [(4, 0x40000), (96, 0x4)],
    [⟨0, 4, .ro, 0, []⟩, ⟨5, 1, .w1c, 0, []⟩, ⟨6, 1, .ro, 0, []⟩]⟩,
  ⟨59, .tile, 0x1000a00, [(4, 0x40000)],
    [⟨0, 32, .rws, 0, []⟩]⟩]

def regsTILE1 : List RegInfo := [
  ⟨60, .tile, 0x1000a04, [(4, 0x40000)],
    [⟨0, 1, .rws, 0, []⟩]⟩,
  ⟨61, .tile, 0x1000a08, [(4, 0x40000)],
    [⟨0, 3, .rws, 0, []⟩]⟩,
  ⟨62, .tile, 0x1000a0c, [(4, 0x40000)],
    [⟨0, 16, .roc, 0, []⟩, ⟨16, 16, .roc, 0, []⟩]⟩,
  ⟨63, .tile, 0x1000a10, [(4, 0x40000)],
    [⟨0, 32, .ro, 0, []⟩]⟩,
  ⟨64, .tile, 0x1000a14, [(4, 0x40000)],
    [⟨0, 16, .ro, 0, []⟩, ⟨16, 9, .ro, 0, []⟩]⟩,
  ⟨65, .tile, 0x1000a18, [(4, 0x40000)],
    [⟨0, 1, .rw, 0, []⟩]⟩,
  ⟨66, .tile, 0x1000a20, [(4, 0x40000), (8, 0x4)],
    [⟨0, 32, .roc, 0, []⟩]⟩,
  ⟨67, .tile, 0x1000a40, [(4, 0x40000)],
    [⟨0, 16, .rws, 0, []⟩]⟩,
  ⟨68, .tile, 0x1000a44, [(4, 0x40000)],
    [⟨0, 2, .ro, 3, []⟩, ⟨2, 1, .w1c, 0, []⟩]⟩,
  ⟨69, .tile, 0x1000a48, [(4, 0x40000)],
    [⟨8, 24, .ro, 0, []⟩]⟩,
  ⟨70, .tile, 0x1000a4c, [(4, 0x40000)],
    [⟨0, 16, .roc, 0, []⟩, ⟨16, 16, .roc, 0, []⟩]⟩,
  ⟨71, .tile, 0x1000a60, [(4, 0x40000), (4, 0x4)],
    [⟨8, 24, .ro, 0, []⟩]⟩]

/-- The registers of block TILE. -/
def regsTILE : List RegInfo := regsTILE0 ++ regsTILE1

def regsIOT0 : List RegInfo := [
  ⟨72, .iot, 0x1100000, [(128, 0x4)],
    [⟨0, 1, .rws, 0, []⟩, ⟨1, 4, .rws, 0, []⟩, ⟨5, 1, .rws, 0, []⟩, ⟨6, 1, .rws, 0, []⟩, ⟨7, 1, .rws, 0, []⟩, ⟨8, 2, .rws, 0, []⟩, ⟨10, 3, .rws, 0, []⟩]⟩,
  ⟨73, .iot, 0x1100200, [(128, 0x4)],
    [⟨0, 20, .rws, 0, []⟩, ⟨20, 12, .rws, 0, []⟩]⟩,
  ⟨74, .iot, 0x1100400, [(128, 0x8)],
    [⟨0, 32, .ro, 0, []⟩]⟩,
  ⟨75, .iot, 0x1100404, [(128, 0x8)],
    [⟨0, 32, .ro, 0, []⟩]⟩,
  ⟨76, .iot, 0x1100800, [(32, 0x4)],
    [⟨0, 12, .rws, 0, []⟩, ⟨12, 12, .rws, 0, []⟩, ⟨24, 4, .rws, 0, []⟩, ⟨28, 1, .rws, 0, []⟩, ⟨29, 1, .rws, 0, []⟩]⟩,
  ⟨77, .iot, 0x1100880, [],
    [⟨0, 4, .ro, 0, []⟩, ⟨4, 4, .ro, 0, []⟩]⟩,
  ⟨78, .iot, 0x1100900, [],
    [⟨0, 32, .rw, 0, []⟩]⟩,
  ⟨79, .iot, 0x1100904, [],
    [⟨0, 32, .rw, 0, []⟩]⟩,
  ⟨80, .iot, 0x1100908, [],
    [⟨0, 5, .wo, 0, []⟩, ⟨5, 1, .wo, 0, []⟩, ⟨6, 1, .wo, 0, []⟩, ⟨7, 2, .wo, 0, []⟩, ⟨9, 1, .wo, 0, []⟩, ⟨10, 1, .wo, 0, []⟩]⟩,
  ⟨81, .iot, 0x1100980, [(32, 0x4)],
    [⟨0, 16, .rw, 0, []⟩, ⟨16, 16, .rw, 0, []⟩]⟩,
  ⟨82, .iot, 0x1100a80, [(32, 0x4)],
    [⟨0, 5, .ro, 0, []⟩, ⟨5, 1, .ro, 0, []⟩]⟩,
  ⟨83, .iot, 0x1100b00, [],
    [⟨0, 32, .rw, 0, []⟩]⟩]

def regsIOT1 : List RegInfo := [
  ⟨84, .iot, 0x1100b04, [],
    [⟨0, 8, .roc, 0, []⟩, ⟨8, 8, .roc, 0, []⟩, ⟨16, 8, .roc, 0, []⟩, ⟨24, 8, .roc, 0, []⟩]⟩,
  ⟨85, .iot, 0x1100b08, [],
    [⟨0, 16, .roc, 0, []⟩]⟩,
  ⟨86, .iot, 0x1100b0c, [],
    [⟨0, 1, .wo, 0, []⟩]⟩,
  ⟨87, .iot, 0x1100b10, [],
    [⟨0, 8, .rw, 0, []⟩]⟩]

/-- The registers of block IOT. -/
def regsIOT : List RegInfo := regsIOT0 ++ regsIOT1

def regsCAL0 : List RegInfo := [
  ⟨88, .cal, 0x2000000, [(4, 0x4)],
    [⟨0, 2, .rws, 0, [(0, 2)]⟩, ⟨2, 1, .rws, 0, []⟩, ⟨3, 1, .ro, 0, []⟩, ⟨16, 13, .rws, 0, [(0, 0), (16, 4096)]⟩]⟩,
  ⟨89, .cal, 0x2000010, [(4, 0x4)],
    [⟨0, 16, .rws, 0, []⟩, ⟨16, 16, .rws, 0, []⟩]⟩,
  ⟨90, .cal, 0x2000020, [(4, 0x4)],
    [⟨0, 16, .rws, 0, []⟩, ⟨16, 16, .rws, 0, []⟩]⟩,
  ⟨91, .cal, 0x2000030, [(4, 0x4)],
    [⟨0, 16, .rws, 0, []⟩, ⟨16, 16, .rws, 0, []⟩]⟩,
  ⟨92, .cal, 0x2000040, [],
    [⟨0, 32, .rws, 0, [(0, 0), (2000000, 2100000)]⟩]⟩,
  ⟨93, .cal, 0x2000044, [],
    [⟨0, 4, .wo, 0, []⟩]⟩,
  ⟨94, .cal, 0x2000048, [],
    [⟨0, 4, .wo, 0, []⟩]⟩,
  ⟨95, .cal, 0x2000050, [(2, 0x4)],
    [⟨0, 32, .rw, 0, []⟩]⟩,
  ⟨96, .cal, 0x2000080, [(4, 0x10), (3, 0x4)],
    [⟨0, 32, .rw, 0, []⟩]⟩,
  ⟨97, .cal, 0x2000100, [(4, 0x4)],
    [⟨0, 1, .ro, 0, []⟩, ⟨1, 1, .ro, 0, []⟩, ⟨2, 1, .w1c, 0, []⟩, ⟨3, 1, .ro, 0, []⟩, ⟨4, 1, .ro, 0, []⟩, ⟨8, 8, .ro, 0, []⟩]⟩,
  ⟨98, .cal, 0x2000110, [(4, 0x4)],
    [⟨0, 16, .roc, 0, []⟩, ⟨16, 16, .roc, 0, []⟩]⟩,
  ⟨99, .cal, 0x2000120, [(4, 0x4)],
    [⟨0, 8, .roc, 0, []⟩, ⟨8, 8, .roc, 0, []⟩, ⟨16, 16, .roc, 0, []⟩]⟩]

def regsCAL1 : List RegInfo := [
  ⟨100, .cal, 0x2000130, [(4, 0x4)],
    [⟨0, 16, .ro, 0, []⟩]⟩,
  ⟨101, .cal, 0x2000200, [],
    [⟨0, 5, .rw, 0x18, [(20, 28)]⟩, ⟨5, 4, .rw, 3, [(0, 8)]⟩, ⟨9, 1, .rw, 0, []⟩]⟩,
  ⟨102, .cal, 0x2000400, [(4, 0x20), (8, 0x4)],
    [⟨0, 32, .ro, 0, []⟩]⟩,
  ⟨103, .cal, 0x2000480, [(4, 0x20), (8, 0x4)],
    [⟨0, 32, .ro, 0x40000000, []⟩]⟩,
  ⟨104, .cal, 0x2000500, [],
    [⟨0, 2, .ro, 0, []⟩, ⟨2, 2, .ro, 0, []⟩, ⟨4, 2, .ro, 0, []⟩, ⟨6, 2, .ro, 0, []⟩, ⟨8, 1, .ro, 0, []⟩]⟩,
  ⟨105, .cal, 0x2000504, [],
    [⟨0, 16, .wo, 0, []⟩, ⟨16, 1, .wo, 0, []⟩]⟩,
  ⟨106, .cal, 0x2000508, [],
    [⟨0, 1, .ro, 0, []⟩, ⟨1, 3, .ro, 0, []⟩, ⟨8, 2, .ro, 0, []⟩]⟩,
  ⟨107, .cal, 0x2010000, [(384, 0x80), (16, 0x8)],
    [⟨0, 32, .rws, 0, []⟩]⟩,
  ⟨108, .cal, 0x2010004, [(384, 0x80), (16, 0x8)],
    [⟨0, 32, .rws, 0x40000000, [(536870912, 4294967295)]⟩]⟩,
  ⟨109, .cal, 0x2020000, [(384, 0x80), (16, 0x8)],
    [⟨0, 32, .ro, 0, []⟩]⟩,
  ⟨110, .cal, 0x2020004, [(384, 0x80), (16, 0x8)],
    [⟨0, 32, .ro, 0x40000000, []⟩]⟩,
  ⟨111, .cal, 0x2030000, [(384, 0x4)],
    [⟨0, 2, .ro, 0, []⟩, ⟨2, 1, .ro, 0, []⟩]⟩]

def regsCAL2 : List RegInfo := [
  ⟨112, .cal, 0x2040000, [(4096, 0x4)],
    [⟨0, 32, .ro, 0, []⟩]⟩]

/-- The registers of block CAL. -/
def regsCAL : List RegInfo := regsCAL0 ++ regsCAL1 ++ regsCAL2

def regsFLT0 : List RegInfo := [
  ⟨113, .flt, 0x3000000, [(384, 0x20)],
    [⟨0, 3, .rws, 0, []⟩, ⟨3, 2, .rws, 0, []⟩, ⟨5, 13, .rws, 0, []⟩, ⟨18, 4, .rws, 0, []⟩, ⟨22, 4, .rws, 0, []⟩, ⟨26, 5, .rws, 0, []⟩, ⟨31, 1, .rws, 0, []⟩]⟩,
  ⟨114, .flt, 0x3000004, [(384, 0x20)],
    [⟨0, 16, .rws, 0, []⟩]⟩,
  ⟨115, .flt, 0x3000008, [(384, 0x20)],
    [⟨0, 24, .rws, 0, []⟩, ⟨24, 2, .rws, 0, []⟩, ⟨26, 1, .rws, 0, []⟩]⟩,
  ⟨116, .flt, 0x300000c, [(384, 0x20)],
    [⟨0, 32, .ro, 0, []⟩]⟩,
  ⟨117, .flt, 0x3000010, [(384, 0x20)],
    [⟨0, 16, .ro, 0, []⟩]⟩,
  ⟨118, .flt, 0x3000014, [(384, 0x20)],
    [⟨0, 32, .ro, 0x40000000, []⟩]⟩,
  ⟨119, .flt, 0x3000018, [(384, 0x20)],
    [⟨0, 16, .ro, 0, []⟩, ⟨16, 1, .ro, 0, []⟩, ⟨17, 1, .ro, 0, []⟩, ⟨18, 1, .ro, 0, []⟩, ⟨19, 1, .ro, 0, []⟩, ⟨20, 1, .ro, 0, []⟩]⟩,
  ⟨120, .flt, 0x3004000, [],
    [⟨0, 1, .wo, 0, []⟩]⟩,
  ⟨121, .flt, 0x3004004, [],
    [⟨0, 25, .ro, 0, []⟩]⟩,
  ⟨122, .flt, 0x3004008, [],
    [⟨0, 16, .roc, 0, []⟩, ⟨16, 16, .roc, 0, []⟩]⟩,
  ⟨123, .flt, 0x300400c, [],
    [⟨0, 16, .rw, 0, []⟩]⟩,
  ⟨124, .flt, 0x3004010, [(12, 0x4)],
    [⟨0, 32, .rw, 0, []⟩]⟩]

def regsFLT1 : List RegInfo := [
  ⟨125, .flt, 0x3005000, [(582, 0x4)],
    [⟨0, 24, .ro, 0, []⟩]⟩]

/-- The registers of block FLT. -/
def regsFLT : List RegInfo := regsFLT0 ++ regsFLT1

def regsTIM0 : List RegInfo := [
  ⟨126, .tim, 0x4000000, [(2, 0x40)],
    [⟨0, 32, .ro, 0, []⟩]⟩,
  ⟨127, .tim, 0x4000004, [(2, 0x40)],
    [⟨0, 16, .ro, 0, []⟩, ⟨16, 1, .ro, 0, []⟩]⟩,
  ⟨128, .tim, 0x4000008, [(2, 0x40)],
    [⟨0, 32, .ro, 0, []⟩]⟩,
  ⟨129, .tim, 0x400000c, [(2, 0x40)],
    [⟨0, 16, .ro, 0, []⟩]⟩,
  ⟨130, .tim, 0x4000010, [(2, 0x40)],
    [⟨0, 2, .ro, 0, []⟩, ⟨2, 1, .ro, 0, []⟩]⟩,
  ⟨131, .tim, 0x4000014, [(2, 0x40)],
    [⟨0, 32, .ro, 0, []⟩]⟩,
  ⟨132, .tim, 0x4000018, [(2, 0x40)],
    [⟨0, 32, .ro, 0, []⟩]⟩,
  ⟨133, .tim, 0x400001c, [(2, 0x40)],
    [⟨0, 1, .rws, 0, []⟩, ⟨8, 8, .rws, 0, []⟩, ⟨16, 12, .rws, 0, []⟩]⟩,
  ⟨134, .tim, 0x4000020, [(2, 0x40)],
    [⟨0, 16, .rws, 0, []⟩, ⟨16, 16, .rws, 0, []⟩]⟩,
  ⟨135, .tim, 0x4000024, [(2, 0x40)],
    [⟨0, 20, .rws, 0, []⟩]⟩,
  ⟨136, .tim, 0x4000068, [],
    [⟨0, 32, .wo, 0, []⟩]⟩,
  ⟨137, .tim, 0x400006c, [],
    [⟨0, 16, .wo, 0, []⟩]⟩]

def regsTIM1 : List RegInfo := [
  ⟨138, .tim, 0x4000100, [(2, 0x40)],
    [⟨0, 1, .rws, 0, []⟩, ⟨1, 2, .rws, 0, []⟩, ⟨3, 1, .rws, 0, []⟩, ⟨4, 1, .rws, 0, []⟩, ⟨5, 7, .rws, 0, []⟩, ⟨12, 4, .rws, 3, []⟩]⟩,
  ⟨139, .tim, 0x4000104, [(2, 0x40)],
    [⟨0, 8, .rws, 0xfc, []⟩, ⟨8, 8, .rws, 0xfc, []⟩, ⟨16, 8, .rws, 3, []⟩]⟩,
  ⟨140, .tim, 0x4000108, [(2, 0x40)],
    [⟨0, 16, .roc, 0, []⟩, ⟨16, 16, .roc, 0, []⟩]⟩,
  ⟨141, .tim, 0x4000110, [(2, 0x40), (4, 0x4)],
    [⟨0, 32, .ro, 0, []⟩]⟩,
  ⟨142, .tim, 0x4000200, [(4, 0x20)],
    [⟨0, 32, .ro, 0, []⟩]⟩,
  ⟨143, .tim, 0x4000204, [(4, 0x20)],
    [⟨0, 32, .ro, 0, []⟩]⟩,
  ⟨144, .tim, 0x4000208, [(4, 0x20)],
    [⟨0, 16, .ro, 0, []⟩]⟩,
  ⟨145, .tim, 0x400020c, [(4, 0x20)],
    [⟨0, 16, .rw, 0, []⟩, ⟨16, 16, .rw, 0, []⟩]⟩,
  ⟨146, .tim, 0x4000210, [(4, 0x20)],
    [⟨0, 32, .rw, 0, []⟩]⟩,
  ⟨147, .tim, 0x4000400, [(6, 0x10)],
    [⟨0, 2, .rws, 0, []⟩]⟩,
  ⟨148, .tim, 0x4000404, [(6, 0x10)],
    [⟨0, 32, .ro, 0, []⟩]⟩,
  ⟨149, .tim, 0x4000408, [(6, 0x10)],
    [⟨0, 16, .ro, 0, []⟩, ⟨16, 1, .ro, 0, []⟩]⟩]

def regsTIM2 : List RegInfo := [
  ⟨150, .tim, 0x4000800, [(8, 0x20)],
    [⟨0, 2, .rws, 0, []⟩, ⟨2, 2, .rws, 0, []⟩, ⟨4, 1, .rws, 0, []⟩, ⟨5, 3, .rws, 0, []⟩]⟩,
  ⟨151, .tim, 0x4000804, [(8, 0x20)],
    [⟨0, 32, .rws, 0, []⟩]⟩,
  ⟨152, .tim, 0x4000808, [(8, 0x20)],
    [⟨0, 32, .rws, 0, []⟩]⟩,
  ⟨153, .tim, 0x400080c, [(8, 0x20)],
    [⟨0, 32, .rws, 0, []⟩]⟩,
  ⟨154, .tim, 0x4000810, [(8, 0x20)],
    [⟨0, 32, .rws, 0, []⟩]⟩,
  ⟨155, .tim, 0x4000814, [(8, 0x20)],
    [⟨0, 32, .rws, 0, []⟩]⟩,
  ⟨156, .tim, 0x4000c00, [(4, 0x40)],
    [⟨0, 2, .rws, 0, []⟩, ⟨2, 2, .rws, 0, []⟩, ⟨4, 1, .rws, 0, []⟩, ⟨5, 4, .rws, 4, []⟩, ⟨16, 16, .rws, 0, []⟩]⟩,
  ⟨157, .tim, 0x4000c04, [(4, 0x40)],
    [⟨0, 32, .rws, 0, []⟩]⟩,
  ⟨158, .tim, 0x4000c08, [(4, 0x40)],
    [⟨0, 16, .rws, 0xfa0, []⟩, ⟨16, 16, .rws, 0x64, []⟩]⟩,
  ⟨159, .tim, 0x4000c0c, [(4, 0x40)],
    [⟨0, 32, .ro, 0, []⟩]⟩,
  ⟨160, .tim, 0x4000c10, [(4, 0x40)],
    [⟨0, 32, .ro, 0, []⟩]⟩,
  ⟨161, .tim, 0x4000c14, [(4, 0x40)],
    [⟨0, 32, .ro, 0, []⟩]⟩]

def regsTIM3 : List RegInfo := [
  ⟨162, .tim, 0x4000c18, [(4, 0x40)],
    [⟨0, 32, .ro, 0, []⟩]⟩,
  ⟨163, .tim, 0x4000c1c, [(4, 0x40)],
    [⟨0, 2, .ro, 0, []⟩, ⟨16, 8, .roc, 0, []⟩, ⟨24, 8, .roc, 0, []⟩]⟩,
  ⟨164, .tim, 0x4000c20, [(4, 0x40)],
    [⟨0, 32, .ro, 0, []⟩]⟩,
  ⟨165, .tim, 0x4000c24, [(4, 0x40)],
    [⟨0, 32, .ro, 0, []⟩]⟩,
  ⟨166, .tim, 0x4000f00, [],
    [⟨0, 14, .rws, 0x3e8, []⟩]⟩,
  ⟨167, .tim, 0x4000f04, [],
    [⟨0, 1, .rw, 0, []⟩, ⟨8, 8, .rw, 0xa, []⟩]⟩,
  ⟨168, .tim, 0x4000f08, [(3, 0x4)],
    [⟨0, 32, .ro, 0, []⟩]⟩,
  ⟨169, .tim, 0x4000f1c, [],
    [⟨0, 1, .wo, 0, []⟩, ⟨1, 1, .wo, 0, []⟩]⟩]

/-- The registers of block TIM. -/
def regsTIM : List RegInfo := regsTIM0 ++ regsTIM1 ++ regsTIM2 ++ regsTIM3

def regsQUE0 : List RegInfo := [
  ⟨170, .que, 0x5000000, [(80, 0x20)],
    [⟨0, 15, .rws, 0, []⟩, ⟨15, 1, .rws, 0, []⟩, ⟨16, 1, .rws, 0, []⟩]⟩,
  ⟨171, .que, 0x5000004, [(80, 0x20)],
    [⟨0, 29, .ro, 0, []⟩]⟩,
  ⟨172, .que, 0x5000008, [(80, 0x20)],
    [⟨0, 16, .roc, 0, []⟩, ⟨16, 8, .roc, 0, []⟩, ⟨24, 8, .roc, 0, []⟩]⟩,
  ⟨173, .que, 0x500000c, [(80, 0x20)],
    [⟨0, 32, .roc, 0, []⟩]⟩,
  ⟨174, .que, 0x5000010, [(80, 0x20)],
    [⟨0, 16, .roc, 0, []⟩, ⟨16, 16, .roc, 0, []⟩]⟩,
  ⟨175, .que, 0x5000c00, [(64, 0x40)],
    [⟨0, 1, .rws, 0, []⟩, ⟨1, 1, .rws, 0, []⟩, ⟨2, 2, .rws, 0, []⟩, ⟨4, 1, .rws, 0, []⟩, ⟨5, 10, .rws, 0, []⟩, ⟨15, 9, .rws, 0, []⟩]⟩,
  ⟨176, .que, 0x5000c04, [(64, 0x40)],
    [⟨0, 3, .rws, 0, []⟩, ⟨3, 5, .rws, 0, []⟩]⟩,
  ⟨177, .que, 0x5000c08, [(64, 0x40)],
    [⟨0, 20, .rws, 0, []⟩]⟩,
  ⟨178, .que, 0x5000c0c, [(64, 0x40)],
    [⟨0, 32, .ro, 0, []⟩]⟩,
  ⟨179, .que, 0x5000c10, [(64, 0x40)],
    [⟨0, 32, .ro, 0, []⟩]⟩,
  ⟨180, .que, 0x5000c14, [(64, 0x40)],
    [⟨0, 32, .ro, 0, []⟩]⟩,
  ⟨181, .que, 0x5000c18, [(64, 0x40)],
    [⟨0, 16, .roc, 0, []⟩]⟩]

def regsQUE1 : List RegInfo := [
  ⟨182, .que, 0x5000c20, [(64, 0x40), (8, 0x4)],
    [⟨0, 32, .ro, 0, []⟩]⟩,
  ⟨183, .que, 0x5002000, [(1024, 0x4)],
    [⟨0, 9, .rws, 0, []⟩]⟩,
  ⟨184, .que, 0x5003000, [],
    [⟨0, 8, .rws, 0x60, []⟩, ⟨8, 8, .rws, 0x18, []⟩, ⟨16, 8, .ro, 8, []⟩]⟩,
  ⟨185, .que, 0x5003004, [],
    [⟨0, 25, .ro, 0, []⟩]⟩,
  ⟨186, .que, 0x5003008, [],
    [⟨0, 32, .ro, 0, []⟩]⟩,
  ⟨187, .que, 0x5003010, [],
    [⟨0, 32, .ro, 0, []⟩]⟩,
  ⟨188, .que, 0x5003014, [],
    [⟨0, 32, .ro, 0, []⟩]⟩,
  ⟨189, .que, 0x5003018, [],
    [⟨0, 32, .ro, 0, []⟩]⟩,
  ⟨190, .que, 0x5003020, [],
    [⟨0, 16, .ro, 0, []⟩]⟩,
  ⟨191, .que, 0x5003100, [(512, 0x4)],
    [⟨0, 32, .ro, 0, []⟩]⟩,
  ⟨192, .que, 0x5003a00, [],
    [⟨0, 9, .ro, 0, []⟩]⟩,
  ⟨193, .que, 0x5003a04, [],
    [⟨0, 16, .roc, 0, []⟩, ⟨16, 16, .roc, 0, []⟩]⟩]

def regsQUE2 : List RegInfo := [
  ⟨194, .que, 0x5003a08, [],
    [⟨0, 16, .roc, 0, []⟩, ⟨16, 16, .roc, 0, []⟩]⟩,
  ⟨195, .que, 0x5003f00, [],
    [⟨0, 1, .wo, 0, []⟩]⟩]

/-- The registers of block QUE. -/
def regsQUE : List RegInfo := regsQUE0 ++ regsQUE1 ++ regsQUE2

def regsCMP0 : List RegInfo := [
  ⟨196, .cmp, 0x6000000, [],
    [⟨0, 3, .rw, 3, [(1, 4)]⟩]⟩,
  ⟨197, .cmp, 0x6000004, [],
    [⟨0, 4, .ro, 0, []⟩, ⟨4, 2, .ro, 0, []⟩, ⟨6, 9, .ro, 0, []⟩]⟩,
  ⟨198, .cmp, 0x6000008, [],
    [⟨0, 32, .w1c, 0, []⟩]⟩,
  ⟨199, .cmp, 0x600000c, [],
    [⟨0, 16, .roc, 0, []⟩, ⟨16, 16, .roc, 0, []⟩]⟩,
  ⟨200, .cmp, 0x6000010, [],
    [⟨0, 16, .roc, 0, []⟩, ⟨16, 16, .roc, 0, []⟩]⟩,
  ⟨201, .cmp, 0x6000018, [],
    [⟨0, 32, .ro, 0, []⟩]⟩,
  ⟨202, .cmp, 0x600001c, [],
    [⟨0, 32, .ro, 0, []⟩]⟩,
  ⟨203, .cmp, 0x6001000, [(32, 0x80)],
    [⟨0, 2, .rw, 0, []⟩, ⟨2, 1, .rw, 0, []⟩, ⟨3, 2, .rw, 0, []⟩, ⟨5, 1, .rw, 0, []⟩, ⟨6, 1, .rw, 0, []⟩, ⟨7, 7, .rw, 0, []⟩, ⟨14, 4, .rw, 0, []⟩, ⟨18, 3, .rw, 0, []⟩, ⟨21, 1, .rw, 0, []⟩]⟩,
  ⟨204, .cmp, 0x6001004, [(32, 0x80)],
    [⟨0, 32, .rw, 0, []⟩]⟩,
  ⟨205, .cmp, 0x6001008, [(32, 0x80)],
    [⟨0, 24, .rw, 0, []⟩]⟩,
  ⟨206, .cmp, 0x600100c, [(32, 0x80)],
    [⟨0, 9, .rw, 0, []⟩]⟩,
  ⟨207, .cmp, 0x6001010, [(32, 0x80)],
    [⟨0, 15, .rw, 0, []⟩]⟩]

def regsCMP1 : List RegInfo := [
  ⟨208, .cmp, 0x6001014, [(32, 0x80), (3, 0x4)],
    []⟩,
  ⟨209, .cmp, 0x6001020, [(32, 0x80), (8, 0x4)],
    [⟨0, 32, .rw, 0, []⟩]⟩,
  ⟨210, .cmp, 0x6001040, [(32, 0x80)],
    [⟨0, 1, .wo, 0, []⟩, ⟨1, 1, .wo, 0, []⟩]⟩,
  ⟨211, .cmp, 0x6001044, [(32, 0x80)],
    [⟨0, 2, .ro, 0, []⟩, ⟨2, 4, .ro, 0, []⟩, ⟨6, 2, .ro, 0, []⟩]⟩,
  ⟨212, .cmp, 0x6001048, [(32, 0x80)],
    [⟨0, 15, .ro, 0, []⟩]⟩,
  ⟨213, .cmp, 0x600104c, [(32, 0x80)],
    [⟨0, 24, .ro, 0, []⟩, ⟨24, 8, .ro, 0, []⟩]⟩,
  ⟨214, .cmp, 0x6001050, [(32, 0x80)],
    [⟨0, 32, .ro, 0, []⟩]⟩]

/-- The registers of block CMP. -/
def regsCMP : List RegInfo := regsCMP0 ++ regsCMP1

def regsPRT0 : List RegInfo := [
  ⟨215, .prt, 0x7000000, [(4, 0x1000)],
    [⟨0, 3, .rws, 0, []⟩, ⟨3, 3, .rws, 0, []⟩, ⟨6, 2, .rws, 0, []⟩, ⟨8, 1, .rws, 0, []⟩, ⟨9, 1, .rws, 0, []⟩, ⟨10, 1, .rws, 0, []⟩, ⟨11, 2, .rws, 0, []⟩, ⟨13, 1, .rws, 0, []⟩, ⟨14, 1, .rws, 0, []⟩]⟩,
  ⟨216, .prt, 0x7000004, [(4, 0x1000)],
    [⟨0, 1, .ro, 0, []⟩, ⟨1, 1, .ro, 0, []⟩, ⟨2, 2, .ro, 0, []⟩, ⟨4, 1, .ro, 0, []⟩, ⟨5, 1, .ro, 0, []⟩, ⟨6, 1, .ro, 0, []⟩, ⟨7, 1, .ro, 0, []⟩, ⟨8, 2, .ro, 0, []⟩, ⟨10, 1, .ro, 0, []⟩, ⟨11, 1, .ro, 0, []⟩]⟩,
  ⟨217, .prt, 0x7000008, [(4, 0x1000)],
    [⟨0, 8, .ro, 0, []⟩, ⟨8, 1, .ro, 0, []⟩]⟩,
  ⟨218, .prt, 0x700000c, [(4, 0x1000)],
    [⟨0, 32, .rws, 0, []⟩]⟩,
  ⟨219, .prt, 0x7000010, [(4, 0x1000)],
    [⟨0, 16, .rws, 0, []⟩]⟩,
  ⟨220, .prt, 0x7000014, [(4, 0x1000)],
    [⟨0, 32, .rws, 0, []⟩]⟩,
  ⟨221, .prt, 0x7000018, [(4, 0x1000)],
    [⟨0, 32, .rws, 0, []⟩]⟩,
  ⟨222, .prt, 0x700001c, [(4, 0x1000)],
    [⟨0, 32, .rws, 0, []⟩]⟩,
  ⟨223, .prt, 0x7000020, [(4, 0x1000)],
    [⟨0, 32, .rws, 0, []⟩]⟩,
  ⟨224, .prt, 0x7000040, [(4, 0x1000)],
    [⟨0, 32, .roc, 0, []⟩]⟩,
  ⟨225, .prt, 0x7000044, [(4, 0x1000)],
    [⟨0, 32, .roc, 0, []⟩]⟩,
  ⟨226, .prt, 0x7000048, [(4, 0x1000)],
    [⟨0, 16, .roc, 0, []⟩, ⟨16, 16, .roc, 0, []⟩]⟩]

def regsPRT1 : List RegInfo := [
  ⟨227, .prt, 0x700004c, [(4, 0x1000)],
    [⟨0, 16, .roc, 0, []⟩, ⟨16, 16, .roc, 0, []⟩]⟩,
  ⟨228, .prt, 0x7000050, [(4, 0x1000)],
    [⟨0, 16, .roc, 0, []⟩, ⟨16, 16, .roc, 0, []⟩]⟩,
  ⟨229, .prt, 0x7000054, [(4, 0x1000)],
    [⟨0, 8, .roc, 0, []⟩, ⟨16, 16, .roc, 0, []⟩]⟩,
  ⟨230, .prt, 0x7000080, [(4, 0x1000)],
    [⟨0, 8, .rws, 0xff, []⟩, ⟨8, 8, .rws, 0, []⟩, ⟨16, 16, .rws, 0, []⟩]⟩,
  ⟨231, .prt, 0x7000084, [(4, 0x1000)],
    [⟨0, 32, .rws, 0, []⟩]⟩,
  ⟨232, .prt, 0x70000a0, [(4, 0x1000), (8, 0x4)],
    [⟨0, 32, .wo, 0, []⟩]⟩,
  ⟨233, .prt, 0x70000c0, [(4, 0x1000), (8, 0x4)],
    [⟨0, 32, .wo, 0, []⟩]⟩,
  ⟨234, .prt, 0x7000100, [(4, 0x1000), (8, 0x4)],
    [⟨0, 32, .wo, 0, []⟩]⟩,
  ⟨235, .prt, 0x7000120, [(4, 0x1000), (3, 0x4)],
    [⟨0, 32, .wo, 0, []⟩]⟩,
  ⟨236, .prt, 0x700012c, [(4, 0x1000), (2, 0x4)],
    [⟨0, 32, .wo, 0, []⟩]⟩,
  ⟨237, .prt, 0x7000134, [(4, 0x1000)],
    [⟨0, 2, .wo, 0, []⟩, ⟨2, 1, .wo, 0, []⟩]⟩,
  ⟨238, .prt, 0x7000138, [(4, 0x1000)],
    [⟨0, 2, .ro, 0, []⟩, ⟨2, 1, .ro, 0, []⟩, ⟨3, 1, .ro, 0, []⟩]⟩]

def regsPRT2 : List RegInfo := [
  ⟨239, .prt, 0x7000140, [(4, 0x1000)],
    [⟨0, 16, .roc, 0, []⟩, ⟨16, 16, .roc, 0, []⟩]⟩,
  ⟨240, .prt, 0x7000144, [(4, 0x1000)],
    [⟨0, 16, .roc, 0, []⟩, ⟨16, 16, .roc, 0, []⟩]⟩,
  ⟨241, .prt, 0x7000148, [(4, 0x1000)],
    [⟨0, 32, .roc, 0, []⟩]⟩,
  ⟨242, .prt, 0x7008000, [],
    [⟨0, 16, .rws, 0x88b5, []⟩, ⟨16, 4, .rws, 3, []⟩]⟩,
  ⟨243, .prt, 0x7008004, [],
    [⟨0, 16, .rws, 0xb905, []⟩]⟩,
  ⟨244, .prt, 0x7008010, [],
    [⟨0, 1, .wo, 0, []⟩]⟩]

/-- The registers of block PRT. -/
def regsPRT : List RegInfo := regsPRT0 ++ regsPRT1 ++ regsPRT2

def regsSAFV0 : List RegInfo := [
  ⟨245, .safv, 0x8000000, [],
    [⟨0, 2, .ro, 0, []⟩, ⟨2, 1, .ro, 0, []⟩, ⟨3, 1, .ro, 0, []⟩, ⟨4, 1, .ro, 0, []⟩, ⟨5, 1, .ro, 0, []⟩, ⟨6, 1, .ro, 0, []⟩, ⟨7, 1, .ro, 0, []⟩, ⟨8, 1, .ro, 0, []⟩, ⟨16, 16, .ro, 0, []⟩]⟩,
  ⟨246, .safv, 0x8000040, [(12, 0x4)],
    [⟨0, 32, .ro, 0, []⟩]⟩,
  ⟨247, .safv, 0x8000100, [(16, 0x4)],
    [⟨0, 2, .ro, 1, []⟩, ⟨2, 2, .ro, 0, []⟩, ⟨4, 1, .ro, 0, []⟩, ⟨5, 1, .ro, 0, []⟩, ⟨6, 1, .ro, 0, []⟩, ⟨16, 13, .ro, 0, []⟩]⟩,
  ⟨248, .safv, 0x8000200, [(8, 0x8)],
    [⟨0, 1, .ro, 0, []⟩, ⟨1, 1, .ro, 0, []⟩, ⟨2, 1, .ro, 0, []⟩, ⟨3, 1, .ro, 0, []⟩, ⟨4, 1, .ro, 0, []⟩, ⟨5, 1, .ro, 1, []⟩, ⟨6, 4, .ro, 0, []⟩, ⟨10, 4, .ro, 0, []⟩, ⟨14, 1, .ro, 0, []⟩, ⟨15, 1, .ro, 0, []⟩, ⟨16, 16, .ro, 0, []⟩]⟩,
  ⟨249, .safv, 0x8000204, [(8, 0x8)],
    [⟨0, 16, .ro, 0, []⟩, ⟨16, 16, .ro, 0, []⟩]⟩,
  ⟨250, .safv, 0x8000400, [],
    [⟨0, 16, .ro, 0, []⟩, ⟨16, 16, .ro, 0, []⟩]⟩,
  ⟨251, .safv, 0x8000404, [],
    [⟨0, 13, .ro, 0, []⟩, ⟨16, 16, .ro, 0, []⟩]⟩,
  ⟨252, .safv, 0x8000408, [],
    [⟨0, 16, .ro, 0, []⟩, ⟨16, 16, .ro, 0, []⟩]⟩,
  ⟨253, .safv, 0x8000300, [(8, 0x20)],
    [⟨0, 2, .ro, 0, []⟩, ⟨16, 16, .ro, 0, []⟩]⟩,
  ⟨254, .safv, 0x8000304, [(8, 0x20)],
    [⟨0, 16, .ro, 0, []⟩, ⟨16, 16, .ro, 0, []⟩]⟩,
  ⟨255, .safv, 0x8000308, [(8, 0x20)],
    [⟨0, 16, .ro, 0, []⟩, ⟨16, 8, .ro, 0xff, []⟩]⟩,
  ⟨256, .safv, 0x800030c, [(8, 0x20)],
    [⟨0, 16, .ro, 0, []⟩, ⟨16, 16, .ro, 0, []⟩]⟩]

def regsSAFV1 : List RegInfo := [
  ⟨257, .safv, 0x8000310, [(8, 0x20)],
    [⟨0, 16, .ro, 0, []⟩, ⟨16, 16, .ro, 0, []⟩]⟩,
  ⟨258, .safv, 0x8000314, [(8, 0x20)],
    [⟨0, 16, .ro, 0, []⟩, ⟨16, 16, .ro, 0, []⟩]⟩]

/-- The registers of block SAFV. -/
def regsSAFV : List RegInfo := regsSAFV0 ++ regsSAFV1

def regsPAR0 : List RegInfo := [
  ⟨259, .par, 0x9000000, [],
    [⟨0, 1, .ro, 0, []⟩, ⟨1, 2, .ro, 0, []⟩, ⟨3, 2, .ro, 0, []⟩, ⟨5, 1, .ro, 0, []⟩, ⟨16, 16, .ro, 0, []⟩]⟩,
  ⟨260, .par, 0x9000004, [],
    [⟨0, 16, .rws, 0, []⟩]⟩,
  ⟨261, .par, 0x9000008, [],
    [⟨0, 16, .wo, 0, []⟩, ⟨16, 1, .wo, 0, []⟩, ⟨17, 1, .wo, 0, []⟩]⟩,
  ⟨262, .par, 0x900000c, [],
    [⟨0, 3, .ro, 0, []⟩, ⟨3, 3, .ro, 0, []⟩]⟩,
  ⟨263, .par, 0x9000010, [],
    [⟨0, 8, .roc, 0, []⟩, ⟨8, 8, .roc, 0, []⟩, ⟨16, 16, .roc, 0, []⟩]⟩,
  ⟨264, .par, 0x9000014, [],
    [⟨0, 16, .roc, 0, []⟩, ⟨16, 8, .roc, 0, []⟩, ⟨24, 8, .roc, 0, []⟩]⟩,
  ⟨265, .par, 0x9000018, [],
    [⟨0, 3, .ro, 0, []⟩]⟩,
  ⟨266, .par, 0x900001c, [],
    [⟨0, 1, .wo, 0, []⟩]⟩]

/-- The registers of block PAR. -/
def regsPAR : List RegInfo := regsPAR0

def regsSEC0 : List RegInfo := [
  ⟨267, .sec, 0xa000000, [],
    [⟨0, 32, .ro, 0, []⟩]⟩,
  ⟨268, .sec, 0xa000004, [],
    [⟨0, 32, .ro, 0, []⟩]⟩,
  ⟨269, .sec, 0xa000008, [],
    [⟨0, 32, .ro, 0x53840100, []⟩]⟩,
  ⟨270, .sec, 0xa00000c, [],
    [⟨0, 7, .ro, 0, []⟩]⟩,
  ⟨271, .sec, 0xa000010, [],
    [⟨0, 4, .ro, 0, []⟩, ⟨4, 4, .ro, 0, []⟩, ⟨8, 1, .ro, 0, []⟩, ⟨9, 1, .ro, 0, []⟩]⟩,
  ⟨272, .sec, 0xa000014, [],
    [⟨0, 1, .ro, 0, []⟩, ⟨1, 1, .ro, 0, []⟩, ⟨2, 1, .ro, 0, []⟩, ⟨3, 1, .ro, 0, []⟩, ⟨4, 1, .ro, 0, []⟩, ⟨5, 1, .ro, 0, []⟩]⟩,
  ⟨273, .sec, 0xa000020, [(4, 0x30), (12, 0x4)],
    [⟨0, 32, .ro, 0, []⟩]⟩,
  ⟨274, .sec, 0xa000100, [(8, 0x40), (12, 0x4)],
    [⟨0, 32, .ro, 0, []⟩]⟩,
  ⟨275, .sec, 0xa000400, [(12, 0x4)],
    [⟨0, 32, .rw, 0, []⟩]⟩,
  ⟨276, .sec, 0xa000430, [],
    [⟨0, 3, .wo, 0, []⟩, ⟨3, 1, .wo, 0, []⟩, ⟨4, 1, .wo, 0, []⟩, ⟨5, 1, .ro, 0, []⟩]⟩,
  ⟨277, .sec, 0xa000500, [(24, 0x4)],
    [⟨0, 32, .ro, 0, []⟩]⟩,
  ⟨278, .sec, 0xa000580, [(8, 0x4)],
    [⟨0, 32, .ro, 0, []⟩]⟩]

def regsSEC1 : List RegInfo := [
  ⟨279, .sec, 0xa000600, [(128, 0x4)],
    [⟨0, 32, .rw, 0, []⟩]⟩,
  ⟨280, .sec, 0xa000800, [],
    [⟨0, 4, .wo, 0, []⟩, ⟨4, 2, .wo, 0, []⟩, ⟨6, 1, .wo, 0, []⟩]⟩,
  ⟨281, .sec, 0xa000804, [],
    [⟨0, 1, .ro, 0, []⟩, ⟨1, 4, .ro, 0, []⟩]⟩,
  ⟨282, .sec, 0xa000a00, [(177, 0x4)],
    [⟨0, 32, .ro, 0, []⟩]⟩]

/-- The registers of block SEC. -/
def regsSEC : List RegInfo := regsSEC0 ++ regsSEC1

def regsUPD0 : List RegInfo := [
  ⟨283, .upd, 0xb000000, [],
    [⟨0, 3, .ro, 0, []⟩, ⟨3, 1, .ro, 0, []⟩, ⟨4, 1, .w1c, 0, []⟩, ⟨16, 9, .ro, 0, []⟩]⟩,
  ⟨284, .upd, 0xb000004, [],
    [⟨0, 32, .ro, 0, []⟩]⟩,
  ⟨285, .upd, 0xb000008, [],
    [⟨0, 32, .ro, 0, []⟩]⟩,
  ⟨286, .upd, 0xb00000c, [],
    [⟨0, 32, .ro, 0, []⟩]⟩,
  ⟨287, .upd, 0xb000010, [],
    [⟨0, 32, .ro, 0, []⟩]⟩,
  ⟨288, .upd, 0xb000014, [],
    [⟨0, 32, .ro, 0, []⟩]⟩,
  ⟨289, .upd, 0xb000018, [],
    [⟨0, 12, .rw, 0, [(60, 3600)]⟩, ⟨16, 12, .ro, 0, []⟩]⟩,
  ⟨290, .upd, 0xb000020, [],
    [⟨0, 16, .wo, 0, []⟩, ⟨16, 1, .wo, 0, []⟩, ⟨17, 1, .wo, 0, []⟩, ⟨18, 1, .wo, 0, []⟩, ⟨19, 1, .wo, 0, []⟩, ⟨20, 1, .wo, 0, []⟩]⟩,
  ⟨291, .upd, 0xb000024, [],
    [⟨0, 8, .rw, 0x14, [(0, 200)]⟩]⟩,
  ⟨292, .upd, 0xb000030, [],
    [⟨0, 16, .roc, 0, []⟩, ⟨16, 16, .roc, 0, []⟩]⟩,
  ⟨293, .upd, 0xb000034, [],
    [⟨0, 16, .roc, 0, []⟩, ⟨16, 16, .roc, 0, []⟩]⟩,
  ⟨294, .upd, 0xb000038, [],
    [⟨0, 8, .roc, 0, []⟩, ⟨8, 8, .roc, 0, []⟩, ⟨16, 16, .roc, 0, []⟩]⟩]

def regsUPD1 : List RegInfo := [
  ⟨295, .upd, 0xb000040, [],
    [⟨0, 32, .rw, 0, []⟩]⟩,
  ⟨296, .upd, 0xb000044, [],
    [⟨0, 1, .wo, 0, []⟩, ⟨1, 1, .wo, 0, []⟩, ⟨2, 1, .ro, 0, []⟩, ⟨3, 1, .ro, 0, []⟩]⟩,
  ⟨297, .upd, 0xb000100, [(64, 0x4)],
    [⟨0, 32, .rw, 0, []⟩]⟩]

/-- The registers of block UPD. -/
def regsUPD : List RegInfo := regsUPD0 ++ regsUPD1

def regsLOG0 : List RegInfo := [
  ⟨298, .log, 0xc000000, [(8192, 0x20), (8, 0x4)],
    [⟨0, 32, .ro, 0, []⟩]⟩,
  ⟨299, .log, 0xc040000, [],
    [⟨0, 32, .ro, 0, []⟩]⟩,
  ⟨300, .log, 0xc040004, [],
    [⟨0, 32, .rw, 0, []⟩]⟩,
  ⟨301, .log, 0xc040008, [],
    [⟨0, 2, .rw, 0, []⟩, ⟨2, 2, .rw, 2, []⟩, ⟨4, 3, .rw, 0, [(0, 4)]⟩]⟩,
  ⟨302, .log, 0xc04000c, [],
    [⟨0, 16, .roc, 0, []⟩, ⟨16, 16, .roc, 0, []⟩]⟩]

/-- The registers of block LOG. -/
def regsLOG : List RegInfo := regsLOG0

def regsMON0 : List RegInfo := [
  ⟨303, .mon, 0xc100000, [(32, 0x200)],
    [⟨0, 4, .rw, 0, [(1, 9)]⟩, ⟨4, 9, .rw, 0, []⟩, ⟨13, 5, .rw, 0, []⟩, ⟨18, 1, .rw, 0, []⟩, ⟨19, 1, .rw, 0, []⟩]⟩,
  ⟨304, .mon, 0xc100004, [(32, 0x200)],
    [⟨0, 16, .rw, 0, []⟩, ⟨16, 16, .ro, 0, []⟩]⟩,
  ⟨305, .mon, 0xc100008, [(32, 0x200)],
    [⟨0, 32, .rw, 0, []⟩]⟩,
  ⟨306, .mon, 0xc10000c, [(32, 0x200)],
    [⟨0, 32, .rw, 0, []⟩]⟩,
  ⟨307, .mon, 0xc100010, [(32, 0x200)],
    [⟨0, 32, .rw, 0, []⟩]⟩,
  ⟨308, .mon, 0xc100020, [(32, 0x200)],
    [⟨0, 32, .ro, 0, []⟩]⟩,
  ⟨309, .mon, 0xc100024, [(32, 0x200)],
    [⟨0, 32, .ro, 0, []⟩]⟩,
  ⟨310, .mon, 0xc100028, [(32, 0x200)],
    [⟨0, 32, .ro, 0, []⟩]⟩,
  ⟨311, .mon, 0xc10002c, [(32, 0x200)],
    [⟨0, 32, .ro, 0, []⟩]⟩,
  ⟨312, .mon, 0xc100030, [(32, 0x200)],
    [⟨0, 32, .ro, 0, []⟩]⟩,
  ⟨313, .mon, 0xc100034, [(32, 0x200)],
    [⟨0, 32, .ro, 0, []⟩]⟩,
  ⟨314, .mon, 0xc100100, [(32, 0x200), (64, 0x4)],
    [⟨0, 32, .ro, 0, []⟩]⟩]

/-- The registers of block MON. -/
def regsMON : List RegInfo := regsMON0

def regsRES0 : List RegInfo := [
  ⟨315, .res, 0x10000000, [(512, 0x8)],
    [⟨0, 32, .ro, 0x80, []⟩]⟩,
  ⟨316, .res, 0x10000004, [(512, 0x8)],
    [⟨0, 31, .ro, 0, []⟩, ⟨31, 1, .ro, 0, []⟩]⟩]

/-- The registers of block RES. -/
def regsRES : List RegInfo := regsRES0

/-- The blocks of Table 15.12: first address, span in bytes, registers. -/
def regBlocks : List (Nat × Nat × List RegInfo) := [
  (0x0, 0x100000, regsSYS),
  (0x100000, 0x400, regsPROT),
  (0x1000000, 0x100000, regsTILE),
  (0x1100000, 0x1000, regsIOT),
  (0x2000000, 0x80000, regsCAL),
  (0x3000000, 0x8000, regsFLT),
  (0x4000000, 0x1000, regsTIM),
  (0x5000000, 0x4000, regsQUE),
  (0x6000000, 0x2000, regsCMP),
  (0x7000000, 0x9000, regsPRT),
  (0x8000000, 0x800, regsSAFV),
  (0x9000000, 0x40, regsPAR),
  (0xa000000, 0x1000, regsSEC),
  (0xb000000, 0x400, regsUPD),
  (0xc000000, 0x40100, regsLOG),
  (0xc100000, 0x4000, regsMON),
  (0x10000000, 0x1000, regsRES)]

/-- The indices that a byte offset spells in a register's dimensions, or none if it falls outside or between. -/
def dimIndex : List (Nat × Nat) → Nat → Option (List Nat)
  | [], off => if off = 0 then some [] else none
  | (n, st) :: ds, off =>
    let i := off / st
    if i < n then (dimIndex ds (off - i * st)).map (i :: ·) else none

/-- A register found at an address, with its indices. -/
structure RegHit where
  info : RegInfo
  idx : List Nat
  deriving DecidableEq, Repr

/-- The register of a list that holds an address. -/
def findReg (a : Nat) : List RegInfo → Option RegHit
  | [] => none
  | r :: rs =>
    if a < r.base then findReg a rs
    else match dimIndex r.dims (a - r.base) with
      | some ix => some ⟨r, ix⟩
      | none => findReg a rs

/-- The block that holds an address. -/
def findBlock (a : Nat) : List (Nat × Nat × List RegInfo) → List RegInfo
  | [] => []
  | (b, n, rs) :: t => if b ≤ a ∧ a < b + n then rs else findBlock a t

/-- The register that holds a byte address, if any does (R415). -/
def regAt? (a : Nat) : Option RegHit := findReg a (findBlock a regBlocks)

/-- The reset word of a register of the map. -/
def RegInfo.reset (r : RegInfo) : Word :=
  r.fields.foldl (fun w f => fset w f.lo f.w f.reset) 0

/-- The bits of a register that belong to a field (the others are reserved, R4). -/
def RegInfo.mask (r : RegInfo) : Word :=
  r.fields.foldl (fun w f => w ||| fieldMask f.lo f.w) 0

/-- Index `k` of a hit. -/
def RegHit.ix (h : RegHit) (k : Nat) : Nat := h.idx.getD k 0

end Sys2Proof.Machine

namespace Sys2Proof.RID

abbrev SYS_HWTYPE : Nat := 0
abbrev SYS_IDCODE : Nat := 1
abbrev SYS_ROMVER : Nat := 2
abbrev SYS_FWVER : Nat := 3
abbrev SYS_FWBUILD : Nat := 4
abbrev SYS_UNITIDL : Nat := 5
abbrev SYS_UNITIDH : Nat := 6
abbrev SYS_LINEADDR : Nat := 7
abbrev SYS_CHAINPOS : Nat := 8
abbrev SYS_RRCNT : Nat := 9
abbrev SYS_RSTCAUSE : Nat := 10
abbrev SYS_RSTCTL : Nat := 11
abbrev SYS_PWRSTAT : Nat := 12
abbrev SYS_STRAP : Nat := 13
abbrev SYS_TLERR : Nat := 14
abbrev SYS_CHOR_SRC : Nat := 15
abbrev SYS_CHOR_LEN : Nat := 16
abbrev SYS_CHOR_CTL : Nat := 17
abbrev SYS_CHOR_ST : Nat := 18
abbrev SYS_CHOR_ERR : Nat := 19
abbrev SYS_CHOR_SERIAL : Nat := 20
abbrev SYS_CHOR_PSERIAL : Nat := 21
abbrev SYS_CHOR_CNT : Nat := 22
abbrev SYS_TCOMMIT : Nat := 23
abbrev SYS_CHOR_DIG : Nat := 24
abbrev SYS_CHOR_PDIG : Nat := 25
abbrev SYS_HOSTCNT : Nat := 26
abbrev SYS_HOSTCNT2 : Nat := 27
abbrev SYS_HOSTPAGE : Nat := 28
abbrev SYS_HINTST : Nat := 29
abbrev SYS_HINTEN : Nat := 30
abbrev SYS_REQERR : Nat := 31
abbrev SYS_REQERR2 : Nat := 32
abbrev SYS_MGMTNONCE : Nat := 33
abbrev SYS_MGMTKEY : Nat := 34
abbrev SYS_MGMTCNT : Nat := 35
abbrev SYS_MGMTLAST : Nat := 36
abbrev SYS_SPMB_REQ : Nat := 37
abbrev SYS_SPMB_CTL : Nat := 38
abbrev SYS_SPMB_ST : Nat := 39
abbrev SYS_SPMB_RSP : Nat := 40
abbrev SYS_SPMB_REQ_HI : Nat := 41
abbrev PROT_BASE : Nat := 42
abbrev PROT_LIMIT : Nat := 43
abbrev PROT_PERM : Nat := 44
abbrev PROT_DENY : Nat := 45
abbrev PROT_LASTL : Nat := 46
abbrev PROT_LASTH : Nat := 47
abbrev TILE_STEPA : Nat := 48
abbrev TILE_STEPB : Nat := 49
abbrev TILE_CHCFG : Nat := 50
abbrev TILE_GRP : Nat := 51
abbrev TILE_GRPT : Nat := 52
abbrev TILE_OPNK : Nat := 53
abbrev TILE_BLANK : Nat := 54
abbrev TILE_CNT0 : Nat := 55
abbrev TILE_CNT1 : Nat := 56
abbrev TILE_GRPST : Nat := 57
abbrev TILE_CHST : Nat := 58
abbrev TILE_FRAMEL : Nat := 59
abbrev TILE_FRAMEH : Nat := 60
abbrev TILE_STRB : Nat := 61
abbrev TILE_STRBCNT : Nat := 62
abbrev TILE_BUDGET : Nat := 63
abbrev TILE_BUDGET2 : Nat := 64
abbrev TILE_ROT : Nat := 65
abbrev TILE_SLCNT : Nat := 66
abbrev TILE_BCN : Nat := 67
abbrev TILE_BCNST : Nat := 68
abbrev TILE_BCNDEV : Nat := 69
abbrev TILE_BCNCNT : Nat := 70
abbrev TILE_DIAG : Nat := 71
abbrev IOT_DICFG : Nat := 72
abbrev IOT_DIPER : Nat := 73
abbrev IOT_DIPOSL : Nat := 74
abbrev IOT_DIPOSH : Nat := 75
abbrev IOT_SBLK : Nat := 76
abbrev IOT_BLANKST : Nat := 77
abbrev IOT_DOQ_P0 : Nat := 78
abbrev IOT_DOQ_P1 : Nat := 79
abbrev IOT_DOQ_CTL : Nat := 80
abbrev IOT_DOLAT : Nat := 81
abbrev IOT_DOQST : Nat := 82
abbrev IOT_DOCMD : Nat := 83
abbrev IOT_DOCNT : Nat := 84
abbrev IOT_DICNT : Nat := 85
abbrev IOT_COMMIT : Nat := 86
abbrev IOT_BRKREQ : Nat := 87
abbrev CAL_CFG : Nat := 88
abbrev CAL_TOL0 : Nat := 89
abbrev CAL_TOL1 : Nat := 90
abbrev CAL_TOL2 : Nat := 91
abbrev CAL_REFV : Nat := 92
abbrev CAL_COMMIT : Nat := 93
abbrev CAL_START : Nat := 94
abbrev CAL_REFID : Nat := 95
abbrev CAL_REQM : Nat := 96
abbrev CAL_STAT : Nat := 97
abbrev CAL_CNT : Nat := 98
abbrev CAL_CNT2 : Nat := 99
abbrev CAL_TJ : Nat := 100
abbrev CAL_SLCCFG : Nat := 101
abbrev CAL_SOFS : Nat := 102
abbrev CAL_SGAIN : Nat := 103
abbrev CAL_FUSEST : Nat := 104
abbrev CAL_BURN : Nat := 105
abbrev CAL_BURNST : Nat := 106
abbrev CAL_OFS : Nat := 107
abbrev CAL_GAIN : Nat := 108
abbrev CAL_UOFS : Nat := 109
abbrev CAL_UGAIN : Nat := 110
abbrev CAL_SRC : Nat := 111
abbrev CAL_FUSERD : Nat := 112
abbrev FLT_CFG : Nat := 113
abbrev FLT_CFG2 : Nat := 114
abbrev FLT_RS : Nat := 115
abbrev FLT_GDLY : Nat := 116
abbrev FLT_GDLYF : Nat := 117
abbrev FLT_NORM : Nat := 118
abbrev FLT_STAT : Nat := 119
abbrev FLT_COMMIT : Nat := 120
abbrev FLT_RATE : Nat := 121
abbrev FLT_CNT : Nat := 122
abbrev FLT_PHOLD : Nat := 123
abbrev FLT_FRZ : Nat := 124
abbrev FLT_COEF : Nat := 125
abbrev TIM_WB_NS : Nat := 126
abbrev TIM_WB_FRAC : Nat := 127
abbrev TIM_WB_SECL : Nat := 128
abbrev TIM_WB_SECH : Nat := 129
abbrev TIM_WB_STAT : Nat := 130
abbrev TIM_WB_OFS : Nat := 131
abbrev TIM_WB_HOERR : Nat := 132
abbrev TIM_WB_CFG : Nat := 133
abbrev TIM_WB_HOCFG : Nat := 134
abbrev TIM_WB_STEPLIM : Nat := 135
abbrev TIM_WB1_SETL : Nat := 136
abbrev TIM_WB1_SETH : Nat := 137
abbrev TIM_PTP_CFG : Nat := 138
abbrev TIM_PTP_INT : Nat := 139
abbrev TIM_PTP_CNT : Nat := 140
abbrev TIM_PTP_DLY : Nat := 141
abbrev TIM_PORT_EGR : Nat := 142
abbrev TIM_PORT_ING : Nat := 143
abbrev TIM_PORT_PCS : Nat := 144
abbrev TIM_PORT_EXT : Nat := 145
abbrev TIM_PORT_ASYM : Nat := 146
abbrev TIM_NB_CFG : Nat := 147
abbrev TIM_NB_NS : Nat := 148
abbrev TIM_NB_EP : Nat := 149
abbrev TIM_SCH_CFG : Nat := 150
abbrev TIM_SCH_A0 : Nat := 151
abbrev TIM_SCH_A1 : Nat := 152
abbrev TIM_SCH_I0 : Nat := 153
abbrev TIM_SCH_I1 : Nat := 154
abbrev TIM_SCH_LATC : Nat := 155
abbrev TIM_TMP_CFG : Nat := 156
abbrev TIM_TMP_SCALE : Nat := 157
abbrev TIM_TMP_HOLD : Nat := 158
abbrev TIM_TMP_POSL : Nat := 159
abbrev TIM_TMP_POSH : Nat := 160
abbrev TIM_TMP_VEL : Nat := 161
abbrev TIM_TMP_ERR : Nat := 162
abbrev TIM_TMP_STAT : Nat := 163
abbrev TIM_TMP_ZPOSL : Nat := 164
abbrev TIM_TMP_ZPOSH : Nat := 165
abbrev TIM_CYCLE : Nat := 166
abbrev TIM_PPS : Nat := 167
abbrev TIM_PPSIN : Nat := 168
abbrev TIM_COMMIT : Nat := 169
abbrev QUE_Q_CFG : Nat := 170
abbrev QUE_Q_STAT : Nat := 171
abbrev QUE_Q_CNT0 : Nat := 172
abbrev QUE_Q_CNT1 : Nat := 173
abbrev QUE_Q_CNT2 : Nat := 174
abbrev QUE_S_CFG : Nat := 175
abbrev QUE_S_RED : Nat := 176
abbrev QUE_S_FLUSH : Nat := 177
abbrev QUE_S_RET : Nat := 178
abbrev QUE_S_PSN : Nat := 179
abbrev QUE_S_QUEUED : Nat := 180
abbrev QUE_S_BADACK : Nat := 181
abbrev QUE_S_LEDGER : Nat := 182
abbrev QUE_ROSTER : Nat := 183
abbrev QUE_PART : Nat := 184
abbrev QUE_HWRATE : Nat := 185
abbrev QUE_HFREE : Nat := 186
abbrev QUE_EXC_EARLY : Nat := 187
abbrev QUE_EXC_RESET : Nat := 188
abbrev QUE_EXC_DAMAGED : Nat := 189
abbrev QUE_RUNID : Nat := 190
abbrev QUE_HRET : Nat := 191
abbrev QUE_PULLST : Nat := 192
abbrev QUE_PULLCNT : Nat := 193
abbrev QUE_PULLCNT2 : Nat := 194
abbrev QUE_COMMIT : Nat := 195
abbrev CMP_CFG : Nat := 196
abbrev CMP_STAT : Nat := 197
abbrev CMP_DONE : Nat := 198
abbrev CMP_CNT0 : Nat := 199
abbrev CMP_CNT1 : Nat := 200
abbrev CMP_INBYTESL : Nat := 201
abbrev CMP_INBYTESH : Nat := 202
abbrev CMP_J_D0 : Nat := 203
abbrev CMP_J_D1 : Nat := 204
abbrev CMP_J_D2 : Nat := 205
abbrev CMP_J_D3 : Nat := 206
abbrev CMP_J_D4 : Nat := 207
abbrev CMP_J_D5 : Nat := 208
abbrev CMP_J_D8 : Nat := 209
abbrev CMP_J_CTL : Nat := 210
abbrev CMP_J_ST : Nat := 211
abbrev CMP_J_OUT : Nat := 212
abbrev CMP_J_USED : Nat := 213
abbrev CMP_J_AUX : Nat := 214
abbrev PRT_P_CFG : Nat := 215
abbrev PRT_P_STAT : Nat := 216
abbrev PRT_P_PHY : Nat := 217
abbrev PRT_P_MAC0 : Nat := 218
abbrev PRT_P_MAC1 : Nat := 219
abbrev PRT_P_IPA : Nat := 220
abbrev PRT_P_IPB : Nat := 221
abbrev PRT_P_MIRL : Nat := 222
abbrev PRT_P_MIRH : Nat := 223
abbrev PRT_P_CNT0 : Nat := 224
abbrev PRT_P_CNT1 : Nat := 225
abbrev PRT_P_CNT2 : Nat := 226
abbrev PRT_P_CNT3 : Nat := 227
abbrev PRT_P_CNT4 : Nat := 228
abbrev PRT_P_CNT5 : Nat := 229
abbrev PRT_P_MKA : Nat := 230
abbrev PRT_P_REPLAYWIN : Nat := 231
abbrev PRT_P_CKN : Nat := 232
abbrev PRT_P_CAK : Nat := 233
abbrev PRT_P_SAK : Nat := 234
abbrev PRT_P_SALT : Nat := 235
abbrev PRT_P_SSCI : Nat := 236
abbrev PRT_P_SCTL : Nat := 237
abbrev PRT_P_SECST : Nat := 238
abbrev PRT_P_SECCNT0 : Nat := 239
abbrev PRT_P_SECCNT1 : Nat := 240
abbrev PRT_P_SECCNT2 : Nat := 241
abbrev PRT_VER : Nat := 242
abbrev PRT_UDP : Nat := 243
abbrev PRT_COMMIT : Nat := 244
abbrev SAFV_STATE : Nat := 245
abbrev SAFV_DIGEST : Nat := 246
abbrev SAFV_SI : Nat := 247
abbrev SAFV_BK : Nat := 248
abbrev SAFV_BKM : Nat := 249
abbrev SAFV_CNT : Nat := 250
abbrev SAFV_LOG : Nat := 251
abbrev SAFV_ZCERR : Nat := 252
abbrev SAFV_ZC_ST : Nat := 253
abbrev SAFV_ZC_SEQ : Nat := 254
abbrev SAFV_ZC_INC : Nat := 255
abbrev SAFV_ZC_C0 : Nat := 256
abbrev SAFV_ZC_C1 : Nat := 257
abbrev SAFV_ZC_C2 : Nat := 258
abbrev PAR_STAT : Nat := 259
abbrev PAR_CFG : Nat := 260
abbrev PAR_SWAP : Nat := 261
abbrev PAR_SWAPST : Nat := 262
abbrev PAR_CNT0 : Nat := 263
abbrev PAR_CNT1 : Nat := 264
abbrev PAR_LAST : Nat := 265
abbrev PAR_COMMIT : Nat := 266
abbrev SEC_UNITIDL : Nat := 267
abbrev SEC_UNITIDH : Nat := 268
abbrev SEC_HWTYPE : Nat := 269
abbrev SEC_ARB : Nat := 270
abbrev SEC_OWNST : Nat := 271
abbrev SEC_BOOTST : Nat := 272
abbrev SEC_OWNH : Nat := 273
abbrev SEC_DM : Nat := 274
abbrev SEC_DMEXT : Nat := 275
abbrev SEC_DMCTL : Nat := 276
abbrev SEC_IDPUB : Nat := 277
abbrev SEC_NONCE : Nat := 278
abbrev SEC_REQ : Nat := 279
abbrev SEC_CMD : Nat := 280
abbrev SEC_ST : Nat := 281
abbrev SEC_RSP : Nat := 282
abbrev UPD_STAT : Nat := 283
abbrev UPD_IMG : Nat := 284
abbrev UPD_SVER : Nat := 285
abbrev UPD_SBUILD : Nat := 286
abbrev UPD_AVER : Nat := 287
abbrev UPD_ABUILD : Nat := 288
abbrev UPD_CONFTMR : Nat := 289
abbrev UPD_CTL : Nat := 290
abbrev UPD_CFG : Nat := 291
abbrev UPD_CNT0 : Nat := 292
abbrev UPD_CNT1 : Nat := 293
abbrev UPD_CNT2 : Nat := 294
abbrev UPD_RCVADDR : Nat := 295
abbrev UPD_RCVCTL : Nat := 296
abbrev UPD_RCVDATA : Nat := 297
abbrev LOG_ENTRY : Nat := 298
abbrev LOG_HEAD : Nat := 299
abbrev LOG_RDSEQ : Nat := 300
abbrev LOG_CFG : Nat := 301
abbrev LOG_CNT : Nat := 302
abbrev MON_CFG : Nat := 303
abbrev MON_INT : Nat := 304
abbrev MON_LO : Nat := 305
abbrev MON_HI : Nat := 306
abbrev MON_LOLIM : Nat := 307
abbrev MON_COUNT : Nat := 308
abbrev MON_MIN : Nat := 309
abbrev MON_MAX : Nat := 310
abbrev MON_SUML : Nat := 311
abbrev MON_SUMH : Nat := 312
abbrev MON_MEAN : Nat := 313
abbrev MON_BIN : Nat := 314
abbrev RES_LO : Nat := 315
abbrev RES_HI : Nat := 316

end Sys2Proof.RID
end

