-- ==== Sys2Proof/Machine/State.lean ====
section
/-! DEFINITION. The state of the hub, the reasons a step can stop, and the state after reset. -/

namespace Sys2Proof.Machine

/-- Faults of the model. The rules give every command an effect in every state, so no meaning raises one. -/
inductive Fault where
  /-- Raised by no meaning; stopping here would be safe. -/
  | stuck
  deriving DecidableEq, Repr

/-- Refusals of the model. -/
inductive Refusal where
  /-- The command has no meaning yet. Raised by the dispatch only; safe. -/
  | notModelled (mnemonic : String)
  deriving DecidableEq, Repr

/-- The stages of Table 2.10: in reset or just released, boot ROM and boot stage, firmware before the first commit,
running, and the recovery of R357. -/
inductive Stage where
  | reset | boot | firmware | running | recovery
  deriving DecidableEq, Repr

/-- Reset, supplies and straps (R33 to R50): the reset sources that are active, each a flag; `pulse` stands for those that
act once (watchdog, SOFT, ACTIVATE). -/
structure SysSt where
  stage : Stage := .reset
  porHold : Bool := false
  pinLow : Bool := false
  thermal : Bool := false
  refLost : Bool := false
  pulse : Bool := false
  /-- Local time of the last reset release: the bases start there. -/
  releasedAt : Nat := 0
  /-- A field supply is out of range, or has not been good for its hold time. -/
  fieldFault : Bool := true
  /-- The code on SEAL0 to SEAL3, since when, and whether it still waits to be accepted. -/
  sealCand : Nat := 0
  sealSince : Nat := 0
  sealNew : Bool := true
  /-- Samples whose staged words a REFLOSS reset took, by endpoint with first SSN and count (R218). -/
  staged : List (Nat × Nat × Nat) := []
  deriving DecidableEq, Repr

/-- Whether the hub is held in reset by a source, or stays in recovery (R48, R357). -/
def SysSt.stopped (x : SysSt) : Bool :=
  x.porHold || x.pinLow || x.thermal || x.refLost || x.pulse || x.stage == .recovery

/-- Commits that are pending (R128, R155, R194, R226, R278, R344, R419): hub-wide ones as flags, per-tile ones by
bit. -/
structure CommitSt where
  tim : Bool := false
  reanchor : Bool := false
  iot : Bool := false
  que : Bool := false
  prt : Bool := false
  par : Bool := false
  tile : Nat := 0
  calcfg : Nat := 0
  cal : Nat := 0
  flt : Nat := 0
  /-- A pair commit applies at or after the control cycle boundary of this number (R333). -/
  notBefore : Nat := 0
  /-- The boundary B of a restart whose first strobe is still to come (R389). -/
  restartB : Option Int := none
  deriving DecidableEq, Repr

/-- The state of the hub. -/
structure State where
  /-- Local time: units of 2^-16 ns since power-on. -/
  now : Nat
  /-- Free values taken so far (the model's own). -/
  fresh : Nat
  /-- Commands that wait, first in first out (the model's own). -/
  pending : List Instr
  /-- Registers: the shadow of RWS fields, the value of RW, RO, ROC and W1C fields; unlisted: the reset value. -/
  regs : Tbl Word
  /-- The value in use of RWS fields (R386). -/
  live : Tbl Word
  /-- Write-only key words kept inside. -/
  wo : Tbl Word
  /-- The event log by slot, and the codes of this control cycle that are logged at its end (R408, R421). -/
  log : Tbl LogEntry
  cyc : Tbl (Option CycRec)
  /-- The last answer to each requester. -/
  resp : Tbl BusResp
  /-- The DRAM window, byte by byte. -/
  dram : Tbl Byte
  sys : SysSt
  commits : CommitSt
  time : TimeSt
  dio : DioSt
  strm : StrmSt
  ports : PortsSt
  mon : Tbl MonSt
  cmp : CmpSt
  /-- What reads have latched for a requester (R107, R163, R224, R409), by kind × 4 + requester: the index read, then
  the latched words. -/
  latch : Tbl (List Nat)
  /-- Tiles by number and filter chains by endpoint. -/
  tiles : Tbl TileSt
  chains : Tbl ChainSt
  cal : CalSt
  /-- The fuse array by word; a bit once burned stays 1 (R131). -/
  fuse : Tbl Word
  safe : SafeSt
  pair : PairSt
  sec : SecSt
  chor : ChorSt
  host : HostSt
  /-- The boot flash by byte; an erased byte reads 0xFF. -/
  flash : Tbl Byte
  deriving DecidableEq, Repr

/-- The machine right after reset: the reset sources have just released, every register is at its reset value, window 0 of
the protection unit is as R362 leaves it, and there is nothing in memory, queues and log. -/
def State.reset : State where
  now := 0
  fresh := 0
  pending := []
  regs := [(0x100004, 0x80FFFFFF), (0x100008, 3)]
  live := []
  wo := []
  log := []
  cyc := []
  resp := []
  dram := []
  sys := {}
  commits := {}
  time := {}
  dio := {}
  strm := {}
  ports := {}
  mon := []
  cmp := {}
  latch := []
  tiles := []
  chains := []
  cal := {}
  fuse := []
  safe := {}
  pair := {}
  sec := {}
  chor := {}
  host := {}
  flash := []

end Sys2Proof.Machine
end

