-- ==== Sys2Proof/Machine/Ops.lean ====
section
/-! DEFINITION. The named operations over the state that every meaning is built from: registers and their fields,
wide and narrow base times, the event log, free values, and the frame of a meaning. -/

namespace Sys2Proof.Machine

/-- What a meaning answers. -/
abbrev Out := Host.Outcome State Fault Refusal

/-! Registers (R5) -/

/-- The stored word of a register: shadows of RWS fields, values of the others. -/
def State.word (s : State) (r : RegAt) : Word := Tbl.get r.reset s.regs r.addr

/-- The word in use of a register with RWS fields. -/
def State.liveWord (s : State) (r : RegAt) : Word := Tbl.get r.reset s.live r.addr

/-- The state with a register's stored word replaced. -/
def State.setWord (s : State) (r : RegAt) (v : Word) : State :=
  { s with regs := Tbl.set r.reset s.regs r.addr v }

/-- The state with a register's word in use replaced. -/
def State.setLive (s : State) (r : RegAt) (v : Word) : State :=
  { s with live := Tbl.set r.reset s.live r.addr v }

/-- A field's stored value. -/
def State.get (s : State) (f : FldAt) : Nat := fget (s.word f.reg) f.lo f.w

/-- A field's value in use. -/
def State.inUse (s : State) (f : FldAt) : Nat := fget (s.liveWord f.reg) f.lo f.w

/-- The state with a field's stored value replaced. -/
def State.put (s : State) (f : FldAt) (v : Nat) : State :=
  s.setWord f.reg (fset (s.word f.reg) f.lo f.w v)

/-- The state with a field's stored value and its value in use replaced. -/
def State.putBoth (s : State) (f : FldAt) (v : Nat) : State :=
  let s := s.put f v
  s.setLive f.reg (fset (s.liveWord f.reg) f.lo f.w v)

/-- The state with a saturating counter field raised by `n`. -/
def State.bump (s : State) (f : FldAt) (n : Nat := 1) : State :=
  s.put f (satAdd f.w (s.get f) n)

/-- Set or clear a one-bit field. -/
def State.putBit (s : State) (f : FldAt) (b : Bool) : State := s.put f (if b then 1 else 0)

/-- Whether a one-bit field is 1. -/
def State.on (s : State) (f : FldAt) : Bool := s.get f == 1

/-! Roles and wiring -/

/-- Whether the chip holds the follow role (Table 1.4). -/
def State.isFollow (s : State) : Bool := s.on R.SYS_CHAINPOS.FOLLOW

/-- Whether the chip is one of a pair (Table 1.4). -/
def State.isPaired (s : State) : Bool := s.on R.SYS_CHAINPOS.PAIRED

/-- The lead of a pair mirrors something to its follow (R327). -/
def State.mirror (s : State) (m : Mirror) : State :=
  if s.isPaired && !s.isFollow then { s with pair := { s.pair with mirrorTx := some m } } else s

/-! Time units: local time counts 2^-16 ns -/

/-- One nanosecond. -/
abbrev nsU : Nat := 65536
/-- One microsecond. -/
abbrev usU : Nat := 65536000
/-- One millisecond. -/
abbrev msU : Nat := 65536000000
/-- One second. -/
abbrev secU : Nat := 65536000000000
/-- One slot of the 40.96 MHz converter clock, 24.4140625 ns. -/
abbrev slotU : Nat := 1600000

/-! Bases (R158, R162) -/

/-- The servo state of a wide base. -/
def State.wbSt (s : State) (k : Nat) : WbSt := Tbl.get {} s.time.wb k

/-- The state with a wide base's servo state replaced. -/
def State.setWb (s : State) (k : Nat) (b : WbSt) : State :=
  { s with time := { s.time with wb := Tbl.set {} s.time.wb k b } }

/-- Wide base `k` at local time `t`, in 2^-16 ns: both bases start at 0 s at reset release (R158). -/
def State.wbAt (s : State) (k t : Nat) : Int :=
  (t : Int) - (s.sys.releasedAt : Int) + (s.wbSt k).off

/-- Wide base `k` now. -/
def State.wbNow (s : State) (k : Nat) : Int := s.wbAt k s.now

/-- The local time at which wide base `k` reads `x`, at the present offset. -/
def State.localOf (s : State) (k : Nat) (x : Int) : Int :=
  x - (s.wbSt k).off + (s.sys.releasedAt : Int)

/-- Whole nanoseconds of a base time since its zero. -/
def wholeNs (x : Int) : Nat := (x / nsU).toNat

/-- Seconds, nanoseconds and fraction of a base time. -/
def secOf (x : Int) : Nat := wholeNs x / 1000000000
def nsOf (x : Int) : Nat := wholeNs x % 1000000000
def fracOf (x : Int) : Nat := (x % nsU).toNat

/-- STATE of a wide base (Table 7.1): 0 FREERUN, 1 ACQUIRING, 2 LOCKED, 3 HOLDOVER. -/
def State.wbState (s : State) (k : Nat) : Nat := s.get (R.TIM_WB_STAT.STATE k)

/-- A base is in holdover whenever its state is not LOCKED (R159). -/
def State.wbHoldover (s : State) (k : Nat) : Bool := s.wbState k != 2

/-- The wide base that narrow base `n` follows (R162). -/
def State.nbSrc (s : State) (n : Nat) : Nat := s.inUse (R.TIM_NB_CFG.SRC n)

/-- NS and EPOCH of a base time on a narrow base (R162). -/
def nbNs (x : Int) : Nat := wholeNs x % 2 ^ 32
def nbEpoch (x : Int) : Nat := wholeNs x / 2 ^ 32 % 2 ^ 16

/-! Free values -/

/-- Take one free value. -/
def State.draw (s : State) : Nat × State :=
  (Config.freeNat s.fresh, { s with fresh := s.fresh + 1 })

/-! Event log (R408, R410, R421) -/

/-- The plane of a log code: the plane whose mechanism the code's group belongs to, where a chapter places it in one
(R23 and the plane descriptions before it). DEDUCED; free for groups 0x01, 0x08 and 0x0A. -/
def logPlane (code : Nat) : Nat :=
  let g := code / 256
  if [2, 3, 4, 6, 7].contains g then 0
  else if [5, 9].contains g then 1
  else if [0xB, 0xC, 0xD, 0xE].contains g then 2
  else Config.logPlane code % 3

/-- Set a cause in SYS_HINTST (Table 15.13). -/
def State.hint (s : State) (n : Nat) : State :=
  s.put R.SYS_HINTST.CAUSE (s.get R.SYS_HINTST.CAUSE ||| 2 ^ n)

/-- Store an entry under the next SEQ: the oldest is overwritten, and counted in LOST if no reader had passed it. -/
def State.logStore (s : State) (e : LogEntry) : State :=
  let seq := s.get R.LOG_HEAD.SEQ
  let slot := seq % 8192
  let old := Tbl.get {} s.log slot
  let s := if old.code ≠ 0 ∧ s.get R.LOG_RDSEQ.SEQ ≤ old.seq then s.bump R.LOG_CNT.LOST else s
  let s := { s with log := Tbl.set {} s.log slot { e with seq := seq } }
  let s := s.put R.LOG_HEAD.SEQ (seq + 1)
  if s.get R.LOG_CFG.HINTSEV ≤ e.sev then s.hint 0 else s

/-- Log an event: entries below MINSEV are counted only, but FAULT entries and group 0x09 are always stored. -/
def State.logRep (s : State) (t code kind index detail data repeats : Nat) : State :=
  let sev := L.severity code
  if sev < s.get R.LOG_CFG.MINSEV ∧ sev ≠ 3 ∧ code / 256 ≠ 9 then s.bump R.LOG_CNT.FILTERED
  else
    let x := s.wbAt 0 t
    s.logStore { sec := secOf x, ns := nsOf x, code := code, plane := logPlane code, sev := sev,
                 asFollow := s.isFollow, hdo := s.wbHoldover 0, repeats := repeats,
                 kind := kind, index := index, detail := detail, data := data }

/-- Log an event that happened at local time `t`. -/
def State.logAt (s : State) (t code : Nat) (kind index detail data : Nat := 0) : State :=
  s.logRep t code kind index detail data 1

/-- Log an event of this instant. -/
def State.log1 (s : State) (code : Nat) (kind index detail data : Nat := 0) : State :=
  s.logAt s.now code kind index detail data

/-- Note an event of a code that is logged once per control cycle (R421). -/
def State.logCycle (s : State) (code : Nat) (kind index detail data : Nat := 0) (n : Nat := 1) : State :=
  let r : CycRec := match Tbl.get none s.cyc code with
    | some c => { c with count := c.count + n }
    | none => ⟨s.now, kind, index, detail, data, n⟩
  { s with cyc := Tbl.set none s.cyc code (some r) }

/-- The codes whose entry carries the count of the cycle in DATA (R88). -/
def countInData (code : Nat) : Bool := code == L.STRB_DROP || code == L.CMP_FAIL

/-- Log the entry of each code that is logged once per control cycle, at the boundary that ends the cycle: by the
time of their first events (R421, R25). -/
def State.logCycleEnd (s : State) : State :=
  let rs := s.cyc.filterMap fun e => e.2.map fun c => (e.1, c)
  let le (a b : Nat × CycRec) : Bool :=
    a.2.t < b.2.t || (a.2.t == b.2.t && logPlane a.1 ≤ logPlane b.1)
  let s := (sortBy le rs).foldl (init := s) fun s e =>
    s.logRep e.2.t e.1 e.2.kind e.2.index e.2.detail
      (if countInData e.1 then e.2.count else e.2.data) (min 65535 e.2.count)
  { s with cyc := [] }

/-! The DRAM window, byte-addressed from its base, little-endian (R3) -/

/-- Bytes of the DRAM window (R213). -/
abbrev dramBytes : Nat := 2 ^ 33

/-- A byte of the DRAM window; what nothing has written reads as 0. -/
def State.dramByte (s : State) (a : Nat) : Byte := Tbl.get 0 s.dram a

/-- `n` bytes of the DRAM window from `a`. -/
def State.dramRead (s : State) (a n : Nat) : List Byte := (List.range n).map fun i => s.dramByte (a + i)

/-- The word at word address `w` of the DRAM window. -/
def State.dramWord (s : State) (w : Nat) : Nat := leNat (s.dramRead (4 * w) 4)

/-- Write bytes to the DRAM window from `a`. -/
def State.dramWrite (s : State) (a : Nat) : List Byte → State
  | [] => s
  | b :: bs => State.dramWrite { s with dram := Tbl.set 0 s.dram a b } (a + 1) bs

/-! The frame of a meaning -/

/-- The parts of the state that a command may write. Time moves with every command, and no command writes the
queue. -/
structure Parts where
  regs : Bool := true
  live : Bool := false
  wo : Bool := false
  log : Bool := true
  dram : Bool := false
  resp : Bool := false
  sys : Bool := false
  commits : Bool := false
  time : Bool := false
  dio : Bool := false
  strm : Bool := false
  ports : Bool := false
  mon : Bool := false
  cmp : Bool := false
  latch : Bool := false
  tiles : Bool := false
  chains : Bool := false
  cal : Bool := false
  fuse : Bool := false
  safe : Bool := false
  pair : Bool := false
  sec : Bool := false
  chor : Bool := false
  host : Bool := false
  flash : Bool := false

/-- The state after a command: the parts it may write from `t`, every other part from `s`. -/
def keep (p : Parts) (s t : State) : State where
  now := s.now
  fresh := t.fresh
  pending := s.pending
  regs := if p.regs then t.regs else s.regs
  live := if p.live then t.live else s.live
  wo := if p.wo then t.wo else s.wo
  log := if p.log then t.log else s.log
  cyc := if p.log then t.cyc else s.cyc
  resp := if p.resp then t.resp else s.resp
  dram := if p.dram then t.dram else s.dram
  sys := if p.sys then t.sys else s.sys
  commits := if p.commits then t.commits else s.commits
  time := if p.time then t.time else s.time
  dio := if p.dio then t.dio else s.dio
  strm := if p.strm then t.strm else s.strm
  ports := if p.ports then t.ports else s.ports
  mon := if p.mon then t.mon else s.mon
  cmp := if p.cmp then t.cmp else s.cmp
  latch := if p.latch then t.latch else s.latch
  tiles := if p.tiles then t.tiles else s.tiles
  chains := if p.chains then t.chains else s.chains
  cal := if p.cal then t.cal else s.cal
  fuse := if p.fuse then t.fuse else s.fuse
  safe := if p.safe then t.safe else s.safe
  pair := if p.pair then t.pair else s.pair
  sec := if p.sec then t.sec else s.sec
  chor := if p.chor then t.chor else s.chor
  host := if p.host then t.host else s.host
  flash := if p.flash then t.flash else s.flash

/-- A meaning that a reset or recovery does not hold up: time moves to the command's instant (it never runs back), the
effect `f` follows, and only the parts `p` are taken from it. -/
def always (p : Parts) (now : Nat) (s : State) (f : State → State) : Out :=
  let s := { s with now := max s.now now }
  .next (keep p s (f s))

/-- A meaning: as `always`, but while a reset source is active, or in recovery, nothing happens (R48, R357). -/
def act (p : Parts) (now : Nat) (s : State) (f : State → State) : Out :=
  always p now s fun s => if s.sys.stopped then s else f s

/-- Apply an operation when a condition holds. -/
def State.when (s : State) (c : Bool) (f : State → State) : State := if c then f s else s

/-- Apply an operation for each member of a list, in order. -/
def State.each {α : Type} (s : State) (l : List α) (f : State → α → State) : State := l.foldl f s

end Sys2Proof.Machine
end

