-- ==== Sys2Proof/Machine/Monitors.lean ====
section
/-! DEFINITION. The monitor units (R412 to R414). -/

namespace Sys2Proof.Machine

/-- A monitor unit's running state. -/
def State.monSt (s : State) (u : Nat) : MonSt := Tbl.get {} s.mon u

/-- The state with a monitor unit's running state replaced. -/
def State.setMon (s : State) (u : Nat) (m : MonSt) : State := { s with mon := Tbl.set {} s.mon u m }

/-- The bin of a measurement (R413). -/
def monBin (v lo : Int) (bw : Nat) : Nat :=
  if v < lo then 0
  else if v ≥ lo + 62 * (2 ^ bw : Nat) then 63
  else 1 + ((v - lo) / (2 ^ bw : Nat)).toNat

/-- A measurement enters unit `u`'s live bank and is held against the limits (R413, R414). -/
def monAdd (s : State) (u : Nat) (v : Int) : State :=
  let m := s.monSt u
  let b := monBin v (sgn 32 (s.get (R.MON_LO.LO u))) (s.get (R.MON_CFG.BW u))
  let m' := { m with
    count := satAdd 32 m.count 1
    least := if m.count = 0 then v else min m.least v
    most := if m.count = 0 then v else max m.most v
    sum := m.sum + v
    bins := Tbl.set 0 m.bins b (satAdd 32 (Tbl.get 0 m.bins b) 1) }
  let beyond := s.on (R.MON_CFG.HIEN u) && decide (v > sgn 32 (s.get (R.MON_HI.HI u)))
    || s.on (R.MON_CFG.LOEN u) && decide (v < sgn 32 (s.get (R.MON_LOLIM.LO_LIM u)))
  if !beyond then s.setMon u m'
  else match m.crossed with
    | none =>
      let seq := s.get R.LOG_HEAD.SEQ
      let s := (s.log1 L.MON_LIMIT 9 u 0 (unsgn 64 v)).hint 1
      s.setMon u { m' with crossed := some seq }
    | some q =>
      let e := Tbl.get {} s.log (q % 8192)
      let s := if e.seq = q ∧ e.code = L.MON_LIMIT then
          { s with log := Tbl.set {} s.log (q % 8192) { e with repeats := satAdd 16 e.repeats 1 } }
        else s
      s.setMon u m'

/-- Whether unit `u` is enabled and watches quantity `q`, index `i` (R412). -/
def monWatches (s : State) (u q i : Nat) : Bool :=
  s.get (R.MON_CFG.QTY u) == q && s.get (R.MON_CFG.INDEX u) == i && s.get (R.MON_INT.INTERVAL u) != 0

/-- A measurement of quantity `q` with index `i`, for every unit that watches it. -/
def State.measure (s : State) (q i : Nat) (v : Int) : State :=
  s.each (List.range 32) fun s u => if monWatches s u q i then monAdd s u v else s

/-- MONITOR_SAMPLE (R412): the periodic measurement of a supply (mV) or a junction (0.01 °C) by unit `u`. -/
def execMonitorSample (now : Nat) (u : Fin 32) (v : Int) (s : State) : Out :=
  act { mon := true } now s fun s =>
    let q := s.get (R.MON_CFG.QTY u)
    if (q = 6 ∨ q = 7) ∧ s.get (R.MON_INT.INTERVAL u) ≠ 0 then monAdd s u v else s

/-- The live bank of unit `u` moves to the published registers and is cleared, and EPOCH advances (R413). -/
def monPublish (s : State) (u : Nat) : State :=
  let m := s.monSt u
  let mean : Int := if m.count = 0 then 0 else divRound m.sum m.count
  let s := s.put (R.MON_COUNT.COUNT u) m.count
  let s := s.put (R.MON_MIN.MIN u) (if m.count = 0 then 0 else unsgn 32 m.least)
  let s := s.put (R.MON_MAX.MAX u) (if m.count = 0 then 0 else unsgn 32 m.most)
  let s := s.put (R.MON_SUML.SUM u) (unsgn 32 m.sum)
  let s := s.put (R.MON_SUMH.SUM u) (unsgn 32 (m.sum / (2 ^ 32 : Nat)))
  let s := s.put (R.MON_MEAN.MEAN u) (unsgn 32 mean)
  let s := s.each (List.range 64) fun s b => s.put (R.MON_BIN.BIN u b) (Tbl.get 0 m.bins b)
  let s := s.put (R.MON_INT.EPOCH u) (s.get (R.MON_INT.EPOCH u) + 1)
  s.setMon u {}

/-- A control cycle begins: every enabled unit's interval is one cycle longer. -/
def monCycle (s : State) : State :=
  s.each (List.range 32) fun s u =>
    if s.get (R.MON_INT.INTERVAL u) = 0 then s
    else s.setMon u { s.monSt u with ran := (s.monSt u).ran + 1 }

/-- MONITOR_INTERVAL_END (R413): at the control cycle boundary that ends unit `u`'s interval, its bank is published.
A disabled unit has no interval, and
an interval that still runs has not ended. -/
def execMonitorIntervalEnd (now : Nat) (u : Fin 32) (s : State) : Out :=
  act { mon := true } now s fun s =>
    if s.get (R.MON_INT.INTERVAL u) = 0 ∨ (s.monSt u).ran < s.get (R.MON_INT.INTERVAL u) then s
    else monPublish s u

end Sys2Proof.Machine
end

