-- ==== Sys2Proof/Machine/Egress.lean ====
section
/-! DEFINITION. Ports: state, versions (R266, R267), egress priorities (R16, R259), transit buffers (R270) and what
waits at each port. -/

namespace Sys2Proof.Machine

/-- A port's state. -/
def State.portSt (s : State) (p : Nat) : PortSt := Tbl.get {} s.ports.port p

/-- The state with a port's state replaced. -/
def State.setPort (s : State) (p : Nat) (x : PortSt) : State :=
  { s with ports := { s.ports with port := Tbl.set {} s.ports.port p x } }

/-- The state with a port's state changed. -/
def State.modPort (s : State) (p : Nat) (f : PortSt → PortSt) : State := s.setPort p (f (s.portSt p))

/-- A port that is up (R263). -/
def State.portUp (s : State) (p : Nat) : Bool := s.on (R.PRT_P_STAT.UP p)

/-- The REACH bit of a chain port (Table 1.4). -/
def State.reach (s : State) (p : Nat) : Bool :=
  if p = 0 then s.on R.SYS_CHAINPOS.REACH_A else s.on R.SYS_CHAINPOS.REACH_B

/-- A chain port that streams may use: up, and its root answers (R20, R264). -/
def State.homeOk (s : State) (p : Nat) : Bool := s.portUp p && s.reach p

/-- The link version of a port (R263). -/
def State.lver (s : State) (p : Nat) : Nat := s.get (R.PRT_P_STAT.LVER p)

/-- The other chain port. -/
def otherPort (p : Nat) : Nat := if p = 0 then 1 else 0

/-- The partner port of a paired chip, if one is known (R265). -/
def State.partnerPort (s : State) : Option Nat := [0, 1].find? fun p => s.on (R.PRT_P_STAT.PARTNER p)

/-- Whether a flow and type exist, and from which version on (Tables 10.4, 10.5, 10.7, 13.8, 15.6); 0: not defined. -/
def flowFrom (flow type : Nat) : Nat :=
  match flow with
  | 0 => if type ≤ 1 then 1 else 0
  | 1 => if type ≤ 2 then 1 else if type ≤ 4 then 3 else 0
  | 2 => if type ≤ 1 then 1 else 0
  | 3 => if type ≤ 6 then 1 else 0
  | 4 => if type = 0 then 1 else 0
  | 5 => if type = 0 then 2 else 0
  | 6 => if type ≤ 5 then 1 else 0
  | _ => 0

/-- Whether a frame can be carried in version `v` (R267). -/
def Frame.inVersion (f : Frame) (v : Nat) : Bool :=
  let n := flowFrom f.flow f.type
  n != 0 && n ≤ v && (!f.multi || 2 ≤ v)

/-- Egress priority of a flow (Table 10.4). -/
def flowPrio (flow : Nat) : Nat :=
  match flow with
  | 0 => 0
  | 1 => 2
  | 2 => 3
  | 3 => 4
  | 4 => 0
  | 5 => 1
  | _ => 5

/-- Bytes that a Pebiyr frame of `len` payload bytes takes on the wire of port `p`: header, FCS, preamble and gap, the
Ethernet minimum, the IP and UDP headers under UDP transport, SecTAG and ICV under MACsec (R256, R258). -/
def wireBytes (s : State) (p len : Nat) : Nat :=
  let ip := if s.inUse (R.PRT_P_CFG.TRANSPORT p) = 1 then 28 else 0
  let sec := if s.inUse (R.PRT_P_CFG.MACSEC p) ≠ 0 then 32 else 0
  max 64 (14 + ip + 16 + len + 4) + sec + 20

/-- Data rate of a port in Mb/s (Table 10.1); under SGMII as set by the control word (R252). -/
def portRate (s : State) (p : Nat) : Nat :=
  match s.inUse (R.PRT_P_CFG.MODE p) with
  | 0 => 1000
  | 1 => 100
  | 2 => 10
  | 3 => (s.portSt p).speed
  | 4 => 1000
  | _ => 2500

/-- Local time that `n` bytes take on the wire of port `p`. -/
def wireTime (s : State) (p n : Nat) : Nat :=
  let r := portRate s p
  if r = 0 then 0 else n * 8 * usU / r

/-- Put an item at an egress port; it becomes ready now. -/
def State.enqueue (s : State) (p : Nat) (it : TxItem) : State :=
  let it := { it with ready := s.now, order := s.ports.order }
  let s := { s with ports := { s.ports with order := s.ports.order + 1 } }
  s.modPort p fun x => { x with txq := x.txq ++ [it] }

/-- Bytes of transit frames that wait at a port. -/
def transitBytes (x : PortSt) : Nat :=
  (x.txq.filter (·.transit)).foldl (fun n i => n + i.bytes) 0

/-- The hub's own frame leaves by port `p`: not on a port that is not up, and not toward a root that is out of reach
(Table 10.8); such a frame is discarded and counted in NOROUTE. -/
def State.sendOwn (s : State) (p : Nat) (f : Frame) : State :=
  if !s.portUp p || ((f.dtype == 1 || f.dtype == 2) && !s.reach p) then s.bump (R.PRT_P_CNT3.NOROUTE p)
  else s.enqueue p { prio := flowPrio f.flow, bytes := wireBytes s p f.length, body := .peb f }

/-- A link frame of the port itself (LINK_HELLO), sent on a port that need not be up (R263). -/
def State.sendLink (s : State) (p : Nat) (f : Frame) : State :=
  s.enqueue p { prio := 0, bytes := wireBytes s p f.length, body := .peb f }

/-- A transit frame enters the transit buffer of port `p`, 128 KiB of which 16 KiB are kept for priorities 0 and 1;
it is discarded whole when there is no room (R270). A ROOT_HELLO goes on whether or not the far root answers (R264). -/
def State.sendTransit (s : State) (p : Nat) (f : Frame) : State :=
  let prio := flowPrio f.flow
  let n := wireBytes s p f.length
  if !s.portUp p || (f.flow != 0 && (f.dtype == 1 || f.dtype == 2) && !s.reach p) then s.bump (R.PRT_P_CNT3.NOROUTE p)
  else if transitBytes (s.portSt p) + n > (if prio ≤ 1 then 131072 else 114688) then
    s.bump (R.PRT_P_CNT4.TXDROP p)
  else s.enqueue p { prio := prio, transit := true, bytes := n, body := .peb f }

/-- A frame originated by this hub: its address, line and role in the header (Table 10.3). -/
def State.ownFrame (s : State) (flow type dst dtype a b : Nat) (payload : List Byte) (ch : Nat := 0) : Frame where
  ver := 3
  flow := flow
  multi := dtype == 3
  sfol := s.isFollow
  ch := ch
  line := s.get R.SYS_LINEADDR.LINE_ID
  src := s.get R.SYS_LINEADDR.HUB_ADDR
  dst := if dtype = 0 then dst else 0
  stype := 0
  dtype := dtype
  type := type
  length := payload.length
  a := a
  b := b
  payload := payload

/-- Send a frame out of both chain ports (R15, R180). -/
def State.sendBoth (s : State) (f : Frame) : State := (s.sendOwn 0 f).sendOwn 1 f

/-- The order in which waiting items leave: priority, then the time at which they became ready, transit first when
together, then order (R16, R270, R272). -/
def itemBefore (a b : TxItem) : Bool :=
  if a.prio ≠ b.prio then a.prio < b.prio
  else if a.ready ≠ b.ready then a.ready < b.ready
  else if a.transit ≠ b.transit then a.transit
  else a.order < b.order

/-- The first item of a list to leave. -/
def firstItem : List TxItem → Option TxItem
  | [] => none
  | i :: l => match firstItem l with
    | none => some i
    | some j => if itemBefore i j then some i else some j

end Sys2Proof.Machine
end

