-- ==== Sys2Proof/Machine/Rates.lean ====
section
/-! DEFINITION. What a configuration makes of its fields, read through a view: steps and effective EVERY (R96, R418),
chain constants (R140, R141, R150, R153), output rates (R137, R138) and history formats (R214, R215). A view gives
every field a value: the values in use, the shadows, or those that will be in force at an instant (R420). -/

namespace Sys2Proof.Machine

/-- A configuration: the value of every field. -/
abbrev View := FldAt → Nat

/-- The least number of bits that hold `n` values: the least `b` with `n ≤ 2^b`. -/
def clog2 (n : Nat) : Nat := if n ≤ 1 then 0 else Nat.log2 (n - 1) + 1

/-- Square root rounded down, for numbers below 2^64, bit by bit from the top. -/
def isqrt (n : Nat) : Nat :=
  (List.range 32).reverse.foldl (fun r k => if (r + 2 ^ k) * (r + 2 ^ k) ≤ n then r + 2 ^ k else r) 0

/-- An enabled step of a step table (Table 4.3). -/
structure Step where
  no : Nat
  src : Nat
  rep : Nat
  delay : Nat
  every : Nat
  phase : Nat
  deriving DecidableEq, Repr

/-- The enabled steps of tile `t`, in table order: those whose REPEAT is not 0 (R96). -/
def stepsOf (v : View) (t : Nat) : List Step :=
  (List.range 512).filterMap fun i =>
    let rep := v (R.TILE_STEPA.REPEAT t i)
    if rep = 0 then none
    else some ⟨i, v (R.TILE_STEPA.SRC t i), rep, v (R.TILE_STEPA.DELAY t i), v (R.TILE_STEPB.EVERY t i),
      v (R.TILE_STEPB.PHASE t i)⟩

/-- A step executes in frame `f` exactly when f mod EVERY = PHASE (R96). -/
def Step.runs (st : Step) (f : Nat) : Bool := st.every != 0 && f % st.every == st.phase

/-- FRAME of a tile: the frame length in slots (R87). -/
def frameLen (v : View) (t : Nat) : Nat := v (R.TILE_FRAMEL.FRAME t) + 2 ^ 32 * v (R.TILE_FRAMEH.FRAME t)

/-- The effective EVERY of a channel as a fraction Λ / n (R418); 0 / 0 without an enabled step. -/
def effEvery (sts : List Step) : Nat × Nat :=
  let lam := sts.foldl (fun m st => Nat.lcm m st.every) 1
  (lam, sts.foldl (fun n st => n + (if st.every = 0 then 0 else lam / st.every)) 0)

/-- Executions lie exactly E frames apart, and E is whole (R418): every step's executions fall into one residue class
modulo E. -/
def evenlySpaced (sts : List Step) : Bool :=
  let (lam, n) := effEvery sts
  n != 0 && lam % n == 0 &&
    (let e := lam / n
     let ph := (sts.head?.map (·.phase % e)).getD 0
     sts.all fun st => st.every % e == 0 && st.phase % e == ph)

/-- The (EVERY, PHASE) pairs of a channel's steps. -/
def stepSet (sts : List Step) : List (Nat × Nat) := sts.map fun st => (st.every, st.phase)

/-- Equal step sets (R418). -/
def sameStepSet (a b : List Step) : Bool :=
  (stepSet a).all (fun x => (stepSet b).contains x) && (stepSet b).all (fun x => (stepSet a).contains x)

/-- The tile and channel of an analog endpoint (En, n = 96·t + c). -/
def tileOf (e : Nat) : Nat := e / 96
def chanOf (e : Nat) : Nat := e % 96

/-- The steps that name the channel of endpoint `e`. -/
def chanSteps (v : View) (e : Nat) : List Step := (stepsOf v (tileOf e)).filter fun st => st.src == chanOf e

/-- Taps of a ROM response (Table 6.2). -/
def tapsOf (r : Nat) : Nat :=
  [1, 7, 9, 15, 27, 7, 11, 17, 31, 9, 13, 19, 35, 55, 99, 227].getD r 1

/-- First coefficient of a ROM response in FLT_COEF (Table 6.15). -/
def coefFirst (r : Nat) : Nat :=
  [0, 1, 8, 17, 32, 59, 66, 77, 94, 125, 134, 147, 166, 201, 256, 355].getD r 0

/-- Taps as they count in the reach and the settle count: the identity counts as 0 (R142). -/
def tapsCount (r : Nat) : Nat := if r = 0 then 0 else tapsOf r

/-- The chain configuration of an analog endpoint (Tables 6.8 and 6.9). -/
structure ChainCfg where
  n : Nat
  m : Nat
  r : Nat
  comp : Nat
  hb : Nat
  dcbK : Nat
  rs : Bool
  delta : Nat
  tempo : Nat
  dir : Nat
  frzHold : Nat
  deriving DecidableEq, Repr

/-- The chain configuration of endpoint `e` in a view. -/
def chainCfg (v : View) (e : Nat) : ChainCfg :=
  { n := v (R.FLT_CFG.N e), m := v (R.FLT_CFG.M e), r := v (R.FLT_CFG.R e), comp := v (R.FLT_CFG.COMP e),
    hb := v (R.FLT_CFG.HB e), dcbK := v (R.FLT_CFG.DCB_K e), rs := v (R.FLT_CFG.RS_EN e) == 1,
    delta := v (R.FLT_RS.DELTA e), tempo := v (R.FLT_RS.RS_TEMPO e), dir := v (R.FLT_RS.DIR e),
    frzHold := v (R.FLT_CFG2.FRZHOLD e) }

/-- Growth of the CIC stage: B = ⌈N · log2(R · M)⌉ (R140). -/
def ChainCfg.growth (c : ChainCfg) : Nat := clog2 ((c.r * c.m) ^ c.n)

/-- KNORM = round(2^(30 + B) / (R·M)^N) (R141). -/
def ChainCfg.knorm (c : ChainCfg) : Nat :=
  let g := (c.r * c.m) ^ c.n
  if g = 0 then 0 else (2 ^ (31 + c.growth) + g) / (2 * g)

/-- The L of R153: taps of COMP and HB, and 4 with the resampler. -/
def ChainCfg.len (c : ChainCfg) : Nat := tapsCount c.comp + tapsCount c.hb + (if c.rs then 4 else 0)

/-- The settle count S = N·M + L + 1 (R154). -/
def ChainCfg.settle (c : ChainCfg) : Nat := c.n * c.m + c.len + 1

/-- H of R137: 2 with the half-band stage. -/
def ChainCfg.h (c : ChainCfg) : Nat := if c.hb = 0 then 1 else 2

/-- Group delay of stages 1 to 4 in frames (R150). -/
def groupDelay (c : ChainCfg) (sts : List Step) : Rat :=
  let (lam, n) := effEvery sts
  if n = 0 then 0
  else mkRat lam n *
    (mkRat (c.n * (c.r * c.m - 1)) 2 + mkRat (c.r * (tapsOf c.comp - 1)) 2 + mkRat (c.r * (tapsOf c.hb - 1)) 2)

/-- A channel that is not OFF (R53). -/
def chanOn (v : View) (e : Nat) : Bool := v (R.TILE_CHCFG.MODE (tileOf e) (chanOf e)) != 0

/-- Slots between two output samples of an analog endpoint: E · R · H · FRAME (R137). -/
def outSlots (v : View) (e : Nat) : Rat :=
  let (lam, n) := effEvery (chanSteps v e)
  let c := chainCfg v e
  if n = 0 then 0 else mkRat (lam * c.r * c.h * frameLen v (tileOf e)) n

/-- Output rate of an analog endpoint in samples per second (R137). -/
def outRate (v : View) (e : Nat) : Rat :=
  let p := outSlots v e
  if p = 0 then 0 else 40960000 / p

/-- An enabled digital input. -/
def diOn (v : View) (i : Nat) : Bool := v (R.IOT_DICFG.EN i) == 1

/-- Rate at which a digital input counts: 1,000,000 / P + EMAX (R186). -/
def diRate (v : View) (i : Nat) : Rat :=
  let p := v (R.IOT_DIPER.P i)
  (if p = 0 then 0 else mkRat 1000000 p) + (v (R.IOT_DIPER.EMAX i) : Rat)

/-- Whether an endpoint produces samples in a view: its channel is not OFF, or its DI is enabled. -/
def produces (v : View) (e : Nat) : Bool := if e < 384 then chanOn v e else diOn v (e - 384)

/-- The sample rate of an endpoint, as R138 and R186 take it. -/
def rateOf (v : View) (e : Nat) : Rat :=
  if !produces v e then 0 else if e < 384 then outRate v e else diRate v (e - 384)

/-- Sum of the output rates of E0 to E511 (R138). -/
def rateSum (v : View) : Rat := (List.range 512).foldl (fun a e => a + rateOf v e) 0

/-- The strobe schedule of an analog endpoint's tile. -/
def schedOf (v : View) (t : Nat) : Nat := v (R.TILE_STRB.STRBSRC t)

/-- The narrow base to which an endpoint is bound (R173, R186). -/
def nbOf (v : View) (e : Nat) : Nat :=
  if e < 384 then v (R.TIM_SCH_CFG.NB (schedOf v (tileOf e))) else v (R.IOT_DICFG.NB (e - 384))

/-- FORMAT of an endpoint's history blocks (R214). -/
def histFormat (v : View) (e : Nat) : Nat :=
  if e < 384 then
    if v (R.FLT_CFG.RS_EN e) = 1 then 2
    else if v (R.TIM_SCH_CFG.KIND (schedOf v (tileOf e))) = 2 ∨ v (R.TIM_NB_CFG.SRC (nbOf v e)) = 1 then 1
    else 0
  else 1

/-- Samples per block of each format (R214). -/
def blockSamples (format : Nat) : Nat := [1016, 508, 338].getD format 338

/-- History words per second of an endpoint (R215). -/
def histWords (v : View) (e : Nat) : Rat := (histFormat v e + 1 : Nat) * rateOf v e

/-- W, the sum of R215. -/
def histRate (v : View) : Rat := (List.range 512).foldl (fun a e => a + histWords v e) 0

end Sys2Proof.Machine
end

