-- ==== Sys2Proof/Machine/Queues.lean ====
section
/-! DEFINITION. Queues (R206 to R212) and the sending side of streams: ledger, send point, acknowledgements (R203,
R224, R225, R260). -/

namespace Sys2Proof.Machine

/-- A stream's state. -/
def State.strmSt (s : State) (n : Nat) : StreamSt := Tbl.get {} s.strm.streams n

/-- The state with a stream's state replaced. -/
def State.setStrm (s : State) (n : Nat) (x : StreamSt) : State :=
  { s with strm := { s.strm with streams := Tbl.set {} s.strm.streams n x } }

/-- The state with a stream's state changed. -/
def State.modStrm (s : State) (n : Nat) (f : StreamSt → StreamSt) : State := s.setStrm n (f (s.strmSt n))

/-- A queue's state. -/
def State.queue (s : State) (q : Nat) : QueueSt := Tbl.get {} s.strm.queues q

/-- Words that a queue's committed content takes: each packet its words and one descriptor (R206). -/
def QueueSt.words (q : QueueSt) : Nat :=
  q.fifo.length + q.pkts.foldl (fun n p => n + p.words.length + 1) 0

/-- The state with a queue's state replaced; DEPTH follows it. -/
def State.setQueue (s : State) (q : Nat) (x : QueueSt) : State :=
  let s := { s with strm := { s.strm with queues := Tbl.set {} s.strm.queues q x } }
  s.put (R.QUE_Q_STAT.DEPTH q) x.words

/-- Capacity of a queue in words: SIZE × 64 KiB (R206). -/
def State.queueCap (s : State) (q : Nat) : Nat := s.inUse (R.QUE_Q_CFG.SIZE q) * 16384

/-- A stream in use. -/
def State.strmOn (s : State) (n : Nat) : Bool := s.inUse (R.QUE_S_CFG.EN n) == 1

/-- CLASS of a stream in use (Table 8.1). -/
def State.strmClass (s : State) (n : Nat) : Nat := s.inUse (R.QUE_S_CFG.CLASS n)

/-- `a` lies before `b` in serial arithmetic of 32 bits (R198). -/
def serialLt (a b : Nat) : Bool := a != b && (b + 2 ^ 32 - a) % 2 ^ 32 < 2 ^ 31

/-- `a` lies at or before `b` in serial arithmetic of 32 bits. -/
def serialLe (a b : Nat) : Bool := a == b || serialLt a b

/-- Words per row of a stream of class `c` and width `w` (Table 8.1). -/
def rowWords (c w : Nat) : Nat := if c = 3 then 4 else w + c

/-- Words that the open packet of a stream takes in its queue, with its descriptor. -/
def openWords (x : StreamSt) : Nat :=
  if x.rows.isEmpty then 0 else 1 + x.rows.foldl (fun n r => n + r.words.length) 0

/-- Whether a port is sending stream `n`'s packet `psn` now (R209). -/
def State.isSending (s : State) (n psn : Nat) : Bool :=
  [0, 1].any fun p => match (s.portSt p).wire with
    | some w => decide (s.now < w.till) && decide (w.body = .strm n) &&
        (match w.sent with | some f => f.a == psn | none => false)
    | none => false

/-- The member keys and SSN ranges that a data packet of stream `n` carries (R225). -/
def State.packetRanges (s : State) (n : Nat) (p : Packet) : List (Nat × Nat × Nat) :=
  if p.record || p.rows == 0 then []
  else if s.strmClass n = 3 then
    (List.range p.rows).map fun i => (p.words.getD (4 * i) 0 % 512, p.words.getD (4 * i + 1) 0, p.words.getD (4 * i + 1) 0)
  else [(512, p.ssn, p.lastSsn)]

/-- Remember a range that a FULL stream lost; when a 65th pushes the oldest out, the proof floor rises past it
(R225). -/
def addLost (x : StreamSt) (r : Nat × Nat × Nat) : StreamSt :=
  let l := r :: x.lost
  match l.drop 64 with
  | [] => { x with lost := l }
  | o :: _ => { x with lost := l.take 64, floor := Tbl.set none x.floor o.1 (some ((o.2.2 + 1) % 2 ^ 32)) }

/-- Remember the ranges of rows that stream `n` lost (FULL streams only). -/
def State.loseRanges (s : State) (n : Nat) (rs : List (Nat × Nat × Nat)) : State :=
  if s.inUse (R.QUE_S_CFG.KIND n) = 1 then s else s.modStrm n fun x => rs.foldl addLost x

/-- Count a committed packet that a queue discards (R206, R209): LOSTPKT, LOSTWORD without the descriptor, and on a
stream queue its rows in DROPPED. -/
def State.countLost (s : State) (q : Nat) (p : Packet) : State :=
  let s := (s.bump (R.QUE_Q_CNT0.LOSTPKT q)).bump (R.QUE_Q_CNT1.LOSTWORD q) p.words.length
  if q < 64 then (s.modStrm q fun x => { x with dropped := x.dropped + p.rows }).loseRanges q (s.packetRanges q p)
  else s

/-- Discard oldest committed packets, never one being sent, until `need` words fit beside `reserved` ones; `fuel`
bounds the packets looked at (R209). -/
def discardFor (q need reserved : Nat) : Nat → State → State
  | 0, s => s
  | fuel + 1, s =>
    let x := s.queue q
    if x.words + reserved + need ≤ s.queueCap q then s
    else match x.pkts.find? fun p => !(q < 64 && s.isSending q p.psn) with
      | none => s
      | some p => discardFor q need reserved fuel ((s.setQueue q { x with pkts := x.pkts.erase p }).countLost q p)

/-- Make room under OVERWRITE. -/
def State.makeRoom (s : State) (q need reserved : Nat) : State :=
  discardFor q need reserved (s.queue q).pkts.length s

/-- Whether `need` words fit in queue `q` beside `reserved` ones. -/
def State.fits (s : State) (q need reserved : Nat) : Bool :=
  (s.queue q).words + reserved + need ≤ s.queueCap q

/-- The packet at a stream's send point: the first in its queue at or after it. -/
def State.atSendPoint (s : State) (n : Nat) : Option Packet :=
  (s.queue n).pkts.find? fun p => serialLe (s.strmSt n).sendPsn p.psn

/-- Rows of a stream that are in its queue or its open packet (QUEUED, R224). -/
def State.queuedRows (s : State) (n : Nat) : Nat :=
  (s.queue n).pkts.foldl (fun a p => a + p.rows) 0 + (s.strmSt n).rows.length

/-- The packet at the send point of stream `n` becomes ready at the stream's port, once (R270). Only the lead sends
(R15), and only through a port that is up and whose root answers. -/
def State.strmReady (s : State) (n : Nat) : State :=
  let p := (s.strmSt n).port
  if s.isFollow || !s.homeOk p || (s.portSt p).txq.any (fun i => decide (i.body = .strm n)) then s
  else match s.atSendPoint n with
    | none => s
    | some k => s.enqueue p { prio := 2, bytes := wireBytes s p (4 * k.words.length), body := .strm n }

/-- The send point of stream `n` returns to the oldest packet still in its queue (R203). -/
def State.resend (s : State) (n : Nat) : State :=
  let s := match (s.queue n).pkts.head? with
    | some p => s.modStrm n fun x => { x with sendPsn := p.psn }
    | none => s
  s.strmReady n

/-- Take a stream's waiting packet off every port. -/
def State.unqueueStrm (s : State) (n : Nat) : State :=
  s.each [0, 1] fun s p => s.modPort p fun x => { x with txq := x.txq.filter fun i => decide (i.body ≠ .strm n) }

/-- Commit a packet of stream `n`: it takes the next PSN and becomes visible (R200, R207). -/
def State.commitStrmPkt (s : State) (n : Nat) (p : Packet) : State :=
  let psn := s.get (R.QUE_S_PSN.PSN n)
  let s := s.put (R.QUE_S_PSN.PSN n) (psn + 1)
  let x := s.queue n
  (s.setQueue n { x with pkts := x.pkts ++ [{ p with psn := psn, at_ := s.now }] }).strmReady n

/-- Close the open data packet of stream `n` (R201). -/
def State.closePacket (s : State) (n : Nat) : State :=
  let x := s.strmSt n
  match x.rows.head?, x.rows.getLast? with
  | some a, some z =>
    let p : Packet := { words := x.rows.flatMap (·.words), ssn := if s.strmClass n = 3 then 0 else a.ssn,
                        rows := x.rows.length, lastSsn := z.ssn, t := a.t, lastT := z.t }
    (s.setStrm n { x with rows := [] }).commitStrmPkt n p
  | _, _ => s

/-- Words of an EPOCH entry (Table 7.2, R202) for narrow base `nb` and the epoch that base time `t` lies in. -/
def epochEntry (nb reason : Nat) (t : Int) : List Nat :=
  let origin := wholeNs t / 2 ^ 32 * 2 ^ 32
  let sec := origin / 1000000000
  [0x01040000, (reason * 16 + nb) * 2 ^ 24 + origin / 2 ^ 32 % 2 ^ 16, sec / 2 ^ 16 % 2 ^ 32,
   sec % 2 ^ 16 * 2 ^ 16, origin % 1000000000]

/-- Fraction of a base time in 1/128 ns (Table 8.2). -/
def frac128 (t : Int) : Nat := fracOf t / 512

/-- Words of a SYNC entry (Table 8.2). -/
def syncEntry (cls reason runid ssn period : Nat) (t : Int) : List Nat :=
  [0x02040000, (reason * 16 + cls) * 2 ^ 24 + (if cls = 0 then frac128 t * 2 ^ 16 else 0) + runid, ssn,
   if cls = 0 then nbNs t else 0, if cls = 0 then period else 0]

/-- The narrow base of a stream's members. -/
def State.strmNb (s : State) (n : Nat) : Nat :=
  nbOf s.inUse (s.inUse (R.QUE_ROSTER.EP (s.inUse (R.QUE_S_CFG.BASE n))))

/-- Slots between the rows of a stream in use (PERIOD of Table 8.2). -/
def State.strmPeriod (s : State) (n : Nat) : Nat :=
  let p := (outSlots s.inUse (s.inUse (R.QUE_ROSTER.EP (s.inUse (R.QUE_S_CFG.BASE n))))).floor.toNat
  if s.inUse (R.QUE_S_CFG.KIND n) = 1 then p * 2 ^ s.inUse (R.QUE_S_RED.DSH n) else p

/-- Rows that a data packet of stream `n` holds at most (R201). -/
def State.strmRows (s : State) (n : Nat) : Nat :=
  let w := rowWords (s.strmClass n) (s.inUse (R.QUE_S_CFG.WIDTH n))
  if w = 0 then 1 else max 1 (360 / w)

/-- Drop a row together with the open packet, which vanishes (R207): under OVERWRITE they count in DROPPED, LOSTPKT and
LOSTWORD (R209); under STALL they count in SKIPPED and every further row is skipped (R210). -/
def State.abortOpen (s : State) (n : Nat) (row : Row) : State :=
  let x := s.strmSt n
  let rows := x.rows ++ [row]
  let ranges : List (Nat × Nat × Nat) :=
    if s.strmClass n = 3 then rows.map fun r => (r.words.getD 0 0 % 512, r.ssn, r.ssn)
    else [((512 : Nat), (rows.head?.map (·.ssn)).getD row.ssn, row.ssn)]
  let s := s.when (!x.rows.isEmpty) (·.bump (R.QUE_Q_CNT2.ABORTS n))
  if s.inUse (R.QUE_Q_CFG.POLICY n) = 1 then
    let s := s.setStrm n { x with rows := [], skipped := x.skipped + rows.length, skipping := true }
    (s.loseRanges n ranges).logCycle L.QUE_SKIP 6 n 0 0 rows.length
  else
    let s := s.setStrm n { x with rows := [], dropped := x.dropped + rows.length }
    let s := (s.bump (R.QUE_Q_CNT0.LOSTPKT n)).bump (R.QUE_Q_CNT1.LOSTWORD n)
      (rows.foldl (fun a r => a + r.words.length) 0)
    s.loseRanges n ranges

/-- Room for `need` words in stream queue `n` beside its open packet, discarding under OVERWRITE. -/
def State.roomFor (s : State) (n need : Nat) : State × Bool :=
  let open_ := openWords (s.strmSt n)
  let s := if s.fits n need open_ ∨ s.inUse (R.QUE_Q_CFG.POLICY n) = 1 then s else s.makeRoom n need open_
  (s, s.fits n need open_)

/-- What a stream owes once a further record falls due: a wrap adds nothing to a record that is owed already, and the EPOCH
REASON of a step stands (R160, R202). -/
def oweMore (old : Option (Nat × Nat)) (sync epoch : Nat) : Option (Nat × Nat) :=
  match old with
  | none => some (sync, epoch)
  | some (s0, e0) =>
    if sync = 1 then some (s0, if epoch = 1 then 1 else e0)
    else some (sync, if e0 = 1 then 1 else epoch)

/-- The epoch of row time `t` is older than the one that narrow base `nb` has reached: the record of a wrap or step stands
ahead of the first row of the new epoch (R164). -/
def State.beforeEpoch (s : State) (nb : Nat) (t : Int) : Bool := decide (wholeNs t / 2 ^ 32 < Tbl.get 0 s.time.epochs nb)

/-- Send the record packet that stream `n` owes, before the row `row` (R202). Answers whether it could be pushed. -/
def State.sendOwed (s : State) (n : Nat) (row : Row) : State × Bool :=
  match (s.strmSt n).owed with
  | none => (s, true)
  | some (sync, epoch) =>
    let old := s.beforeEpoch (s.strmNb n) row.t
    if sync = 1 ∧ old then (s, true) else
    let s := s.closePacket n
    let (s, ok) := s.roomFor n 11
    if !ok then (s, false)
    else
      let ws := epochEntry (s.strmNb n) epoch row.t
        ++ syncEntry (s.strmClass n) sync (s.get R.QUE_RUNID.RUNID) row.ssn (s.strmPeriod n) row.t
      let s := s.modStrm n fun x => { x with owed := if old then some (1, 0) else none }
      (s.commitStrmPkt n { words := ws, record := true, t := row.t, lastT := row.t }, true)

/-- A formed row enters the open packet of stream `n` (R201, R209, R210). -/
def State.addRow (s : State) (n : Nat) (row : Row) : State :=
  let s := s.modStrm n fun x => { x with produced := x.produced + 1 }
  if (s.strmSt n).skipping then
    let s := s.modStrm n fun x => { x with skipped := x.skipped + 1 }
    let key := if s.strmClass n = 3 then row.words.getD 0 0 % 512 else 512
    (s.loseRanges n [(key, row.ssn, row.ssn)]).logCycle L.QUE_SKIP 6 n
  else
    let s := match (s.strmSt n).rows.head? with
      | some r => if nbEpoch r.t ≠ nbEpoch row.t then s.closePacket n else s
      | none => s
    let (s, ok) := s.sendOwed n row
    if !ok then s.abortOpen n row
    else
      let (s, ok) := s.roomFor n (row.words.length + (if (s.strmSt n).rows.isEmpty then 1 else 0))
      if !ok then s.abortOpen n row
      else
        let x := s.strmSt n
        let s := s.setStrm n { x with rows := x.rows ++ [row], openAt := if x.rows.isEmpty then s.now else x.openAt }
        if s.strmRows n ≤ (s.strmSt n).rows.length ∨ s.inUse (R.QUE_S_FLUSH.FLUSH n) = 0 then s.closePacket n else s

/-- The flags and value of a sample word. -/
def wordFlags (w : Nat) : Nat := w % 256
def wordValue (w : Nat) : Int := sgn 24 (w / 256)
def mkWord (v : Int) (flags : Nat) : Nat := unsgn 24 v * 256 + flags

/-- A sample enters a member's reducer window (R204). -/
def RedWin.add (x : RedWin) (w : Nat) : RedWin :=
  let v := wordValue w
  { n := x.n + 1, sum := x.sum + v, sq := x.sq + v.natAbs * v.natAbs,
    least := if x.n = 0 then v else min x.least v, most := if x.n = 0 then v else max x.most v,
    peak := if x.n = 0 ∨ x.peak.natAbs ≤ v.natAbs then v else x.peak,
    newest := v, flags := x.flags ||| wordFlags w }

/-- The root of the mean of squares, rounded to nearest. -/
def RedWin.rms (x : RedWin) : Nat :=
  if x.n = 0 then 0
  else
    let r := isqrt (x.sq / x.n)
    if 4 * x.sq ≥ (2 * r + 1) * (2 * r + 1) * x.n then r + 1 else r

/-- The value of a complete window as a sample word (Table 8.3, R205). -/
def RedWin.value (x : RedWin) (op : Nat) : Nat :=
  match op with
  | 0 => mkWord x.newest x.flags
  | 1 => mkWord (divRound x.sum x.n) x.flags
  | 2 => mkWord x.least x.flags
  | 3 => mkWord x.most x.flags
  | 4 => if x.rms ≥ 2 ^ 23 then mkWord (2 ^ 23 - 1) (x.flags ||| 0x10) else mkWord x.rms x.flags
  | _ => mkWord x.peak x.flags

/-- The words of a complete row of stream class `c` (Table 8.1). -/
def rowOf (c : Nat) (p : PartRow) : List Nat :=
  let ws := p.words.map (·.2)
  match c with
  | 0 => ws
  | 1 => nbNs p.t :: ws
  | _ => nbNs p.t :: p.grid :: ws

/-- The value of member `i` of stream `n` for SSN `ssn` enters its row; the last one forms the row. -/
def State.memberValue (s : State) (n i ssn w : Nat) (t : Int) (grid : Nat) : State :=
  let x := s.strmSt n
  let p : PartRow := Tbl.get {} x.parts ssn
  let p := { t := t, grid := grid, words := Tbl.ins p.words i w : PartRow }
  if p.words.length ≥ s.inUse (R.QUE_S_CFG.WIDTH n) then
    (s.setStrm n { x with parts := Tbl.del x.parts ssn }).addRow n ⟨ssn, t, rowOf (s.strmClass n) p⟩
  else s.setStrm n { x with parts := Tbl.ins x.parts ssn p }

/-- An output sample of endpoint `e` at place `i` of stream `n`. -/
def State.toStream (s : State) (n i e ssn : Nat) (sm : Sample) : State :=
  if s.strmClass n = 3 then s.addRow n ⟨ssn, sm.t, [e, ssn, nbNs sm.t, sm.word]⟩
  else if s.inUse (R.QUE_S_CFG.KIND n) = 0 then s.memberValue n i ssn sm.word sm.t sm.grid
  else
    let d := 2 ^ s.inUse (R.QUE_S_RED.DSH n)
    let x := s.strmSt n
    let old : RedWin := if ssn % d = 0 then {} else Tbl.get {} x.wins i
    -- a window that did not begin at its first SSN is never complete
    if ssn % d ≠ 0 ∧ old.n ≠ ssn % d then s
    else
      let win := old.add sm.word
      let s := s.setStrm n { x with wins := Tbl.set {} x.wins i win }
      if ssn % d = d - 1 then s.memberValue n i ssn (win.value (s.inUse (R.QUE_S_RED.OP n))) sm.t sm.grid else s

/-- Places of endpoint `e` in the rosters of the streams in use: stream and place. -/
def State.memberships (s : State) (e : Nat) : List (Nat × Nat) :=
  (List.range 64).flatMap fun n =>
    if !s.strmOn n then []
    else
      let b := s.inUse (R.QUE_S_CFG.BASE n)
      (List.range (s.inUse (R.QUE_S_CFG.WIDTH n))).filterMap fun i =>
        if s.inUse (R.QUE_ROSTER.EP (b + i)) = e then some (n, i) else none

/-- An output sample goes into the rows of every stream that carries its endpoint (R26). -/
def State.toStreams (s : State) (e ssn : Nat) (sm : Sample) : State :=
  s.each (s.memberships e) fun s m => s.toStream m.1 m.2 e ssn sm

/-! Acknowledgements (R203, R260) -/

/-- Count and measure one acknowledged packet (R224, R225, R412). -/
def State.ackPkt (s : State) (n : Nat) (p : Packet) : State :=
  let s := s.measure 1 n (((s.now - p.at_) / usU : Nat) : Int)
  let s := match p.sentAt with
    | some t => s.measure 3 n (((s.now - t) / usU : Nat) : Int)
    | none => s
  s.modStrm n fun x =>
    let fr := (s.packetRanges n p).foldl (fun m r => Tbl.set none m r.1 (some r.2.2)) x.frontier
    { x with acked := x.acked + p.rows, frontier := if s.inUse (R.QUE_S_CFG.KIND n) = 0 then fr else x.frontier }

/-- A cumulative acknowledgement of `psn` for stream `n` under RUNID `runid` (R203, R260). -/
def State.ack (s : State) (n psn runid : Nat) : State :=
  let x := s.strmSt n
  if runid ≠ s.get R.QUE_RUNID.RUNID ∨ !serialLt psn x.sentTop then s.bump (R.QUE_S_BADACK.BADACK n)
  else
    let gone := (s.queue n).pkts.filter fun p => serialLe p.psn psn
    if gone.isEmpty then s
    else
      let q := s.queue n
      let s := s.setQueue n { q with pkts := q.pkts.filter fun p => !serialLe p.psn psn }
      let s := s.each gone fun s p => s.ackPkt n p
      let s := s.modStrm n fun x =>
        { x with sendPsn := if serialLe x.sendPsn psn then (psn + 1) % 2 ^ 32 else x.sendPsn }
      if (s.atSendPoint n).isNone then s.unqueueStrm n else s

/-- A NAK of stream `n` that names `psn` (R260): the send point moves back to it if it is still queued. -/
def State.nak (s : State) (n psn runid : Nat) : State :=
  if runid ≠ s.get R.QUE_RUNID.RUNID ∨ !(s.queue n).pkts.any (fun p => p.psn == psn) then
    s.bump (R.QUE_S_BADACK.BADACK n)
  else if serialLt psn (s.strmSt n).sendPsn then
    (s.modStrm n fun x => { x with sendPsn := psn }).strmReady n
  else s

end Sys2Proof.Machine
end

