-- ==== Sys2Proof/Machine/Bases.lean ====
section
/-! DEFINITION. Wide bases (R158 to R161), epoch records (R164), PPS (R169) and the commands that act on them. -/

namespace Sys2Proof.Machine

/-- Streams in use that are bound to narrow base `n`. -/
def State.boundTo (s : State) (n : Nat) : List Nat :=
  (List.range 64).filter fun k => s.strmOn k && s.strmNb k == n

/-- Every stream bound to narrow base `n` owes a record packet with these reasons of SYNC and EPOCH (R164, R202). -/
def State.owe (s : State) (n sync epoch : Nat) : State :=
  s.each (s.boundTo n) fun s k => s.modStrm k fun x => { x with owed := oweMore x.owed sync epoch }

/-- The narrow bases that follow wide base `k`. -/
def State.followers (s : State) (k : Nat) : List Nat := (List.range 6).filter fun n => s.nbSrc n == k

/-- Base `k` steps by `d`: TIM_STEP, and an epoch record of REASON 1 for every narrow base that follows it (R160,
R164). -/
def State.stepBase (s : State) (k : Nat) (d : Int) : State :=
  let b := s.wbSt k
  let s := s.setWb k { b with off := b.off + d, left := b.left + d }
  let s := s.log1 L.TIM_STEP 7 k 0 (unsgn 64 d)
  s.each (s.followers k) fun s n =>
    let e := wholeNs (s.wbNow k) / 2 ^ 32
    ({ s with time := { s.time with epochs := Tbl.set 0 s.time.epochs n e } }).owe n 1 1

/-- The counts of consecutive offsets begin anew. -/
def State.freshCounts (s : State) (k : Nat) : State :=
  let b := s.wbSt k
  s.setWb k { b with inLim := 0, outLim := 0 }

/-- Base `k` enters a state of Table 7.1, with its log entries (R159). Leaving LOCKED starts the bound of R161, whose
frequency uncertainty the spec leaves to the servo. -/
def State.enterWb (s : State) (k st : Nat) : State :=
  let old := s.wbState k
  if old = st then s
  else
    let s := s.put (R.TIM_WB_STAT.STATE k) st
    if st = 2 then
      let b := s.wbSt k
      (s.setWb k { b with inLim := 0, outLim := 0, holdLogged := false }).log1 L.TIM_LOCK 7 k
    else if old = 2 then
      let (f, s) := s.draw
      let b := s.wbSt k
      let s := s.setWb k { b with inLim := 0, outLim := 0, leftAt := s.now, df := f,
                                  e0 := (b.lastOfs.natAbs + 2 * nsU), holdLogged := false }
      s.log1 L.TIM_UNLOCK 7 k
    else s.freshCounts k

/-- HOERR in whole ns at local time `t` (R161): DRIFT and the uncertainty are in 0.01 ppb/s and 0.01 ppb. -/
def State.hoErr (s : State) (k t : Nat) : Nat :=
  if s.wbState k = 2 then 0
  else
    let b := s.wbSt k
    let dt : Rat := mkRat ((t - b.leftAt : Nat) : Int) secU
    let e : Rat := mkRat b.e0 nsU + mkRat b.df 100 * dt + mkRat (s.inUse (R.TIM_WB_HOCFG.DRIFT k)) 200 * dt * dt
    min (fieldMax 32) e.floor.toNat

/-- The correction of an offset `x` (R160): a step where the rules step, otherwise a slew of at most SLEWMAX over the
time since the last measurement. How far a servo slews within that limit is left open. -/
def State.correct (s : State) (k : Nat) (x : Int) (since : Nat) : State :=
  let lim : Int := ((s.inUse (R.TIM_WB_STEPLIM.STEPLIM k) * usU : Nat) : Int)
  if k = 0 ∧ !s.time.strobed ∨ k = 1 ∧ lim < (x.natAbs : Int) then
    if x = 0 then s else s.stepBase k (-x)
  else
    let most := min x.natAbs (s.inUse (R.TIM_WB_CFG.SLEWMAX k) * since / 1000000)
    let (f, s) := s.draw
    let d : Int := ((f % (most + 1) : Nat) : Int)
    let b := s.wbSt k
    s.setWb k { b with off := b.off + (if 0 ≤ x then -d else d) }

/-- A valid measurement of base `k`: its offset `x` from the source, in 2^-16 ns, positive when the base is ahead
(R159, R160, R412). -/
def State.offset (s : State) (k : Nat) (x : Int) : State :=
  let s := s.put (R.TIM_WB_OFS.OFS k) (unsgn 32 (clipS 32 (x / 256)))
  let s := s.measure 9 k (x / 256)
  let s := if s.wbState k = 0 ∨ s.wbState k = 3 then s.enterWb k 1 else s
  let b := s.wbSt k
  let inside := x.natAbs ≤ s.inUse (R.TIM_WB_CFG.LOCKLIM k) * nsU
  let since := s.now - b.measAt
  let s := s.setWb k { b with lastOfs := x, left := x, measAt := s.now, inLim := if inside then b.inLim + 1 else 0,
                              outLim := if inside then 0 else b.outLim + 1 }
  let b := s.wbSt k
  let s := if s.wbState k = 1 ∧ 16 ≤ b.inLim then s.enterWb k 2
    else if s.wbState k = 2 ∧ 4 ≤ b.outLim then s.enterWb k 1 else s
  s.correct k x since

/-- The source of base `k` is lost (Table 7.1). A base whose source never delivered stays FREERUN. -/
def State.loseSource (s : State) (k : Nat) : State := if s.wbState k = 0 then s else s.enterWb k 3

/-- The parts that time commands may write. -/
abbrev timeParts : Parts := { time := true, strm := true, mon := true, ports := true, resp := true, latch := true }

/-- HOLD_LIMIT_EXCEEDED (R161). HOLIM = 0 disables it. -/
def execHoldLimitExceeded (now : Nat) (k : Fin 2) (s : State) : Out :=
  act timeParts now s fun s =>
    let b := s.wbSt k
    let lim := s.inUse (R.TIM_WB_HOCFG.HOLIM k)
    if lim = 0 ∨ b.holdLogged ∨ s.hoErr k s.now ≤ lim then s
    else (s.setWb k { b with holdLogged := true }).log1 L.TIM_HOLD_LIMIT 7 k

/-- TIM_OFFSET_LARGE (R160): while WB0 slews and its offset exceeds STEPLIM, once per minute. -/
def execTimOffsetLarge (now : Nat) (s : State) : Out :=
  act timeParts now s fun s =>
    let b := s.wbSt 0
    let lim := s.inUse (R.TIM_WB_STEPLIM.STEPLIM 0) * usU
    let due := match b.largeAt with
      | none => true
      | some t => decide (t + 60 * secU ≤ s.now)
    if !s.time.strobed ∨ b.left.natAbs ≤ lim ∨ !due then s
    else (s.setWb 0 { b with largeAt := some s.now }).log1 L.TIM_OFFSET_LARGE 7 0

/-- NB_WRAP (R164): narrow base `n` has begun a new epoch, and every stream bound to it owes the record. -/
def execNbWrap (now : Nat) (n : Fin 6) (s : State) : Out :=
  act timeParts now s fun s =>
    let e := wholeNs (s.wbNow (s.nbSrc n)) / 2 ^ 32
    if Tbl.get 0 s.time.epochs n = e then s
    else
      let s := { s with time := { s.time with epochs := Tbl.set 0 s.time.epochs n e } }
      s.owe n 1 0

/-- PPS_OUT_PULSE (R169): PPS_OUT rises at each whole second of its base, unless that base is FREERUN or WIDTH is 0. -/
def execPpsOutPulse (now : Nat) (s : State) : Out :=
  act timeParts now s fun s =>
    let k := s.get R.TIM_PPS.PPS_SRC
    let w := s.get R.TIM_PPS.WIDTH
    let sec := secOf (s.wbNow k)
    if s.wbState k = 0 ∨ w = 0 ∨ s.time.ppsSec = some sec then s
    else { s with time := { s.time with ppsSec := some sec, ppsHigh := some (s.now + w * 10 * usU) } }

/-- The whole second of a base time that is nearest to it. -/
def nearSec (x : Int) : Int := (x + ((secU / 2 : Nat) : Int)) / ((secU : Nat) : Int)

/-- PPS_IN_EDGE (R169): the edge is captured on both bases; under PPS_IN it gives WB1 its phase, and the seconds that
software has set. -/
def execPpsInEdge (now : Nat) (s : State) : Out :=
  act timeParts now s fun s =>
    let x0 := s.wbNow 0
    let x1 := s.wbNow 1
    let s := s.put (R.TIM_PPSIN.CAP 0) (nsOf x0)
    let s := s.put (R.TIM_PPSIN.CAP 1) (nsOf x1)
    let s := s.put (R.TIM_PPSIN.CAP 2) (secOf x0 % 2 ^ 16)
    let s := { s with time := { s.time with ppsIn := some s.now } }
    if s.inUse (R.TIM_WB_CFG.SRC 1) ≠ 1 then s
    else
      let near := nearSec x1
      let s := match s.time.set1 with
        | none => s
        | some v =>
          let d : Int := ((v : Int) - near) * ((secU : Nat) : Int)
          let s := { s with time := { s.time with set1 := none } }
          if d = 0 then s else s.stepBase 1 d
      s.offset 1 (x1 - near * ((secU : Nat) : Int))

/-- PPS_IN_LOSS (Table 7.1): 3 s without an edge. -/
def execPpsInLoss (now : Nat) (s : State) : Out :=
  act timeParts now s fun s =>
    match s.time.ppsIn with
    | none => s
    | some t => if s.inUse (R.TIM_WB_CFG.SRC 1) = 1 ∧ t + 3 * secU ≤ s.now then s.loseSource 1 else s

/-- Seconds of WB1 as SETL holds them with the high word now written (R158): both apply at the next PPS_IN edge. -/
def State.setWb1 (s : State) (hi : Nat) : State :=
  { s with time := { s.time with set1 := some (hi % 2 ^ 16 * 2 ^ 32 + s.time.setLo) } }

end Sys2Proof.Machine
end

