-- ==== Sys2Proof/Machine/Crypto.lean ====
section
/-! DEFINITION. SHA-384 (FIPS 180-4), HMAC-SHA-384 (FIPS 198-1), ECDSA over P-384 (FIPS 186-5) with the per-signature value
of RFC 6979: the algorithms that R345, R346, R358 and R401 name. PRESUMED: their steps and constants come from those
standards. -/

namespace Sys2Proof.Machine

/-! SHA-384 -/

/-- Round constants 0 to 39. -/
def shaK0 : List Nat := [
  0x428A2F98D728AE22, 0x7137449123EF65CD, 0xB5C0FBCFEC4D3B2F, 0xE9B5DBA58189DBBC,
  0x3956C25BF348B538, 0x59F111F1B605D019, 0x923F82A4AF194F9B, 0xAB1C5ED5DA6D8118,
  0xD807AA98A3030242, 0x12835B0145706FBE, 0x243185BE4EE4B28C, 0x550C7DC3D5FFB4E2,
  0x72BE5D74F27B896F, 0x80DEB1FE3B1696B1, 0x9BDC06A725C71235, 0xC19BF174CF692694,
  0xE49B69C19EF14AD2, 0xEFBE4786384F25E3, 0x0FC19DC68B8CD5B5, 0x240CA1CC77AC9C65,
  0x2DE92C6F592B0275, 0x4A7484AA6EA6E483, 0x5CB0A9DCBD41FBD4, 0x76F988DA831153B5,
  0x983E5152EE66DFAB, 0xA831C66D2DB43210, 0xB00327C898FB213F, 0xBF597FC7BEEF0EE4,
  0xC6E00BF33DA88FC2, 0xD5A79147930AA725, 0x06CA6351E003826F, 0x142929670A0E6E70,
  0x27B70A8546D22FFC, 0x2E1B21385C26C926, 0x4D2C6DFC5AC42AED, 0x53380D139D95B3DF,
  0x650A73548BAF63DE, 0x766A0ABB3C77B2A8, 0x81C2C92E47EDAEE6, 0x92722C851482353B]

/-- Round constants 40 to 79. -/
def shaK1 : List Nat := [
  0xA2BFE8A14CF10364, 0xA81A664BBC423001, 0xC24B8B70D0F89791, 0xC76C51A30654BE30,
  0xD192E819D6EF5218, 0xD69906245565A910, 0xF40E35855771202A, 0x106AA07032BBD1B8,
  0x19A4C116B8D2D0C8, 0x1E376C085141AB53, 0x2748774CDF8EEB99, 0x34B0BCB5E19B48A8,
  0x391C0CB3C5C95A63, 0x4ED8AA4AE3418ACB, 0x5B9CCA4F7763E373, 0x682E6FF3D6B2B8A3,
  0x748F82EE5DEFB2FC, 0x78A5636F43172F60, 0x84C87814A1F0AB72, 0x8CC702081A6439EC,
  0x90BEFFFA23631E28, 0xA4506CEBDE82BDE9, 0xBEF9A3F7B2C67915, 0xC67178F2E372532B,
  0xCA273ECEEA26619C, 0xD186B8C721C0C207, 0xEADA7DD6CDE0EB1E, 0xF57D4F7FEE6ED178,
  0x06F067AA72176FBA, 0x0A637DC5A2C898A6, 0x113F9804BEF90DAE, 0x1B710B35131C471B,
  0x28DB77F523047D84, 0x32CAAB7B40C72493, 0x3C9EBE0A15C9BEBC, 0x431D67C49C100D4C,
  0x4CC5D4BECB3E42B6, 0x597F299CFC657E2A, 0x5FCB6FAB3AD6FAEC, 0x6C44198C4A475817]

/-- The initial hash value. -/
def shaInit : List Nat := [
  0xCBBB9D5DC1059ED8, 0x629A292A367CD507, 0x9159015A3070DD17, 0x152FECD8F70E5939,
  0x67332667FFC00B31, 0x8EB44A8768581511, 0xDB0C2E0D64F98FA7, 0x47B5481DBEFA4FA4]

/-- A 64-bit word rotated right. -/
def rotr (n x : Nat) : Nat := (x >>> n) ||| ((x <<< (64 - n)) % 2 ^ 64)

/-- The message schedule, newest word first. -/
def shaSched : Nat → List Nat → List Nat
  | 0, w => w
  | n + 1, w =>
    let a := w.getD 1 0
    let b := w.getD 14 0
    let s1 := rotr 19 a ^^^ rotr 61 a ^^^ (a >>> 6)
    let s0 := rotr 1 b ^^^ rotr 8 b ^^^ (b >>> 7)
    shaSched n ((s1 + w.getD 6 0 + s0 + w.getD 15 0) % 2 ^ 64 :: w)

/-- One round on the working variables a to h. -/
def shaRound (v : List Nat) (k : Nat × Nat) : List Nat :=
  match v with
  | [a, b, c, d, e, f, g, h] =>
    let s1 := rotr 14 e ^^^ rotr 18 e ^^^ rotr 41 e
    let ch := (e &&& f) ^^^ ((2 ^ 64 - 1 - e) &&& g)
    let t1 := h + s1 + ch + k.1 + k.2
    let s0 := rotr 28 a ^^^ rotr 34 a ^^^ rotr 39 a
    let mj := (a &&& b) ^^^ (a &&& c) ^^^ (b &&& c)
    [(t1 + s0 + mj) % 2 ^ 64, a, b, c, (d + t1) % 2 ^ 64, e, f, g]
  | l => l

/-- One block of 128 bytes. -/
def shaBlock (h : List Nat) (blk : List Byte) : List Nat :=
  let w := (List.range 16).map fun i => beNat (slice blk (8 * i) 8)
  let ws := (shaSched 64 w.reverse).reverse
  let v := ((shaK0 ++ shaK1).zip ws).foldl shaRound h
  List.zipWith (fun a b => (a + b) % 2 ^ 64) h v

/-- The padded message. -/
def shaPad (l : List Byte) : List Byte :=
  l ++ 0x80 :: (List.replicate ((239 - l.length % 128) % 128) 0 ++ beBytes 16 (8 * l.length))

/-- SHA-384 of a byte string. -/
def sha384 (l : List Byte) : List Byte :=
  let p := shaPad l
  (((chunks 128 (p.length / 128) p).foldl shaBlock shaInit).take 6).flatMap fun w => beBytes 8 w

/-- HMAC-SHA-384 of a message under a key. -/
def hmac384 (key msg : List Byte) : List Byte :=
  let k := if 128 < key.length then sha384 key else key
  let pad (x : Byte) : List Byte := (List.range 128).map fun i => k.getD i 0 ^^^ x
  sha384 (pad 0x5C ++ sha384 (pad 0x36 ++ msg))

/-! P-384: points in Jacobian coordinates, Z = 0 at infinity -/

/-- The field prime, the curve's b, the order, and the generator. -/
def ecP : Nat := 0xFFFFFFFFFFFFFFFFFFFFFFFFFFFFFFFFFFFFFFFFFFFFFFFFFFFFFFFFFFFFFFFEFFFFFFFF0000000000000000FFFFFFFF
def ecB : Nat := 0xB3312FA7E23EE7E4988E056BE3F82D19181D9C6EFE8141120314088F5013875AC656398D8A2ED19D2A85C8EDD3EC2AEF
def ecN : Nat := 0xFFFFFFFFFFFFFFFFFFFFFFFFFFFFFFFFFFFFFFFFFFFFFFFFC7634D81F4372DDF581A0DB248B0A77AECEC196ACCC52973
def ecG : Nat × Nat × Nat := (0xAA87CA22BE8B05378EB1C71EF320AD746E1D3B628BA79B9859F741E082542A385502F25DBF55296C3A545E3872760AB7,
  0x3617DE4A96262C6F5D9E98BF9292DC29F8F41DBD289A147CE9DA3113B5F0B8C00A60B1CE1D7E819D7A431D7C90EA0E5F, 1)

/-- Difference in the field. -/
def fsub (a b : Nat) : Nat := (a + ecP - b % ecP) % ecP

/-- `b ^ e mod m`, by the `n` low bits of `e`. -/
def powMod (m : Nat) : Nat → Nat → Nat → Nat
  | 0, _, _ => 1 % m
  | n + 1, b, e => if e % 2 = 1 then b * powMod m n (b * b % m) (e / 2) % m else powMod m n (b * b % m) (e / 2)

/-- The inverse of `a` modulo a prime of 384 bits. -/
def invMod (m a : Nat) : Nat := powMod m 384 (a % m) (m - 2)

/-- Twice a point. -/
def ecDbl (p : Nat × Nat × Nat) : Nat × Nat × Nat :=
  let (x, y, z) := p
  let d := z * z % ecP
  let g := y * y % ecP
  let b := x * g % ecP
  let a := 3 * (fsub x d * ((x + d) % ecP)) % ecP
  let x' := fsub (a * a % ecP) (8 * b)
  let z' := 2 * y * z % ecP
  (x', fsub (a * fsub (4 * b % ecP) x' % ecP) (8 * g * g % ecP), z')

/-- The sum of two points. -/
def ecAdd (p q : Nat × Nat × Nat) : Nat × Nat × Nat :=
  let (x1, y1, z1) := p
  let (x2, y2, z2) := q
  if z1 = 0 then q else if z2 = 0 then p
  else
    let a := z1 * z1 % ecP
    let b := z2 * z2 % ecP
    let u1 := x1 * b % ecP
    let u2 := x2 * a % ecP
    let s1 := y1 * z2 * b % ecP
    let s2 := y2 * z1 * a % ecP
    if u1 = u2 then (if s1 = s2 then ecDbl p else (1, 1, 0))
    else
      let h := fsub u2 u1
      let r := fsub s2 s1
      let h2 := h * h % ecP
      let h3 := h * h2 % ecP
      let v := u1 * h2 % ecP
      let x3 := fsub (r * r % ecP) (h3 + 2 * v)
      (x3, fsub (r * fsub v x3 % ecP) (s1 * h3 % ecP), h * z1 * z2 % ecP)

/-- The multiple `k` of a point, by the `n` low bits of `k`. -/
def ecMul : Nat → Nat → Nat × Nat × Nat → Nat × Nat × Nat
  | 0, _, _ => (1, 1, 0)
  | n + 1, k, p => let r := ecMul n (k / 2) (ecDbl p); if k % 2 = 1 then ecAdd p r else r

/-- The affine coordinates of a point that is not at infinity. -/
def ecAffine (p : Nat × Nat × Nat) : Nat × Nat :=
  let (x, y, z) := p
  let i := invMod ecP z
  let i2 := i * i % ecP
  (x * i2 % ecP, y * (i2 * i % ecP) % ecP)

/-- ECDSA verification: public key X then Y, message, signature r then s. -/
def ecdsaVerify (key msg sig : List Byte) : Bool :=
  let x := beNat (slice key 0 48)
  let y := beNat (slice key 48 48)
  let r := beNat (slice sig 0 48)
  let s := beNat (slice sig 48 48)
  let onCurve := decide (x < ecP) && decide (y < ecP) && (y * y + 3 * x) % ecP == (x * x * x + ecB) % ecP
  if !onCurve || r == 0 || decide (ecN ≤ r) || s == 0 || decide (ecN ≤ s) then false
  else
    let e := beNat (sha384 msg)
    let w := invMod ecN s
    let (px, py, pz) := ecAdd (ecMul 384 (e * w % ecN) ecG) (ecMul 384 (r * w % ecN) (x, y, 1))
    pz != 0 && (ecAffine (px, py, pz)).1 % ecN == r

/-- The public key of a private key, X then Y. -/
def ecPublic (d : Nat) : List Byte :=
  let p := ecAffine (ecMul 384 d ecG)
  beBytes 48 p.1 ++ beBytes 48 p.2

/-- The per-signature value of RFC 6979 from the HMAC key and value; `fuel` bounds the candidates. -/
def rfcK : Nat → List Byte → List Byte → Nat
  | 0, _, _ => 1
  | fuel + 1, k, v =>
    let v := hmac384 k v
    let t := beNat v
    if 0 < t ∧ t < ecN then t
    else let k := hmac384 k (v ++ [0]); rfcK fuel k (hmac384 k v)

/-- ECDSA signature of a message under a private key, r then s. -/
def ecdsaSign (d : Nat) (msg : List Byte) : List Byte :=
  let e := beNat (sha384 msg)
  let xh := beBytes 48 d ++ beBytes 48 (e % ecN)
  let v := List.replicate 48 (1 : Byte)
  let k := hmac384 (List.replicate 48 0) (v ++ 0 :: xh)
  let v := hmac384 k v
  let k := hmac384 k (v ++ 1 :: xh)
  let kk := rfcK 8 k (hmac384 k v)
  let r := (ecAffine (ecMul 384 kk ecG)).1 % ecN
  beBytes 48 r ++ beBytes 48 (invMod ecN kk * ((e + r * d) % ecN) % ecN)

end Sys2Proof.Machine
end

