-- ==== Sys2Proof/Machine/History.lean ====
section
/-! DEFINITION. The history ring (R213 to R218, R225), and the way of an output sample: SSN, history, RES, monitors,
streams (R26, R106, R136). -/

namespace Sys2Proof.Machine

/-- The history of an endpoint. -/
def State.histEp (s : State) (e : Nat) : HistEp := Tbl.get {} s.strm.hist e

/-- The state with an endpoint's history replaced. -/
def State.setHist (s : State) (e : Nat) (h : HistEp) : State :=
  { s with strm := { s.strm with hist := Tbl.set {} s.strm.hist e h } }

/-- The free pool, with its register (R217). -/
def State.setFree (s : State) (n : Nat) : State :=
  ({ s with strm := { s.strm with free := n } }).put R.QUE_HFREE.FREE n

/-- Blocks of the history partition: HISTSZ × 16,384 (R216). -/
def histBlocks (v : View) : Nat := v R.QUE_PART.HISTSZ * 16384

/-- Blocks that an endpoint gets before the division by rate: 3 for a DI, 2 for every other (R216). -/
def histB0 (e : Nat) : Nat := if e < 384 then 2 else 3

/-- The sum of B0 over the producing endpoints. -/
def histB0Sum (v : View) : Nat :=
  (List.range 512).foldl (fun a e => if produces v e then a + histB0 e else a) 0

/-- Blocks of an endpoint under a configuration with rate sum `w` and B0 sum `b` (R216). -/
def histAlloc (v : View) (w : Rat) (b e : Nat) : Nat :=
  if !produces v e then 0
  else if w = 0 then histB0 e
  else histB0 e + (((histBlocks v - b : Nat) : Rat) * histWords v e / w).floor.toNat

/-- RET of an endpoint with `blocks` blocks, in ms (R216). -/
def histRet (v : View) (blocks e : Nat) : Nat :=
  let r := rateOf v e
  if !produces v e ∨ r = 0 then 0
  else (((blocks - histB0 e + 1) * blockSamples (histFormat v e) * 1000 : Nat) / r).floor.toNat

/-- Whether a FULL stream proves an SSN of endpoint `e` delivered (R225). -/
def State.proved (s : State) (e ssn : Nat) : Bool :=
  (s.memberships e).any fun m =>
    let x := s.strmSt m.1
    let key := if s.strmClass m.1 = 3 then e else 512
    s.inUse (R.QUE_S_CFG.KIND m.1) == 0 &&
    (match Tbl.get none x.frontier key with
     | some f => serialLe ssn f
     | none => false) &&
    (match Tbl.get none x.floor key with
     | some f => serialLe f ssn
     | none => true) &&
    !x.lost.any fun r => r.1 == key && serialLe r.2.1 ssn && serialLe ssn r.2.2

/-- Count and log the undelivered SSNs of a run as exceptions of a cause: 1 EARLY, 2 RESET, 3 DAMAGED (Table 8.8). -/
def State.exceptions (s : State) (cause e first count : Nat) : State :=
  let bad := (List.range count).filterMap fun i =>
    let x := (first + i) % 2 ^ 32
    if s.proved e x then none else some x
  match bad with
  | [] => s
  | x :: _ =>
    let f := if cause = 1 then R.QUE_EXC_EARLY.COUNT else if cause = 2 then R.QUE_EXC_RESET.COUNT
      else R.QUE_EXC_DAMAGED.COUNT
    (s.bump f bad.length).log1 L.HIST_EXC 1 e cause (x * 2 ^ 32 + bad.length)

/-- The blocks of a list with the last one closed. -/
def closeLast : List HBlock → List HBlock
  | [] => []
  | [b] => [{ b with isOpen := false }]
  | b :: bs => b :: closeLast bs

/-- Close an endpoint's open block (R214). -/
def State.closeBlock (s : State) (e : Nat) : State :=
  let h := s.histEp e
  s.setHist e { h with blocks := closeLast h.blocks }

/-- Now on the base that endpoint `e`'s narrow base follows. -/
def State.epBase (s : State) (e : Nat) : Int := s.wbNow (s.nbSrc (nbOf s.inUse e))

/-- Whether a block's newest sample is older than the largest retention published for the endpoint since it was
written (R217). -/
def State.expired (s : State) (e : Nat) (b : HBlock) : Bool :=
  let t : Int := match b.samples.getLast? with
    | some x => x.t
    | none => 0
  let age := s.epBase e - t
  let written : Int := (s.now : Int) - age
  let rets := (s.histEp e).rets
  -- the retention in force when the sample was written, and every later one
  let later := rets.filter fun r => decide (written < (r.1 : Int))
  let before := rets.filter fun r => decide ((r.1 : Int) ≤ written)
  let m := (later ++ before.getLast?.toList).foldl (fun a r => max a r.2) 0
  decide (age > ((m * msU : Nat) : Int))

/-- Reclaim an endpoint's oldest block; `early` counts its undelivered SSNs (R217). -/
def State.reclaim (s : State) (e : Nat) (early : Bool) : State :=
  let h := s.histEp e
  match h.blocks with
  | [] => s
  | b :: bs =>
    let s := s.setHist e { h with blocks := bs }
    if early then s.exceptions 1 e b.ssn b.samples.length else s

/-- Room for a new block of endpoint `e` (R217): from the pool below the allocation, by reclaiming the oldest block at
it, and above it by age. Answers whether a block may be opened. -/
def State.takeBlock (s : State) (e : Nat) : State × Bool :=
  let h := s.histEp e
  let held := h.blocks.length
  let fromPool (s : State) : State := s.setFree (s.strm.free - 1)
  if held < h.alloc then
    if s.strm.free ≠ 0 then (fromPool s, true)
    else if held = 0 then (s, false)
    else (s.reclaim e true, true)
  else if held = h.alloc then
    if held = 0 then (s, false) else (s.reclaim e false, true)
  else match h.blocks with
    | [] => (s, false)
    | b :: _ =>
      if s.expired e b then (s.reclaim e false, true)
      else if s.strm.free ≠ 0 then (fromPool s, true)
      else (s.reclaim e true, true)

/-- Append a sample to the last block of a list. -/
def pushLast (x : HSamp) : List HBlock → List HBlock
  | [] => []
  | [b] => [{ b with samples := b.samples ++ [x] }]
  | b :: bs => b :: pushLast x bs

/-- Whether a sample still goes into an open block: same format and base, room, the next SSN, and for FORMAT 1 and 2
the epoch of the block (R214). -/
def blockTakes (b : HBlock) (format nb runid period ssn : Nat) (x : HSamp) : Bool :=
  b.isOpen && b.format == format && b.nb == nb && b.runid == runid && b.period == period
    && decide (b.samples.length < blockSamples format)
    && ssn == (b.ssn + b.samples.length) % 2 ^ 32
    && (format == 0 || match b.samples.head? with
        | some y => nbEpoch y.t == nbEpoch x.t
        | none => true)

/-- Write an output sample into the endpoint's history (R214). -/
def State.toHistory (s : State) (e ssn : Nat) (sm : Sample) : State :=
  let v := s.inUse
  let format := histFormat v e
  let nb := nbOf v e
  let period := if format = 0 then (outSlots v e).floor.toNat else 0
  let runid := s.get R.QUE_RUNID.RUNID
  let x : HSamp := ⟨sm.t, sm.grid, sm.word⟩
  let h := s.histEp e
  if (h.blocks.getLast?.map fun b => blockTakes b format nb runid period ssn x).getD false then
    s.setHist e { h with blocks := pushLast x h.blocks }
  else
    let s := s.closeBlock e
    let (s, ok) := s.takeBlock e
    if !ok then s.exceptions 1 e ssn 1
    else
      let h := s.histEp e
      s.setHist e { h with blocks := h.blocks ++ [{ format := format, nb := nb, runid := runid, period := period,
                                                     ssn := ssn, samples := [x] }] }

/-- Next SSN of an endpoint. -/
def State.nextSsn (s : State) (e : Nat) : Nat := Tbl.get 0 s.strm.ssn e

/-- The state with an endpoint's next SSN replaced. -/
def State.setSsn (s : State) (e n : Nat) : State :=
  { s with strm := { s.strm with ssn := Tbl.set 0 s.strm.ssn e n } }

/-- A valid sample: none of STL, BLK, EXF, OVR, OPN and XCK is set (R152). -/
def validFlags (f : Nat) : Bool := f &&& 0xF9 == 0

/-- The newest output sample in the RES block, word and time, before the first one: value 0 with STL (R109). -/
def resNone : Nat × Nat := (0x80, 0)

/-- The hub produces one output sample of endpoint `e`: it takes the next SSN and goes to history, RES, the sample
monitors and every stream that carries it (R26, R106, R136, R412). An endpoint that rehearses shows it in RES alone (R342). -/
def State.output (s : State) (e : Nat) (sm : Sample) : State :=
  if s.pair.mute.contains e then
    { s with strm := { s.strm with latest := Tbl.set resNone s.strm.latest e (sm.word, nbNs sm.t % 2 ^ 31) } }
  else
  let ssn := s.nextSsn e
  let s := s.setSsn e ((ssn + 1) % 2 ^ 32)
  let s := s.toHistory e ssn sm
  let s := { s with strm := { s.strm with
    latest := Tbl.set resNone s.strm.latest e (sm.word, nbNs sm.t % 2 ^ 31) } }
  let s := if validFlags (wordFlags sm.word) then s.measure 5 e (wordValue sm.word) else s
  s.toStreams e ssn sm

/-- RES of an endpoint reads as before its first sample again (R109). -/
def State.clearRes (s : State) (e : Nat) : State :=
  { s with strm := { s.strm with latest := Tbl.set resNone s.strm.latest e resNone } }

/-- Resize the rings to the configuration in use and publish the retentions (R215 to R217). -/
def State.resizeHistory (s : State) : State :=
  let v := s.inUse
  let w := histRate v
  let b := histB0Sum v
  let s := s.put R.QUE_HWRATE.W w.floor.toNat
  let s := s.each (List.range 512) fun s e =>
    let a := histAlloc v w b e
    let r := histRet v a e
    let h := s.histEp e
    if a = h.alloc ∧ r = s.get (R.QUE_HRET.RET e) then s
    else
      let s := s.put (R.QUE_HRET.RET e) r
      s.setHist e { h with alloc := a, rets := h.rets ++ [(s.now, r)] }
  let held := s.strm.hist.foldl (fun a x => a + x.2.blocks.length) 0
  let s := s.setFree (histBlocks v - held)
  s.each (List.range 64) fun s n =>
    if !s.strmOn n then s.put (R.QUE_S_RET.RET n) 0
    else
      let base := s.inUse (R.QUE_S_CFG.BASE n)
      let rs := (List.range (s.inUse (R.QUE_S_CFG.WIDTH n))).map fun i =>
        s.get (R.QUE_HRET.RET (s.inUse (R.QUE_ROSTER.EP (base + i))))
      s.put (R.QUE_S_RET.RET n) (rs.foldl min (rs.headD 0))

/-- HISTORY_BLOCK_RELEASE (R217): an endpoint above its allocation releases its oldest block to the pool once the
block's newest sample has passed the retention published for it. -/
def execHistoryBlockRelease (now : Nat) (e : Fin 512) (s : State) : Out :=
  act { strm := true } now s fun s =>
    let h := s.histEp e
    match h.blocks with
    | [] => s
    | b :: bs =>
      if h.alloc < h.blocks.length ∧ !b.isOpen ∧ s.expired e b then
        (s.setHist e { h with blocks := bs }).setFree (s.strm.free + 1)
      else s

end Sys2Proof.Machine
end

