-- ==== Sys2Proof/Machine/Ingress.lean ====
section
/-! DEFINITION. Frames on their way in: the checks of R253 to R257 and R274, the fate of a frame by Table 10.8, and
the commands of the STREAM flow and of plain transit. -/

namespace Sys2Proof.Machine

/-- The unit ID of the chip. -/
def State.unitId (s : State) : Nat := s.get R.SYS_UNITIDL.UNIT_ID + 2 ^ 32 * s.get R.SYS_UNITIDH.UNIT_ID

/-- The hub address and line ID. -/
def State.hubAddr (s : State) : Nat := s.get R.SYS_LINEADDR.HUB_ADDR
def State.lineId (s : State) : Nat := s.get R.SYS_LINEADDR.LINE_ID

/-- The MAC address of a port (R254): as configured, or derived from the unit ID. -/
def State.portMac (s : State) (p : Nat) : Nat :=
  let lo := s.inUse (R.PRT_P_MAC0.MAC p)
  let hi := s.inUse (R.PRT_P_MAC1.MAC p)
  if lo = 0 ∧ hi = 0 then 0x02 * 2 ^ 40 + s.unitId % 2 ^ 38 * 4 + p else hi * 2 ^ 32 + lo

/-- The group address of Pebiyr (R254). -/
abbrev pebiyrGroup : Nat := 0x035354000001

/-- MACsec on receive (R274): answers the state with its counts and whether the frame passes. -/
def State.secCheck (s : State) (p : Nat) (sec : Option SecTag) : State × Bool :=
  if s.inUse (R.PRT_P_CFG.MACSEC p) = 0 then
    match sec with
    | none => (s, true)
    | some _ => (s.bump (R.PRT_P_CNT5.DISCARD p), false)
  else match sec with
    | none => (s.bump (R.PRT_P_SECCNT1.UNTAGGED p), false)
    | some tag =>
      let x := s.portSt p
      match x.sas.find? fun a => a.an == tag.an.val with
      | none => (s.bump (R.PRT_P_SECCNT1.NOSA p), false)
      | some sa =>
        if !tag.icvOk then (s.bump (R.PRT_P_SECCNT0.NOTVALID p), false)
        else if tag.pn + s.inUse (R.PRT_P_REPLAYWIN.WIN p) ≤ sa.rxPn then (s.bump (R.PRT_P_SECCNT0.LATE p), false)
        else
          let sas := x.sas.map fun a => if a.an = sa.an then { a with rxPn := max a.rxPn tag.pn } else a
          -- the first frame under the new AN ends the use of the old one
          let old := x.oldAn
          let sas := match old with
            | some o => if tag.an.val = x.txAn then sas.filter fun a => a.an != o else sas
            | none => sas
          let s := s.setPort p { x with sas := sas, oldAn := if tag.an.val = x.txAn then none else old }
          (s.bump (R.PRT_P_SECCNT2.OK p), true)

/-- The envelope of a Pebiyr frame (R253 to R255). -/
def State.envelopeOk (s : State) (p : Nat) (e : Eth) : Bool :=
  e.etype != 0x8808 && !e.tagged && (e.dst == pebiyrGroup || e.dst == s.portMac p) &&
  (if s.inUse (R.PRT_P_CFG.TRANSPORT p) = 1 then
     e.etype == 0x0800 && (match e.ip with
       | some i => !i.fragment && !i.options && i.sumOk && i.dst == s.inUse (R.PRT_P_IPA.IPA p)
           && i.dport == s.inUse R.PRT_UDP.UDPPORT
       | none => false)
   else e.etype == s.inUse R.PRT_VER.ETYPE)

/-- A LINK_HELLO, which brings a port up and so precedes its link version and the line check of R265. -/
def Frame.isHello (f : Frame) : Bool := f.flow == 0 && f.type == 0

/-- The header checks of R257. -/
def State.headerOk (s : State) (p : Nat) (f : Frame) : Bool :=
  let lv := if f.isHello then max 1 (s.lver p) else s.lver p
  f.ver != 0 && f.ver ≤ lv && f.inVersion f.ver && f.length ≤ 1440 && f.length ≤ f.payload.length
    && (f.isHello || f.line == s.lineId) && (f.multi == (f.dtype == 3))

/-- Traffic that only a chain carries (R265): root hellos, streams, SAFE and TEMPO, and whatever is addressed to a root
or to all hubs. -/
def Frame.ofChain (f : Frame) : Bool :=
  (f.flow == 0 && f.type == 1) || f.flow == 1 || f.flow == 4 || f.flow == 5 || f.dtype != 0

/-- The checks of a received Pebiyr frame, with their counts (R253 to R257, R263, R274): answers whether it stays. -/
def State.rxGate (s : State) (rx : Rx) : State × Bool :=
  let p := rx.port.val
  if !s.on (R.PRT_P_STAT.LINK p) then (s, false)
  else if !rx.eth.fcsOk ∨ rx.eth.bytes > 1518 then (s.bump (R.PRT_P_CNT2.RXERR p), false)
  else
    let s := s.bump (R.PRT_P_CNT0.RXFRM p)
    if !s.envelopeOk p rx.eth then (s.bump (R.PRT_P_CNT5.DISCARD p), false)
    else
      let (s, ok) := s.secCheck p rx.eth.sec
      if !ok then (s, false)
      else if !s.portUp p && rx.frame.flow != 0 then
        let s := s.modPort p fun x => { x with chainSeen := x.chainSeen || decide (2 ≤ p) && rx.frame.ofChain }
        (s.bump (R.PRT_P_CNT5.DISCARD p), false)
      else if !s.headerOk p rx.frame then (s.bump (R.PRT_P_CNT2.BADHDR p), false)
      else (s, true)

/-- What becomes of a frame that passed the checks (Table 10.8). -/
inductive Fate where
  | consume | forward (p : Nat) | both (p : Nat) | misdir
  deriving DecidableEq, Repr

/-- Whether a frame for the hub's own address belongs to this chip's role (R269, R402, R404). -/
def State.belongs (s : State) (f : Frame) : Bool :=
  if f.flow = 3 ∧ f.type ≤ 3 then
    let sel := (f.payload.getD 1 0).toNat % 4
    if sel = 1 then s.isFollow
    else if sel = 2 then beNat (slice f.payload 12 8) == s.unitId
    else !s.isFollow
  else !s.isFollow

/-- The fate of a frame for the hub's own address that arrives on chain port `p` (R260, R269, R402). -/
def State.ownFate (s : State) (p : Nat) (f : Frame) : Fate :=
  if f.flow = 1 ∧ f.type ≤ 1 then .misdir
  else if f.flow = 3 ∧ 4 ≤ f.type then (if s.partnerPort = some p then .consume else .misdir)
  else if s.belongs f then .consume
  else match s.partnerPort with
    | none => .consume
    | some q =>
      if !s.portUp q then .consume
      else if q = p then
        (if f.flow = 3 ∧ (f.payload.getD 1 0).toNat % 4 = 2 then .consume else .misdir)
      else .forward q

/-- The fate of a checked frame (R264, R268, R273). -/
def State.fate (s : State) (rx : Rx) : Fate :=
  let p := rx.port.val
  let f := rx.frame
  if f.isHello then .consume
  else if 2 ≤ p then
    if s.inUse (R.PRT_P_CFG.USE p) = 2 ∧ (f.flow = 3 ∧ (f.type = 0 ∨ f.type = 2) ∨ f.flow = 2 ∧ f.type = 0) ∧
        f.stype = 3 ∧ f.dtype = 0 ∧ f.dst = s.hubAddr then .consume
    else .misdir
  else if f.flow = 0 then (if f.stype = p + 1 then .consume else .misdir)
  else match f.dtype with
    | 0 => if f.dst = s.hubAddr then s.ownFate p f else .forward (otherPort p)
    | 1 => if p = 0 then .misdir else .forward 0
    | 2 => if p = 1 then .misdir else .forward 1
    | _ => .both (otherPort p)

/-- The frame as it goes on: its padding removed. -/
def Frame.trimmed (f : Frame) : Frame := { f with payload := f.body }

/-- A received frame: the checks, then its fate; `h` is what consuming it does if it is of the kind `mine`. -/
def State.receive (s : State) (rx : Rx) (mine : Frame → Bool) (h : State → State) : State :=
  let (s, ok) := s.rxGate rx
  if !ok then s
  else match s.fate rx with
    | .misdir => s.bump (R.PRT_P_CNT3.MISDIR rx.port.val)
    | .forward q => s.sendTransit q rx.frame.trimmed
    | .consume => if mine rx.frame then h s else s
    | .both q => (if mine rx.frame then h s else s).sendTransit q rx.frame.trimmed

/-- The parts that receiving a frame may write. -/
abbrev rxParts : Parts := { ports := true, strm := true, mon := true }

/-- TRANSIT_FRAME_RX (R268 to R270): a frame for another chip or a group goes on by Table 10.8, or is discarded. -/
def execTransitFrameRx (now : Nat) (rx : Rx) (s : State) : Out :=
  act rxParts now s fun s => s.receive rx (fun _ => false) id

/-- FRAME_RX_DISCARD (R253 to R257): a frame that fails a check is discarded and counted. -/
def execFrameRxDiscard (now : Nat) (rx : Rx) (s : State) : Out :=
  act rxParts now s fun s =>
    let (t, ok) := s.rxGate rx
    if !ok then t
    else if s.fate rx = .misdir then t.bump (R.PRT_P_CNT3.MISDIR rx.port.val)
    else s

/-- STREAM_ACK_RX (R203, R260). -/
def execStreamAckRx (now : Nat) (rx : Rx) (s : State) : Out :=
  act rxParts now s fun s =>
    s.receive rx (fun f => f.flow == 1 && f.type == 2) fun s => s.ack rx.frame.ch rx.frame.a (rx.frame.b / 2 ^ 16)

/-- STREAM_NAK_RX (R260). -/
def execStreamNakRx (now : Nat) (rx : Rx) (s : State) : Out :=
  act rxParts now s fun s =>
    s.receive rx (fun f => f.flow == 1 && f.type == 3) fun s => s.nak rx.frame.ch rx.frame.a (rx.frame.b / 2 ^ 16)

/-- One entry of an ACKS: stream number, three zero bytes, cumulative PSN (Table 10.5). -/
def State.acksEntry (s : State) (p runid : Nat) (e : List Byte) : State :=
  let n := (e.getD 0 0).toNat
  if n > 63 ∨ beNat (slice e 1 3) ≠ 0 then s.bump (R.PRT_P_CNT2.BADHDR p)
  else if !s.strmOn n then s.bump (R.QUE_S_BADACK.BADACK n)
  else s.ack n (beNat (slice e 4 4)) runid

/-- STREAM_ACKS_RX (R260): a malformed ACKS is discarded whole, a well-formed one applies entry by entry. -/
def execStreamAcksRx (now : Nat) (rx : Rx) (s : State) : Out :=
  act rxParts now s fun s =>
    s.receive rx (fun f => f.flow == 1 && f.type == 4) fun s =>
      let f := rx.frame
      if f.length = 0 ∨ f.length % 8 ≠ 0 ∨ f.length > 512 then s.bump (R.PRT_P_CNT2.BADHDR rx.port.val)
      else s.each (chunks 8 64 f.body) fun s e => s.acksEntry rx.port.val (f.b / 2 ^ 16) e

/-- STREAM_FLUSH (R201): FLUSH µs after its first row entered, the open packet of the stream closes. -/
def execStreamFlush (now : Nat) (st : Fin 64) (s : State) : Out :=
  act { strm := true, ports := true } now s fun s =>
    let x := s.strmSt st
    if x.rows.isEmpty ∨ s.now < x.openAt + s.inUse (R.QUE_S_FLUSH.FLUSH st) * usU then s else s.closePacket st

/-- STREAM_SKIP_RESUME (R210): once the free room holds a whole packet with its descriptor, the assembler owes SYNC
REASON 3 and resumes with the next row. -/
def execStreamSkipResume (now : Nat) (st : Fin 64) (s : State) : Out :=
  act { strm := true } now s fun s =>
    let x := s.strmSt st
    let whole := s.strmRows st * rowWords (s.strmClass st) (s.inUse (R.QUE_S_CFG.WIDTH st)) + 1
    if x.skipping ∧ s.fits st whole 0 then s.setStrm st { x with skipping := false, owed := oweMore x.owed 3 2 } else s

end Sys2Proof.Machine
end

