-- ==== Sys2Proof/Machine/Tempo.lean ====
section
/-! DEFINITION. Tempo bases (R176 to R183). Positions are in 2^-16 counts. -/

namespace Sys2Proof.Machine

/-- The memory of tempo base `n`. -/
def State.tempo (s : State) (n : Nat) : TmpSt := Tbl.get {} s.time.tmp n

/-- The state with a tempo base's memory replaced. -/
def State.setTempo (s : State) (n : Nat) (x : TmpSt) : State :=
  { s with time := { s.time with tmp := Tbl.set {} s.time.tmp n x } }

/-- SRC of a tempo base in use: 0 off, 1 encoder, 2 network, 3 mains. -/
def State.tempoSrc (s : State) (n : Nat) : Nat := s.inUse (R.TIM_TMP_CFG.SRC n)

/-- STATE of a tempo base: 0 OFF, 1 TRACKING, 2 HOLDOVER, 3 LOST. -/
def State.tempoState (s : State) (n : Nat) : Nat := s.get (R.TIM_TMP_STAT.STATE n)

/-- A tempo base counts as in holdover when it is in HOLDOVER or LOST (R176). -/
def State.tempoHoldover (s : State) (n : Nat) : Bool := decide (2 ≤ s.tempoState n)

/-- A base time in seconds. -/
def secsOf (x : Int) : Rat := mkRat x secU

/-- The control cycle in local units. -/
def State.cycleU (s : State) : Nat := s.inUse R.TIM_CYCLE.CYCLE * usU

/-- Velocity of an encoder base in counts/s: between the first and the last edge of the last 1 ms, or between the last
two (R177). -/
def State.encVel (s : State) (n t : Nat) : Rat :=
  let es := (s.tempo n).edges
  let recent := es.filter fun e => decide (t < e.1 + msU)
  let use := if 2 ≤ recent.length then recent else es.take 2
  match use.head?, use.getLast? with
  | some z, some a =>
    if z.1 ≤ a.1 then 0
    else mkRat ((use.dropLast.foldl (fun n e => n + e.2) 0) * (secU : Nat)) ((z.1 - a.1) * 65536)
  | _, _ => 0

/-- Velocity of the network model in counts/s at base time `x`. -/
def TmpSt.modelVel (b : TmpSt) (x : Int) : Rat := b.v0 + b.a * secsOf (x - b.t0)

/-- Position of the network model in counts at base time `x`, without its correction (R181). -/
def TmpSt.model (b : TmpSt) (x : Int) : Rat :=
  let d := secsOf (x - b.t0)
  b.p0 + b.v0 * d + b.a * d * d / 2

/-- Velocity of a tempo base at local time `t`, in counts/s. -/
def State.tempoVel (s : State) (n t : Nat) : Rat :=
  let b := s.tempo n
  if s.tempoState n = 3 then 0
  else match s.tempoSrc n with
    | 1 => s.encVel n t
    | 2 => b.modelVel (s.wbAt 0 t)
    | 3 => if b.mainsPer = 0 then 0 else mkRat secU b.mainsPer
    | _ => 0

/-- Position of a tempo base at local time `t`, in 2^-16 counts (R177, R178, R181). -/
def State.tempoPos (s : State) (n t : Nat) : Int :=
  let b := s.tempo n
  if s.tempoState n = 3 then b.held
  else match s.tempoSrc n with
    | 1 => match b.edges.head? with
      | none => b.pos
      | some e =>
        let one : Rat := ((sgn 32 (s.inUse (R.TIM_TMP_SCALE.SCALE n))).natAbs : Nat)
        let d := s.encVel n t * mkRat ((t - e.1 : Nat) : Int) secU * 65536
        b.pos + (if one < d then one else if d < -one then -one else d).floor
    | 2 =>
      let age : Rat := mkRat ((t - b.trx : Nat) : Int) (max 1 s.cycleU)
      let w : Rat := if age < 1 then 1 - age else 0
      ((b.model (s.wbAt 0 t) - b.corr * w) * 65536).floor
    | 3 => match b.mainsAt with
      | none => 0
      | some e => if b.mainsPer = 0 then (b.cnt : Int) * 65536
          else ((((b.cnt : Nat) : Rat) + mkRat ((t - e : Nat) : Int) b.mainsPer) * 65536).floor
    | _ => 0

/-- A tempo base enters a state (R182); TEMPO_HOLD and TEMPO_LOST belong to the network base. -/
def State.enterTempo (s : State) (n st : Nat) : State :=
  if s.tempoState n = st then s
  else
    let s := if st = 3 then s.setTempo n { s.tempo n with held := s.tempoPos n s.now } else s
    let s := s.put (R.TIM_TMP_STAT.STATE n) st
    if s.tempoSrc n ≠ 2 then s
    else if st = 2 then s.log1 L.TEMPO_HOLD 7 n else if st = 3 then s.log1 L.TEMPO_LOST 7 n else s

/-- Tempo bases with a source, and encoder `e` for SRC = 1. -/
def State.tempoOf (s : State) (src e : Nat) : List Nat :=
  [0, 1, 2, 3].filter fun n => s.tempoSrc n == src && (src != 1 || s.inUse (R.TIM_TMP_CFG.ENC n) == e)

/-- The raw quadrature count of an encoder, and the time of its last illegal transition (R177). -/
def State.rawEdge (s : State) (enc : Nat) (edge : QuadEdge) : State :=
  let t := s.time
  let c := Tbl.get 0 t.enc enc
  match edge with
  | .up => { s with time := { t with enc := Tbl.set 0 t.enc enc (c + 1) } }
  | .down => { s with time := { t with enc := Tbl.set 0 t.enc enc (c - 1) } }
  | .illegal => { s with time := { t with encBad := Tbl.set none t.encBad enc (some s.now) } }

/-- ENCODER_EDGE (R177). -/
def execEncoderEdge (now : Nat) (enc : Fin 4) (edge : QuadEdge) (s : State) : Out :=
  act timeParts now s fun s => (s.rawEdge enc edge).each (s.tempoOf 1 enc) fun s n =>
    let scale := sgn 32 (s.inUse (R.TIM_TMP_SCALE.SCALE n))
    let count (d : Int) : State :=
      let b := s.tempo n
      let es := (s.now, d) :: b.edges
      let keep := es.filter fun e => decide (s.now < e.1 + msU)
      s.setTempo n { b with pos := b.pos + d, edges := if keep.length < 2 then es.take 2 else keep }
    match edge with
    | .up => count scale
    | .down => count (-scale)
    | .illegal => (s.bump (R.TIM_TMP_STAT.ENCERR n)).logCycle L.ENC_ERR 7 n

/-- ENCODER_INDEX (R177): the position at QZn's rising edge. -/
def execEncoderIndex (now : Nat) (enc : Fin 4) (s : State) : Out :=
  act timeParts now s fun s => s.each (s.tempoOf 1 enc) fun s n =>
    let p := unsgn 64 (s.tempoPos n s.now)
    (s.put (R.TIM_TMP_ZPOSL.ZPOS n) p).put (R.TIM_TMP_ZPOSH.ZPOS n) (p / 2 ^ 32)

/-- MAINS_EDGE (R178): one count, unless the edge comes more than 5 % of the period from its predicted time. After
missing cycles the prediction runs on, and the counts of the missed cycles stay in the position. -/
def execMainsEdge (now : Nat) (s : State) : Out :=
  act timeParts now s fun s => s.each (s.tempoOf 3 0) fun s n =>
    let b := s.tempo n
    match b.mainsAt with
    | none => s.setTempo n { b with cnt := b.cnt + 1, mainsAt := some s.now }
    | some t =>
      let d := s.now - t
      if b.mainsPer = 0 then
        -- the period must lie within 45 to 65 Hz
        let b := { b with cnt := b.cnt + 1, mainsAt := some s.now }
        if 65 * d < secU ∨ secU < 45 * d then s.setTempo n b
        else (s.setTempo n { b with mainsPer := d }).enterTempo n 1
      else
        let k := max 1 ((d + b.mainsPer / 2) / b.mainsPer)
        let far := if k * b.mainsPer ≤ d then d - k * b.mainsPer else k * b.mainsPer - d
        if b.mainsPer < 20 * far then s.bump (R.TIM_TMP_STAT.DISCARD n)
        else (s.setTempo n { b with cnt := b.cnt + k, mainsAt := some s.now, mainsPer := d / k }).enterTempo n 1

/-- MAINS_HOLDOVER (R178): 3 cycles are missing. -/
def execMainsHoldover (now : Nat) (s : State) : Out :=
  act timeParts now s fun s => s.each (s.tempoOf 3 0) fun s n =>
    let b := s.tempo n
    match b.mainsAt with
    | none => s
    | some t => if s.tempoState n = 1 ∧ b.mainsPer ≠ 0 ∧ t + 3 * b.mainsPer ≤ s.now then s.enterTempo n 2 else s

/-- MAINS_LOST (R178): 1 s without edges. -/
def execMainsLost (now : Nat) (s : State) : Out :=
  act timeParts now s fun s => s.each (s.tempoOf 3 0) fun s n =>
    match (s.tempo n).mainsAt with
    | none => s
    | some t =>
      if (s.tempoState n = 1 ∨ s.tempoState n = 2) ∧ t + secU ≤ s.now then
        let s := s.enterTempo n 3
        let b := s.tempo n
        s.setTempo n { b with mainsPer := 0, mainsAt := none, cnt := (b.held / 65536).toNat }
      else s

/-- A TEMPO message by its payload (Table 7.6). -/
structure TempoMsg where
  tid : Nat
  seq : Nat
  hold : Bool
  t : Int
  pos : Rat
  vel : Rat
  err : Nat

/-- Read a TEMPO payload. -/
def tempoMsg (p : List Byte) : TempoMsg where
  tid := beNat (slice p 0 2)
  seq := beNat (slice p 2 2)
  hold := hasBit (beNat (slice p 4 1)) 0
  t := ((beNat (slice p 8 6) * secU + beNat (slice p 14 4) * nsU + beNat (slice p 18 2) : Nat) : Int)
  pos := mkRat (sgn 64 (beNat (slice p 20 8))) 65536
  vel := mkRat (sgn 64 (beNat (slice p 28 8))) 65536
  err := beNat (slice p 36 4)

/-- Whether a network base accepts a message (R179). -/
def TmpSt.accepts (b : TmpSt) (m : TempoMsg) : Bool :=
  (match b.seq with
   | none => true
   | some q => let d := (m.seq + 2 ^ 16 - q) % 2 ^ 16
     decide (1 ≤ d) && decide (d ≤ 32767)) &&
  (match b.lastT with
   | none => true
   | some t => decide (t < m.t))

/-- An accepted message moves the predictor (R181, R182). -/
def State.tempoAccept (s : State) (n : Nat) (m : TempoMsg) : State :=
  let b := s.tempo n
  let tau := secsOf (m.t - b.t0)
  let e := m.pos - b.model m.t
  let mag : Rat := if e < 0 then -e else e
  let s := s.measure 8 n (mag * 65536).floor
  let step := decide ((65536 : Rat) < mag)
  let a := if step then 0 else if 0 < tau then b.a + ((m.vel - b.v0) / tau - b.a) / 8 else b.a
  let errs := (mag :: b.errs).take 256
  let s := s.setTempo n { b with p0 := m.pos, v0 := m.vel, a := a, t0 := m.t, corr := if step then 0 else e,
                                 trx := s.now, seq := some m.seq, lastT := some m.t, errs := errs }
  let s := if step then s.log1 L.TEMPO_STEP 7 n else s
  if m.hold then s.enterTempo n 2
  else
    let s := s.enterTempo n 1
    let most := errs.foldl (fun x y => if x < y then y else x) 0
    s.put (R.TIM_TMP_ERR.TPERR n) (min (fieldMax 32) ((most * 65536).floor.toNat + m.err))

/-- TEMPO_RX (R179 to R182). -/
def execTempoRx (now : Nat) (rx : Rx) (s : State) : Out :=
  act { timeParts with ports := true } now s fun s =>
    s.receive rx (fun f => f.flow == 5 && f.type == 0) fun s =>
      if rx.frame.length < 40 then s
      else
        let m := tempoMsg rx.frame.body
        s.each ((s.tempoOf 2 0).filter fun n => s.inUse (R.TIM_TMP_CFG.TID n) == m.tid) fun s n =>
          if (s.tempo n).accepts m then s.tempoAccept n m else s.bump (R.TIM_TMP_STAT.DISCARD n)

/-- TEMPO_HOLDOVER (R182): HOLDT µs without an accepted message; `a` becomes 0 and the base runs on. -/
def execTempoHoldover (now : Nat) (n : Fin 4) (s : State) : Out :=
  act timeParts now s fun s =>
    let b := s.tempo n
    if s.tempoSrc n ≠ 2 ∨ s.tempoState n = 0 ∨ s.tempoState n = 3 ∨ s.tempoState n = 2 ∧ b.a = 0 ∨ s.now < b.trx + s.inUse (R.TIM_TMP_HOLD.HOLDT n) * usU then s
    else
      let x := s.wbNow 0
      let s := s.setTempo n { b with p0 := b.model x, v0 := b.modelVel x, a := 0, t0 := x }
      s.enterTempo n 2

/-- TEMPO_LOST (R182): LOSST ms without a message. -/
def execTempoLost (now : Nat) (n : Fin 4) (s : State) : Out :=
  act timeParts now s fun s =>
    let b := s.tempo n
    if s.tempoSrc n ≠ 2 ∨ s.tempoState n = 3 ∨ s.now < b.trx + s.inUse (R.TIM_TMP_HOLD.LOSST n) * msU then s
    else
      let s := s.enterTempo n 3
      let b := s.tempo n
      s.setTempo n { b with p0 := mkRat b.held 65536, v0 := 0, a := 0, corr := 0, t0 := s.wbNow 0 }

/-- Spacing of a tempo record in base units: 2^TRSH µs. -/
def State.recEvery (s : State) (n : Nat) : Nat := 2 ^ s.inUse (R.TIM_TMP_CFG.TRSH n) * usU

/-- TEMPO_RECORD_WRITE (R183): the position at the newest multiple of 2^TRSH µs of WB0 enters the record. -/
def execTempoRecordWrite (now : Nat) (n : Fin 4) (s : State) : Out :=
  act timeParts now s fun s =>
    if s.tempoSrc n = 0 then s
    else
      let i := ((s.wbNow 0).toNat) / s.recEvery n
      let t := (s.localOf 0 ((i * s.recEvery n : Nat) : Int)).toNat
      let r := Tbl.get [] s.time.tmpRec n
      let r := Tbl.ins r (i % 65536) (i, s.tempoPos n t)
      { s with time := { s.time with tmpRec := Tbl.set [] s.time.tmpRec n r } }

/-- The position of a tempo base at WB0 time `x` by its record, interpolated linearly (R183); none if the record does
not hold both neighbours. -/
def State.recPos (s : State) (n : Nat) (x : Int) : Option Int :=
  let d := s.recEvery n
  let i := x.toNat / d
  let r := Tbl.get [] s.time.tmpRec n
  let e (i : Nat) : Option Int := match (r.find? fun e => e.1 == i % 65536) with
    | some e => if e.2.1 = i then some e.2.2 else none
    | none => none
  match e i, e (i + 1) with
  | some a, some b => some (a + (b - a) * ((x.toNat % d : Nat) : Int) / (d : Int))
  | _, _ => none

/-- A TEMPO message of base `n` for the last cycle boundary (R180). -/
def State.tempoPayload (s : State) (n seq : Nat) : List Byte :=
  let t := s.time.cycleAt
  let x := s.wbAt 0 t
  let err := if s.tempoSrc n = 1 then (sgn 32 (s.inUse (R.TIM_TMP_SCALE.SCALE n))).natAbs / 2 else 66
  beBytes 2 (s.inUse (R.TIM_TMP_CFG.TID n)) ++ beBytes 2 seq ++ beBytes 1 (if s.tempoState n = 1 then 0 else 1)
    ++ beBytes 3 0 ++ beBytes 6 (secOf x) ++ beBytes 4 (nsOf x) ++ beBytes 2 (fracOf x)
    ++ beBytes 8 (unsgn 64 (s.tempoPos n t)) ++ beBytes 8 (unsgn 64 (s.tempoVel n t * 65536).floor)
    ++ beBytes 4 err

/-- Each encoder or mains base with PUBLISH sends its message at a cycle boundary; in a pair only the lead (R180). -/
def State.publishTempo (s : State) : State :=
  if s.isFollow then s
  else s.each [0, 1, 2, 3] fun s n =>
    let src := s.tempoSrc n
    if s.inUse (R.TIM_TMP_CFG.PUBLISH n) = 0 ∨ src = 0 ∨ src = 2 then s
    else
      let q := (s.tempo n).seq.getD 0
      let f := s.ownFrame 5 0 0 3 0 0 (s.tempoPayload n q)
      (s.setTempo n { s.tempo n with seq := some ((q + 1) % 2 ^ 16) }).sendBoth f

end Sys2Proof.Machine
end

