-- ==== Sys2Proof/Machine/Chain.lean ====
section
/-! DEFINITION. The filter chain of an analog endpoint (R136 to R154). Values in the 36-bit format of R141 are in 2^-8
counts, values of the DC blocker in 2^-48 counts. -/

namespace Sys2Proof.Machine

/-! Flags of the sample word (Table 6.3) -/

abbrev fXCK : Nat := 0x01
abbrev fHDO : Nat := 0x02
abbrev fFRZ : Nat := 0x04
abbrev fOPN : Nat := 0x08
abbrev fOVR : Nat := 0x10
abbrev fEXF : Nat := 0x20
abbrev fBLK : Nat := 0x40
abbrev fSTL : Nat := 0x80

/-- The flags that propagate by reach. -/
abbrev reachMask : Nat := 0x31

/-- The chain of an endpoint, and the state with it replaced. -/
def State.chain (s : State) (e : Nat) : ChainSt := Tbl.get {} s.chains e
def State.setChain (s : State) (e : Nat) (x : ChainSt) : State := { s with chains := Tbl.set {} s.chains e x }

/-- Stages 1 to 5 are cleared, and no flag crosses (R151, R153). -/
def ChainSt.cleared (x : ChainSt) : ChainSt :=
  { b := x.b, y := x.y, arm := x.arm, settle := x.settle, cause := x.cause, stepAt := x.stepAt }

/-- An event of Table 6.4 on endpoint `e`: the count starts with the next value that enters the chain. -/
def State.armSettle (s : State) (e : Nat) : State := s.setChain e { s.chain e with arm := true }

/-! ROM responses (R142) -/

/-- A symmetric list of `n` taps from its first half. -/
def mirrored (n : Nat) (half : Nat → Int) : List Int :=
  (List.range n).map fun k => half (min k (n - 1 - k))

/-- Whether coefficients have the properties of R142. -/
def coefOk (r : Nat) (l : List Int) : Bool :=
  l.foldl (· + ·) 0 == 2 ^ 22
  && decide (l.foldl (fun a c => a + c.natAbs) 0 < (if 13 ≤ r then 2 else 4) * 2 ^ 22)
  && l.all (fun c => decide (-(2 : Int) ^ 23 ≤ c) && decide (c < 2 ^ 23))
  && (decide (r < 13) || (let m := l.length / 2
      l.getD m 0 == 2 ^ 21 && (List.range l.length).all fun k =>
        k == m || (max k m - min k m) % 2 == 1 || l.getD k 0 == 0))

/-- The coefficients of response `r`: as the ROM holds them. The ROM's values are free within R142; a choice outside it
is replaced by one inside it. -/
def coefs (r : Nat) : List Int :=
  let n := tapsOf r
  if n ≤ 1 then [2 ^ 22]
  else
    let l := mirrored n fun k => sgn 24 (Config.romCoef (coefFirst r + k))
    let m := n / 2
    if coefOk r l then l
    else (List.range n).map fun k =>
      if r < 13 then (if k = m then 2 ^ 22 else 0)
      else if k = m then 2 ^ 21 else if k + 1 = m ∨ k = m + 1 then 2 ^ 20 else 0

/-- An FIR over the newest values, rounded to the 36-bit format. -/
def fir (r : Nat) (hist : List Int) : Int :=
  divRound ((List.zipWith (· * ·) (coefs r) hist).foldl (· + ·) 0) (2 ^ 22)

/-! Stages 1 to 5 -/

/-- Wrap to 84 bits. -/
def wrap84 (i : Int) : Int := sgn 84 (unsgn 84 i)

/-- The integrators take a value. -/
def integrate : List Int → Int → List Int
  | [], _ => []
  | i :: l, v => wrap84 (i + v) :: integrate l (wrap84 (i + v))

/-- The combs of differential delay `m` take a value: their memories and the result. -/
def combChain (m : Nat) : List (List Int) → Int → List (List Int) × Int
  | [], v => ([], v)
  | d :: l, v =>
    let (l, out) := combChain m l (wrap84 (v - d.getD (m - 1) 0))
    ((v :: d).take m :: l, out)

/-- A list padded with a default to `n` members. -/
def padTo {α : Type} (n : Nat) (d : α) (l : List α) : List α := (List.range n).map fun k => l.getD k d

/-- Stages 1 and 2: CIC and normalisation (R139 to R141). -/
def ChainSt.cic (x : ChainSt) (c : ChainCfg) (v : Int) : ChainSt × Option Int :=
  let ints := integrate (padTo c.n 0 x.ints) v
  if x.cnt + 1 < c.r then ({ x with ints := ints, cnt := x.cnt + 1 }, none)
  else
    let (combs, out) := combChain c.m (padTo c.n [] x.combs) (ints.getLast?.getD v)
    ({ x with ints := ints, combs := combs, cnt := 0 }, some (divRound (out * (c.knorm : Int)) (2 ^ (c.growth + 22))))

/-- Stage 3: the compensation response. -/
def ChainSt.comp (x : ChainSt) (c : ChainCfg) (v : Int) : ChainSt × Int :=
  if c.comp = 0 then (x, v)
  else
    let h := (v :: x.cHist).take (tapsOf c.comp)
    ({ x with cHist := h }, fir c.comp h)

/-- Stage 4: the half-band decimator; of every two values after a reset it delivers one on the second (R144). -/
def ChainSt.half (x : ChainSt) (c : ChainCfg) (v : Int) : ChainSt × Option Int :=
  if c.hb = 0 then (x, some v)
  else
    let h := (v :: x.hHist).take (tapsOf c.hb)
    if x.hbOdd then ({ x with hHist := h, hbOdd := false }, some (fir c.hb h))
    else ({ x with hHist := h, hbOdd := true }, none)

/-- Stages 1 to 4. -/
def ChainSt.front (x : ChainSt) (c : ChainCfg) (v : Int) : ChainSt × Option Int :=
  match x.cic c v with
  | (x, none) => (x, none)
  | (x, some v) =>
    let (x, v) := x.comp c v
    x.half c v

/-- The Lagrange cubic through values at -1, 0, 1, 2 at fraction `u` (R145), rounded to the 36-bit format. -/
def lagrange (a b c d : Int) (u : Rat) : Int :=
  let y : Rat := -(u * (u - 1) * (u - 2)) / 6 * (a : Rat) + (u + 1) * (u - 1) * (u - 2) / 2 * (b : Rat)
    - (u + 1) * u * (u - 2) / 2 * (c : Rat) + (u + 1) * u * (u - 1) / 6 * (d : Rat)
  divRound y.num y.den

/-- Grid points between two positions, as a range of grid indexes in the direction of motion: at or after `p0`, before
`p1`, beyond the furthest one delivered (R145, R146). -/
def gridBetween (c : ChainCfg) (p0 p1 : Int) (far : Option Int) : Option (Int × Nat) :=
  let d : Int := ((c.delta * 65536 : Nat) : Int)
  if d = 0 then none
  else
    -- positions mirrored for motion toward smaller ones
    let sg : Int := if c.dir = 1 then -1 else 1
    let a := sg * p0
    let b := sg * p1
    let first := -((-a) / d)
    let last := (b - 1) / d
    let first := match far with
      | some g => max first (sg * g + 1)
      | none => first
    if last < first then none else some (sg * last, (last - first).toNat)

/-- Stage 5: the resampler takes a value at a position; answers the value and grid index delivered, and the points
passed over. -/
def ChainSt.resample (x : ChainSt) (c : ChainCfg) (v pos : Int) : ChainSt × Option (Int × Int) × Nat :=
  let rs := (RsIn.mk pos v :: x.rs).take 4
  let x := { x with rs := rs }
  match rs with
  | [x2, x1, x0, xm] => match gridBetween c x0.pos x1.pos x.far with
    | none => (x, none, 0)
    | some (g, passed) =>
      let u : Rat := mkRat (g * ((c.delta * 65536 : Nat) : Int) - x0.pos) 1 / mkRat (x1.pos - x0.pos) 1
      ({ x with far := some g }, some (lagrange xm.val x0.val x1.val x2.val u, g), passed)
  | _ => (x, none, 0)

/-! Stages 6 and 7 -/

/-- What a chain delivers, with what FLT_STAT shows of it. -/
structure ChainOut where
  word : Nat
  grid : Int
  clipped : Bool
  frozen : Bool
  blk : Bool
  exf : Bool
  pair : Bool

/-- Stages 6 and 7 and the flag byte, for a value in 2^-8 counts (R148 to R154). `curr` says that the channel runs in
CURR, `opn` its open-input state, `man` its bit in FLT_FRZ, `hdoT` that the resampler's tempo base is in holdover, `pair`
that a handover hold is in force. -/
def ChainSt.back (x : ChainSt) (c : ChainCfg) (v grid : Int) (curr opn man hdoT pair : Bool) : ChainSt × ChainOut :=
  let reach := x.reach.foldl (· ||| ·) (x.win &&& reachMask)
  let flags := x.win ||| reach
  let settle := if x.winStl then c.settle else x.settle
  let stl := settle != 0
  let opn := opn || curr && decide (v < 327680 * 256)
  let blk := flags &&& fBLK != 0
  let exf := flags &&& fEXF != 0
  let causes := blk || exf || man || pair
  let held := match x.cause with
    | some n => decide (n < c.frzHold)
    | none => false
  let use := c.dcbK != 0
  let frozen := use && (causes || held)
  let b := if !use || frozen then x.b else divRound (x.b * 2 ^ c.dcbK + x.y) (2 ^ c.dcbK)
  let x48 := v * 2 ^ 40
  let y := if use then x48 - b else x48
  let r := divRound y (2 ^ 48)
  let q := clipS 24 r
  let clipped := decide (q ≠ r)
  let byte := flags ||| (if stl then fSTL else 0) ||| (if opn then fOPN else 0) ||| (if frozen then fFRZ else 0)
    ||| (if clipped then fOVR else 0) ||| (if hdoT then fHDO else 0)
  let x' := { x with
    b := b, y := if use then y else x.y, win := 0, winStl := false,
    reach := ((x.win &&& reachMask) :: x.reach).take (c.n * c.m + c.len), settle := settle - 1,
    cause := if causes then some 0 else x.cause.map (· + 1) }
  (x', ⟨mkWord q byte, grid, clipped, frozen, blk, exf, pair⟩)

/-! The chain on the state -/

/-- Group delay of stages 1 to 4 of endpoint `e`, in 2^-16 ns: GDLY frame periods. -/
def State.delayOf (s : State) (e : Nat) : Int :=
  (groupDelay (chainCfg s.inUse e) (chanSteps s.inUse e) * ((frameLen s.inUse (tileOf e) * slotU : Nat) : Rat)).floor

/-- Whether the bit of endpoint `e` in FLT_FRZ is set. -/
def State.manFreeze (s : State) (e : Nat) : Bool := hasBit (s.get (R.FLT_FRZ.FREEZE (e / 32))) (e % 32)

/-- A handover hold is in force for a sample at timestamp `t` (R149). -/
def State.pairHold (s : State) (x : ChainSt) (t : Int) : Bool :=
  match x.stepAt with
  | none => false
  | some a => decide (a ≤ t) && decide (t ≤ a + ((s.get R.FLT_PHOLD.PHOLD * msU : Nat) : Int))

/-- An output sample of the chain of endpoint `e`, for the frame `rec`. -/
def State.chainOut (s : State) (e : Nat) (c : ChainCfg) (r : FrameRec) (v grid : Int) : State :=
  let t := tileOf e
  let x := s.chain e
  let curr := s.inUse (R.TILE_CHCFG.MODE t (chanOf e)) == 6
  let opn := s.inUse (R.TILE_CHCFG.OPN_EN t (chanOf e)) == 1 && (Tbl.get {} (Tbl.get {} s.tiles t).opn (chanOf e)).isOpen
  let (x, o) := x.back c v grid curr opn (s.manFreeze e) (c.rs && s.tempoHoldover c.tempo) (s.pairHold x r.stamp)
  let s := s.setChain e x
  let s := s.when o.clipped (·.bump R.FLT_CNT.CLIP)
  let s := (s.put (R.FLT_STAT.SETTLE e) x.settle).putBit (R.FLT_STAT.FROZEN e) o.frozen
  let s := (s.putBit (R.FLT_STAT.F_MAN e) (s.manFreeze e)).putBit (R.FLT_STAT.F_PAIR e) o.pair
  let s := (s.putBit (R.FLT_STAT.F_BLK e) (o.frozen && o.blk)).putBit (R.FLT_STAT.F_EXF e) (o.frozen && o.exf)
  s.output e { word := o.word, t := r.stamp, grid := unsgn 32 o.grid }

/-- A value of the input sequence of endpoint `e`, with the flags of its frame, enters the chain (R136). -/
def State.feed (s : State) (e : Nat) (r : FrameRec) (v : Int) (flags : Nat) : State :=
  let c := chainCfg s.inUse e
  let x := s.chain e
  let x := { x with win := x.win ||| flags, winStl := x.winStl || x.arm, arm := false }
  match x.front c v with
  | (x, none) => s.setChain e x
  | (x, some v) =>
    if !c.rs then (s.setChain e x).chainOut e c r v 0
    else
      let t := r.t - s.delayOf e
      let pos := (s.recPos c.tempo t).getD (s.tempoPos c.tempo (s.localOf 0 t).toNat)
      match x.resample c v pos with
      | (x, none, _) => s.setChain e x
      | (x, some (v, g), passed) =>
        let s := s.setChain e x
        let s := if passed = 0 then s
          else (s.bump R.FLT_CNT.RSOVR passed).logCycle L.RSMP_OVERRUN 1 e 0 0 passed
        s.chainOut e c r v g

end Sys2Proof.Machine
end

