-- ==== Sys2Proof/Machine/Checks.lean ====
section
/-! DEFINITION. Commit checks: the rows of Tables 3.12, 4.4, 12.2, 6.7, 7.7, 7.9, 8.13 and 10.11, the conditions of R121
and Table 8.1, and the ranges of R6, each on a view of the configuration that will be in force (R420). -/

namespace Sys2Proof.Machine

/-! Views (R420) -/

/-- Whether the register at `a` belongs to a block that the commits `c` apply. -/
def CommitSt.covers (c : CommitSt) (a : Nat) : Bool :=
  if a < 0x1000000 then false
  else if a < 0x1100000 then hasBit c.tile ((a - 0x1000000) / 0x40000)
  else if a < 0x2000000 then c.iot
  else if a < 0x2000040 then hasBit c.calcfg (a / 4 % 4)
  else if a < 0x2000044 then c.calcfg != 0
  else if a < 0x3000000 then false
  else if a < 0x3003000 then hasBit c.flt ((a - 0x3000000) / 3072)
  else if a < 0x4000000 then false
  else if a < 0x5000000 then c.tim
  else if a < 0x6000000 then c.que
  else if a < 0x7000000 then false
  else if a < 0x8000000 then c.prt
  else if 0x9000000 ≤ a && decide (a < 0xA000000) then c.par
  else false

/-- The configuration that is in force once the commits `c` have applied. -/
def State.view (s : State) (c : CommitSt) : View := fun f => if c.covers f.reg.addr then s.get f else s.inUse f

/-- The number of the first row that holds. -/
def firstRow : List (Nat × Bool) → Option Nat
  | [] => none
  | (n, b) :: l => if b then some n else firstRow l

/-! Out-of-range shadows (R6) -/

/-- Whether a value lies in a field's range. -/
def FldInfo.accepts (f : FldInfo) (v : Nat) : Bool :=
  f.range.isEmpty || f.range.any fun r => decide (r.1 ≤ v) && decide (v ≤ r.2)

/-- Whether a register has RWS fields. -/
def RegInfo.shadowed (r : RegInfo) : Bool := r.fields.any fun f => f.ty == .rws

/-- Whether a word has an RWS field out of range. -/
def RegInfo.badShadow (r : RegInfo) (w : Word) : Bool :=
  r.fields.any fun f => f.ty == .rws && !f.accepts (fget w f.lo f.w)

/-- The address of the first RWS field out of range among the registers that `c` applies. -/
def State.badShadow (s : State) (c : CommitSt) : Option Nat :=
  (s.regs.find? fun e => c.covers e.1 && (match regAt? e.1 with
    | some h => h.info.badShadow e.2
    | none => false)).map (·.1)

/-! Step placement (R97) -/

/-- A slot in which a step may convert. -/
def usable (p : Nat) : Bool := decide (1 ≤ p % 16) && decide (p % 16 ≤ 13)

/-- A frame's schedule so far: the next slot, the source of the last conversion, the conversions (slot and step, newest
first) and the discharge slots. -/
structure Sched where
  p : Nat := 1
  last : Option Nat := none
  conv : List (Nat × Step) := []
  dis : Nat := 0

/-- Place what is left of a step, slot by slot; none when the frame is over. `fuel` bounds the slots looked at. -/
def placeStep (frame : Nat) (st : Step) : Nat → Nat → Sched → Option Sched
  | _, 0, c => some c
  | 0, _ + 1, _ => none
  | fuel + 1, left + 1, c =>
    if frame < c.p + 25 then none
    else if !usable c.p then placeStep frame st fuel (left + 1) { c with p := c.p + 1, last := none }
    else if c.p < st.delay then placeStep frame st fuel (left + 1) { c with p := c.p + 1 }
    else match c.last with
      | some l =>
        if l = st.src then
          placeStep frame st fuel left { c with p := c.p + 1, conv := (c.p, st) :: c.conv }
        else placeStep frame st fuel (left + 1) { c with p := c.p + 1, last := none, dis := c.dis + 1 }
      | none =>
        placeStep frame st fuel left { c with p := c.p + 1, last := some st.src, conv := (c.p, st) :: c.conv }

/-- The schedule of the steps that execute, in table order. -/
def placeAll (frame : Nat) : List Step → Sched → Option Sched
  | [], c => some c
  | st :: l, c => match placeStep frame st frame st.rep c with
    | none => none
    | some c => placeAll frame l c

/-- The all-steps frame of a tile (R102). -/
def allSteps (v : View) (t : Nat) : Option Sched := placeAll (frameLen v t) (stepsOf v t) {}

/-- The slot after the last conversion of the all-steps frame; 0 without an enabled step. -/
def endSlot (v : View) (t : Nat) : Nat :=
  if (stepsOf v t).isEmpty then 0 else match allSteps v t with
    | some c => c.p
    | none => 0

/-! Filter rows -/

/-- N for which a compensator is designed (Table 6.2). -/
def compN (comp : Nat) : Nat := if comp ≤ 4 then 3 else if comp ≤ 8 then 4 else 5

/-- Rows 1 to 6, 8 and 9 for endpoint `e` (Tables 6.7 and 7.7). -/
def fltRow (v : View) (e : Nat) : Option Nat :=
  let c := chainCfg v e
  let sch := schedOf v (tileOf e)
  let sts := chanSteps v e
  let frameNs : Rat := mkRat (frameLen v (tileOf e)) 40960000
  let span : Rat := mkRat (65536 * 2 ^ v (R.TIM_TMP_CFG.TRSH c.tempo)) 1000000
  firstRow [
    (1, decide (c.n < 3) || decide (5 < c.n) || decide (c.m < 1) || decide (2 < c.m) || c.r == 0 || decide (4096 < c.r)),
    (2, decide (84 < 24 + c.growth)),
    (3, decide (12 < c.comp) || decide (1 ≤ c.comp) && compN c.comp != c.n),
    (4, decide (1 ≤ c.hb) && decide (c.hb ≤ 12)),
    (5, decide (1 ≤ c.dcbK) && decide (c.dcbK ≤ 7) || decide (22 < c.dcbK)),
    (6, decide ((64000 : Rat) < outRate v e)),
    (8, c.rs && (c.delta == 0 || v (R.TIM_SCH_CFG.KIND sch) == 2 || v (R.TIM_TMP_CFG.SRC c.tempo) == 0)),
    (9, c.rs && decide (span / 2 < groupDelay c sts * frameNs + outSlots v e / 40960000))]

/-- The first endpoint of `es` whose channel is not OFF and which fails a row, and that row. -/
def fltFail (v : View) (es : List Nat) : Option (Nat × Nat) :=
  es.findSome? fun e => if !chanOn v e then none else (fltRow v e).map fun r => (e, r)

/-- The first endpoint and row on which an FLT commit fails; row 7 is on the sum of all rates. -/
def fltCheck (v : View) (es : List Nat) : Option (Nat × Nat) :=
  match fltFail v es with
  | some x => some x
  | none => if (24576000 : Rat) < rateSum v then some (es.headD 0, 7) else none

/-! Tile rows -/

/-- Channel modes that a group kind allows (Table 3.5). -/
def kindAllows (kind mode : Nat) : Bool :=
  match kind with
  | 0 => [0, 1, 2, 3, 5, 6].contains mode
  | 1 => mode == 0 || mode == 2
  | 2 => mode == 0 || mode == 4
  | _ => false

/-- A channel for which R66 requires a monitor window. -/
def needsWindow (kind mode : Nat) : Bool :=
  match mode with
  | 0 => false
  | 1 => false
  | 6 => false
  | 2 => kind == 1
  | _ => true

/-- The mode of a channel and the kind of a group in a view. -/
def modeOf (v : View) (t c : Nat) : Nat := v (R.TILE_CHCFG.MODE t c)
def kindOf (v : View) (t g : Nat) : Nat := v (R.TILE_GRP.KIND t g)

/-- The channels of a group. -/
def groupChans (g : Nat) : List Nat := [4 * g, 4 * g + 1, 4 * g + 2, 4 * g + 3]

/-- Eligible for the open-input test (R71). -/
def opnEligible (v : View) (t c : Nat) : Bool :=
  modeOf v t c == 1 || modeOf v t c == 2 && kindOf v t (c / 4) == 0

/-- A pulsed group: BRIDGE, RTD_STRING, or one with an RTD2 channel. -/
def pulsed (v : View) (t g : Nat) : Bool :=
  kindOf v t g == 1 || kindOf v t g == 2 || (groupChans g).any fun c => modeOf v t c == 3

/-- Two steps execute in a common frame (R100). -/
def stepsMeet (a b : Step) : Bool :=
  let g := Nat.gcd a.every b.every
  g != 0 && a.phase % g == b.phase % g

/-- Row 13 of Table 4.4. -/
def stepsClash : List Step → Bool
  | [] => false
  | a :: l => (a.src < 96 && l.any fun b => b.src == a.src && stepsMeet a b) || stepsClash l

/-- The first row of Tables 3.12, 4.4 and 12.2 that a commit of tile `t` meets; `old` is what is in use before it. -/
def tileRow (old v : View) (t : Nat) (paired : Bool) : Option Nat :=
  let cs := List.range 96
  let gs := List.range 24
  let sts := stepsOf v t
  let frame := frameLen v t
  let k := v (R.TILE_OPNK.K t)
  let win (g : Nat) : Bool := (groupChans g).any fun c => needsWindow (kindOf v t g) (modeOf v t c)
  let lead (g : Nat) : Nat := v (R.TILE_GRPT.LEAD t g)
  let level (g : Nat) : Nat := v (R.TILE_GRP.LEVEL t g)
  firstRow [
    (1, cs.any (fun c => modeOf v t c == 7 || modeOf v t c == 3 && decide (9 < v (R.TILE_CHCFG.RTD_I t c)))
      || gs.any (fun g => kindOf v t g == 3 || kindOf v t g == 1 && decide (2 < level g)
        || kindOf v t g == 2 && decide (9 < level g) || decide (240 < v (R.TILE_GRP.IMAX t g)))),
    (2, cs.any fun c => modeOf v t c == 5 && v (R.TILE_CHCFG.IEPE_I t c) == 0),
    (3, cs.any fun c => !kindAllows (kindOf v t (c / 4)) (modeOf v t c)),
    (4, gs.any fun g => win g && (lead g == 0 || decide (frame < lead g + 41))),
    (5, gs.any fun g => pulsed v t g && decide (v (R.TILE_GRPT.WIDTH t g) < lead g + 41)),
    (6, cs.any fun c => v (R.TILE_CHCFG.OPN_EN t c) == 1 && !opnEligible v t c),
    (7, decide (1 ≤ k) && decide (k ≤ 15) || k != 0 && decide (frame < 369)),
    (8, sts.any fun st => decide (st.src < 96) && modeOf v t st.src == 0),
    (9, sts.any fun st => st.every == 0 || decide (4096 < st.every) || decide (st.every ≤ st.phase)),
    (10, sts.any fun st => decide (100 ≤ st.src) || decide (64 < st.rep)),
    (11, decide (frame < 160) || decide (2 ^ 32 < frame) || v (R.TIM_SCH_CFG.KIND (schedOf v t)) == 0),
    (12, (allSteps v t).isNone),
    (13, stepsClash sts),
    (14, cs.any fun c => modeOf v t c != 0 && !sts.any fun st => st.src == c),
    (15, paired && cs.any fun c => modeOf v t c == 5 && v (R.TILE_CHCFG.IEPE_I t c) == 1),
    (16, cs.any fun c => modeOf v t c != 0 && modeOf old t c == 0 && (fltRow v (96 * t + c)).isSome)]

/-! Calibration configuration -/

/-- The first field that Table 5.7 rejects with MODE other than OFF, by its address. -/
def calZero (v : View) (t : Nat) : Option Nat :=
  if v (R.CAL_CFG.MODE t) = 0 then
    (if [0, 1, 2, 3].any (fun u => v (R.CAL_CFG.MODE u) != 0) && v R.CAL_REFV.VREF == 0 then some R.CAL_REFV.addr else none)
  else
    let bad (f : FldAt) : Option Nat := if v f = 0 then some f.reg.addr else none
    [R.CAL_CFG.NAVG t, R.CAL_TOL0.AGREE_OFS t, R.CAL_TOL0.AGREE_GAIN t, R.CAL_TOL1.LIN_TOL t, R.CAL_TOL1.PLAUS_GAIN t,
      R.CAL_TOL2.PLAUS_OFS t, R.CAL_REFV.VREF].findSome? bad

/-- R121: a tile that cannot borrow may not run LIVE or REQUEST. -/
def calCannot (v : View) (t : Nat) : Bool :=
  v (R.CAL_CFG.MODE t) != 0 && (decide (frameLen v t < 640) || decide (frameLen v t < endSlot v t + 422))

/-- Reserved conversions that can carry a borrowed hold: those in slots F − 134 to F − 25 (R120). -/
def borrowSlots (frame : Nat) : List Nat :=
  (List.range 8).filterMap fun i =>
    let k := (frame - 134) / 16 + i
    if frame - 134 ≤ 16 * k + 15 ∧ 16 * k + 15 + 25 ≤ frame then some k else none

/-- BPF: borrows available per frame; 0 where live calibration is not possible. -/
def borrows (v : View) (t : Nat) : Nat :=
  let frame := frameLen v t
  if frame < 640 ∨ frame < endSlot v t + 422 then 0 else (borrowSlots frame).length

/-! Time and I/O -/

/-- Row 7 of Table 7.9. -/
def diBad (v : View) : Bool :=
  (List.range 128).any fun i => diOn v i &&
    (let p := v (R.IOT_DIPER.P i)
     decide (p < 20) || decide (1000000 < p) || 1000000 % p != 0 || v (R.IOT_DICFG.FILT i) == 15
      || v (R.IOT_DICFG.TEN i) == 1 && v (R.TIM_TMP_CFG.SRC (v (R.IOT_DICFG.TSEL i))) == 0)

/-- The first row of Table 7.9 that holds. -/
def timRow (v : View) : Option Nat :=
  let two := [0, 1]
  let ptp (k : Nat) : Bool := v (R.TIM_PTP_CFG.EN k) == 1
  let lim (k : Nat) : Nat := v (R.TIM_WB_STEPLIM.STEPLIM k)
  let slew (k : Nat) : Nat := v (R.TIM_WB_CFG.SLEWMAX k)
  let cyc := v R.TIM_CYCLE.CYCLE
  let tmps := [0, 1, 2, 3]
  firstRow [
    (1, v (R.TIM_WB_CFG.SRC 0) == 1 || two.any fun k => v (R.TIM_WB_CFG.LOCKLIM k) == 0 || slew k == 0
      || decide (500 < slew k) || lim k == 0 || decide (1000000 < lim k)),
    (2, two.any (fun k => v (R.TIM_PTP_CFG.PROFILE k) == 3
        || decide (sgn 8 (v (R.TIM_PTP_INT.LOGSYNC k)) < -7) || decide (0 < sgn 8 (v (R.TIM_PTP_INT.LOGSYNC k)))
        || decide (sgn 8 (v (R.TIM_PTP_INT.LOGDELAY k)) < -4) || decide (2 < sgn 8 (v (R.TIM_PTP_INT.LOGDELAY k)))
        || decide (v (R.TIM_PTP_INT.SYNCLOSS k) < 2) || decide (16 < v (R.TIM_PTP_INT.SYNCLOSS k)))
      || ptp 0 && ptp 1 && v (R.TIM_PTP_CFG.DOMAIN 0) == v (R.TIM_PTP_CFG.DOMAIN 1)
      || ptp 1 && v (R.TIM_WB_CFG.SRC 1) == 1),
    (3, (List.range 6).any fun n => decide (2 ≤ v (R.TIM_NB_CFG.SRC n))),
    (4, decide (cyc < 250) || decide (10000 < cyc) || 1000000 % cyc != 0),
    (5, (List.range 8).any fun k => v (R.TIM_SCH_CFG.KIND k) == 3 || decide (6 ≤ v (R.TIM_SCH_CFG.NB k))
      || v (R.TIM_SCH_CFG.KIND k) == 2 && (v (R.TIM_SCH_I0.INTERVAL k) == 0 && v (R.TIM_SCH_I1.INTERVAL k) == 0
        || v (R.TIM_TMP_CFG.SRC (v (R.TIM_SCH_CFG.TEMPO k))) == 0)),
    (6, tmps.any fun n => v (R.TIM_TMP_CFG.SRC n) == 1 && v (R.TIM_TMP_SCALE.SCALE n) == 0
      || v (R.TIM_TMP_CFG.SRC n) == 2 && v (R.TIM_TMP_CFG.PUBLISH n) == 1 || decide (8 < v (R.TIM_TMP_CFG.TRSH n))),
    (7, diBad v)]

/-! Streams, queues and history -/

/-- The members of a roster. -/
def rosterOf (v : View) (n : Nat) : List Nat :=
  (List.range (v (R.QUE_S_CFG.WIDTH n))).map fun i => v (R.QUE_ROSTER.EP (v (R.QUE_S_CFG.BASE n) + i))

/-- Whether a list of members agrees on a property. -/
def agree {α : Type} [BEq α] (f : Nat → α) : List Nat → Bool
  | [] => true
  | e :: l => l.all fun d => f d == f e

/-- The conditions of Table 8.1 on a roster. -/
def rosterOk (v : View) (n : Nat) : Bool :=
  let es := rosterOf v n
  let cls := v (R.QUE_S_CFG.CLASS n)
  let analog := es.all fun e => decide (e < 384)
  let sch (e : Nat) : Nat := schedOf v (tileOf e)
  let rh (e : Nat) : Nat := (chainCfg v e).r * (chainCfg v e).h
  let rs (e : Nat) : Bool := (chainCfg v e).rs
  let steps := match es with
    | [] => true
    | e :: l => l.all fun d => sameStepSet (chanSteps v d) (chanSteps v e)
  decide (v (R.QUE_S_CFG.BASE n) + es.length ≤ 1024) && es.all (produces v) &&
  (match cls with
   | 0 => analog && decide (es.length ≤ 360) && agree sch es && es.all (fun e => v (R.TIM_SCH_CFG.KIND (sch e)) == 1
       && v (R.TIM_NB_CFG.SRC (nbOf v e)) == 0 && evenlySpaced (chanSteps v e) && decide (outSlots v e < (2 ^ 32 : Nat)))
       && steps && agree rh es
   | 1 => analog && decide (es.length ≤ 359) && agree sch es && steps && agree rh es && es.all fun e => !rs e
   | 2 => analog && decide (es.length ≤ 358) && agree sch es && steps && agree rh es && es.all rs
       && agree (fun e => ((chainCfg v e).tempo, (chainCfg v e).delta, (chainCfg v e).dir)) es
   | _ => decide (es.length ≤ 128) && es.all (fun e => decide (384 ≤ e)) && agree (nbOf v) es)

/-- A power of two. -/
def isPow2 (n : Nat) : Bool := n != 0 && 2 ^ Nat.log2 n == n

/-- The first row of Table 8.13 that holds. -/
def queRow (v : View) : Option Nat :=
  let on (n : Nat) : Bool := v (R.QUE_S_CFG.EN n) == 1
  let ns := (List.range 64).filter on
  let size (q : Nat) : Nat := v (R.QUE_Q_CFG.SIZE q)
  let full := (ns.filter fun n => v (R.QUE_S_CFG.KIND n) == 0).flatMap (rosterOf v)
  let hist := v R.QUE_PART.HISTSZ
  let ques := v R.QUE_PART.QUESZ
  firstRow [
    (1, (List.range 80).any (fun q => size q != 0 && (!isPow2 (size q) || decide (16384 < size q)))
      || ns.any fun n => v (R.QUE_Q_CFG.PKT n) == 0),
    (2, decide (ques * 1024 < (List.range 80).foldl (fun a q => a + size q) 0)),
    (3, hist == 0 || decide (124 < hist + ques)),
    (4, ns.any fun n => !rosterOk v n),
    (5, decide (full.eraseDups.length < full.length)),
    (6, ns.any fun n => v (R.QUE_S_CFG.KIND n) == 1 && (decide (2 ≤ v (R.QUE_S_CFG.CLASS n))
      || decide (6 ≤ v (R.QUE_S_RED.OP n)) || decide (16 < v (R.QUE_S_RED.DSH n)))),
    (7, ns.any fun n => v (R.QUE_S_CFG.WIDTH n) == 0 || size n == 0),
    (8, decide ((24576000 : Rat) < histRate v)),
    (9, size 64 == 0 || v (R.QUE_Q_CFG.PKT 64) == 0)]

/-! Ports -/

/-- The first row of Table 10.11 that holds; `cak p` says that port `p` has had a CAK since reset. -/
def prtRow (v : View) (cak : Nat → Bool) : Option Nat :=
  let ps := [0, 1, 2, 3]
  let use (p : Nat) : Nat := v (R.PRT_P_CFG.USE p)
  let mode (p : Nat) : Nat := v (R.PRT_P_CFG.MODE p)
  let sec (p : Nat) : Nat := v (R.PRT_P_CFG.MACSEC p)
  let ip (p : Nat) : Bool := v (R.PRT_P_CFG.TRANSPORT p) == 1
  let len (p : Nat) : Nat := v (R.PRT_P_MKA.CKNLEN p)
  let et := v R.PRT_VER.ETYPE
  let vmax := v R.PRT_VER.VMAX
  firstRow [
    (1, use 0 != 1 || use 1 != 1 || use 2 == 1 || use 3 == 1 || ps.any fun p => decide (5 ≤ use p)),
    (2, ps.any fun p => decide (6 ≤ mode p) || decide (p < 3) && mode p == 2),
    (3, ps.any fun p => v (R.PRT_P_CFG.MS p) == 3 || sec p == 3),
    (4, ps.any fun p => ip p && (v (R.PRT_P_IPA.IPA p) == 0 || v (R.PRT_P_IPB.IPB p) == 0)),
    (5, ps.any fun p => sec p == 1 && (len p == 0 || decide (32 < len p) || !cak p)),
    (6, decide (et < 0x600) || [0x800, 0x806, 0x888E, 0x88E5, 0x88F7].contains et || vmax == 0 || decide (3 < vmax)),
    (7, v R.PRT_UDP.UDPPORT == 0 && ps.any ip)]

end Sys2Proof.Machine
end

