-- ==== Sys2Proof/Machine/Prot.lean ====
section
/-! DEFINITION. The protection unit (R360 to R362) and the answers to requesters. -/

namespace Sys2Proof.Machine

/-- The lowest-numbered enabled window whose range holds byte `a` (R361). -/
def State.window (s : State) (a : Nat) : Option Nat :=
  (List.range 32).find? fun n => s.on (R.PROT_LIMIT.EN n) && decide (s.get (R.PROT_BASE.BASE n) ≤ a / 4096)
    && decide (a / 4096 ≤ s.get (R.PROT_LIMIT.LIMIT n))

/-- Whether class `cls` may access the `n` bytes from `a` (R361). -/
def State.allows (s : State) (cls a n : Nat) (wr : Bool) : Bool :=
  match s.window a with
  | none => false
  | some w => decide ((a + n - 1) / 4096 ≤ s.get (R.PROT_LIMIT.LIMIT w))
      && hasBit (s.get (R.PROT_PERM.PERM w)) (2 * cls + (if wr then 1 else 0))

/-- An address of the PROT block (Table 15.12). -/
def inProt (a : Nat) : Bool := decide (0x100000 ≤ a) && decide (a < 0x100400)

/-- Whether a requester may access the `n` bytes from `a`: PL0 always reaches the PROT block (R361). -/
def State.permits (s : State) (q : Requester) (a n : Nat) (wr : Bool) : Bool :=
  q.isPl0 && inProt a && inProt (a + n - 1) || s.allows q.cls a n wr

/-- A denial of class `cls` at address `a`, counted, kept and logged (R361). -/
def State.deny (s : State) (cls a : Nat) : State :=
  let s := s.bump (R.PROT_DENY.COUNT cls)
  let s := (s.put R.PROT_LASTL.ADDR a).put R.PROT_LASTH.ADDR (a / 2 ^ 32)
  s.logCycle L.PROT_DENY 0 0 0 a

/-- The answer to a requester's access. -/
def State.answer (s : State) (q : Requester) (err : Bool) (data : Nat) : State :=
  { s with resp := Tbl.set {} s.resp q.no { err := err, data := data } }

/-- Addresses of the TILE, IOT, FLT, TIM, QUE and PAR blocks, which only the lead of a pair may write (R333). -/
def inLeadBlocks (a : Nat) : Bool :=
  let b := a / 2 ^ 24
  b == 1 || b == 3 || b == 4 || b == 5 || b == 9

/-- Writes of a follow's own requesters to those blocks are ignored (R333). -/
def State.ignoresWrite (s : State) (a : Nat) : Bool := s.isPaired && s.isFollow && inLeadBlocks a

/-- A write of `data` to the register at `a` whose defined bits are `mask`: the protection check, the count of reserved
bits that are set (R4), and the effect `f`. -/
def State.cmdWrite (s : State) (q : Requester) (a : Nat) (mask data : Word) (f : State → State) : State :=
  if !s.permits q a 4 true then (s.deny q.cls a).answer q true 0
  else
    let s := if data &&& ~~~ mask ≠ 0 then s.bump (R.SYS_REQERR2.RSVD q.no) else s
    (if s.ignoresWrite a then s else f s).answer q false 0

/-- A write of a register that is mediated (R405): a core writes by its windows; for the host and the MGMT engine the
firmware applies the role rule `ok` and writes as PL0. -/
def State.mediated (s : State) (q : Requester) (a : Nat) (mask data : Word) (ok : Bool) (f : State → State) : State :=
  match q with
  | .core0 _ => s.cmdWrite q a mask data f
  | .core1 _ => s.cmdWrite q a mask data f
  | _ => if ok then (f s).answer q false 0 else s.answer q true 0

/-- The roles OWNER (0), ENGINEER (1), OPERATOR (2) and OBSERVER (3) of a MGMT requester. -/
def Requester.role? : Requester → Option Nat
  | .mgmt r => some r.val
  | _ => none

/-- The MGMT role is OWNER, or OWNER or ENGINEER. -/
def Requester.isOwner (q : Requester) : Bool := q.role? == some 0
def Requester.isEngineer (q : Requester) : Bool := q.role? == some 0 || q.role? == some 1

/-- A read of the register at `a`: the protection check, the effect `f`, and its answer. -/
def State.cmdRead (s : State) (q : Requester) (a : Nat) (f : State → State × Nat) : State :=
  if !s.permits q a 4 false then (s.deny q.cls a).answer q true 0
  else
    let (s, v) := f s
    s.answer q false v

end Sys2Proof.Machine
end

