-- ==== Sys2Proof/Machine/Dio.lean ====
section
/-! DEFINITION. Digital inputs (R184 to R188), scheduled outputs (R189 to R193) and self-blanking (R78). -/

namespace Sys2Proof.Machine

/-- The state of a digital input, and the state with it replaced. -/
def State.diSt (s : State) (i : Nat) : DiSt := Tbl.get {} s.dio.di i
def State.setDi (s : State) (i : Nat) (x : DiSt) : State :=
  { s with dio := { s.dio with di := Tbl.set {} s.dio.di i x } }

/-- The state of a digital output, and the state with it replaced; IOT_DOQST follows. -/
def State.doSt (s : State) (d : Nat) : DoSt := Tbl.get {} s.dio.dout d
def State.setDo (s : State) (d : Nat) (x : DoSt) : State :=
  let s := { s with dio := { s.dio with dout := Tbl.set {} s.dio.dout d x } }
  (s.put (R.IOT_DOQST.DEPTH d) x.queue.length).putBit (R.IOT_DOQST.FIXED d) (x.queue.any (·.fixed.isSome))

/-- The parts that digital I/O may write. -/
abbrev dioParts : Parts := { dio := true, strm := true, mon := true, ports := true, resp := true }

/-! Inputs -/

/-- The instants of level samples of DI `i`: the next one under the setting in use. -/
def State.nextLevel (s : State) (i : Nat) : Int :=
  let x := s.diSt i
  match x.rest with
  | r :: _ => r
  | [] =>
    let p : Int := ((s.inUse (R.IOT_DIPER.P i) * usU : Nat) : Int)
    if p = 0 then 0
    else
      let b := match x.last with
        | some l => max l x.after
        | none => x.after
      (b / p + 1) * p

/-- A WB0 instant on the base that the input's narrow base follows. -/
def State.diTime (s : State) (i : Nat) (x : Int) : Int :=
  let k := s.nbSrc (s.inUse (R.IOT_DICFG.NB i))
  if k = 0 then x else s.wbAt k (s.localOf 0 x).toNat

/-- Whether the source of the input's narrow base is in holdover. -/
def State.diHdo (s : State) (i : Nat) : Bool := s.wbHoldover (s.nbSrc (s.inUse (R.IOT_DICFG.NB i)))

/-- An edge sample is selected by EDGE_R or EDGE_F, and not disabled by EMAX = 0 (R186, R187). -/
def State.diSelects (s : State) (i : Nat) (level : Bool) : Bool :=
  s.inUse (if level then R.IOT_DICFG.EDGE_R i else R.IOT_DICFG.EDGE_F i) == 1 && s.inUse (R.IOT_DIPER.EMAX i) != 0

/-- The word of an edge sample (Table 7.8). -/
def State.edgeWord (s : State) (i : Nat) (e : DiEdge) : Nat :=
  let ten := s.inUse (R.IOT_DICFG.TEN i) == 1
  let pos := if ten then unsgn 22 (e.pos / 65536) else 0
  let hdo := s.diHdo i || ten && s.tempoHoldover (s.inUse (R.IOT_DICFG.TSEL i))
  (if e.level then 2 ^ 31 else 0) + 2 ^ 30 + pos * 256 + (if e.stl then 0x80 else 0) + (if hdo then 2 else 0)

/-- An accepted edge is counted, and makes its sample if one is selected and finds a token (R186, R187). -/
def State.diEdge (s : State) (i : Nat) (e : DiEdge) : State :=
  let x := s.diSt i
  let x := { x with shown := e.level, edges := x.edges + 1 }
  if !s.diSelects i e.level then s.setDi i x
  else
    let tok := min (16 * secU) (x.tokens + s.inUse (R.IOT_DIPER.EMAX i) * (e.loc - x.tokenAt))
    let x := { x with tokenAt := max x.tokenAt e.loc }
    if tok < secU then
      ((s.setDi i { x with tokens := tok, dropped := true }).bump R.IOT_DICNT.EDGEDROP).logCycle L.DI_EDGE_RATE 1 (384 + i)
    else
      (s.setDi i { x with tokens := tok - secU }).output (384 + i) { word := s.edgeWord i e, t := s.diTime i e.at_ }

/-- Edges that lie at or before the next level instant are counted, in their order. -/
def State.diFlush (s : State) (i : Nat) : State :=
  let next := s.nextLevel i
  let x := s.diSt i
  let now := x.waiting.filter fun e => decide (e.at_ ≤ next)
  let s := s.setDi i { x with waiting := x.waiting.filter fun e => decide (next < e.at_) }
  s.each now fun s e => s.diEdge i e

/-- DI_LEVEL_ACCEPT (R184 to R187): input `i` has held `level` since local time `since`, for 2^FILT µs or more. A change
that a field supply fault hid is stamped when the supplies were good again. -/
def execDiLevelAccept (now : Nat) (i : Fin 128) (level : Bool) (since : Nat) (s : State) : Out :=
  act dioParts now s fun s =>
    let i := i.val
    let x := s.diSt i
    let hidden := match s.dio.goodAt with
      | some g => decide (since ≤ g)
      | none => false
    let loc := match s.dio.goodAt with
      | some g => max since g
      | none => since
    if s.sys.fieldFault ∨ level = x.level ∨ s.now < loc + 2 ^ s.inUse (R.IOT_DICFG.FILT i) * usU then s
    else
      let x := { x with level := level }
      if s.inUse (R.IOT_DICFG.EN i) = 0 then s.setDi i { x with shown := level, reported := level }
      else
        let t := s.wbAt 0 loc
        let n := s.inUse (R.IOT_DICFG.TSEL i)
        let ten := s.inUse (R.IOT_DICFG.TEN i) == 1
        let pos : Int := if ten then (s.recPos n t).getD (s.tempoPos n loc) else 0
        let u := unsgn 64 pos
        let s := if ten then (s.put (R.IOT_DIPOSL.POS i) u).put (R.IOT_DIPOSH.POS i) (u / 2 ^ 32) else s
        let e : DiEdge := ⟨t, loc, level, pos, hidden⟩
        (s.setDi i { x with waiting := x.waiting ++ [e] }).diFlush i

/-- The word of a level sample (Table 7.8, R188). -/
def State.levelWord (s : State) (i : Nat) (blk : Bool) : Nat :=
  let x := s.diSt i
  let lev := if blk then x.reported else x.shown
  let n := if blk then 0 else min 127 x.edges
  let ovr := !blk && (decide (127 < x.edges) || x.dropped)
  (if lev then 2 ^ 31 else 0) + n * 2 ^ 23 + (if x.stl && !blk then 0x80 else 0) + (if blk then 0x40 else 0)
    + (if ovr then 0x10 else 0) + (if s.diHdo i then 2 else 0)

/-- DI_LEVEL_SAMPLE (R186, R188): the level sample of the next instant, due 2^FILT + 2 µs after it. A sample that a field
supply fault or a failed transfer falls on holds the last level. -/
def execDiLevelSample (now : Nat) (i : Fin 128) (transferFailed : Bool) (s : State) : Out :=
  act dioParts now s fun s =>
    let i := i.val
    let x := s.diSt i
    let t := s.nextLevel i
    if s.inUse (R.IOT_DICFG.EN i) = 0 ∨ s.inUse (R.IOT_DIPER.P i) = 0
        ∨ s.wbNow 0 < t + (((2 ^ s.inUse (R.IOT_DICFG.FILT i) + 2) * usU : Nat) : Int) then s
    else
      let blk := s.sys.fieldFault || transferFailed
      let sm : Sample := { word := s.levelWord i blk, t := s.diTime i t }
      let x := { x with last := some t, rest := x.rest.drop 1 }
      let x := if blk then x else { x with reported := x.shown, edges := 0, dropped := false, stl := false }
      ((s.setDi i x).output (384 + i) sm).diFlush i

/-- At a commit boundary the setting of an input changes: instants up to the boundary still get their samples, the
following ones lie on the new grid (R186). `p` is the P that was in use. -/
def State.diChanged (s : State) (i p : Nat) (b : Int) (wasOn isOn : Bool) : State :=
  let x := s.diSt i
  if !isOn then s.setDi i { x with waiting := [], rest := [], last := none, edges := 0, dropped := false, after := b }
  else if !wasOn then
    s.setDi i { x with waiting := [], rest := [], last := none, edges := 0, dropped := false, after := b, stl := true,
                       shown := x.level, reported := x.level }
  else
    let u : Int := ((p * usU : Nat) : Int)
    let l := x.last.getD x.after
    let n := if u = 0 then 0 else (b / u - l / u).toNat
    let rest := x.rest ++ (List.range n).map fun (k : Nat) => (l / u + 1 + (k : Int)) * u
    s.setDi i { x with rest := rest, after := b, stl := true }

/-! Outputs -/

/-- The edges that self-blanking of DO `d` applies to. -/
def State.blanksEdge (s : State) (d : Nat) (level : Bool) : Bool :=
  s.inUse (if level then R.IOT_SBLK.ON_EDGE d else R.IOT_SBLK.OFF_EDGE d) == 1 && s.inUse (R.IOT_SBLK.TILES d) != 0

/-- Blanking around an edge of DO `d` at WB0 time `t`: PRE applies to scheduled edges only (R78). -/
def State.blankEdge (s : State) (d : Nat) (level scheduled : Bool) (t : Int) : State :=
  if !s.blanksEdge d level then s
  else
    let pre := if scheduled then s.inUse (R.IOT_SBLK.PRE d) else 0
    let b : Blanking := ⟨s.inUse (R.IOT_SBLK.TILES d), t - ((pre * usU : Nat) : Int),
      t + ((s.inUse (R.IOT_SBLK.POST d) * usU : Nat) : Int)⟩
    { s with dio := { s.dio with blank := s.dio.blank ++ [b] } }

/-- DOs are held off by a reset, a field supply fault or lost traffic (R34, R35, R50, R51). -/
def State.doHeld (s : State) : Bool := s.dio.off || s.dio.lost || s.sys.fieldFault

/-- DO `d` takes a level at this instant; an edge that was not scheduled blanks from here on. -/
def State.driveDo (s : State) (d : Nat) (level scheduled : Bool) : State :=
  let x := s.doSt d
  if x.level = level then s
  else
    let s := s.setDo d { x with level := level }
    if scheduled then s else s.blankEdge d level false (s.wbNow 0)

/-- A write of IOT_DOQ_CTL: CLEAR removes the DO's entries that are not fixed, anything else pushes (R189); the lead mirrors it
(R327). -/
def State.doqCtl (s : State) (v : Nat) : State :=
  let d := v % 32
  let x := s.doSt d
  let s := s.mirror (.doPush (s.word R.IOT_DOQ_P0) (s.word R.IOT_DOQ_P1) (BitVec.ofNat 32 v))
  if hasBit v 10 then s.setDo d { x with queue := x.queue.filter (·.fixed.isSome) }
  else if 16 ≤ x.queue.length then
    (s.bump R.IOT_DOCNT.QFULL).log1 L.DO_QFULL 10 d
  else
    let lo := s.get R.IOT_DOQ_P0.P
    let hi := s.get R.IOT_DOQ_P1.P
    let byPos := hasBit v 6
    let target : Int := if byPos then sgn 64 (hi * 2 ^ 32 + lo) else ((hi * secU + lo * nsU : Nat) : Int)
    let e : DoEntry := { order := s.dio.order, level := hasBit v 5, byPos := byPos, tempo := v / 128 % 4,
                         dir := bit v 9, target := target }
    let s := { s with dio := { s.dio with order := s.dio.order + 1 } }
    s.setDo d { x with queue := x.queue ++ [e] }

/-- DO_PUSH (R189). -/
def execDoPush (now : Nat) (req : Requester) (data : Word) (s : State) : Out :=
  act { dioParts with pair := true } now s fun s => s.cmdWrite req R.IOT_DOQ_CTL.addr 0x7FF data fun s => s.doqCtl data.toNat

/-- DO_CLEAR (R189). -/
def execDoClear (now : Nat) (req : Requester) (data : Word) (s : State) : Out :=
  act { dioParts with pair := true } now s fun s => s.cmdWrite req R.IOT_DOQ_CTL.addr 0x7FF data fun s => s.doqCtl data.toNat

/-- t(E) of an entry on WB0: its time, or the predicted instant at which its base reaches its position in its direction
(R190); none while the base does not move that way. -/
def State.entryTime (s : State) (e : DoEntry) : Option Int :=
  if !e.byPos then some e.target
  else
    let v := s.tempoVel e.tempo s.now
    if v = 0 ∨ (0 < v) ≠ (e.dir = 0) then none
    else
      let d : Rat := ((e.target - s.tempoPos e.tempo s.now : Int) : Rat) / 65536
      some (s.wbNow 0 + (d / v * (secU : Nat)).floor)

/-- Nearest whole µs, an exact half up (R192). -/
def nearUs (x : Int) : Int := (x + ((usU / 2 : Nat) : Int)) / ((usU : Nat) : Int)

/-- The level that DO `d` is predicted to have at WB0 time `t`: by the entries fixed to earlier times, or the level in
force (R192). -/
def DoSt.predict (x : DoSt) (t : Int) : Bool :=
  let before := x.queue.filter fun e => match e.fixed with
    | some f => decide (f < t)
    | none => false
  let latest := before.foldl (init := (none : Option DoEntry)) fun m e => match m with
    | none => some e
    | some o => if o.fixed.getD 0 ≤ e.fixed.getD 0 then some e else some o
  match latest with
  | some e => e.level
  | none => x.level

/-- Drop an entry, counted in MISSED. -/
def State.missEntry (s : State) (d : Nat) (e : DoEntry) : State :=
  let x := s.doSt d
  (s.setDo d { x with queue := x.queue.filter fun o => o.order != e.order }).bump R.IOT_DOCNT.MISSED

/-- The fix of entry `e` of DO `d` at electrical edge time `t` (R191, R192). -/
def State.fixEntry (s : State) (d : Nat) (e : DoEntry) (t : Int) : State :=
  let now := s.wbNow 0
  let late := now - t
  if 0 < late then
    if s.doHeld then s.missEntry d e
    else if late ≤ ((s.get (R.IOT_DOLAT.LATEMAX d) * usU : Nat) : Int) then
      let x := s.doSt d
      let s := s.setDo d { x with queue := x.queue.filter fun o => o.order != e.order }
      let s := (s.bump R.IOT_DOCNT.LATE).log1 L.DO_LATE 10 d 0 (late / ((usU : Nat) : Int)).toNat
      s.driveDo d e.level false
    else (s.missEntry d e).log1 L.DO_MISSED 10 d
  else
    let x := s.doSt d
    let same (o : DoEntry) : Bool := o.order != e.order && (match o.fixed with
      | some f => nearUs f == nearUs t
      | none => false)
    let others := x.queue.filter same
    let s := s.bump R.IOT_DOCNT.SUPERSEDED others.length
    if others.any fun o => decide (e.order < o.order) then
      s.setDo d { x with queue := x.queue.filter fun o => o.order != e.order }
    else
      let x := { x with queue := x.queue.filter fun o => !same o }
      let edge := x.predict t != e.level
      let s := s.setDo d { x with queue := x.queue.map fun o =>
        if o.order = e.order then { o with fixed := some t, edge := edge } else o }
      if edge then s.blankEdge d e.level true t else s

/-- An entry of DO `d` that comes due for its fix: its edge time, if that lies no more than PRE + 100 µs ahead. -/
def State.fixDue (s : State) (d : Nat) (e : DoEntry) : Option Int :=
  if e.fixed.isSome then none
  else match s.entryTime e with
    | none => none
    | some t =>
      let t := t - ((s.get (R.IOT_DOLAT.LATC d) * usU : Nat) : Int)
      let pre := if s.blanksEdge d e.level then s.inUse (R.IOT_SBLK.PRE d) else 0
      if t - s.wbNow 0 ≤ (((pre + 100) * usU : Nat) : Int) then some t else none

/-- DO_FIX (R191, R192): every entry of DO `d` that is due is fixed, in the order of the edge times. -/
def execDoFix (now : Nat) (d : Fin 32) (s : State) : Out :=
  act dioParts now s fun s =>
    let due := (s.doSt d).queue.filterMap fun e => (s.fixDue d e).map fun t => (t, e)
    s.each (sortBy (fun a b => decide (a.1 ≤ b.1)) due) fun s x => s.fixEntry d x.2 x.1

/-- A fixed entry executes (R192). -/
def State.runEntry (s : State) (d : Nat) (e : DoEntry) : State :=
  if s.doHeld then s.missEntry d e
  else
    let x := s.doSt d
    (s.setDo d { x with queue := x.queue.filter fun o => o.order != e.order, ran := e.fixed }).driveDo d e.level e.edge

/-- DO_EDGE (R189, R190, R192): the fixed entries of DO `d` whose edge time has come execute in its order. -/
def execDoEdge (now : Nat) (d : Fin 32) (s : State) : Out :=
  act dioParts now s fun s =>
    let t := s.wbNow 0
    let due := (s.doSt d).queue.filterMap fun e => match e.fixed with
      | some f => if f ≤ t then some (f, e) else none
      | none => none
    s.each (sortBy (fun a b => decide (a.1 ≤ b.1)) due) fun s x => s.runEntry d x.2

/-- A fixed entry of DO `d` has executed in the same µs as the control cycle boundary: its level stands (R193). -/
def State.ranAtBoundary (s : State) (d : Nat) : Bool := match (s.doSt d).ran with
  | some f => nearUs f == nearUs (s.wbAt 0 s.time.cycleAt)
  | none => false

/-- IOT_DOCMD at a control cycle boundary (R193), and the commanded states that DOs held off take up again there (R34,
R51). -/
def State.docmdCycle (s : State) (running : Bool) : State :=
  let s := if !s.dio.docmd then s
    else
      let v := s.get R.IOT_DOCMD.LEVEL
      let s := { s with dio := { s.dio with docmd := false } }
      s.each (List.range 32) fun s d =>
        if s.doHeld then s.setDo d { s.doSt d with level := hasBit v d }
        else if s.ranAtBoundary d then s else s.driveDo d (hasBit v d) false
  if running ∧ !s.dio.lost ∧ !s.sys.fieldFault then { s with dio := { s.dio with off := false } } else s

end Sys2Proof.Machine
end

