-- ==== Sys2Proof/Machine/Ptp.lean ====
section
/-! DEFINITION. PTP (R165 to R168, R170): timestamps, the servo's measurements, port choice, transparent clock and
802.1AS relay. PRESUMED from IEEE 1588-2019 where the spec names it without restating it: the formulas of offset and
delay, and the sign of delayAsymmetry. -/

namespace Sys2Proof.Machine

/-- What PTP instance `k` keeps. -/
def State.ptp (s : State) (k : Nat) : PtpSt := Tbl.get {} s.time.ptp k

/-- The state with an instance's memory replaced. -/
def State.setPtp (s : State) (k : Nat) (x : PtpSt) : State :=
  { s with time := { s.time with ptp := Tbl.set {} s.time.ptp k x } }

/-- What an instance keeps for a port. -/
def PtpSt.at_ (x : PtpSt) (p : Nat) : PtpPort := Tbl.get {} x.ports p

/-- An instance's memory with that of a port replaced. -/
def PtpSt.setAt (x : PtpSt) (p : Nat) (y : PtpPort) : PtpSt := { x with ports := Tbl.set {} x.ports p y }

/-- PROFILE of an instance. -/
def State.profile (s : State) (k : Nat) : Nat := s.inUse (R.TIM_PTP_CFG.PROFILE k)

/-- Delay request–response rather than peer delay. -/
def State.endToEnd (s : State) (k : Nat) : Bool := s.profile k == 0

/-- Ports in the PTP path of an instance: P0 and P1 always are (Table 7.11). -/
def State.inPath (s : State) (k p : Nat) : Bool := decide (p < 2) || hasBit (s.inUse (R.TIM_PTP_CFG.PORTS k)) p

/-- The instance that uses a message of a domain and transport. -/
def State.instanceOf (s : State) (m : PtpMsg) : Option Nat :=
  [0, 1].find? fun k => s.inUse (R.TIM_PTP_CFG.EN k) == 1 && s.inUse (R.TIM_PTP_CFG.DOMAIN k) == m.domain
    && (s.inUse (R.TIM_PTP_CFG.UDP k) == 1) == m.udp

/-- Compensation of Table 7.4 in 2^-16 ns: egress and ingress by MODE (1000BASE-T1, 100BASE-T1, 10BASE-T1L, SGMII,
1000BASE-X, 2500BASE-X). -/
def fixedComp (mode : Nat) : Nat × Nat :=
  match mode with
  | 0 => (15482880, 27443200)
  | 1 => (20889600, 59146240)
  | 2 => (212336640, 512163840)
  | 3 => (6062080, 10485760)
  | 4 => (5652480, 9912320)
  | _ => (2936013, 4718592)

/-- What is added to an egress timestamp of port `p` (R170), in 2^-16 ns. -/
def State.egrComp (s : State) (p : Nat) : Nat :=
  s.get (R.TIM_PORT_EGR.EGR p) + s.get (R.TIM_PORT_PCS.PCS p) * 256
    + (if s.inUse (R.PRT_P_CFG.MODE p) = 3 then s.get (R.TIM_PORT_EXT.EXTEGR p) * 4096 else 0)

/-- What is added to an ingress timestamp of port `p` (R170), in 2^-16 ns. -/
def State.ingComp (s : State) (p : Nat) : Nat :=
  s.get (R.TIM_PORT_ING.ING p) + s.get (R.TIM_PORT_PCS.PCS p) * 256
    + (if s.inUse (R.PRT_P_CFG.MODE p) = 3 then s.get (R.TIM_PORT_EXT.EXTING p) * 4096 else 0)

/-- delayAsymmetry of port `p`. -/
def State.asym (s : State) (p : Nat) : Int := sgn 32 (s.get (R.TIM_PORT_ASYM.ASYM p))

/-- Ingress and egress timestamps of instance `k` for a frame of this instant. -/
def State.ingTs (s : State) (k p t : Nat) : Int := s.wbAt k t + (s.ingComp p : Int)
def State.egrTs (s : State) (k p t : Nat) : Int := s.wbAt k t + (s.egrComp p : Int)

/-- A Sync interval of an instance, in local units: 2^LOGSYNC s. -/
def State.syncEvery (s : State) (k : Nat) : Nat :=
  let l := sgn 8 (s.inUse (R.TIM_PTP_INT.LOGSYNC k))
  if l ≤ 0 then secU / 2 ^ l.natAbs else secU * 2 ^ l.natAbs

/-- The time without Sync after which a path counts as lost (SYNCLOSS intervals). -/
def State.syncLost (s : State) (k : Nat) : Nat := s.inUse (R.TIM_PTP_INT.SYNCLOSS k) * s.syncEvery k

/-- The port that instance `k` follows. -/
def State.ptpPort (s : State) (k : Nat) : Nat := s.get (R.TIM_WB_STAT.PORT k)

/-- Instance `k` takes its time from port `p` from now on; end-to-end, the delay of the new path is not known yet
(R166). -/
def State.takePort (s : State) (k p : Nat) : State :=
  if s.ptpPort k = p then s
  else
    let s := s.put (R.TIM_WB_STAT.PORT k) p
    let x := s.ptp k
    if s.endToEnd k then (s.setPtp k { x with dlyOk := false, sync := none, dreq := none }).loseSource k
    else s.setPtp k { x with sync := none }

/-- The port with the smaller hop count, P0 on a tie (R166). -/
def State.nearPort (s : State) : Nat :=
  if s.get R.SYS_CHAINPOS.HOPS_A ≤ s.get R.SYS_CHAINPOS.HOPS_B then 0 else 1

/-- A port's link is declared down: the instances that follow it take the other chain port (R166). -/
def State.ptpDown (s : State) (p : Nat) : State :=
  s.each [0, 1] fun s k =>
    let x := s.ptp k
    let s := s.setPtp k (x.setAt p { x.at_ p with run := 0 })
    if s.inUse (R.TIM_PTP_CFG.EN k) = 1 ∧ p < 2 ∧ s.ptpPort k = p then s.takePort k (otherPort p) else s

/-- Whether a port has delivered a valid Sync lately. -/
def State.delivers (s : State) (k p : Nat) : Bool :=
  match ((s.ptp k).at_ p).lastSync with
  | none => false
  | some t => decide (s.now < t + s.syncLost k)

/-- The path delay that the offset uses: of the selected port, once measured. -/
def State.pathDelay (s : State) (k p : Nat) : Option Nat :=
  let d := s.get (R.TIM_PTP_DLY.DLY k p)
  if s.endToEnd k then (if (s.ptp k).dlyOk then some d else none)
  else if d = 0 then none else some d

/-- A path or link delay measured on a port (Table 7.11, R412). -/
def State.setDelay (s : State) (k p : Nat) (d : Int) : State :=
  let v := min (fieldMax 32) d.toNat
  (s.put (R.TIM_PTP_DLY.DLY k p) v).measure 2 p ((v / 16384 : Nat) : Int)

/-- The offset of instance `k` from its last complete Sync, if a path delay is known. -/
def State.ptpOffset (s : State) (k : Nat) : State :=
  match (s.ptp k).sync, s.pathDelay k (s.ptpPort k) with
  | some (t1, t2), some d => if k = 1 ∧ s.inUse (R.TIM_WB_CFG.SRC 1) = 1 then s else s.offset k (t2 - t1 - (d : Int))
  | _, _ => s

/-- A complete Sync on port `p`: origin time `t1` with its corrections, ingress time `t2` (R166). -/
def State.validSync (s : State) (k p : Nat) (t1 t2 : Int) : State :=
  let s := if (s.ptp k).first.isSome then s
    else
      let f := s.nearPort
      (s.setPtp k { s.ptp k with first := some f }).put (R.TIM_WB_STAT.PORT k) f
  let run := if s.delivers k p then ((s.ptp k).at_ p).run + 1 else 1
  let x := s.ptp k
  let s := s.setPtp k (x.setAt p { x.at_ p with lastSync := some s.now, run := run })
  let s := if x.first = some p ∧ s.ptpPort k ≠ p ∧ 16 ≤ run then s.takePort k p else s
  if s.ptpPort k ≠ p then s
  else
    let s := s.bump (R.TIM_PTP_CNT.SYNCRX k)
    (s.setPtp k { s.ptp k with sync := some (t1, t2) }).ptpOffset k

/-- Instance `k` uses a message that arrived on chain port `p` (R165, R166). -/
def State.ptpUse (s : State) (k p : Nat) (m : PtpMsg) : State :=
  let x := s.ptp k
  let y := x.at_ p
  let t := s.ingTs k p s.now
  match m.kind with
  | .sync =>
    let c := m.corr + s.asym p
    if m.twoStep then s.setPtp k (x.setAt p { y with pend := some (m.seq, t, c) })
    else s.validSync k p ((m.ts : Int) + c) t
  | .followUp => match y.pend with
    | some (q, t2, c) =>
      if q = m.seq then
        (s.setPtp k (x.setAt p { y with pend := none })).validSync k p ((m.ts : Int) + m.corr + c) t2
      else s
    | none => s
  | .delayResp =>
    if !m.mine || !s.endToEnd k || s.ptpPort k ≠ p then s
    else match x.dreq, x.sync with
      | some (q, t3), some (t1, t2) =>
        if q ≠ m.seq then s
        else
          let d := ((t2 - t1) + ((m.ts : Int) - t3 - m.corr)) / 2
          let fresh := !x.dlyOk
          let s := (s.setDelay k p d).setPtp k { x with dlyOk := true, dreq := none }
          if fresh then s.ptpOffset k else s
      | _, _ => s
  | .pdelayResp =>
    if !m.mine || s.endToEnd k then s
    else match y.pdReq with
      | some (q, t1) =>
        if q ≠ m.seq then s
        else if m.twoStep then
          s.setPtp k (x.setAt p { y with pdResp := some (m.seq, t, (m.ts : Int) - m.corr - s.asym p) })
        else (s.setPtp k (x.setAt p { y with pdReq := none })).setDelay k p ((t - t1 - m.corr - s.asym p) / 2)
      | none => s
  | .pdelayRespFollowUp =>
    if !m.mine || s.endToEnd k then s
    else match y.pdReq, y.pdResp with
      | some (_, t1), some (q, t4, t2) =>
        if q ≠ m.seq then s
        else (s.setPtp k (x.setAt p { y with pdReq := none, pdResp := none })).setDelay k p
          (((t4 - t1) - ((m.ts : Int) + m.corr - t2)) / 2)
      | _, _ => s
  | _ => s

/-- Bytes that a PTP message takes on the wire of a port. -/
def ptpBytes (s : State) (p : Nat) (m : PtpMsg) : Nat :=
  let sec := if s.inUse (R.PRT_P_CFG.MACSEC p) ≠ 0 then 32 else 0
  max 64 (14 + (if m.udp then 28 else 0) + 54 + 4) + sec + 20

/-- A PTP message becomes ready at a port that is up. -/
def State.sendPtp (s : State) (p : Nat) (m : PtpMsg) (rx own : Option Nat) : State :=
  if !s.portUp p then s else s.enqueue p { prio := 1, transit := rx.isSome, bytes := ptpBytes s p m, body := .ptp m rx own }

/-- Whether a message kind stays on its link: the peer-delay messages of an instance that measures peer delays. -/
def PtpKind.peer : PtpKind → Bool
  | .pdelayReq | .pdelayResp | .pdelayRespFollowUp => true
  | _ => false

/-- Messages whose time on the way through the hub is measured. -/
def PtpKind.event : PtpKind → Bool
  | .sync | .delayReq | .pdelayReq | .pdelayResp => true
  | _ => false

/-- Send a message in transit out of every other port of an instance's path; `rx` is its corrected ingress time. -/
def State.ptpOthers (s : State) (k p : Nat) (m : PtpMsg) (rx : Nat) : State :=
  s.each ([0, 1, 2, 3].filter fun q => q != p && s.inPath k q) fun s q => s.sendPtp q m (some rx) none

/-- A relay resends a Sync of its SlavePort in the form that ONESTEP selects (R168): a two-step Sync that is to leave as
one-step waits for its Follow_Up, and a one-step Sync that is to leave as two-step gets one. -/
def State.ptpRelay (s : State) (k p : Nat) (m : PtpMsg) (rx : Nat) : State :=
  let one := s.inUse (R.TIM_PTP_CFG.ONESTEP k) == 1
  match m.kind with
  | .sync =>
    if one then (if m.twoStep then s else s.ptpOthers k p m rx)
    else
      let s := s.ptpOthers k p { m with twoStep := true } rx
      if m.twoStep then s else s.ptpOthers k p { m with kind := .followUp, corr := 0, twoStep := false } rx
  | .followUp =>
    if !one then s.ptpOthers k p m rx
    else match ((s.ptp k).at_ p).pend with
      | some (q, t2, c) =>
        if q = m.seq then
          s.ptpOthers k p { m with kind := .sync, twoStep := false, corr := m.corr + c } ((s.localOf k t2).toNat - s.get (R.TIM_PTP_DLY.DLY k p))
        else s
      | none => s
  | _ => s.ptpOthers k p m rx

/-- The ingress link delay that the residence time of a Sync includes under peer-to-peer operation (R167). -/
def State.linkDelay (s : State) (k p : Nat) (m : PtpMsg) : Nat :=
  if s.endToEnd k ∨ m.kind ≠ .sync ∧ m.kind ≠ .followUp then 0 else s.get (R.TIM_PTP_DLY.DLY k p)

/-- Forward a message of instance `k` (R167, R168). A relay takes Sync and Announce from its SlavePort only and
forwards nothing of its links. -/
def State.ptpForward (s : State) (k p : Nat) (m : PtpMsg) : State :=
  let rx := s.now + s.ingComp p - s.linkDelay k p m
  if m.kind.peer && !s.endToEnd k then s
  else if s.profile k == 2 then (if s.ptpPort k = p then s.ptpRelay k p m rx else s)
  else s.ptpOthers k p m rx

/-- A message of no configured domain goes on uncorrected out of every other port in PORTS. -/
def State.ptpPass (s : State) (p : Nat) (m : PtpMsg) : State :=
  let path (q : Nat) : Bool := s.inPath 0 q || s.inPath 1 q
  if !path p then s
  else s.each ([0, 1, 2, 3].filter fun q => q != p && path q) fun s q => s.sendPtp q m none none

/-- PTP_RX (R165 to R168, R170). -/
def execPtpRx (now : Nat) (port : Fin 4) (m : PtpMsg) (s : State) : Out :=
  act { timeParts with ports := true } now s fun s =>
    let p := port.val
    if !s.on (R.PRT_P_STAT.LINK p) then s
    else
      let s := s.bump (R.PRT_P_CNT0.RXFRM p)
      if !s.portUp p then s.bump (R.PRT_P_CNT5.DISCARD p)
      else match s.instanceOf m with
        | none => if m.malformed then s else s.ptpPass p m
        | some k =>
          if m.malformed then s.bump (R.TIM_PTP_CNT.BADMSG k)
          else if !s.inPath k p then s
          else
            -- a peer-delay request of this link is answered
            let s := if m.kind = .pdelayReq ∧ !s.endToEnd k then
                s.sendPtp p { m with kind := .pdelayResp, twoStep := false, mine := false } (some (s.now + s.ingComp p)) none
              else s
            let s := s.ptpForward k p m
            if p < 2 then s.ptpUse k p m else s

/-- The message as it leaves port `p` at this instant, with the residence time of a transit event message added in it
or kept for its Follow_Up (R167), and the hub's own requests noted with their egress time. -/
def State.ptpEgress (s : State) (p : Nat) (m : PtpMsg) (rx own : Option Nat) : State × PtpMsg :=
  match own with
  | some k =>
    let x := s.ptp k
    let t := s.egrTs k p s.now
    let s := if m.kind = .delayReq then s.setPtp k { x with dreq := some (m.seq, t) }
      else s.setPtp k (x.setAt p { x.at_ p with pdReq := some (m.seq, t), pdResp := none })
    (s, m)
  | none => match s.instanceOf m, rx with
    | some k, some t =>
      if m.kind.event then
        let res := s.egrTs k p s.now - s.wbAt k t
        if m.twoStep then
          let r : TcRec := ⟨m.domain, m.seq, p, res⟩
          ({ s with time := { s.time with tc := r :: s.time.tc.filter fun o =>
              !(o.domain == m.domain && o.port == p) } }, m)
        else (s, { m with corr := m.corr + res })
      else if m.kind = .followUp then
        match s.time.tc.find? fun o => o.domain == m.domain && o.port == p && o.seq == m.seq with
        | some r => (s, { m with corr := m.corr + r.add })
        | none => (s, m)
      else (s, m)
    | _, _ => (s, m)

/-- PTP_DELAY_REQ_SEND (R166): end-to-end on the selected port, peer to peer on each port of the path. -/
def execPtpDelayReqSend (now : Nat) (k : Fin 2) (s : State) : Out :=
  act { timeParts with ports := true } now s fun s =>
    if s.inUse (R.TIM_PTP_CFG.EN k) = 0 then s
    else
      let x := s.ptp k
      let s := s.setPtp k { x with dseq := (x.dseq + 1) % 2 ^ 16 }
      let m (p : Nat) (kind : PtpKind) : PtpMsg :=
        { kind := kind, domain := s.inUse (R.TIM_PTP_CFG.DOMAIN k), seq := x.dseq, corr := -s.asym p,
          udp := s.inUse (R.TIM_PTP_CFG.UDP k) == 1 }
      if s.endToEnd k then s.sendPtp (s.ptpPort k) (m (s.ptpPort k) .delayReq) none (some k)
      else s.each ([0, 1, 2, 3].filter fun p => s.inPath k p) fun s p => s.sendPtp p (m p .pdelayReq) none (some k)

/-- PTP_SYNC_LOSS (R159, R166): SYNCLOSS intervals without a valid Sync on the selected port. -/
def execPtpSyncLoss (now : Nat) (k : Fin 2) (s : State) : Out :=
  act timeParts now s fun s =>
    let p := s.ptpPort k
    if s.inUse (R.TIM_PTP_CFG.EN k) = 0 ∨ s.delivers k p then s
    else if s.delivers k (otherPort p) then s.takePort k (otherPort p)
    else if k.val = 1 ∧ s.inUse (R.TIM_WB_CFG.SRC 1) = 1 then s
    else s.loseSource k

end Sys2Proof.Machine
end

