-- ==== Sys2Proof/Machine/Pulls.lean ====
section
/-! DEFINITION. Pulls (R219 to R223, R245). -/

namespace Sys2Proof.Machine

/-- The pull of a given number. -/
def State.pull? (s : State) (id : Nat) : Option PullSt := s.strm.pulls.find? fun p => p.id == id

/-- The state with its list of pulls replaced; INFLIGHT follows it. -/
def State.setPulls (s : State) (l : List PullSt) : State :=
  let s := { s with strm := { s.strm with pulls := l } }
  s.put R.QUE_PULLST.INFLIGHT (l.filter fun p => p.code == 0).length

/-- Replace a pull. -/
def State.setPull (s : State) (p : PullSt) : State :=
  s.setPulls (s.strm.pulls.map fun q => if q.id = p.id then p else q)

/-- Forget a pull. -/
def State.delPull (s : State) (id : Nat) : State := s.setPulls (s.strm.pulls.filter fun q => q.id != id)

/-- The oldest packet of Q64 that leaves by port `p`. -/
def State.pullHead (s : State) (p : Nat) : Option Packet :=
  (s.queue 64).pkts.find? fun k => match k.pull with
    | some d => d.1 == p
    | none => false

/-- Fragments of a segment (R222, R256). -/
def fragsOf (k : Packet) : Nat := (4 * k.words.length + 1439) / 1440

/-- The next fragment of Q64 becomes ready at port `p`, once. -/
def State.pullReady (s : State) (p : Nat) : State :=
  if (s.portSt p).txq.any (fun i => decide (i.body = .pull)) then s
  else match (s.queue 64).pkts.find? fun k => (match k.pull with
      | some d => d.1 == p
      | none => false) && decide (k.frags < fragsOf k) with
    | none => s
    | some k => s.enqueue p { prio := flowPrio 2, bytes := wireBytes s p (min 1440 (4 * k.words.length - 1440 * k.frags)),
                              body := .pull }

/-- The parts of one wire are over: a port whose frame has ended is free, and a segment of Q64 whose last fragment has
ended leaves its queue (R209, R222). -/
def State.settleWires (s : State) : State :=
  s.each [0, 1, 2, 3] fun s p => match (s.portSt p).wire with
    | none => s
    | some w =>
      if s.now < w.till then s
      else
        let s := s.modPort p fun x => { x with wire := none }
        let s := match w.body with
          | .strm n => s.makeRoom n 0 0
          | _ => s
        if w.body ≠ .pull then s
        else match s.pullHead p with
          | none => s
          | some k =>
            if k.frags < fragsOf k then s
            else
              let q := s.queue 64
              (s.setQueue 64 { q with pkts := q.pkts.erase k }).measure 1 64 (((s.now - k.at_) / usU : Nat) : Int)

/-- A sample's NB time in one number. -/
def nbKey (t : Int) : Nat := nbEpoch t * 2 ^ 32 + nbNs t

/-- Whether sample `x` of block `b`, at SSN `ssn`, lies in the range of a pull and has not been sent; `newest` is the
newest SSN at acceptance (R221). -/
def PullSt.wants (p : PullSt) (b : HBlock) (newest ssn : Nat) (x : HSamp) : Bool :=
  (if p.bySsn then serialLe p.start ssn && serialLe ssn p.stop
   else b.nb == p.nb && decide (p.start ≤ nbKey x.t) && decide (nbKey x.t ≤ p.stop))
  && serialLe ssn newest && (match p.next with
    | some n => !serialLt ssn n
    | none => true)

/-- The samples of a block with their SSNs. -/
def HBlock.numbered (b : HBlock) : List (Nat × HSamp) :=
  b.samples.zipIdx.map fun x => ((b.ssn + x.2) % 2 ^ 32, x.1)

/-- Payload words of a sample in a block of a format (R214). -/
def sampleWords (format : Nat) (x : HSamp) : List Nat :=
  match format with
  | 0 => [x.word]
  | 1 => [nbNs x.t, x.word]
  | _ => [nbNs x.t, x.grid, x.word]

/-- The part of a block that a pull takes next. -/
def PullSt.blockPart (p : PullSt) (e newest : Nat) (b : HBlock) : Option SegJob :=
  let run := (b.numbered.dropWhile fun x => !p.wants b newest x.1 x.2).takeWhile fun x => p.wants b newest x.1 x.2
  match run with
  | [] => none
  | x :: _ => some { e := e, ssn := x.1, count := run.length, format := b.format, t := x.2.t, period := b.period,
                     last := false, words := run.flatMap fun y => sampleWords b.format y.2 }

/-- The next part of a pull: endpoints in ascending order, blocks from oldest to newest (R222). Answers the part, its
block and the pull moved on to that endpoint. -/
def State.nextPart (s : State) (p : PullSt) : List (Nat × Nat) → Option (SegJob × HBlock × PullSt)
  | [] => none
  | (e, newest) :: rest =>
    match (s.histEp e).blocks.findSome? fun b => (p.blockPart e newest b).map fun j => (j, b) with
    | some (j, b) => some (j, b, { p with eps := (e, newest) :: rest })
    | none => s.nextPart { p with next := none } rest

/-- The SSN after a part. -/
def SegJob.after (j : SegJob) : Nat := (j.ssn + j.count) % 2 ^ 32

/-- Words 0 to 7 of a segment (Table 8.7). -/
def segHeader (p : PullSt) (status : Nat) (last : Bool) (bformat e ssn count epoch frac ns period length : Nat) :
    List Nat :=
  [p.tag * 2 ^ 16 + p.gen * 2 ^ 8 + status,
   ((if last then 32768 else 0) + p.format * 4096 + bformat * 1024 + e) * 2 ^ 16 + p.seg % 2 ^ 16,
   ssn, count, epoch * 2 ^ 16 + frac * 2 ^ 8, ns, period, length]

/-- STATUS of a pull's last segment. -/
def PullSt.status (p : PullSt) : Nat :=
  p.code * 16 + (if p.short then 1 else 0) + (if p.notYet then 2 else 0) + (if p.damaged then 4 else 0)

/-- The words of the packet of a data segment, `len` being the bytes of `data`. -/
def segPacket (p : PullSt) (j : SegJob) (data : List Nat) (len : Nat) : List Nat :=
  segHeader p (if j.last then p.status else 0) j.last j.format j.e j.ssn j.count (nbEpoch j.t) (frac128 j.t)
    (nbNs j.t) (if j.format = 0 then j.period else 0) len ++ data

/-- The words of a segment that carries only a code or status; what the first sample's fields hold there is left open. -/
def State.statusPacket (s : State) (p : PullSt) : List Nat × State :=
  let (a, s) := s.draw
  let (b, s) := s.draw
  let (c, s) := s.draw
  let (d, s) := s.draw
  (segHeader { p with format := if p.format = 3 then 0 else p.format } p.status true 0 p.first (a % 2 ^ 32) 0
    (b % 2 ^ 16) (c % 2 ^ 32 / 2 ^ 16 % 128) (c % 2 ^ 32) (d % 2 ^ 32) 0, s)

/-- A pull has sent its final segment. -/
def State.endPull (s : State) (p : PullSt) : State :=
  let s := s.delPull p.id
  let s := if p.short then s.bump R.QUE_PULLCNT2.SHORT else s
  -- a request that was never accepted has no latency
  if p.eps.isEmpty && p.code ≠ 0 then s else s.measure 4 0 (((s.now - p.at_) / usU : Nat) : Int)

/-- Push a segment to Q64 with WAIT = 0 (R223, R238). A push that finds no room is aborted and waits for a retry. -/
def State.pushSegment (s : State) (p : PullSt) (ws : List Nat) (last : Bool) : State :=
  if !s.fits 64 (ws.length + 1) 0 then
    (s.bump (R.QUE_Q_CNT2.ABORTS 64)).setPull { p with retry := true }
  else
    let q := s.queue 64
    let s := s.setQueue 64 { q with pkts := q.pkts ++ [{ words := ws, at_ := s.now, pull := some (p.port, p.stype, p.src) }] }
    let p := { p with retry := false, seg := p.seg + 1, next := (p.job.map SegJob.after).orElse fun _ => p.next, job := none }
    (if last then s.endPull p else s.setPull p).pullReady p.port

/-- Send a segment that carries only a code or status. -/
def State.pushStatus (s : State) (p : PullSt) : State :=
  let (ws, s) := s.statusPacket p
  s.pushSegment { p with job := none } ws true

/-- The block that a part was read from is still held (R245). -/
def State.partHeld (s : State) (j : SegJob) : Bool :=
  (s.histEp j.e).blocks.any fun b => b.format == j.format &&
    decide ((j.ssn + 2 ^ 32 - b.ssn) % 2 ^ 32 + j.count ≤ b.samples.length)

/-- The block of a part was reclaimed: its packet is aborted and the pull goes on with RETENTION_SHORT (R245). -/
def State.partGone (s : State) (p : PullSt) (j : SegJob) : State :=
  (s.bump (R.QUE_Q_CNT2.ABORTS 64)).setPull { p with short := true, next := some j.after, job := none, retry := false }

/-- Push the raw segment of a pull, or have a compressor make its member (R222, R228). -/
def State.runSegment (s : State) (p : PullSt) (j : SegJob) : State :=
  if !s.partHeld j then s.partGone p j
  else if p.format = 0 then
    s.pushSegment { p with job := some j } (segPacket p j j.words (4 * j.words.length)) j.last
  else
    let s := s.setPull { p with job := some j, retry := false }
    let s := { s with cmp := { s.cmp with pulls := s.cmp.pulls ++ [p.id] } }
    s.put R.CMP_STAT.PULLWAIT s.cmp.pulls.length

/-- Mark the block of a part as one that fails its CRC. -/
def State.markDamaged (s : State) (e : Nat) (b : HBlock) : State :=
  let h := s.histEp e
  s.setHist e { h with blocks := h.blocks.map fun c => if c = b then { c with damaged := true } else c }

/-- The oldest and newest retained samples of an endpoint, with their SSNs. -/
def State.retained (s : State) (e : Nat) : Option ((Nat × HSamp) × (Nat × HSamp)) :=
  let all := (s.histEp e).blocks.filter fun b => !b.samples.isEmpty
  match all.head?, all.getLast? with
  | some a, some z => match a.numbered.head?, z.numbered.getLast? with
    | some x, some y => some (x, y)
    | _, _ => none
  | _, _ => none

/-- START lies before the oldest retained sample of `e`, and END beyond its newest (R221). -/
def State.shortOf (s : State) (p : PullSt) (e : Nat) : Bool :=
  match s.retained e with
  | none => false
  | some (x, _) => if p.bySsn then serialLt p.start x.1 else decide (p.start < nbKey x.2.t)
def State.notYetOf (s : State) (p : PullSt) (e : Nat) : Bool :=
  match s.retained e with
  | none => true
  | some (_, y) => if p.bySsn then serialLt y.1 p.stop else decide (nbKey y.2.t < p.stop)

/-- Samples of the range that were still to be sent have left the history since the pull was accepted (R221). -/
def State.shortNow (s : State) (p : PullSt) : Bool :=
  (p.eps.take 1).any fun e => match p.next, s.retained e.1 with
    | none, _ => s.shortOf p e.1
    | some n, some (x, _) => serialLt n x.1 && (!p.bySsn || serialLe n p.stop) && serialLe n e.2
    | some _, none => false

/-- The pull engine takes the next part of pull `p` (R221, R222); `crcFails` says that its block fails its CRC. -/
def State.advancePull (s : State) (p : PullSt) (crcFails : Bool) : State :=
  let p := { p with short := p.short || s.shortNow p }
  match s.nextPart p p.eps with
  | none => s.pushStatus p
  | some (j, b, p) =>
    if crcFails ∨ b.damaged then
      let s := if b.damaged then s else (s.markDamaged j.e b).exceptions 3 j.e b.ssn b.samples.length
      s.setPull { p with damaged := true, next := some ((b.ssn + b.samples.length) % 2 ^ 32) }
    else
      let more := (s.nextPart { p with next := some j.after } p.eps).isSome
      s.runSegment p { j with last := !more }

/-- PULL_SEGMENT (R222): the pull engine reads, perhaps has compressed, and pushes the next segment of pull `id`. -/
def execPullSegment (now id : Nat) (crcFails : Bool) (s : State) : Out :=
  act { strm := true, ports := true, mon := true, cmp := true } now s fun s =>
    let s := s.settleWires
    match s.pull? id with
    | none => s
    | some p => if s.isFollow ∨ p.retry ∨ p.job.isSome then s else s.advancePull p crcFails

/-- PULL_SEGMENT_RETRY (R223): with room in Q64, a segment that failed to push is made and pushed again. -/
def execPullSegmentRetry (now id : Nat) (s : State) : Out :=
  act { strm := true, ports := true, mon := true, cmp := true } now s fun s =>
    let s := s.settleWires
    match s.pull? id with
    | none => s
    | some p =>
      let need := match p.job with
        | none => 9
        | some j => if p.format = 0 then 9 + j.words.length else 10
      if !p.retry ∨ !s.fits 64 need 0 then s
      else
        let s := s.bump R.QUE_PULLCNT2.RETRY
        match p.job with
        | none => s.pushStatus p
        | some j => s.runSegment p j

/-- The endpoints that MASK selects (Table 8.6). -/
def maskEndpoints (pay : List Byte) : List Nat :=
  (List.range 512).filter fun e => hasBit (pay.getD (24 + e / 8) 0).toNat (e % 8)

/-- The pull that a request asks for (Table 8.6); its `code` is not yet decided. -/
def State.pullOf (s : State) (rx : Rx) : PullSt :=
  let f := rx.frame
  let pay := f.body
  let whole := pay.length == 88
  let ctl := if whole then (pay.getD 3 0).toNat else 0
  let n (i k : Nat) : Nat := beNat (slice pay i k)
  let bySsn := hasBit ctl 2
  let es := if whole then maskEndpoints pay else []
  { id := s.strm.pullId, stype := f.stype, src := f.src, port := rx.port.val,
    tag := if whole then n 0 2 else f.a / 2 ^ 16, gen := if whole then n 2 1 else f.a / 2 ^ 8 % 2 ^ 8,
    format := ctl % 4, shuf := hasBit ctl 3, bySsn := bySsn, nb := ctl / 16 % 8,
    start := if bySsn then n 8 4 else n 4 2 * 2 ^ 32 + n 8 4,
    stop := if bySsn then n 12 4 else n 6 2 * 2 ^ 32 + n 12 4,
    first := es.headD 0, eps := es.map fun e => (e, (s.nextSsn e + 2 ^ 32 - 1) % 2 ^ 32), at_ := s.now }

/-- Whether two requests come from one requester and bear one TAG (R220). -/
def sameKey (a b : PullSt) : Bool := a.stype == b.stype && a.src == b.src && a.tag == b.tag

/-- BAD_REQUEST (R220). -/
def State.badRequest (s : State) (p : PullSt) (whole : Bool) : Bool :=
  !whole || p.format == 3 || p.eps.isEmpty
  || p.eps.any (fun e => !produces s.inUse e.1 || (!p.bySsn && nbOf s.inUse e.1 != p.nb))
  || (if p.bySsn then decide ((p.stop + 2 ^ 32 - p.start) % 2 ^ 32 ≥ 2 ^ 31) else decide (p.stop < p.start))

/-- A reject code is answered with one final segment (R220). -/
def State.rejectPull (s : State) (p : PullSt) (code : Nat) : State :=
  let s := if code = 4 then s else s.bump R.QUE_PULLCNT.REJECTED
  let p := { p with code := code, eps := [] }
  let s := { s with strm := { s.strm with pullId := s.strm.pullId + 1 } }
  (s.setPulls (s.strm.pulls ++ [p])).pushStatus p

/-- A request is accepted, and its range is fixed (R221). -/
def State.acceptPull (s : State) (p : PullSt) : State :=
  let s := s.bump R.QUE_PULLCNT.ACCEPTED
  let p := { p with short := p.eps.any fun e => s.shortOf p e.1, notYet := p.eps.any fun e => s.notYetOf p e.1 }
  let s := { s with strm := { s.strm with pullId := s.strm.pullId + 1 } }
  s.setPulls (s.strm.pulls ++ [p])

/-- A CANCEL (R220): the pull in flight with that TAG sends ABORTED with its own GEN; without one, the CANCEL is
answered. -/
def State.cancelPull (s : State) (p : PullSt) : State :=
  match s.strm.pulls.find? fun q => q.code == 0 && sameKey p q with
  | none => s.rejectPull p 4
  | some q =>
    let s := { s with cmp := { s.cmp with pulls := s.cmp.pulls.filter fun i => i != q.id } }
    let s := s.put R.CMP_STAT.PULLWAIT s.cmp.pulls.length
    s.pushStatus { q with code := 4, retry := false }

/-- A PULL REQUEST for this hub (R219, R220). Only the lead answers. -/
def State.pullRx (s : State) (rx : Rx) : State :=
  if s.isFollow then s
  else
    let s := s.settleWires
    let p := s.pullOf rx
    let whole := rx.frame.body.length == 88
    if whole && hasBit (rx.frame.body.getD 3 0).toNat 7 then s.cancelPull p
    else if s.strm.pulls.any fun q => q.code == 0 && sameKey p q then s.rejectPull p 1
    else if 256 ≤ (s.strm.pulls.filter fun q => q.code == 0).length then s.rejectPull p 2
    else if s.badRequest p whole then s.rejectPull p 3
    else s.acceptPull p

/-- PULL_REQUEST_RX (R219 to R221). -/
def execPullRequestRx (now : Nat) (rx : Rx) (s : State) : Out :=
  act { rxParts with cmp := true } now s fun s =>
    s.receive rx (fun f => f.flow == 2 && f.type == 0) fun s => s.pullRx rx

/-- PULL_CANCEL_RX (R220). -/
def execPullCancelRx (now : Nat) (rx : Rx) (s : State) : Out :=
  act { rxParts with cmp := true } now s fun s =>
    s.receive rx (fun f => f.flow == 2 && f.type == 0) fun s => s.pullRx rx

end Sys2Proof.Machine
end

