-- ==== Sys2Proof/Machine/Links.lean ====
section
/-! DEFINITION. Links: PHY and SGMII link, hellos, reach and wiring (R249 to R252, R263 to R265), rerouting (R20, R21,
R271), and the keys of MACsec (R274 to R276). -/

namespace Sys2Proof.Machine

/-- Whether MKA or a static key protects port `p`. -/
def State.secMode (s : State) (p : Nat) : Nat := s.inUse (R.PRT_P_CFG.MACSEC p)

/-- The conditions of R263, with those of R252 and R265, under which a port is up. -/
def State.upNow (s : State) (p : Nat) : Bool :=
  s.on (R.PRT_P_STAT.LINK p) && (s.secMode p == 0 || s.on (R.PRT_P_STAT.SECURED p))
  && decide (3 ≤ (s.portSt p).good) && s.lver p != 0
  && !s.on (R.PRT_P_STAT.MISWIRE p) && !s.on (R.PRT_P_STAT.DUP p)
  && (s.inUse (R.PRT_P_CFG.MODE p) != 3 || s.inUse (R.PRT_P_CFG.AN p) == 0 || (s.portSt p).sgmiiOk)

/-! Rerouting (R20, R21, R271) -/

/-- Stream `n` moves to port `q`, away from its configured home: one count in REROUTES, and its packets are sent again
from the first one that is not acknowledged (R20). -/
def State.moveStrm (s : State) (n q : Nat) : State :=
  let s := s.unqueueStrm n
  let away := s.inUse (R.QUE_S_CFG.HOME n) ≠ q
  let s := s.modStrm n fun x => { x with port := q, moved := away }
  (s.when away (·.bump R.SYS_RRCNT.REROUTES)).resend n

/-- Streams in use whose port is `p`. -/
def State.streamsAt (s : State) (p : Nat) : List Nat :=
  (List.range 64).filter fun n => s.strmOn n && (s.strmSt n).port == p

/-- A chain port is lost to streams: each of its streams moves to the other chain port if that one is fit. -/
def State.rerouteFrom (s : State) (p : Nat) : State :=
  if 2 ≤ p ∨ !s.homeOk (otherPort p) then s
  else s.each (s.streamsAt p) fun s n => s.moveStrm n (otherPort p)

/-- A chain port becomes fit for streams: its own go on from their oldest packet, and those stranded on the other port
move to it. -/
def State.chainBack (s : State) (p : Nat) : State :=
  if 2 ≤ p ∨ !s.homeOk p then s
  else
    let s := s.each (s.streamsAt p) fun s n => s.resend n
    if s.homeOk (otherPort p) then s
    else s.each (s.streamsAt (otherPort p)) fun s n => s.moveStrm n p

/-- The port is up and its root has answered three hellos: the streams moved away from it return, without a resend
(R21). -/
def State.repair (s : State) (p : Nat) : State :=
  if 2 ≤ p ∨ !s.homeOk p ∨ (s.portSt p).rootGood < 3 then s
  else
    let back := (s.streamsAt (otherPort p)).filter fun n => (s.strmSt n).moved && s.inUse (R.QUE_S_CFG.HOME n) == p
    s.each back fun s n =>
      let s := s.unqueueStrm n
      ((s.modStrm n fun x => { x with port := p, moved := false }).bump R.SYS_RRCNT.REPAIRS).strmReady n

/-- The pulls of port `p` end as ABORTED at once, and nothing more is sent for them (R271). -/
def State.endPulls (s : State) (p : Nat) : State :=
  let ids := (s.strm.pulls.filter fun q => q.port == p).map (·.id)
  let s := s.setPulls (s.strm.pulls.filter fun q => q.port != p)
  let s := { s with cmp := { s.cmp with pulls := s.cmp.pulls.filter fun i => !ids.contains i } }
  let s := s.put R.CMP_STAT.PULLWAIT s.cmp.pulls.length
  let q := s.queue 64
  let s := s.setQueue 64 { q with pkts := q.pkts.filter fun k => match k.pull with
    | some d => d.1 != p
    | none => true }
  s.modPort p fun x => { x with txq := x.txq.filter fun i => decide (i.body ≠ .pull) }

/-- A waiting frame of the hub or in transit, other than a LINK_HELLO: such frames are counted in NOROUTE when the port
goes down. -/
def TxItem.counted (i : TxItem) : Bool := match i.body with
  | .peb f => !f.isHello
  | _ => false

/-- What stays in the queue of a port that goes down. -/
def TxItem.stays (i : TxItem) : Bool := match i.body with
  | .peb f => f.isHello
  | .mkpdu _ => true
  | _ => false

/-- Port `p`, which was up, goes down (R20, R166, R271). -/
def State.fellDown (s : State) (p : Nat) : State :=
  let q := (s.portSt p).txq
  let s := s.bump (R.PRT_P_CNT3.NOROUTE p) (q.filter (·.counted)).length
  let s := s.endPulls p
  let s := s.modPort p fun x => { x with txq := x.txq.filter (·.stays), rootGood := 0 }
  (s.rerouteFrom p).ptpDown p

/-- An ARP message of port `p` about address `ip` becomes ready. -/
def State.sendArp (s : State) (p : Nat) (request : Bool) (ip : Nat) : State :=
  let m : ArpMsg := ⟨request, s.portMac p, s.inUse (R.PRT_P_IPA.IPA p), ip⟩
  s.enqueue p { prio := 0, bytes := 84, body := .arp m }

/-- Port `p` comes up. Under UDP transport it resolves its peer by ARP (R255). -/
def State.cameUp (s : State) (p : Nat) : State :=
  let s := s.chainBack p
  if s.inUse (R.PRT_P_CFG.TRANSPORT p) = 0 then s
  else s.sendArp p true (s.inUse (R.PRT_P_IPB.IPB p))

/-- Bring UP of port `p` in line with its conditions. -/
def State.evalUp (s : State) (p : Nat) : State :=
  let was := s.portUp p
  let is := s.upNow p
  if was = is then s
  else
    let s := s.putBit (R.PRT_P_STAT.UP p) is
    if is then s.cameUp p else s.fellDown p

/-- The REACH bit of chain port `p` clears (R264, R271): streams move, pulls end, MGMT replies that wait are discarded. -/
def State.rootLost (s : State) (p : Nat) : State :=
  let s := s.put (if p = 0 then R.SYS_CHAINPOS.REACH_A else R.SYS_CHAINPOS.REACH_B) 0
  let own (i : TxItem) : Bool := match i.body with
    | .peb f => !i.transit && f.flow == 3 && (f.dtype == 1 || f.dtype == 2)
    | _ => false
  let s := s.bump (R.PRT_P_CNT3.NOROUTE p) ((s.portSt p).txq.filter own).length
  let s := s.modPort p fun x => { x with txq := x.txq.filter fun i => !own i, rootGood := 0 }
  ((s.endPulls p).rerouteFrom p).ptpDown p

/-! MACsec keys (R275, R276) -/

/-- The SCI of port `p`: its address and port identifier 1. -/
def State.sci (s : State) (p : Nat) : Nat := s.portMac p * 2 ^ 16 + 1

/-- The words of a write-only key register, first word most significant. -/
def State.keyWords (s : State) (r : Nat → RegAt) (n : Nat) : Nat :=
  (List.range n).foldl (fun k w => k * 2 ^ 32 + (Tbl.get 0 s.wo (r w).addr).toNat) 0

/-- The CKN of port `p`. -/
def State.ckn (s : State) (p : Nat) : List Byte :=
  (beBytes 32 (s.keyWords (R.PRT_P_CKN p) 8)).take (s.inUse (R.PRT_P_MKA.CKNLEN p))

/-- Whether this port is key server among the live participants: the lower priority value, then the lower SCI. -/
def State.keyServer (s : State) (p : Nat) : Bool :=
  let me := s.inUse (R.PRT_P_MKA.PRIO p)
  (s.portSt p).peers.all fun q => decide (me < q.2.1) || me == q.2.1 && decide (s.sci p < q.1)

/-- Show the state of MKA in SECST. -/
def State.showSec (s : State) (p : Nat) : State :=
  let x := s.portSt p
  let live := !x.peers.isEmpty
  ((s.put (R.PRT_P_SECST.TXAN p) x.txAn).putBit (R.PRT_P_SECST.LIVE p) live).putBit (R.PRT_P_SECST.KEYSRV p)
    (live && s.keyServer p)

/-- Install an association and put it in use: the old AN stays accepted until a frame under the new one arrives, and a
port holds two at most (R274, R275). -/
def State.installSa (s : State) (p an key salt : Nat) : State :=
  let s := s.modPort p fun x =>
    let old := x.sas.filter fun a => a.an == x.txAn && a.an != an
    { x with sas := { an := an, key := key, salt := salt } :: old, txAn := an, oldAn := old.head?.map (·.an) }
  ((s.putBit (R.PRT_P_STAT.SECURED p) true).showSec p).evalUp p

/-- The MKPDU that port `p` sends now: its priority, whether it knows live peers, and as key server the SAK in use. -/
def State.ownMkpdu (s : State) (p : Nat) : Mkpdu :=
  let x := s.portSt p
  { ckn := s.ckn p, icvOk := true, sci := s.sci p, prio := s.inUse (R.PRT_P_MKA.PRIO p), listsUs := !x.peers.isEmpty,
    sak := if x.peers.isEmpty || !s.keyServer p then none
      else (x.sas.find? fun a => a.an == x.txAn).map fun a => (⟨a.an % 4, Nat.mod_lt _ (by decide)⟩, a.key) }

/-- An MKPDU becomes ready at port `p`, at priority 4 (R259). -/
def State.sendMkpdu (s : State) (p : Nat) : State :=
  s.enqueue p { prio := 4, bytes := 148, body := .mkpdu (s.ownMkpdu p) }

/-- The key server makes a new SAK from the random source, under the next AN, and distributes it. -/
def State.newSak (s : State) (p : Nat) : State :=
  let (k, s) := s.draw
  let x := s.portSt p
  let s := s.modPort p fun x => { x with rekeyAt := s.now }
  (s.installSa p (if x.sas.isEmpty then 0 else (x.txAn + 1) % 4) (k % 2 ^ 256) 0).sendMkpdu p

/-- The live peer list of port `p` has changed. -/
def State.peersChanged (s : State) (p : Nat) : State :=
  if (s.portSt p).peers.isEmpty then
    let s := s.modPort p fun x => { x with sas := [], oldAn := none }
    ((s.putBit (R.PRT_P_STAT.SECURED p) false).showSec p).evalUp p
  else if s.keyServer p then s.newSak p else s.showSec p

/-- The MKA session of port `p` is over with its link; a static SAK stays. -/
def State.endMka (s : State) (p : Nat) : State :=
  let s := s.modPort p fun x => { x with peers := [], mkaAt := none, failLogged := false }
  if s.secMode p ≠ 1 then s.showSec p
  else
    let s := s.modPort p fun x => { x with sas := [], oldAn := none, txAn := 0 }
    (s.putBit (R.PRT_P_STAT.SECURED p) false).showSec p

/-- An MKPDU of a participant under this port's CAK (R275). -/
def State.mkaUse (s : State) (p : Nat) (m : Mkpdu) : State :=
  let x := s.portSt p
  let known := x.peers.any fun q => q.1 == m.sci
  let s := if !known && !m.listsUs then s
    else s.setPort p { x with peers := (m.sci, m.prio, s.now) :: x.peers.filter fun q => q.1 != m.sci,
                              failLogged := true }
  let s := if known || !m.listsUs then s.showSec p else s.peersChanged p
  let best := (s.portSt p).peers.all fun q => decide (m.prio < q.2.1) || m.prio == q.2.1 && decide (m.sci ≤ q.1)
  match m.sak with
  | none => s
  | some (an, key) =>
    if s.keyServer p || !best || !(s.portSt p).peers.any (fun q => q.1 == m.sci)
        || (s.portSt p).sas.any (fun a => a.an == an.val && a.key == key) then s
    else s.installSa p an key 0

/-- The parts that link commands may write. -/
abbrev linkParts : Parts := { ports := true, strm := true, mon := true, time := true, cmp := true }

/-- MKPDU_RX (R275): MKA takes an MKPDU whose CKN and ICV fit; no MKPDU is ever forwarded. -/
def execMkpduRx (now : Nat) (port : Fin 4) (m : Mkpdu) (s : State) : Out :=
  act linkParts now s fun s =>
    let p := port.val
    if !s.on (R.PRT_P_STAT.LINK p) then s
    else
      let s := s.bump (R.PRT_P_CNT0.RXFRM p)
      if s.secMode p ≠ 1 then s.bump (R.PRT_P_CNT5.DISCARD p)
      else if !m.icvOk ∨ m.ckn ≠ s.ckn p then s else s.mkaUse p m

/-- MKA hello time in local units. -/
def State.mkaHello (s : State) (p : Nat) : Nat :=
  if s.inUse (R.PRT_P_CFG.MKA_FAST p) = 1 then secU / 2 else 2 * secU

/-- MKA_HELLO_SEND (R275): every 2 s, or 0.5 s with MKA_FAST. -/
def execMkaHelloSend (now : Nat) (port : Fin 4) (s : State) : Out :=
  act linkParts now s fun s =>
    let p := port.val
    let due := match (s.portSt p).mkaAt with
      | none => true
      | some t => decide (t + s.mkaHello p ≤ s.now)
    if !s.on (R.PRT_P_STAT.LINK p) ∨ s.secMode p ≠ 1 ∨ !due then s
    else (s.modPort p fun x => { x with mkaAt := some s.now }).sendMkpdu p

/-- MKA_REKEY (R275): every REKEY s the key server distributes a new SAK; 0 disables it. -/
def execMkaRekey (now : Nat) (port : Fin 4) (s : State) : Out :=
  act linkParts now s fun s =>
    let p := port.val
    let x := s.portSt p
    let every := s.inUse (R.PRT_P_MKA.REKEY p) * secU
    if s.secMode p ≠ 1 ∨ every = 0 ∨ x.peers.isEmpty ∨ !s.keyServer p ∨ s.now < x.rekeyAt + every then s else s.newSak p

/-- MKA_FAIL (R275): no live peer within 6 s of link. -/
def execMkaFail (now : Nat) (port : Fin 4) (s : State) : Out :=
  act linkParts now s fun s =>
    let p := port.val
    let x := s.portSt p
    if !s.on (R.PRT_P_STAT.LINK p) ∨ s.secMode p ≠ 1 ∨ x.failLogged ∨ !x.peers.isEmpty ∨ s.now < x.linkAt + 6 * secU then s
    else (s.setPort p { x with failLogged := true }).log1 L.PRT_MKA_FAIL 5 p

/-- MKA_LIFE_TIME_EXPIRY (R275): a live peer sent no MKPDU for 6 s. -/
def execMkaLifeTimeExpiry (now : Nat) (port : Fin 4) (sci : Nat) (s : State) : Out :=
  act linkParts now s fun s =>
    let p := port.val
    let x := s.portSt p
    if x.peers.any fun q => q.1 == sci && decide (q.2.2 + 6 * secU ≤ s.now) then
      (s.setPort p { x with peers := x.peers.filter fun q => q.1 != sci }).peersChanged p
    else s

/-- A write to PRT_Pp_SCTL (R276): the static SAK and salt go in use under the AN written. -/
def State.sctl (s : State) (q : Requester) (p : Nat) (data : Word) : State :=
  s.cmdWrite q (R.PRT_P_SCTL p).addr 7 data fun s =>
    if !hasBit data.toNat 2 ∨ s.secMode p ≠ 2 then s
    else s.installSa p (data.toNat % 4) (s.keyWords (R.PRT_P_SAK p) 8) (s.keyWords (R.PRT_P_SALT p) 3)

/-- MACSEC_INSTALL (R276): a write to PRT_Pp_SCTL. -/
def execMacsecInstall (now : Nat) (req : Requester) (port : Fin 4) (data : Word) (s : State) : Out :=
  act { linkParts with resp := true } now s fun s => s.sctl req port data

/-! Link and hellos (R250 to R252, R263 to R265) -/

/-- The role of a single-pair PHY that is forced: by MS, or by R251. -/
def forcedMaster (ms p : Nat) : Bool := if ms = 0 then p != 0 else ms == 1

/-- PHY_LINK_UP (R249 to R252, R263): port `port` gains link. `pcs` is the alignment offset found at link-up, `master`
the outcome of a negotiation, `snr` and `peerOk` what the PHY and its OAM report. -/
def execPhyLinkUp (now : Nat) (port : Fin 4) (pcs : Nat) (master : Bool) (snr : Nat) (peerOk : Bool) (s : State) : Out :=
  act linkParts now s fun s =>
    let p := port.val
    if s.inUse (R.PRT_P_CFG.USE p) = 0 ∨ s.on (R.PRT_P_STAT.LINK p) then s
    else
      let mode := s.inUse (R.PRT_P_CFG.MODE p)
      let an := s.inUse (R.PRT_P_CFG.AN p)
      let forced := forcedMaster (s.inUse (R.PRT_P_CFG.MS p)) p
      let s := s.putBit (R.PRT_P_STAT.LINK p) true
      let s := s.putBit (R.PRT_P_STAT.MASTER p) (if 3 ≤ mode then false else if mode = 2 ∧ an = 1 then master else forced)
      let s := s.put (R.PRT_P_PHY.SNR p) (if mode = 0 then snr else 0)
      let s := s.putBit (R.PRT_P_PHY.PEEROK p) (mode == 0 && peerOk)
      let s := s.put (R.TIM_PORT_EGR.EGR p) (fixedComp mode).1
      let s := s.put (R.TIM_PORT_ING.ING p) (fixedComp mode).2
      let s := s.put (R.TIM_PORT_PCS.PCS p) pcs
      s.modPort p fun x => { x with speed := if an = 0 then 1000 else 0, sgmiiOk := false, good := 0, lastHello := none,
                                    misses := 0, helloAt := none, linkAt := s.now, wire := none, chainSeen := false }

/-- Port `p` loses its link (R20): a frame on the wire is lost, and the link is declared down. -/
def State.linkLost (s : State) (p : Nat) : State :=
  if !s.on (R.PRT_P_STAT.LINK p) then s
  else
    let s := s.settleWires
    let s := s.bump (R.PRT_P_CNT5.DOWNS p)
    let s := s.putBit (R.PRT_P_STAT.LINK p) false
    let s := s.modPort p fun x => { x with good := 0, lastHello := none, misses := 0, helloAt := none, wire := none,
                                           sgmiiOk := false, speed := 0, chainSeen := false }
    let s := (((s.put (R.PRT_P_STAT.LVER p) 0).put (R.PRT_P_STAT.MISWIRE p) 0).put (R.PRT_P_STAT.DUP p) 0).put
      (R.PRT_P_STAT.PARTNER p) 0
    let s := ((s.put (R.PRT_P_STAT.MASTER p) 0).put (R.PRT_P_PHY.SNR p) 0).put (R.PRT_P_PHY.PEEROK p) 0
    let s := ((s.put (R.TIM_PORT_EGR.EGR p) 0).put (R.TIM_PORT_ING.ING p) 0).put (R.TIM_PORT_PCS.PCS p) 0
    (s.endMka p).evalUp p

/-- PHY_LINK_LOSS (R20). -/
def execPhyLinkLoss (now : Nat) (port : Fin 4) (s : State) : Out :=
  act linkParts now s fun s => s.linkLost port

/-- SGMII_CONTROL_WORD (R252): it counts with AN = 1 only. -/
def execSgmiiControlWord (now : Nat) (port : Fin 4) (link fullDuplex : Bool) (speed : Nat) (s : State) : Out :=
  act linkParts now s fun s =>
    let p := port.val
    if s.inUse (R.PRT_P_CFG.MODE p) ≠ 3 ∨ s.inUse (R.PRT_P_CFG.AN p) = 0 ∨ !s.on (R.PRT_P_STAT.LINK p) then s
    else
      let ok := link && fullDuplex && (speed == 1000 || speed == 100)
      (s.modPort p fun x => { x with sgmiiOk := ok, speed := if ok then speed else 0 }).evalUp p

/-- The payload of a LINK_HELLO (Table 10.6). -/
def State.helloPayload (s : State) (p : Nat) : List Byte :=
  beBytes 1 (s.inUse R.PRT_VER.VMAX * 16 + 1)
    ++ beBytes 1 (p + (if s.isPaired then 8 else 0) + (if s.isFollow then 16 else 0))
    ++ beBytes 2 0 ++ beBytes 8 s.unitId ++ beBytes 4 0

/-- One hello interval, 250 µs. -/
abbrev helloU : Nat := 250 * usU

/-- LINK_HELLO_SEND (R263): every 250 µs on a port with link; one that still waits is not doubled. -/
def execLinkHelloSend (now : Nat) (port : Fin 4) (s : State) : Out :=
  act linkParts now s fun s =>
    let p := port.val
    let x := s.portSt p
    let due := match x.helloAt with
      | none => true
      | some t => decide (t + helloU ≤ s.now)
    if !s.on (R.PRT_P_STAT.LINK p) ∨ !due ∨ portRate s p = 0 then s
    else
      let f := { s.ownFrame 0 0 0 0 x.seq 0 (s.helloPayload p) with ver := 1 }
      let s := s.setPort p { x with helloAt := some s.now, seq := (x.seq + 1) % 2 ^ 32 }
      if x.txq.any fun i => match i.body with
        | .peb g => g.isHello
        | _ => false then s else s.sendLink p f

/-- What a received LINK_HELLO says (Table 10.6). -/
structure Hello where
  vmax : Nat
  vmin : Nat
  port : Nat
  root : Bool
  paired : Bool
  follow : Bool
  unit : Nat
  deriving DecidableEq, Repr

/-- Read a LINK_HELLO payload. -/
def helloOf (b : List Byte) : Hello :=
  let v := (b.getD 0 0).toNat
  let t := (b.getD 1 0).toNat
  { vmax := v / 16, vmin := v % 16, port := t % 4, root := hasBit t 2, paired := hasBit t 3, follow := hasBit t 4,
    unit := beNat (slice b 4 8) }

/-- PRT_MISWIRE (R265): chain port `p` meets another line or the wrong port, or a branch port meets a root or chain
traffic. -/
def State.miswired (s : State) (p : Nat) (f : Frame) (h : Hello) : Bool :=
  if 2 ≤ p then h.root || (s.portSt p).chainSeen
  else f.line != s.lineId || (!h.root && h.port != otherPort p)

/-- PRT_ADDR_DUP (R265). -/
def State.duplicate (s : State) (f : Frame) (h : Hello) : Bool :=
  !h.root && f.stype == 0 && f.src == s.hubAddr && !(h.paired && s.isPaired)

/-- Frames of the chip's own that a follow does not originate (R15). -/
def TxItem.ofLead (i : TxItem) : Bool := !i.transit && match i.body with
  | .peb f => f.flow != 0
  | .strm _ => true
  | .pull => true
  | _ => false

/-- The chip takes or leaves the follow role; a change sets a hint cause (Table 15.13). -/
def State.setRole (s : State) (follow : Bool) : State :=
  let s := if s.isFollow = follow then s else s.hint 5
  (s.putBit R.SYS_CHAINPOS.FOLLOW follow).putBit R.PAR_STAT.FOLLOW follow

/-- The chip stops originating. -/
def State.stopOriginating (s : State) : State :=
  s.each [0, 1] fun s p => s.modPort p fun x => { x with txq := x.txq.filter fun i => !i.ofLead }

/-- Two leads whose partner link is down meet over the partner port: the chip with the higher unit ID becomes follow, and stays JOINING until the link
returns (R336). -/
def State.split (s : State) : State :=
  let s := ((s.setRole true).put R.PAR_STAT.STATE 1).put R.PAR_LAST.CAUSE 4
  let s := { s with pair := { s.pair with beatAt := none, declared := none, copies := 0 } }
  ((s.bump R.PAR_CNT0.SPLITS).log1 L.PAIR_SPLIT).stopOriginating

/-- A LINK_HELLO on port `p` (R263, R265, R336). -/
def State.helloRx (s : State) (p : Nat) (f : Frame) : State :=
  if f.length ≠ 16 then s
  else
    let h := helloOf f.body
    let vmax := min (s.inUse R.PRT_VER.VMAX) h.vmax
    let lver := if vmax < max 1 h.vmin then 0 else vmax
    let bad := s.miswired p f h
    let dup := s.duplicate f h
    let first := (s.portSt p).lastHello.isNone
    let s := s.when (lver == 0 && (first || s.lver p != 0)) (·.log1 L.PRT_VER 5 p)
    let s := s.when (bad && !s.on (R.PRT_P_STAT.MISWIRE p)) (·.log1 L.PRT_MISWIRE 5 p)
    let s := s.when (dup && !s.on (R.PRT_P_STAT.DUP p)) (·.log1 L.PRT_ADDR_DUP 5 p)
    let s := s.put (R.PRT_P_STAT.LVER p) lver
    let s := (s.putBit (R.PRT_P_STAT.MISWIRE p) bad).putBit (R.PRT_P_STAT.DUP p) dup
    let s := (s.put (R.PRT_P_STAT.PEERPORT p) h.port).putBit (R.PRT_P_STAT.PEERROOT p) h.root
    let s := s.putBit (R.PRT_P_STAT.PARTNER p)
      (decide (p < 2) && h.paired && !h.root && f.stype == 0 && f.src == s.hubAddr)
    let s := s.modPort p fun x => { x with
      good := if bad || dup then 0 else min 3 (x.good + 1), lastHello := some s.now, misses := 0,
      peerUnit := h.unit, peerFollow := h.follow, peerVer := h.vmax }
    let s := s.evalUp p
    if s.on (R.PRT_P_STAT.PARTNER p) ∧ s.get R.PAR_STAT.LANES = 0 ∧ s.isPaired ∧ !s.isFollow ∧ !h.follow ∧ h.unit < s.unitId ∧ s.sys.stage = .running then s.split
    else s

/-- LINK_HELLO_RX (R263, R265, R336). -/
def execLinkHelloRx (now : Nat) (rx : Rx) (s : State) : Out :=
  act { linkParts with pair := true } now s fun s => s.receive rx (·.isHello) fun s => s.helloRx rx.port rx.frame

/-- HELLO_MISS (R263): 250 µs, 500 µs and 750 µs after the last valid hello; the third declares the link down. -/
def execHelloMiss (now : Nat) (port : Fin 4) (s : State) : Out :=
  act linkParts now s fun s =>
    let p := port.val
    let x := s.portSt p
    match x.lastHello with
    | none => s
    | some t =>
      if !s.on (R.PRT_P_STAT.LINK p) ∨ 3 ≤ x.misses ∨ s.now < t + (x.misses + 1) * helloU then s
      else if x.misses < 2 then s.setPort p { x with misses := x.misses + 1 }
      else ((s.setPort p { x with misses := 3, good := 0 }).bump (R.PRT_P_CNT5.DOWNS p)).evalUp p

/-- A ROOT_HELLO accepted on chain port `p` (R264). -/
def State.rootHello (s : State) (p : Nat) (f : Frame) : State :=
  let hops := f.b / 2 ^ 24 % 2 ^ 8
  let ver := f.b / 2 ^ 20 % 2 ^ 4
  let was := s.reach p
  let s := s.put (if p = 0 then R.SYS_CHAINPOS.REACH_A else R.SYS_CHAINPOS.REACH_B) 1
  let s := s.put (if p = 0 then R.SYS_CHAINPOS.HOPS_A else R.SYS_CHAINPOS.HOPS_B) hops
  let s := s.modPort p fun x => { x with pathVer := ver, rootAt := some s.now, rootMiss := 0, rootGood := min 3 (x.rootGood + 1) }
  let q := otherPort p
  let s := s.sendTransit q { f.trimmed with b := (hops + 1) % 2 ^ 8 * 2 ^ 24 + min ver (s.lver q) * 2 ^ 20 + f.b % 2 ^ 20 }
  let s := if was then s else s.chainBack p
  s.repair p

/-- ROOT_HELLO_RX (R21, R264). -/
def execRootHelloRx (now : Nat) (rx : Rx) (s : State) : Out :=
  act linkParts now s fun s => s.receive rx (fun f => f.flow == 0 && f.type == 1) fun s => s.rootHello rx.port rx.frame

/-- ROOT_HELLO_MISS (R264): the third missed root hello clears REACH. -/
def execRootHelloMiss (now : Nat) (port : Fin 4) (s : State) : Out :=
  act linkParts now s fun s =>
    let p := port.val
    let x := s.portSt p
    match x.rootAt with
    | none => s
    | some t =>
      if 2 ≤ p ∨ !s.reach p ∨ s.now < t + (x.rootMiss + 1) * helloU then s
      else if x.rootMiss < 2 then s.setPort p { x with rootMiss := x.rootMiss + 1 }
      else (s.setPort p { x with rootMiss := 3, rootAt := none }).rootLost p

/-- ARP_RX (R255). -/
def execArpRx (now : Nat) (port : Fin 4) (eth : Eth) (m : ArpMsg) (s : State) : Out :=
  act linkParts now s fun s =>
    let p := port.val
    if !s.on (R.PRT_P_STAT.LINK p) then s
    else if !eth.fcsOk ∨ eth.bytes > 1518 then s.bump (R.PRT_P_CNT2.RXERR p)
    else
      let s := s.bump (R.PRT_P_CNT0.RXFRM p)
      if eth.tagged ∨ s.inUse (R.PRT_P_CFG.TRANSPORT p) = 0 then s.bump (R.PRT_P_CNT5.DISCARD p)
      else
        let (s, ok) := s.secCheck p eth.sec
        if !ok then s
        else if !s.portUp p then s.bump (R.PRT_P_CNT5.DISCARD p)
        else
          let s := if m.senderIp = s.inUse (R.PRT_P_IPB.IPB p) then
              s.modPort p fun x => { x with arpOk := true, arpMac := m.senderMac }
            else s
          if m.request ∧ m.targetIp = s.inUse (R.PRT_P_IPA.IPA p) then
            s.sendArp p false m.senderIp
          else s

end Sys2Proof.Machine
end

