-- ==== Sys2Proof/Machine/Commits.lean ====
section
/-! DEFINITION. Commits: which fields a commit applies, when it is rejected, what it changes around it, and the restart
of a structural change (R80, R116, R121, R125, R128, R155, R194, R226, R278, R344, R386, R389, R391, R419). -/

namespace Sys2Proof.Machine

/-- The parts that the control cycle and the frame boundary may write. -/
abbrev boundaryParts : Parts :=
  { live := true, sys := true, commits := true, time := true, dio := true, strm := true, ports := true, mon := true, cmp := true,
    tiles := true, chains := true, cal := true, resp := true }

/-! Tiles -/

/-- A tile, and the state with it replaced or changed. -/
def State.tile (s : State) (t : Nat) : TileSt := Tbl.get {} s.tiles t
def State.setTile (s : State) (t : Nat) (x : TileSt) : State := { s with tiles := Tbl.set {} s.tiles t x }
def State.modTile (s : State) (t : Nat) (f : TileSt → TileSt) : State := s.setTile t (f (s.tile t))

/-- The tile numbers. -/
abbrev tiles4 : List Nat := [0, 1, 2, 3]

/-- A tile that has frame boundaries: it has strobed since reset release and since the last restart (R419). -/
def TileSt.framed (x : TileSt) : Bool := x.last.isSome

/-- The endpoints of a tile. -/
def tileEps (t : Nat) : List Nat := (List.range 96).map fun c => 96 * t + c

/-! Commit sets -/

/-- What is due at the frame boundary of tile `t`. -/
def CommitSt.atTile (c : CommitSt) (t : Nat) : CommitSt :=
  { tile := c.tile &&& 2 ^ t, calcfg := c.calcfg &&& 2 ^ t, flt := c.flt &&& 2 ^ t }

/-- The members of `c` that are not in `d`. -/
def CommitSt.minus (c d : CommitSt) : CommitSt :=
  { c with
    tim := c.tim && !d.tim, reanchor := c.reanchor && !d.reanchor, iot := c.iot && !d.iot, que := c.que && !d.que,
    prt := c.prt && !d.prt, par := c.par && !d.par, tile := c.tile - (c.tile &&& d.tile),
    calcfg := c.calcfg - (c.calcfg &&& d.calcfg), cal := c.cal - (c.cal &&& d.cal), flt := c.flt - (c.flt &&& d.flt) }

/-- The members of `c` and of `d`. -/
def CommitSt.plus (c d : CommitSt) : CommitSt :=
  { c with
    tim := c.tim || d.tim, reanchor := c.reanchor || d.reanchor, iot := c.iot || d.iot, que := c.que || d.que,
    prt := c.prt || d.prt, par := c.par || d.par, tile := c.tile ||| d.tile, calcfg := c.calcfg ||| d.calcfg,
    cal := c.cal ||| d.cal, flt := c.flt ||| d.flt }

/-- No block commit in the set. -/
def CommitSt.noBlock (c : CommitSt) : Bool :=
  !c.tim && !c.reanchor && !c.iot && !c.que && !c.prt && !c.par && c.tile == 0 && c.calcfg == 0 && c.flt == 0

/-- The state with pending commits dropped. -/
def State.dropCommits (s : State) (d : CommitSt) : State := { s with commits := s.commits.minus d }

/-- Addresses that hold a word of a block that `c` applies. -/
def State.coveredAddrs (s : State) (c : CommitSt) : List Nat :=
  ((s.regs.map (·.1)) ++ (s.live.map (·.1))).filter fun a => c.covers a

/-- Whether a register has a shadow that differs from the value in use. -/
def State.shadowDiffers (s : State) (a : Nat) : Bool :=
  match regAt? a with
  | none => false
  | some h => h.info.fields.any fun f => f.ty == .rws
      && fget (Tbl.get h.info.reset s.regs a) f.lo f.w != fget (Tbl.get h.info.reset s.live a) f.lo f.w

/-- Every shadow of the blocks in `c` comes into use (R386). -/
def State.applyShadows (s : State) (c : CommitSt) : State :=
  s.each (s.coveredAddrs c) fun s a => match regAt? a with
    | none => s
    | some h => if h.info.shadowed
        then { s with live := Tbl.set h.info.reset s.live a (Tbl.get h.info.reset s.regs a) } else s

/-! Checks at a boundary (R6, R80, R121, R155, R194, R215, R226, R278, R420) -/

/-- A rejected commit: what is dropped, and its log entry. -/
structure Rej where
  drop : CommitSt
  code : Nat
  kind : Nat := 0
  index : Nat := 0
  detail : Nat := 0
  data : Nat := 0

/-- The check of R6, then the block's own, then the history word rate of R215, whose limit is row 8 of Table 8.13. -/
def State.checkBlock (s : State) (v : View) (r : Rej) (own : Unit → Option (Nat × Nat × Nat × Nat)) (rates : Bool) :
    Option Rej :=
  match s.badShadow r.drop with
  | some a => some { r with data := a }
  | none => match own () with
    | some (row, data, kind, index) => some { r with detail := row, data := data, kind := kind, index := index }
    | none =>
      let w : Rej := { drop := r.drop, code := L.QUE_CFG_REJ, detail := 8 }
      if rates && decide ((24576000 : Rat) < histRate v) then some w else none

/-- The check of a tile's block, and of its calibration configuration. -/
def State.checkTile (s : State) (v : View) (c : CommitSt) (t : Nat) : Option Rej :=
  if !hasBit c.tile t then none
  else s.checkBlock v { drop := { tile := 2 ^ t }, code := L.TILE_CFG_REJ, kind := 2, index := t }
    (fun _ => (tileRow s.inUse v t s.isPaired).map fun n => (n, 0, 2, t)) true

def State.checkCalCfg (s : State) (v : View) (c : CommitSt) (t : Nat) : Option Rej :=
  if !hasBit c.calcfg t then none
  else s.checkBlock v { drop := { calcfg := 2 ^ t }, code := L.CAL_CFG_REJ, kind := 2, index := t }
    (fun _ => match calZero v t with
      | some a => some (0, a, 2, t)
      | none => if calCannot v t then some (0, 0, 2, t) else none) false

/-- The check of the FLT commit, which is rejected as a whole: for every tile that it still waits for. -/
def State.checkFlt (s : State) (c : CommitSt) : Option Rej :=
  if c.flt = 0 then none
  else
    let all := s.commits.flt ||| c.flt
    let v := s.view { c with flt := all }
    s.checkBlock v { drop := { flt := all }, code := L.FLT_CFG_REJ }
      (fun _ => (fltCheck v (((tiles4.filter fun t => hasBit all t)).flatMap tileEps)).map fun x => (x.2, 0, 1, x.1)) true

/-- The first block of `c` that fails its check. -/
def State.firstRej (s : State) (c : CommitSt) : Option Rej :=
  let v := s.view c
  let tim := if !c.tim then none
    else s.checkBlock v { drop := { tim := true, reanchor := true }, code := L.TIM_CFG_REJ }
      (fun _ => (timRow v).map fun n => (n, 0, 0, 0)) true
  let iot := if !c.iot then none
    else s.checkBlock v { drop := { iot := true }, code := L.TIM_CFG_REJ }
      (fun _ => if diBad v then some (7, 0, 0, 0) else none) true
  let que := if !c.que then none
    else s.checkBlock v { drop := { que := true }, code := L.QUE_CFG_REJ } (fun _ => (queRow v).map fun n => (n, 0, 0, 0)) false
  let prt := if !c.prt then none
    else s.checkBlock v { drop := { prt := true }, code := L.PRT_CFG_REJ }
      (fun _ => (prtRow v fun p => (s.portSt p).cakSet).map fun n => (n, 0, 0, 0)) false
  let par := if !c.par then none
    else s.checkBlock v { drop := { par := true }, code := L.REG_RANGE, detail := 1 } (fun _ => none) false
  ([iot, tim, que, prt, par] ++ tiles4.map (fun t => s.checkTile v c t) ++ tiles4.map (fun t => s.checkCalCfg v c t)
    ++ [s.checkFlt c]).findSome? id

/-- The commits of `c` that pass, each block rejected as a whole with its log entry; what is left is checked again,
because it no longer meets the shadows of a rejected block (R420). `fuel` bounds the rejections. -/
def settleChecks : Nat → State → CommitSt → State × CommitSt
  | 0, s, c => (s, c)
  | fuel + 1, s, c => match s.firstRej c with
    | none => (s, c)
    | some r => settleChecks fuel ((s.dropCommits r.drop).log1 r.code r.kind r.index r.detail r.data) (c.minus r.drop)

/-! Structural changes (R87, R99, R156, R194, R226, R384) -/

/-- Whether any of the fields differs between two views. -/
def differ (old new : View) (fs : List FldAt) : Bool := fs.any fun f => old f != new f

/-- The fields of a strobe schedule. -/
def schedFields (k : Nat) : List FldAt :=
  [R.TIM_SCH_CFG.KIND k, R.TIM_SCH_CFG.TEMPO k, R.TIM_SCH_CFG.DIR k, R.TIM_SCH_CFG.NB k, R.TIM_SCH_A0.ANCHOR k,
    R.TIM_SCH_A1.ANCHOR k, R.TIM_SCH_I0.INTERVAL k, R.TIM_SCH_I1.INTERVAL k, R.TIM_SCH_LATC.LATC k]

/-- The structural fields of a chain. -/
def chainFields (e : Nat) : List FldAt :=
  [R.FLT_CFG.N e, R.FLT_CFG.M e, R.FLT_CFG.R e, R.FLT_CFG.COMP e, R.FLT_CFG.HB e, R.FLT_CFG.RS_EN e, R.FLT_RS.DELTA e,
    R.FLT_RS.RS_TEMPO e, R.FLT_RS.DIR e]

/-- Structural FLT fields: all that reset the chain but COMP, which moves neither rate nor grid. -/
def structFields (e : Nat) : List FldAt :=
  [R.FLT_CFG.N e, R.FLT_CFG.M e, R.FLT_CFG.R e, R.FLT_CFG.HB e, R.FLT_CFG.RS_EN e, R.FLT_RS.DELTA e,
    R.FLT_RS.RS_TEMPO e, R.FLT_RS.DIR e]

/-- Whether a commit of `c` contains a structural change. A schedule is in use when a tile that may strobe selects it,
and an endpoint produces when its channel is not OFF and its tile has strobed. -/
def State.structural (s : State) (c : CommitSt) : Bool :=
  let old : View := s.inUse
  let v := s.view c
  let used (k : Nat) : Bool := tiles4.any fun t => (s.tile t).start.isSome && schedOf old t == k
  c.reanchor
  || c.tim && (differ old v ([0, 1, 2, 3, 4, 5].map R.TIM_NB_CFG.SRC ++ [R.TIM_CYCLE.CYCLE])
      || (List.range 8).any fun k => used k && differ old v (schedFields k))
  || c.que && ((s.coveredAddrs { que := true }).any fun a => s.shadowDiffers a && (match regAt? a with
      | some h => h.info.id != RID.QUE_S_FLUSH
      | none => false))
  || tiles4.any fun t =>
      hasBit c.tile t && differ old v [R.TILE_FRAMEL.FRAME t, R.TILE_FRAMEH.FRAME t, R.TILE_STRB.STRBSRC t]
      || (hasBit c.tile t || hasBit c.flt t) && (s.tile t).framed && (tileEps t).any fun e =>
          chanOn old e && chanOn v e && (differ old v (structFields e) || outRate old e != outRate v e)

/-! What follows a change on a tile -/

/-- Sources of a configured pair (Table 5.9), the pair index of a channel (R114). -/
def pairIx (v : View) (e : Nat) : Nat :=
  match modeOf v (tileOf e) (chanOf e) with
  | 0 => 0
  | 1 => 8
  | 5 => 8
  | 6 => 0
  | _ => v (R.TILE_CHCFG.GAIN (tileOf e) (chanOf e))

/-- CAL_SRC of endpoint `e` shows the source of its configured pair, and whether a pair is half written. -/
def State.showSrc (s : State) (e : Nat) : State :=
  let half := (List.range 16).any fun i => let m := Tbl.get 0 s.cal.marks (16 * e + i); m == 1 || m == 2
  (s.put (R.CAL_SRC.SRC e) (Tbl.get 0 s.cal.srcs (16 * e + pairIx s.inUse e))).putBit (R.CAL_SRC.HALF e) half

/-- Derived registers of tile `t` and of its endpoints (R103, R120, R141, R150). -/
def State.showTile (s : State) (t : Nat) : State :=
  let v := s.inUse
  let c := (allSteps v t).getD {}
  let s := (s.put (R.TILE_BUDGET.END t) (endSlot v t)).put (R.TILE_BUDGET2.CONV t) c.conv.length
  let s := (s.put (R.TILE_BUDGET2.DIS t) c.dis).put (R.CAL_STAT.BPF t) (borrows v t)
  s.each (tileEps t) fun s e =>
    let cfg := chainCfg v e
    let g := groupDelay cfg (chanSteps v e)
    let s := s.put (R.FLT_GDLY.INT e) g.floor.toNat
    let s := s.put (R.FLT_GDLYF.FRAC e) ((g - (g.floor : Rat)) * 65536).floor.toNat
    (s.put (R.FLT_NORM.KNORM e) cfg.knorm).showSrc e

/-- The rate in use, and the rings and retentions that follow it (R138, R215 to R217). -/
def State.showRates (s : State) : State :=
  (s.put R.FLT_RATE.RATE (rateSum s.inUse).floor.toNat).resizeHistory

/-- Channels that a change of the step table concerns: of a step that is enabled, disabled, or changes SRC or EVERY
(R99). -/
def stepTouches (old v : View) (t : Nat) : List Nat :=
  (List.range 512).flatMap fun i =>
    let was := old (R.TILE_STEPA.REPEAT t i) != 0
    let is := v (R.TILE_STEPA.REPEAT t i) != 0
    let so := old (R.TILE_STEPA.SRC t i)
    let sn := v (R.TILE_STEPA.SRC t i)
    if is && (!was || so != sn || old (R.TILE_STEPB.EVERY t i) != v (R.TILE_STEPB.EVERY t i)) then
      if was then [sn, so] else [sn]
    else if was && !is then [so] else []

/-- A committed excitation switch on the source of channel `c` (R65). -/
def excTouches (old v : View) (t c : Nat) : Bool :=
  let g := c / 4
  let group := [R.TILE_GRP.KIND t g, R.TILE_GRP.LEVEL t g, R.TILE_GRPT.LEAD t g, R.TILE_GRPT.WIDTH t g]
  let use (w : View) : Bool := modeOf w t c == 2 && kindOf w t g == 1 || modeOf w t c == 4 && kindOf w t g == 2
  let is (m : Nat) : Bool := modeOf old t c == m || modeOf v t c == m
  (use old || use v) && differ old v group
    || is 3 && differ old v [R.TILE_GRPT.LEAD t g, R.TILE_GRPT.WIDTH t g, R.TILE_CHCFG.RTD_I t c]
    || is 5 && differ old v [R.TILE_CHCFG.IEPE_I t c]

/-- The gain codes at which a channel is calibrated: its configured one first, then with ALLGAIN the others of its
class. -/
def calCodes (v : View) (e : Nat) : List Nat :=
  let c := pairIx v e
  if v (R.CAL_CFG.ALLGAIN (tileOf e)) = 1 ∧ c ≠ 8 then c :: (List.range 8).filter (· != c) else [c]

/-- Channels and gain codes of a pass over the channels of `cs` that are not OFF, in ascending order. -/
def calPass (v : View) (t : Nat) (cs : List Nat) : List (Nat × Nat) :=
  (cs.filter fun c => modeOf v t c != 0).flatMap fun c => (calCodes v (96 * t + c)).map fun g => (c, g)

/-- A pass over: nothing is left to run, and a REQUEST pass is DONE (R126). -/
def State.passOver (s : State) (t : Nat) : State :=
  let x := s.tile t
  if x.pass && x.todo.isEmpty && x.run.isNone then
    (s.setTile t { x with pass := false, logged := [] }).put (R.CAL_STAT.DONE t) 1
  else s

/-- What a channel and gain code still to run become under a changed configuration: nothing for a channel that is OFF, and
the configured code in place of one that is not calibrated any more. -/
def liveCode (v : View) (t : Nat) (x : Nat × Nat) : List (Nat × Nat) :=
  if modeOf v t x.1 = 0 then []
  else if (calCodes v (96 * t + x.1)).contains x.2 then [x] else [(x.1, pairIx v (96 * t + x.1))]

/-- The runs of the channels of `hit` that are in progress on tile `t` are abandoned, each counted, and start again at
the next opportunity (R125). -/
def State.abandonRun (s : State) (t : Nat) (hit : Nat → Bool) : State :=
  match (s.tile t).run with
  | none => s
  | some r =>
    let gone := r.chans.filter hit
    let left := r.chans.filter fun c => !hit c
    if gone.isEmpty then s
    else
      let again := gone.flatMap fun c => liveCode s.inUse t (c, r.code)
      let s := s.modTile t fun x =>
        { x with run := if left.isEmpty then none else some { r with chans := left }, todo := again ++ x.todo }
      (s.bump (R.CAL_CNT2.ABANDON t) gone.length).putBit (R.CAL_STAT.SWEEPING t) !left.isEmpty

/-- What a commit that changed the view from `old` does on tile `t`: settle counts, cleared chains, RES, abandoned runs
(Table 6.4, R109, R125, R151). -/
def State.changedTile (s : State) (old : View) (t : Nat) : State :=
  let v : View := s.inUse
  let steps := stepTouches old v t
  let frame := differ old v [R.TILE_FRAMEL.FRAME t, R.TILE_FRAMEH.FRAME t, R.TILE_STRB.STRBSRC t]
  let chan (c : Nat) : Bool := differ old v [R.TILE_CHCFG.MODE t c, R.TILE_CHCFG.GAIN t c]
  let s := s.each (List.range 96) fun s c =>
    let e := 96 * t + c
    let flt := differ old v (chainFields e)
    let s := if flt then s.setChain e (s.chain e).cleared else s
    let s := if steps.contains c || differ old v [R.TILE_CHCFG.MODE t c] then s.clearRes e else s
    if chan c || steps.contains c || flt || excTouches old v t c
        || differ old v [R.TILE_CHCFG.AAF t c, R.FLT_CFG.DCB_K e] then s.armSettle e else s
  let cal := differ old v [R.CAL_CFG.MODE t]
  let s := s.abandonRun t fun c => frame || cal || chan c || steps.contains c || excTouches old v t c
  let mode := v (R.CAL_CFG.MODE t)
  let s := s.putBit (R.CAL_CFG.OWNER t) (mode != 0)
  let s := s.modTile t fun x =>
    if cal then { x with todo := [], logged := [], pass := false }
    else { x with todo := (x.todo.flatMap (liveCode v t)).eraseDups }
  (s.passOver t).showTile t

/-! Coefficient pairs at a frame boundary (R116, R128 to R130) -/

/-- The eight new slice pairs of a finished block apply together (R116). -/
def State.applySlices (s : State) (t : Nat) : State :=
  match (s.tile t).slices with
  | none => s
  | some l =>
    let s := s.each l.zipIdx fun s x =>
      (s.put (R.CAL_SOFS.SOFS t x.2) (unsgn 32 x.1.1)).put (R.CAL_SGAIN.SGAIN t x.2) x.1.2
    s.modTile t fun x => { x with slices := none }

/-- The written mark of pair `i` of endpoint `e`: bit 0 OFS, bit 1 GAIN. -/
def State.mark (s : State) (e i : Nat) : Nat := Tbl.get 0 s.cal.marks (16 * e + i)
def State.setMark (s : State) (e i m : Nat) : State :=
  { s with cal := { s.cal with marks := Tbl.set 0 s.cal.marks (16 * e + i) m } }

/-- The pairs of a tile, by endpoint and index. -/
def tilePairs (t : Nat) : List (Nat × Nat) := (tileEps t).flatMap fun e => (List.range 9).map fun i => (e, i)

/-- A pending coefficient commit of tile `t` is applied or rejected (R128). -/
def State.applyPairs (s : State) (t : Nat) : State :=
  if !hasBit s.commits.cal t then s
  else
    let s := (s.dropCommits { cal := 2 ^ t }).put (R.CAL_STAT.PENDING t) 0
    match (tilePairs t).find? fun p => s.mark p.1 p.2 == 1 || s.mark p.1 p.2 == 2 with
    | some p => (s.bump (R.CAL_CNT2.HALFPAIR t)).log1 L.CAL_HALF_PAIR 1 p.1
    | none => match (tilePairs t).find? fun p => decide (s.get (R.CAL_GAIN.GAIN p.1 p.2) < 0x20000000) with
      | some p => s.log1 L.REG_RANGE 0 0 1 (R.CAL_GAIN p.1 p.2).addr
      | none =>
        let src := if s.inUse (R.CAL_CFG.MODE t) = 0 then 3 else 2
        let s := s.each ((tilePairs t).filter fun p => s.mark p.1 p.2 == 3) fun s p =>
          let (e, i) := p
          let s := (s.put (R.CAL_UOFS.OFS e i) (s.get (R.CAL_OFS.OFS e i))).put (R.CAL_UGAIN.GAIN e i) (s.get (R.CAL_GAIN.GAIN e i))
          let s := { s with cal := { s.cal with srcs := Tbl.set 0 s.cal.srcs (16 * e + i) src } }
          s.setMark e i 0
        s.each (tileEps t) fun s e => s.showSrc e

/-! Blocks that apply at the control cycle boundary -/

/-- A tempo base whose SRC changes is OFF, runs at once on an encoder, and is LOST until its network or mains source
delivers (R176 to R182). -/
def State.tempoChanged (s : State) (old : View) : State :=
  s.each [0, 1, 2, 3] fun s n =>
    let src := s.tempoSrc n
    if old (R.TIM_TMP_CFG.SRC n) = src then s
    else
      let s := { s.setTempo n {} with time := { (s.setTempo n {}).time with tmpRec := Tbl.set [] s.time.tmpRec n [] } }
      s.put (R.TIM_TMP_STAT.STATE n) (if src = 0 then 0 else if src = 1 then 1 else 3)

/-- A queue keeps its packets as far as its new capacity holds them (R206). -/
def State.refit (s : State) (q : Nat) : State :=
  let s := s.makeRoom q 0 0
  let x := s.queue q
  if x.fifo.length ≤ s.queueCap q then s else s.setQueue q { x with fifo := x.fifo.drop (x.fifo.length - s.queueCap q) }

/-- A change of a stream's roster sets its proof floor past every SSN that it has carried (R225). -/
def State.raiseFloor (s : State) (n : Nat) (es : List Nat) : State :=
  match es with
  | [] => s
  | e :: l =>
    let top := l.foldl (fun m d => if serialLt m (s.nextSsn d) then s.nextSsn d else m) (s.nextSsn e)
    s.modStrm n fun x =>
      { x with floor := es.foldl (fun t d => Tbl.set none t d (some (s.nextSsn d))) (Tbl.set none x.floor 512 (some top)) }

/-- Streams after a QUE commit: one that starts, or whose home changed, sends through its home port, or through the
other chain port while the home is not fit (R20). -/
def State.streamsChanged (s : State) (old : View) : State :=
  s.each (List.range 64) fun s n =>
    let home := s.inUse (R.QUE_S_CFG.HOME n)
    let s := if s.sys.stage = .running ∧ rosterOf old n ≠ rosterOf s.inUse n
      then s.raiseFloor n (rosterOf old n ++ rosterOf s.inUse n) else s
    if !s.strmOn n then (s.modStrm n fun x => { x with owed := none, parts := [], wins := [] }).unqueueStrm n
    else if old (R.QUE_S_CFG.EN n) = 1 ∧ old (R.QUE_S_CFG.HOME n) = home then s
    else
      let s := (s.unqueueStrm n).modStrm n fun x => { x with port := home, moved := false }
      if !s.homeOk home && s.homeOk (otherPort home) then s.moveStrm n (otherPort home) else s.strmReady n

/-- The effects of TIM, IOT, QUE and PRT commits beyond their values in use; `b` is the boundary on WB0. -/
def State.changedHub (s : State) (old : View) (c : CommitSt) (b : Int) : State :=
  let s := if !c.tim then s
    else
      let s := s.tempoChanged old
      let s := s.each (List.range 6) fun s n =>
        if old (R.TIM_NB_CFG.SRC n) = s.nbSrc n then s
        else { s with time := { s.time with
          epochs := Tbl.set 0 s.time.epochs n (wholeNs (s.wbNow (s.nbSrc n)) / 2 ^ 32) } }
      { s with time := { s.time with cycleIdx := (b / (s.cycleU : Int)).toNat } }
  let s := if !c.iot then s
    else s.each (List.range 128) fun s i =>
      let fs := [R.IOT_DICFG.EN i, R.IOT_DICFG.FILT i, R.IOT_DICFG.EDGE_R i, R.IOT_DICFG.EDGE_F i, R.IOT_DICFG.TEN i,
        R.IOT_DICFG.TSEL i, R.IOT_DICFG.NB i, R.IOT_DIPER.P i, R.IOT_DIPER.EMAX i]
      if differ old s.inUse fs then s.diChanged i (old (R.IOT_DIPER.P i)) b (diOn old i) (diOn s.inUse i) else s
  let s := if !c.que then s
    else
      let work := 128 - (s.inUse R.QUE_PART.HISTSZ + s.inUse R.QUE_PART.QUESZ)
      let s := (s.each (List.range 80) fun s q => s.refit q).put R.QUE_PART.WORK work
      s.streamsChanged old
  if !c.prt then s
  else s.each [0, 1, 2, 3] fun s p =>
    let fs := [R.PRT_P_CFG.USE p, R.PRT_P_CFG.MODE p, R.PRT_P_CFG.MS p, R.PRT_P_CFG.AN p, R.PRT_P_CFG.AMP24 p,
      R.PRT_P_CFG.TRANSPORT p, R.PRT_P_CFG.MACSEC p]
    if differ old s.inUse fs then s.linkLost p else s

/-- All that a set of commits that pass their checks does when it applies: values in use, then what follows them. A tile
that has no frame boundary will strobe after `from_` (R419). -/
def State.applyCommits (s : State) (c : CommitSt) (b from_ : Int) : State :=
  let old : View := s.inUse
  let dirty := (s.coveredAddrs c).any s.shadowDiffers
  let s := (s.dropCommits c).applyShadows c
  let s := s.changedHub old c b
  let ts := tiles4.filter fun t => hasBit c.tile t || hasBit c.calcfg t || hasBit c.flt t
  let s := s.each ts fun s t =>
    let s := s.changedTile old t
    let x := s.tile t
    if !x.framed ∧ (hasBit c.tile t ∨ x.start.isSome) then s.setTile t { x with start := some from_ } else s
  let s := if c.tim then s.each tiles4 fun s t => s.showTile t else s
  -- the configuration that a commit puts in force is what the stages of Table 2.10 wait for
  let s := if c.noBlock then s else { s.showRates with sys := { s.sys with stage := .running } }
  if dirty then s.put R.SYS_CHOR_ST.DRIFTED 1 else s

/-! Restart (R389) -/

/-- Acquisition stops at B: no tile strobes, chains drop their open windows, packets and history blocks close. -/
def State.stopAll (s : State) : State :=
  let s := s.each tiles4 fun s t => s.modTile t fun x =>
    { x with last := none, f := 0, cur := none, res := none, reqs := [], far := none }
  let s := s.each (s.chains.map (·.1)) fun s e => s.setChain e (s.chain e).cleared
  let s := s.each (List.range 64) fun s n =>
    let s := s.closePacket n
    s.modStrm n fun x => { x with parts := [], wins := [] }
  s.each (List.range 512) fun s e => if (s.histEp e).blocks.isEmpty then s else s.closeBlock e

/-- Members of a FULL stream of CLASS 0 to 2 take the largest next SSN among them (R198). -/
def State.alignSsns (s : State) : State :=
  s.each (List.range 64) fun s n =>
    if !s.strmOn n ∨ s.strmClass n = 3 ∨ s.inUse (R.QUE_S_CFG.KIND n) = 1 then s
    else
      let es := rosterOf s.inUse n
      match es with
      | [] => s
      | e :: l =>
        let top := l.foldl (fun m d => if serialLt m (s.nextSsn d) then s.nextSsn d else m) (s.nextSsn e)
        s.each es fun s d => s.setSsn d top

/-- The restart of a structural change at boundary `b`: `c` applies, and tiles strobe after the control cycle that begins
there. With no tile strobing, nothing is stopped and streams begin as at their start (R389). -/
def State.restart (s : State) (c : CommitSt) (b : Int) (pre : State → State := id) : State :=
  let was := tiles4.any fun t => (s.tile t).framed
  let s := if was then s.stopAll else s
  let s := pre s
  let from_ := b + ((s.view c R.TIM_CYCLE.CYCLE * usU : Nat) : Int)
  let s := (s.applyCommits c b from_).alignSsns
  let s := s.each (List.range 64) fun s n =>
    if s.strmOn n then s.modStrm n fun x => { x with owed := oweMore x.owed (if was then 2 else 0) 2, skipping := false } else s
  if !was then s
  else
    let s := s.each tiles4 fun s t => s.modTile t fun x => if x.start.isSome then { x with start := some from_ } else x
    let s := s.each (List.range 384) fun s e => s.armSettle e
    { s with commits := { s.commits with restartB := some b } }

/-- The step of WB0 that REANCHOR makes at B: by its offset as last measured, or by 0 in FREERUN (R160). -/
def State.reanchor (s : State) : State :=
  s.stepBase 0 (if s.wbState 0 = 0 then 0 else -(s.wbSt 0).left)

/-! Boundaries -/

/-- The frame boundary of tile `t`: slice pairs, coefficient pairs and the commits that need no restart apply before the
strobe (R24, R116, R128, R155). -/
def State.frameBoundary (s : State) (t : Nat) : State :=
  let s := (s.applySlices t).applyPairs t
  let c := s.commits.atTile t
  if c.noBlock ∨ !(s.tile t).framed ∨ s.time.cycleIdx < s.commits.notBefore then s
  else
    let (s, c) := settleChecks 8 s c
    -- a structural commit waits for the control cycle boundary
    if c.noBlock ∨ s.structural c then s else s.applyCommits c 0 0

/-- What applies at a control cycle boundary: the hub-wide commits, and those of tiles without a frame boundary (R419);
with a structural change, those of every tile. -/
def State.dueAtCycle (s : State) : CommitSt :=
  let c := s.commits
  let wait := decide (s.time.cycleIdx < c.notBefore)
  let mask := (tiles4.filter fun t => !(s.tile t).framed).foldl (fun a t => a + 2 ^ t) 0
  if wait then { prt := c.prt, calcfg := c.calcfg &&& mask }
  else { c with cal := 0, reanchor := c.reanchor && !s.isPaired, tile := c.tile &&& mask, calcfg := c.calcfg &&& mask, flt := c.flt &&& mask }

/-- Every block commit that is pending. -/
def CommitSt.blocks (c : CommitSt) : CommitSt := { c with cal := 0 }

/-- The commits at the control cycle boundary `b` (R194, R226, R278, R344, R389, R391, R419). -/
def State.cycleCommits (s : State) (b : Int) : State :=
  if s.commits.blocks.noBlock then s
  else
    let all := if s.time.cycleIdx < s.commits.notBefore then s.dueAtCycle else s.commits.blocks
    let (s1, c1) := settleChecks 16 s all
    if !s.isPaired && s1.structural c1 then
      s1.restart c1 b fun s => if c1.reanchor then s.reanchor else s
    else
      let (s, c) := settleChecks 16 s s.dueAtCycle
      if c.noBlock then s else s.applyCommits c b (b + (s.cycleU : Int))

end Sys2Proof.Machine
end

