-- ==== Sys2Proof/Machine/Capture.lean ====
section
/-! DEFINITION. Strobes (R82, R85, R88, R89, R173 to R175), blanking of tiles (R77 to R79), the open-input test (R71 to
R74), and the choice of the channels that a frame borrows (R126). -/

namespace Sys2Proof.Machine

/-! Calibration: the channels of the next run (R119, R123, R126) -/

/-- The first batch of a pass: the first channel's gain code, and the channels still to run at that code, as many as a
frame can borrow. -/
def calBatch (todo : List (Nat × Nat)) (bpf : Nat) : List Nat × Nat :=
  match todo with
  | [] => ([], 0)
  | (_, g) :: _ => (((todo.filter fun x => x.2 == g).map (·.1)).take bpf, g)

/-- Before a frame the calibration engine begins a run, if none is in progress and one may begin. -/
def State.beginRun (s : State) (t : Nat) : State :=
  let v : View := s.inUse
  let x := s.tile t
  let bpf := borrows v t
  if v (R.CAL_CFG.MODE t) = 0 ∨ x.run.isSome ∨ bpf = 0 ∨ s.on (R.CAL_STAT.REF_BAD t) then s
  else
    -- LIVE sweeps without end
    let again := x.todo.isEmpty && v (R.CAL_CFG.MODE t) == 1
    let x := if again then { x with todo := calPass v t (List.range 96), logged := [] } else x
    match calBatch x.todo bpf with
    | ([], _) => s
    | (cs, g) =>
      let run : CalRun := { chans := cs, code := g, tj := x.tj }
      let x := { x with todo := x.todo.filter fun y => !(y.2 == g && cs.contains y.1), run := some run }
      (s.setTile t x).put (R.CAL_STAT.SWEEPING t) 1

/-! Burns take the pairs at a frame boundary (R134) -/

/-- A burn in progress takes the pairs in use of tile `t`, for each channel at its configured class and gain code. -/
def State.takePairs (s : State) (t : Nat) : State :=
  if s.cal.burn.isNone ∨ !hasBit s.cal.burnTiles t then s
  else
    let v : View := s.inUse
    let s := { s with cal := { s.cal with burnTiles := s.cal.burnTiles - 2 ^ t } }
    s.each (tileEps t) fun s e =>
      let i := pairIx v e
      let k := if i = 8 then 8 else i
      let rec_ := (s.get (R.CAL_UOFS.OFS e i), s.get (R.CAL_UGAIN.GAIN e i), k,
        if Tbl.get 0 s.cal.srcs (16 * e + i) = 0 then 0 else 1)
      { s with cal := { s.cal with taken := Tbl.ins s.cal.taken e rec_ } }

/-! The next strobe -/

/-- ANCHOR in seconds, ORIGIN and INTERVAL in 2^-16 counts, LATC in ns of a schedule. -/
def State.schAnchor (s : State) (k : Nat) : Nat :=
  s.inUse (R.TIM_SCH_A0.ANCHOR k) + 2 ^ 32 * (s.inUse (R.TIM_SCH_A1.ANCHOR k) % 65536)
def State.schOrigin (s : State) (k : Nat) : Int :=
  sgn 64 (s.inUse (R.TIM_SCH_A0.ANCHOR k) + 2 ^ 32 * s.inUse (R.TIM_SCH_A1.ANCHOR k))
def State.schInterval (s : State) (k : Nat) : Int :=
  sgn 64 (s.inUse (R.TIM_SCH_I0.INTERVAL k) + 2 ^ 32 * s.inUse (R.TIM_SCH_I1.INTERVAL k))
def State.schLatc (s : State) (k : Nat) : Int := sgn 32 (s.inUse (R.TIM_SCH_LATC.LATC k)) * ((nsU : Nat) : Int)

/-- The next strobe of tile `t` on WB0 and its frame index (R89, R174, R175); none while the tile may not strobe, or has
no request. -/
def State.nextStrobe (s : State) (t : Nat) : Option (Int × Nat) :=
  let x := s.tile t
  let k := schedOf s.inUse t
  match x.start with
  | none => none
  | some st =>
    match s.inUse (R.TIM_SCH_CFG.KIND k) with
    | 1 =>
      let p : Int := ((frameLen s.inUse t * slotU : Nat) : Int)
      let a : Int := ((s.schAnchor k * secU : Nat) : Int)
      if p = 0 then none
      else
        let n : Nat := if x.framed then x.f + 1 else if st < a then 0 else ((st - a) / p + 1).toNat
        some (a + (n : Int) * p, n)
    | 2 => match x.reqs with
      | [] => none
      | r :: _ => some (r.at_, if x.framed then x.f + 1 else 0)
    | _ => none

/-- The schedule of tile `t` is in holdover (R173). -/
def State.schedHoldover (s : State) (t : Nat) : Bool :=
  let k := schedOf s.inUse t
  s.wbHoldover 0 || s.inUse (R.TIM_SCH_CFG.KIND k) == 2 && s.tempoHoldover (s.inUse (R.TIM_SCH_CFG.TEMPO k))

/-! Blanking (R77 to R79) -/

/-- Pins of tile `t` that decide a strobe at this instant: an edge less than 3 µs before it may or may not decide. -/
def State.pinsAt (s : State) (t : Nat) (at_ : Int) : Nat × State :=
  let mask := s.inUse (R.TILE_BLANK.PINMASK t)
  [0, 1, 2, 3].foldl (init := (0, s)) fun (on, s) i =>
    if !hasBit mask i then (on, s)
    else
      let now := hasBit s.dio.pins i
      let near := match s.dio.pinAt.find? (fun e => e.1 == i) with
        | some e => decide (at_ < s.wbAt 0 e.2 + ((3 * usU : Nat) : Int))
        | none => false
      if !near then (if now then on + 2 ^ i else on, s)
      else
        let (d, s) := s.draw
        let now := if d % 2 = 0 then now else !now
        (if now then on + 2 ^ i else on, s)

/-- Self-blanking spans of tile `t` that hold an instant, and whether one ended between two instants. -/
def State.spanAt (s : State) (t : Nat) (at_ : Int) : Bool :=
  s.dio.blank.any fun b => hasBit b.tiles t && decide (b.fr ≤ at_) && decide (at_ ≤ b.till)
def State.spanEnded (s : State) (t : Nat) (seen : Option Int) (at_ : Int) : Bool :=
  s.dio.blank.any fun b => hasBit b.tiles t && decide (b.till < at_) && (match seen with
    | some x => decide (x ≤ b.till)
    | none => true)

/-- Spans that every tile they blank has passed are forgotten. -/
def State.pruneSpans (s : State) : State :=
  let past (b : Blanking) : Bool := tiles4.all fun t => !hasBit b.tiles t || (match (s.tile t).seen with
    | some x => decide (b.till < x)
    | none => false)
  { s with dio := { s.dio with blank := s.dio.blank.filter fun b => !past b } }

/-- Whether blanking suppresses a strobe of tile `t` at WB0 instant `at_`, with the TAIL count moved on (R79). -/
def State.blanked (s : State) (t : Nat) (at_ : Int) : Bool × State :=
  let x := s.tile t
  let (pins, s) := s.pinsAt t at_
  let active := pins != 0 || s.spanAt t at_
  let ended := x.armed || s.spanEnded t x.seen at_ || x.active && !active
  let tail := if active then 0 else if ended then s.inUse (R.TILE_BLANK.TAIL t) else x.tail
  let s := s.setTile t { x with active := active, armed := false, seen := some at_, tail := tail - 1 }
  (active || tail != 0, s.pruneSpans)

/-- BLANK_PIN_EDGE (R77): the level of BLANK0 to BLANK3 changes; the end of a level is the end of a blanking source of the
tiles that select the pin. -/
def execBlankPinEdge (now : Nat) (pin : Fin 4) (on : Bool) (s : State) : Out :=
  act boundaryParts now s fun s =>
    let i := pin.val
    if hasBit s.dio.pins i = on then s
    else
      let pins := if on then s.dio.pins + 2 ^ i else s.dio.pins - 2 ^ i
      let s := { s with dio := { s.dio with pins := pins, pinAt := Tbl.ins s.dio.pinAt i s.now } }
      let s := s.put R.IOT_BLANKST.PIN pins
      if on then s
      else s.each tiles4 fun s t =>
        if hasBit (s.inUse (R.TILE_BLANK.PINMASK t)) i then s.modTile t fun x => { x with armed := true } else s

/-! Strobes -/


/-- The open-input test falls due every K frames, and waits for a frame that is not blanked (R71, R74). -/
def State.countTest (s : State) (t : Nat) (taken : Bool) : State :=
  let k := s.inUse (R.TILE_OPNK.K t)
  s.modTile t fun x =>
    if k = 0 then { x with opnCnt := 0, opnTest := false }
    else if k ≤ x.opnCnt + 1 then
      if taken then { x with opnCnt := 0, opnTest := true } else { x with opnCnt := k, opnTest := false }
    else { x with opnCnt := x.opnCnt + 1, opnTest := false }

/-- The strobe of tile `t` at WB0 instant `at_`, frame `f`: the boundary before it, then the capture or its suppression
(R24, R82, R85). -/
def State.strobe (s : State) (t : Nat) (at_ : Int) (f : Nat) : State :=
  let s := (s.frameBoundary t).takePairs t
  let (blank, s) := s.blanked t at_
  let fault := s.sys.fieldFault
  let taken := !blank && !fault
  let loc := (s.localOf 0 at_).toNat
  let k := s.nbSrc (s.inUse (R.TIM_SCH_CFG.NB (schedOf s.inUse t)))
  let stamp := if k = 0 then at_ else s.wbAt k loc
  let x := s.tile t
  -- the settle count of a release runs from the first strobe, and values before the first hold carry STL as well
  let arm := !x.framed || !x.held || x.faulted && !fault
  let s := s.when arm fun s => s.each (tileEps t) fun s e => s.armSettle e
  let fr : FrameRec := ⟨f, at_, stamp, loc, taken, s.schedHoldover t⟩
  let s := s.setTile t { s.tile t with
    last := some at_, f := f, cur := some fr, res := none, reqs := (s.tile t).reqs.drop 1,
    held := x.held || taken, faulted := fault }
  let s := s.countTest t taken
  let s := s.when (!taken) (·.bump (R.TILE_CNT0.BLKFRM t))
  let s := { s with time := { s.time with strobed := true } }
  let s := match s.commits.restartB with
    | none => s
    | some b =>
      let s := { s with commits := { s.commits with restartB := none } }
      s.log1 L.CHOR_RESTART 0 0 0 (wholeNs b % 2 ^ 32 * 2 ^ 32 + wholeNs at_ % 2 ^ 32)
  s.beginRun t

/-! Tempo strobe requests (R88, R175) -/

/-- The next grid point of tile `t`'s tempo schedule, counted in its direction, and the instant at which its strobe is to
be requested; none at standstill or against the direction. -/
def State.nextRequest (s : State) (t : Nat) : Option (Int × Int) :=
  let k := schedOf s.inUse t
  let n := s.inUse (R.TIM_SCH_CFG.TEMPO k)
  let v := s.tempoVel n s.now
  let down := s.inUse (R.TIM_SCH_CFG.DIR k) == 1
  let d := s.schInterval k
  if v = 0 ∨ (0 < v) ≠ !down ∨ d ≤ 0 then none
  else
    let sg : Int := if down then -1 else 1
    let speed : Rat := if v < 0 then -v else v
    -- position along the direction of motion, in 2^-16 counts, at the instant whose request falls due now
    let pos := sg * s.tempoPos n s.now
    let ahead := (speed * secsOf (s.schLatc k) * 65536).floor
    let o := sg * s.schOrigin k
    let first := -((o - (pos + ahead)) / d)
    let g := match (s.tile t).far with
      | some g => max (g + 1) first
      | none => first
    let dist : Rat := ((o + g * d - pos : Int) : Rat) / 65536
    some (g, s.wbNow 0 + (dist / speed * (secU : Nat)).floor - s.schLatc k)

/-- TEMPO_STROBE_FIX (R88, R175): the request of the next grid point is fixed 4 µs before it falls due; it is held back to
FRAME slots after the strobe before it, and dropped while another one is held back. -/
def execTempoStrobeFix (now : Nat) (tile : Fin 4) (s : State) : Out :=
  act boundaryParts now s fun s =>
    let t := tile.val
    let x := s.tile t
    let k := schedOf s.inUse t
    match x.start, s.nextRequest t with
    | some st, some (g, at_) =>
      if s.inUse (R.TIM_SCH_CFG.KIND k) ≠ 2 ∨ s.wbNow 0 + ((4 * usU : Nat) : Int) < at_ ∨ at_ ≤ st then s
      else
        let s := s.setTile t { x with far := some g }
        let x := s.tile t
        let prev := (x.reqs.getLast?.map (·.at_)).orElse fun _ => x.last
        if x.reqs.any fun r => decide (r.asked < r.at_) then
          (s.bump (R.TILE_STRBCNT.DROP t)).logCycle L.STRB_DROP 2 t
        else
          let least := match prev with
            | some p => p + ((frameLen s.inUse t * slotU : Nat) : Int)
            | none => at_
          let held := decide (at_ < least)
          let s := s.when held (·.bump (R.TILE_STRBCNT.EARLY t))
          s.setTile t { x with reqs := x.reqs ++ [⟨at_, if held then least else at_⟩] }
    | _, _ => s

/-! Open-input test -/

/-- OPEN_INPUT_TEST (R71 to R74): the comparators of the frame's test; `failed` lists the channels that read open. One
failed test sets OPN, two passed ones in a row clear it. -/
def execOpenInputTest (now : Nat) (tile : Fin 4) (failed : List Nat) (s : State) : Out :=
  act boundaryParts now s fun s =>
    let t := tile.val
    let v : View := s.inUse
    if !(s.tile t).opnTest then s
    else
      let s := s.modTile t fun x => { x with opnTest := false }
      let cs := (List.range 96).filter fun c => opnEligible v t c && v (R.TILE_CHCFG.OPN_EN t c) == 1
      s.each cs fun s c =>
        let o : OpnSt := Tbl.get {} (s.tile t).opn c
        let bad := failed.contains c
        let o : OpnSt := if bad then ⟨true, 0⟩
          else if o.isOpen && decide (o.passes = 0) then ⟨true, 1⟩ else {}
        let s := s.modTile t fun x => { x with opn := Tbl.set {} x.opn c o }
        (s.when bad (·.bump (R.TILE_CNT1.OPNFAIL t))).putBit (R.TILE_CHST.OPEN t c) o.isOpen

end Sys2Proof.Machine
end

