-- ==== Sys2Proof/Machine/Convert.lean ====
section
/-! DEFINITION. What becomes of a frame: slices and corrections (R90 to R92, R98, R101, R113), the excitation monitor
(R66 to R70), the beacon cross-check (R104, R105), borrows (R120, R122), and the values that enter the chains (R55, R60,
R85, R86). -/

namespace Sys2Proof.Machine

/-! Excitation sources: groups 0 to 23, then channels from 24 on -/

/-- Whether a source feeds channel `c`. -/
def feedsChan (v : View) (t src c : Nat) : Bool :=
  if src < 24 then c / 4 == src && (modeOf v t c == 2 && kindOf v t src == 1 || modeOf v t c == 4 && kindOf v t src == 2)
  else c + 24 == src && (modeOf v t c == 3 || modeOf v t c == 5)

/-- Whether a fault class applies to a source (Table 3.7). -/
def classApplies (v : View) (t src cls : Nat) : Bool :=
  if src < 24 then
    match kindOf v t src with
    | 1 => cls == 1 && v (R.TILE_GRP.IMIN t src) != 0 || cls == 2 && v (R.TILE_GRP.IMAX t src) != 0 || cls == 3 || cls == 4
    | 2 => cls == 5 || cls == 6
    | _ => false
  else
    match modeOf v t (src - 24) with
    | 3 => cls == 5 || cls == 6
    | 5 => cls == 7 || cls == 8
    | _ => false

/-- The group of a source. -/
def groupOf (src : Nat) : Nat := if src < 24 then src else (src - 24) / 4

/-- Whether a window of a source runs in a frame that executes `sts` (R63, R69). -/
def windowRuns (v : View) (t : Nat) (sts : List Step) (src : Nat) : Bool :=
  let g := groupOf src
  if 24 ≤ src ∧ modeOf v t (src - 24) = 5 then true
  else decide (frameLen v t ≤ v (R.TILE_GRPT.WIDTH t g)) || sts.any fun st => st.src < 96 && st.src / 4 == g

/-- An excitation source, and the state with it replaced; TILE_GRPST or TILE_CHST shows the lowest class present. -/
def State.excSt (s : State) (t src : Nat) : ExcSt := Tbl.get {} (s.tile t).exc src
def State.setExc (s : State) (t src : Nat) (e : ExcSt) : State :=
  let s := s.modTile t fun x => { x with exc := Tbl.set {} x.exc src e }
  let here := (e.classes.filter fun c => c.absent == 0).map (·.cls)
  let cls := here.foldl min (here.headD 0)
  if src < 24 then (s.put (R.TILE_GRPST.CLASS t src) cls).putBit (R.TILE_GRPST.TRIPPED t src) e.tripAt.isSome
  else s.put (R.TILE_CHST.CLASS t (src - 24)) cls

/-- The monitor reports a class on a source: logged when it first appears, with a record for each SAFE channel that the
source feeds (R67, R69). -/
def State.reportExc (s : State) (t src cls onset : Nat) : State :=
  let e := s.excSt t src
  let known := e.classes.any fun c => c.cls == cls
  let cs := if known then e.classes.map fun c => if c.cls = cls then ⟨cls, onset, 0⟩ else c
    else e.classes ++ [⟨cls, onset, 0⟩]
  let s := s.setExc t src { e with classes := cs }
  let s := if src < 24 then s.put (R.TILE_GRPST.SEEN t src) 1 else s.put (R.TILE_CHST.SEEN t (src - 24)) 1
  let s := if known then s
    else if src < 24 then s.logAt onset L.EXC_FAULT 3 (24 * t + src) cls
    else s.logAt onset L.EXC_FAULT 1 (96 * t + (src - 24)) cls
  let safe := (List.range 96).filter fun c =>
    feedsChan s.inUse t src c && s.inUse (R.TILE_CHCFG.SAFE t c) == 1
  { s with cal := { s.cal with recs := s.cal.recs ++ safe.map fun c => (96 * t + c, cls, s.now) } }

/-- EXC_FAULT (R67, R69): a condition of a class has lasted 32 slots since its onset at local time `onset`. -/
def execExcFault (now : Nat) (tile : Fin 4) (src : Fin 120) (cls : Fin 9) (onset : Nat) (s : State) : Out :=
  act boundaryParts now s fun s =>
    if !classApplies s.inUse tile src cls ∨ s.now < onset + 32 * slotU then s
    else s.reportExc tile src cls onset

/-- EXC_TRIP (R68): EXC_LIMIT has lasted 1 ms without a break: the group is switched off. -/
def execExcTrip (now : Nat) (tile : Fin 4) (group : Fin 24) (s : State) : Out :=
  act boundaryParts now s fun s =>
    let t := tile.val
    let g := group.val
    let e := s.excSt t g
    let due := e.classes.any fun c => c.cls == 3 && c.absent == 0 && decide (c.onset + msU ≤ s.now)
    if !due ∨ e.tripAt.isSome then s
    else
      let s := s.setExc t g { e with tripAt := some s.now }
      (s.bump (R.TILE_CNT1.TRIPS t)).reportExc t g 9 s.now

/-- An excitation switch on a source: settle counts start, and runs on its channels are abandoned (R65, R125). -/
def State.excSwitch (s : State) (t src : Nat) : State :=
  let s := s.each (List.range 96) fun s c => if feedsChan s.inUse t src c then s.armSettle (96 * t + c) else s
  s.abandonRun t fun c => feedsChan s.inUse t src c

/-- EXC_TRIP_RETRY (R68): every 100 ms a tripped group pulses once; `limited` says that EXC_LIMIT occurred again. -/
def execExcTripRetry (now : Nat) (tile : Fin 4) (group : Fin 24) (limited : Bool) (s : State) : Out :=
  act boundaryParts now s fun s =>
    let t := tile.val
    let g := group.val
    let e := s.excSt t g
    match e.tripAt with
    | none => s
    | some a =>
      if s.now < a + 100 * msU then s
      else if limited then s.setExc t g { e with tripAt := some s.now }
      else
        let cs := e.classes.map fun c => if c.cls = 9 then { c with absent := 1 } else c
        (s.setExc t g { e with tripAt := none, classes := cs }).excSwitch t g

/-- EXC_CLEAR (R69): classes of a source that have been absent for 100 windows are cleared. -/
def execExcClear (now : Nat) (tile : Fin 4) (src : Fin 120) (s : State) : Out :=
  act boundaryParts now s fun s =>
    let t := tile.val
    let e := s.excSt t src
    let gone := e.classes.filter fun c => decide (100 ≤ c.absent)
    let s := s.setExc t src { e with classes := e.classes.filter fun c => decide (c.absent < 100) }
    s.each gone fun s c =>
      if src.val < 24 then s.log1 L.EXC_CLEAR 3 (24 * t + src) c.cls
      else s.log1 L.EXC_CLEAR 1 (96 * t + (src - 24)) c.cls

/-- The onset of a class lies in the window of a frame: from LEAD slots before the strobe to the end of slot 40 (R66,
R67). -/
def State.inWindow (s : State) (t src : Nat) (fr : FrameRec) (c : ExcClass) : Bool :=
  decide (fr.loc ≤ c.onset + s.inUse (R.TILE_GRPT.LEAD t (groupOf src)) * slotU) && decide (c.onset < fr.loc + 41 * slotU)

/-- Whether an excitation fault with onset in the window of a frame, or a trip, marks the values of a source (R67,
R68). -/
def State.excMarks (s : State) (t src : Nat) (fr : FrameRec) (exc : List (Nat × Nat)) : Bool :=
  let e := s.excSt t src
  e.tripAt.isSome || exc.any (fun x => x.1 == src) || e.classes.any fun c => c.cls != 9 && s.inWindow t src fr c

/-- The window of frame `fr` closes for each source: classes that it found, or whose onset lies in it, are present, and the
others have been absent for one more (R69). -/
def State.closeWindows (s : State) (t : Nat) (fr : FrameRec) (sts : List Step) (exc : List (Nat × Nat)) : State :=
  let v : View := s.inUse
  let fresh := exc.filter fun x => classApplies v t x.1 x.2
    && !(s.excSt t x.1).classes.any fun c => c.cls == x.2
  let s := s.each fresh fun s x => s.reportExc t x.1 x.2 fr.loc
  s.each ((s.tile t).exc.map (·.1)) fun s src =>
    if !windowRuns v t sts src then s
    else
      let e := s.excSt t src
      let cs := e.classes.map fun c =>
        if exc.contains (src, c.cls) ∨ s.inWindow t src fr c ∨ c.cls = 9 ∧ e.tripAt.isSome then { c with absent := 0 }
        else { c with absent := c.absent + 1 }
      s.setExc t src { e with classes := cs }

/-! Slices (R90, R91) -/

/-- One step of the rotation register: x^23 + x^18 + 1, newest bit lowest. -/
def lfsrStep (r : Nat) : Nat := r * 2 % 2 ^ 23 + (bit r 22 + bit r 17) % 2

/-- The register after `n` slots. -/
def lfsrRun : Nat → Nat → Nat
  | 0, r => r
  | n + 1, r => lfsrRun n (lfsrStep r)

/-- The slice that takes a conversion in absolute slot `n`, and the tile after it. -/
def TileSt.pick (x : TileSt) (fixed : Bool) (n : Int) : Nat × TileSt :=
  let r := lfsrRun ((n - x.lfsrAt).toNat % (2 ^ 23 - 1)) x.lfsr
  let starts := padTo 8 (-7 + min n 0) x.starts
  let free := (List.range 8).filter fun i => decide (starts.getD i 0 + 7 ≤ n)
  let oldest := free.foldl (fun a i => if starts.getD i 0 < starts.getD a 0 then i else a) (free.headD 0)
  let i := if fixed then oldest else free.getD (r % 8 % max 1 free.length) 0
  (i, { x with lfsr := r, lfsrAt := n, starts := starts.set i n })

/-- A conversion of a frame: its slot, the step or the reserved conversion it belongs to, the slice, the raw result and
the slice-corrected value in 2^-38 counts. -/
structure Conv where
  slot : Nat
  step : Option Step
  k : Nat
  slice : Nat
  raw : Int
  val : Int

/-- Slice correction of a raw result (R113), in 2^-38 counts. -/
def State.sliceVal (s : State) (t i : Nat) (raw : Int) : Int :=
  (64 * 256 * raw - sgn 32 (s.get (R.CAL_SOFS.SOFS t i))) * ((s.get (R.CAL_SGAIN.SGAIN t i) : Nat) : Int)

/-- The steps that execute in frame `f` (R96). -/
def stepsIn (v : View) (t f : Nat) : List Step := (stepsOf v t).filter fun st => st.runs f

/-- The conversions of a frame in slot order: its steps, if the strobe was taken, and the reserved ones (R93, R97). -/
def State.conversions (s : State) (t : Nat) (fr : FrameRec) (r : TileRes) : State × List Conv :=
  let v : View := s.inUse
  let len := frameLen v t
  let steps := if fr.taken then (((placeAll len (stepsIn v t fr.f) {}).getD {}).conv.reverse) else []
  let a : List Conv := steps.zipIdx.map fun x => ⟨x.1.1, some x.1.2, 0, 0, r.codes.getD x.2 0, 0⟩
  let b : List Conv := (List.range (len / 16)).map fun k => ⟨16 * k + 15, none, k, 0, r.resv.getD (k - 1) 0, 0⟩
  let fixed := s.on (R.TILE_ROT.FIXED t)
  let base := fr.t / ((slotU : Nat) : Int)
  (sortBy (fun x y => decide (x.slot ≤ y.slot)) (a ++ b)).foldl (init := (s, [])) fun (s, l) c =>
    let (i, x) := (s.tile t).pick fixed (base + c.slot)
    let s := (s.setTile t x).bump (R.TILE_SLCNT.CONV t i)
    (s, l ++ [{ c with slice := i, val := s.sliceVal t i c.raw }])

/-! Values -/

/-- A channel's value from the mean of its slice-corrected results, and whether it was clipped (R55, R98, R113). -/
def State.chanVal (s : State) (t c : Nat) (sum : Int) (n : Nat) (ratio : Option Nat) : Int × Bool :=
  let e := 96 * t + c
  let i := pairIx s.inUse e
  let m := divRound sum (n * 2 ^ 38)
  let y := divRound ((m * 256 - sgn 32 (s.get (R.CAL_UOFS.OFS e i))) * ((s.get (R.CAL_UGAIN.GAIN e i) : Nat) : Int)) (2 ^ 38)
  let y := match ratio with
    | some r => divRound (y * (r : Int)) (2 ^ 30)
    | none => y
  let z := clipS 24 y
  (z, decide (z ≠ y))

/-- Whether any source of channel `c` marks its value. -/
def State.chanExf (s : State) (t c : Nat) (fr : FrameRec) (exc : List (Nat × Nat)) : Bool :=
  [c / 4, 24 + c].any fun src => feedsChan s.inUse t src c && s.excMarks t src fr exc

/-- The flags that every value of a frame carries. -/
def frameFlags (fr : FrameRec) (xck : Bool) : Nat := (if fr.hdo then fHDO else 0) + (if xck then fXCK else 0)

/-- Every step of a frame delivers its value (R85, R86, R98, R101). -/
def State.deliver (s : State) (t : Nat) (fr : FrameRec) (r : TileRes) (cs : List Conv) (xck : Bool) : State :=
  let v : View := s.inUse
  let lost := r.fails.val == 3
  let good := fr.taken && !lost
  let exc := if lost then [] else r.exc
  let base := frameFlags fr (good && xck)
  let (s, any) := (stepsIn v t fr.f).foldl (init := (s, false)) fun (s, any) st =>
    if 96 ≤ st.src then
      if !good then (s, any)
      else
        let mine := cs.filter fun c => c.step == some st
        let m := clipS 24 (divRound (mine.foldl (fun a c => a + c.val) 0) (max 1 mine.length * 2 ^ 38))
        (s.put (R.TILE_DIAG.VALUE t (st.src - 96)) (unsgn 24 m), any)
    else if modeOf v t st.src = 0 then (s, any)
    else
      let c := st.src
      let e := 96 * t + c
      let exf := s.chanExf t c fr exc
      let flags := base + (if exf then fEXF else 0)
      if !good then (s.feed e fr (Tbl.get 0 (s.tile t).vals c) (flags + fBLK), any || exf)
      else
        let mine := cs.filter fun x => x.step == some st
        let rtd := modeOf v t c == 3 || modeOf v t c == 4
        let ratio := if rtd then (r.ratios.find? fun x => x.1 == c).map (·.2) else none
        let (y, clip) := s.chanVal t c (mine.foldl (fun a x => a + x.val) 0) (max 1 mine.length) ratio
        let flags := flags + (if clip || r.overload.contains c then fOVR else 0)
        let s := s.modTile t fun x => { x with vals := Tbl.set 0 x.vals c y }
        (s.feed e fr y flags, any || exf)
  s.when any (·.bump (R.TILE_CNT0.EXFFRM t))

/-! Calibration conversions -/

/-- The channels that a frame borrows and the reserved conversions that carry them (R120). -/
def State.borrowed (s : State) (t : Nat) : List (Nat × Nat) :=
  match (s.tile t).run with
  | none => []
  | some r => if r.ended then [] else List.zip r.chans (borrowSlots (frameLen s.inUse t))

/-- Add borrowed values to a run (R123): each channel takes NAVG values at each level, run A, then run B. -/
def CalRun.add (r : CalRun) (navg : Nat) (vals : List (Nat × Int)) : CalRun :=
  let key := (if r.isB then 3 else 0) + r.level
  let sums := vals.foldl (init := r.sums) fun m x =>
    let row := Tbl.get [] m x.1
    let a := Tbl.get (0, 0) row key
    if navg ≤ a.2 then m else Tbl.ins m x.1 (Tbl.ins row key (a.1 + x.2, a.2 + 1))
  let r := { r with sums := sums, level := (r.level + 1) % 3 }
  let full (b : Nat) : Bool := r.chans.all fun c => [0, 1, 2].all fun l =>
    let a : Int × Nat := Tbl.get (0, 0) (Tbl.get [] r.sums c) (b + l)
    decide (navg ≤ a.2)
  if r.isB then { r with ended := full 3 }
  else if full 0 then { r with isB := true, level := 0 } else r

/-- The reference was bad during a run. -/
def CalRun.spoil (r : CalRun) : CalRun := { r with refBad := true }

/-- What the reserved conversions of a delivered frame give: the reference check, the junction temperature, borrowed
values (R94, R119, R122). -/
def State.reserved (s : State) (t : Nat) (fr : FrameRec) (r : TileRes) (cs : List Conv) : State :=
  let v : View := s.inUse
  let x := s.tile t
  let one := (cs.find? fun c => c.step.isNone && c.k == 1).map (·.val)
  let vref := v R.CAL_REFV.VREF
  let s := match x.turn, one with
    | 1, some w =>
      let p : Int := ((vref * 2 ^ 61 : Nat) : Int)
      if vref = 0 then s
      else if p < ((w * 2560000 - p).natAbs : Int) * 500 then
        let s := s.modTile t fun x => { x with refGood := 0, run := x.run.map CalRun.spoil }
        if s.on (R.CAL_STAT.REF_BAD t) then s else (s.put (R.CAL_STAT.REF_BAD t) 1).log1 L.CAL_REF_BAD 2 t
      else s.modTile t fun x => { x with refGood := x.refGood + 1 }
    | 2, some w => s.modTile t fun x => { x with tj := divRound (w * 100) (2 ^ 54) }
    | _, _ => s
  let b := s.borrowed t
  let bad (c : Nat) : Bool := s.sys.fieldFault || [c / 4, 24 + c].any fun src =>
    r.exc.any (fun e => e.1 == src) || (s.excSt t src).tripAt.isSome || (s.excSt t src).classes.any (fun k => k.absent == 0)
  let vals := b.filterMap fun x => if bad x.1 then none
    else (cs.find? fun c => c.step.isNone && c.k == x.2).map fun c => (x.1, c.val)
  let _ := fr
  if b.isEmpty then s
  else s.modTile t fun y => { y with run := y.run.map fun r => r.add (v (R.CAL_CFG.NAVG t)) vals }

/-- The conversions that feed the slice estimator (R115, R120): steps and bus conversions, no end codes, and no direct
bus conversion within 110 slots after a level change. -/
def State.estimate (s : State) (t : Nat) (cs : List Conv) : State :=
  let len := frameLen s.inUse t
  let b := (s.borrowed t).map (·.2)
  let use (c : Conv) : Bool := c.raw != 131071 && c.raw != -131072 && (match c.step with
    | some _ => true
    | none => decide (2 ≤ c.k) && (b.isEmpty || b.contains c.k || decide (c.slot + 134 < len) || decide (len < c.slot + 25)))
  s.modTile t fun x => { x with block := x.block ++ (cs.filter use).map fun c => (c.slice, c.val) }

/-! Beacon (R104, R105) -/

/-- Twice the deviation of a tile's beacon value from its comparison value; none without a comparison. -/
def beaconDev (set : List (Nat × Int)) (t : Nat) : Option Int :=
  match set.find? fun x => x.1 == t with
  | none => none
  | some (_, b) =>
    let l := sortBy (fun x y => decide (x ≤ y)) (set.map (·.2))
    match l with
    | [x, y] => some (2 * (b - (if x = b then y else x)))
    | [_, y, _] => some (2 * (b - y))
    | [_, y, z, _] => some (2 * b - (y + z))
    | _ => none

/-- The outcome of a frame of tile `t`; answers whether it fails. -/
def State.beacon (s : State) (t : Nat) (dev : Option Int) : State × Bool :=
  let tol := s.inUse (R.TILE_BCN.TOL t)
  if tol = 0 then ((s.put (R.TILE_BCNST.RESULT t) 3).modTile t fun x => { x with bcnRun := 0 }, false)
  else match dev with
    | none => (((s.put (R.TILE_BCNST.RESULT t) 2).bump (R.TILE_BCNCNT.NOCMP t)).modTile t fun x => { x with bcnRun := 0 }, false)
    | some d =>
      let s := s.put (R.TILE_BCNDEV.DEV t) (unsgn 24 (clipS 24 (divRound d 2)))
      if d.natAbs ≤ 2 * tol then
        ((s.put (R.TILE_BCNST.RESULT t) 0).modTile t fun x => { x with bcnRun := x.bcnRun + 1 }, false)
      else
        let s := ((s.put (R.TILE_BCNST.RESULT t) 1).put (R.TILE_BCNST.SEEN t) 1).bump (R.TILE_BCNCNT.FAILFRM t)
        let s := if (s.tile t).bcnBad then s else s.log1 L.BCN_XCK 2 t
        (s.modTile t fun x => { x with bcnBad := true, bcnRun := 0 }, true)

/-- BCN_CLEAR (R105): 100 consecutive passing frames after a failure. -/
def execBcnClear (now : Nat) (tile : Fin 4) (s : State) : Out :=
  act boundaryParts now s fun s =>
    let x := s.tile tile
    if !x.bcnBad ∨ x.bcnRun < 100 then s
    else (s.setTile tile { x with bcnBad := false, bcnRun := 0 }).log1 L.BCN_CLEAR 2 tile

/-! The transfer -/

/-- The frame of tile `t` is delivered with its results. -/
def State.finishFrame (s : State) (t : Nat) (dev : Option Int) : State :=
  let x := s.tile t
  match x.cur, x.res with
  | some fr, some r =>
    let lost := r.fails.val == 3
    let s := s.bump R.SYS_TLERR.RETRIES (min 2 r.fails.val)
    let s := s.when lost fun s => (s.bump R.SYS_TLERR.FAILED)
    let s := s.when (lost && fr.taken) (·.bump (R.TILE_CNT0.BLKFRM t))
    let (s, cs) := s.conversions t fr r
    let (s, xck) := s.beacon t dev
    let s := if lost then s else s.closeWindows t fr (stepsIn s.inUse t fr.f) r.exc
    let s := s.deliver t fr r cs xck
    let s := if lost then s else (s.estimate t cs).reserved t fr r cs
    let steps := cs.filter (·.step.isSome)
    let mean := divRound (steps.foldl (fun a c => a + c.val) 0) (max 1 steps.length * 2 ^ 38)
    let s := if lost || !fr.taken then s else s.modTile t fun x => { x with digest := some (fr.f, mean, r.beacon) }
    s.modTile t fun x => { x with cur := none, res := none, turn := (x.turn + 1) % 3 }
  | _, _ => s

/-- The tiles whose frames are compared with the frame of tile `t`, itself included: same schedule, frame length and
strobe instant, strobe taken, and a tolerance (R104). -/
def State.beaconGroup (s : State) (t : Nat) : List Nat :=
  let v : View := s.inUse
  match (s.tile t).cur with
  | none => []
  | some fr =>
    if !fr.taken ∨ v (R.TILE_BCN.TOL t) = 0 then [t]
    else tiles4.filter fun u => (match (s.tile u).cur with
      | some o => o.taken && o.t == fr.t && schedOf v u == schedOf v t && frameLen v u == frameLen v t
          && v (R.TILE_BCN.TOL u) != 0
      | none => false)

/-- Deliver the frames of the group of tile `t` once all its results are there. -/
def State.settleGroup (s : State) (t : Nat) : State :=
  let g := s.beaconGroup t
  if !g.all fun u => (s.tile u).res.isSome then s
  else
    let set := g.filterMap fun u => match (s.tile u).cur, (s.tile u).res with
      | some fr, some r => if fr.taken && r.fails.val != 3 then some (u, r.beacon) else none
      | _, _ => none
    s.each g fun s u => s.finishFrame u (beaconDev set u)

/-- TILE_RESULT_TRANSFER (R41, R86): the results of the open frame of a tile reach the logic side, or are given up after
three attempts. -/
def execTileResultTransfer (now : Nat) (tile : Fin 4) (res : TileRes) (s : State) : Out :=
  act boundaryParts now s fun s =>
    let t := tile.val
    let x := s.tile t
    if x.cur.isNone ∨ x.res.isSome then s else (s.setTile t { x with res := some res }).settleGroup t

end Sys2Proof.Machine
end

