-- ==== Sys2Proof/Machine/Calib.lean ====
section
/-! DEFINITION. Calibration: slice blocks (R115 to R117), runs (R118 to R126), coefficient commits (R128, R129), the
fuses with their load and burn (R131 to R134). -/

namespace Sys2Proof.Machine

/-! Fuses -/

/-- A fuse word, and a field of bits of the array that begins at bit `b` of word `w`. -/
def State.fuseWord (s : State) (w : Nat) : Nat := (Tbl.get 0 s.fuse w).toNat
def State.fuseBits (s : State) (w b n : Nat) : Nat :=
  let k := w + b / 32
  (s.fuseWord k + 2 ^ 32 * s.fuseWord (k + 1) + 2 ^ 64 * s.fuseWord (k + 2)) / 2 ^ (b % 32) % 2 ^ n

/-- The commit word of a generation. -/
abbrev fuseCommit : Nat := 0xA5C33C5A

/-- CRC-32C over words, each as four bytes with its low byte first. -/
def wordsCrc (ws : List Nat) : Nat := crc32c (ws.flatMap fun w => leBytes 4 w)

/-- The factory generation is valid. -/
def State.factOk (s : State) : Bool :=
  s.fuseWord 143 == fuseCommit
    && wordsCrc ((List.range 768).filterMap fun w => if w = 142 ∨ w = 143 then none else some (s.fuseWord w)) == s.fuseWord 142

/-- State of user generation `k`: 0 blank, 1 valid, 2 invalid (R131). -/
def State.genState (s : State) (k : Nat) : Nat :=
  let b := 0x300 * k
  let ws := (List.range 768).map fun w => s.fuseWord (b + w)
  if ws.all (· == 0) then 0
  else if s.fuseWord (b + 47) = fuseCommit
      ∧ wordsCrc (ws.zipIdx.filterMap fun x => if x.2 = 46 ∨ x.2 = 47 then none else some x.1) = s.fuseWord (b + 46) then 1
  else 2

/-! The factory model (Table 5.5); zero trims and nominal ratios without a valid factory generation (R132) -/

/-- A factory trim, 0 without a valid factory generation. -/
def State.trim (s : State) (w b n : Nat) : Int := if s.on R.CAL_FUSEST.FACT_OK then sgn n (s.fuseBits w b n) else 0

/-- The stored deviation of the ladder ratio of tile `t` at pair index `i`, as a factor. -/
def State.ladder (s : State) (t i : Nat) : Rat := 1 + mkRat (s.trim (33 + 8 * t + (if i = 8 then 0 else i)) 0 32) 100000000

/-- Factory offset of pair `i` of endpoint `e` in 2^-8 counts: the input offset at gain and the output offset, in
0.25 µV at the converter, whose full scale is 2.56 V. -/
def State.factOfs (s : State) (e i : Nat) : Int :=
  let a := s.trim 144 (52 * e) 14 * 2 ^ (if i = 8 then 0 else i) + 8 * s.trim 144 (52 * e + 14) 14
  divRound (a * 2 ^ 31) 10240000

/-- Factory gain of pair `i` of endpoint `e`. -/
def State.factGain (s : State) (e i : Nat) : Rat :=
  let g : Rat := (1 + mkRat (s.trim 144 (52 * e + 28) 16) 4000000) * s.ladder (tileOf e) i
  if i = 8 then g * (1 + mkRat (s.trim 144 (52 * e + 44) 8) 1000000) else g

/-- A factor as an unsigned 2.30 number, rounded to nearest and kept within 32 bits. -/
def fix30 (g : Rat) : Nat :=
  let x : Rat := g * (2 ^ 30 : Nat)
  min (2 ^ 32 - 1) (divRound x.num x.den).toNat

/-- Factory slice pair of slice `i` of tile `t`: offset in 2^-8 counts from 2^-4 LSB, gain from 0.25 ppm. -/
def State.factSlice (s : State) (t i : Nat) : Int × Nat :=
  let w := 1 + 8 * t + i
  (s.trim w 0 16 * 1024, fix30 (1 + mkRat (s.trim w 16 16) 4000000))

/-- The rotation register of each tile takes a nonzero seed derived from the unit ID and the tile number (R91). -/
def State.seedRotation (s : State) : State :=
  let u := s.get R.SYS_UNITIDL.UNIT_ID + 2 ^ 32 * s.get R.SYS_UNITIDH.UNIT_ID
  s.each tiles4 fun s t => s.modTile t fun x => { x with lfsr := 1 + Config.slotSeed u t % (2 ^ 23 - 1), lfsrAt := 0 }

/-- The fuse load of a start (R132). -/
def State.loadFuses (s : State) : State :=
  let ok := s.factOk
  let s := s.putBit R.CAL_FUSEST.FACT_OK ok
  let s := if ok then s else s.log1 L.FUSE_FACT_BAD
  let s := s.each tiles4 fun s t =>
    let s := s.each (List.range 8) fun s i =>
      let p := s.factSlice t i
      (s.put (R.CAL_SOFS.SOFS t i) (unsgn 32 p.1)).put (R.CAL_SGAIN.SGAIN t i) p.2
    let s := s.put (R.CAL_TJ.TJ t) (unsgn 16 (s.trim 121 0 16))
    s.each (tilePairs t) fun s p =>
      let o := unsgn 32 (s.factOfs p.1 p.2)
      let g := fix30 (s.factGain p.1 p.2)
      let s := (s.put (R.CAL_OFS.OFS p.1 p.2) o).put (R.CAL_UOFS.OFS p.1 p.2) o
      (s.put (R.CAL_GAIN.GAIN p.1 p.2) g).put (R.CAL_UGAIN.GAIN p.1 p.2) g
  let s := { s with cal := { s.cal with srcs := [], marks := [] } }
  let g1 := s.genState 1
  let g2 := s.genState 2
  let g3 := s.genState 3
  let s := ((s.put R.CAL_FUSEST.GEN1 g1).put R.CAL_FUSEST.GEN2 g2).put R.CAL_FUSEST.GEN3 g3
  -- generations newer than the newest valid one are examined, and the invalid ones among them logged
  let order := [(3, g3), (2, g2), (1, g1)]
  let newest := (order.find? fun x => x.2 == 1).map (·.1)
  let seen := order.takeWhile fun x => x.2 != 1
  let s := s.each (seen.filter fun x => x.2 == 2) fun s x => s.log1 L.FUSE_GEN_BAD 8 x.1
  let s := match newest with
  | none => s.put R.CAL_FUSEST.LOADED 0
  | some k =>
    let b := 0x300 * k
    let s := s.put R.CAL_FUSEST.LOADED k
    let s := s.each tiles4 fun s t => s.put (R.CAL_TJ.TJ t) (s.fuseBits (b + 6) (16 * t) 16)
    s.each (List.range 384) fun s e =>
      if s.fuseBits (b + 48) (60 * e + 48) 1 = 0 then s
      else
        let cls := s.fuseBits (b + 48) (60 * e + 47) 1
        let i := if cls = 1 then 8 else s.fuseBits (b + 48) (60 * e + 44) 3
        let o := unsgn 32 (sgn 22 (s.fuseBits (b + 48) (60 * e) 22) * 64)
        let g := ((2 ^ 30 : Nat) + sgn 22 (s.fuseBits (b + 48) (60 * e + 22) 22)).toNat
        let s := (s.put (R.CAL_OFS.OFS e i) o).put (R.CAL_UOFS.OFS e i) o
        let s := (s.put (R.CAL_GAIN.GAIN e i) g).put (R.CAL_UGAIN.GAIN e i) g
        { s with cal := { s.cal with srcs := Tbl.set 0 s.cal.srcs (16 * e + i) 1 } }
  s.each (List.range 384) fun s e => s.showSrc e

/-! Slice estimator (R115 to R117) -/

/-- A rational clipped to a symmetric limit. -/
def clampRat (x lim : Rat) : Rat := if lim < x then lim else if x < -lim then -lim else x

/-- Round a rational to the nearest integer, ties away from zero. -/
def roundRat (x : Rat) : Int := divRound x.num x.den

/-- The mean of a list of values. -/
def meanOf (l : List Rat) : Rat := if l.isEmpty then 0 else l.foldl (· + ·) 0 / (l.length : Rat)

/-- The new pairs of a block: offsets in 2^-8 counts that sum to zero, gains in 2^-30 whose mean is 1. The remainders of
rounding go to slice 7. -/
def newSlices (old : List (Int × Nat)) (sw : Nat) (block : List (Nat × Int)) : List (Int × Nat) :=
  let all := block.map fun x => (x.2 : Rat)
  let m := meanOf all
  let dev (l : List Rat) : Rat := meanOf (l.map fun x => if x < m then m - x else x - m)
  let dAll := dev all
  let w : Rat := (2 ^ sw : Nat)
  let moved : List (Rat × Rat) := old.zipIdx.map fun p =>
    let mine := (block.filter fun x => x.1 == p.2).map fun x => (x.2 : Rat)
    let o : Rat := if mine.isEmpty then 0 else clampRat ((meanOf mine - m) / (2 ^ 38 : Nat) / w) (mkRat 128 100)
    let g : Rat := if mine.isEmpty || dAll == 0 then 0 else clampRat ((dev mine / dAll - 1) / w) (mkRat 2 1000000)
    ((p.1.1 : Rat) + o * 256, mkRat (p.1.2 : Int) (2 ^ 30) + g)
  let om := meanOf (moved.map (·.1))
  let gm := meanOf (moved.map (·.2))
  let r : List (Int × Int) := moved.map fun p =>
    (roundRat (p.1 - om), roundRat (if gm = 0 then (2 ^ 30 : Nat) else p.2 / gm * (2 ^ 30 : Nat)))
  let ro := r.foldl (fun a p => a + p.1) 0
  let rg := r.foldl (fun a p => a + p.2) 0 - 8 * 2 ^ 30
  r.zipIdx.map fun p => if p.2 = 7 then (p.1.1 - ro, (p.1.2 - rg).toNat) else (p.1.1, p.1.2.toNat)

/-- Whether new pairs lie within 64 LSB and 0.5 % of the factory values (R117). -/
def State.slicesOk (s : State) (t : Nat) (l : List (Int × Nat)) : Bool :=
  l.zipIdx.all fun p =>
    let f := s.factSlice t p.2
    decide ((p.1.1 - f.1).natAbs ≤ 2 ^ 20) && decide (((p.1.2 : Int) - (f.2 : Int)).natAbs * 200 ≤ f.2)

/-- The estimator of tile `t` stops and keeps the last applied pairs (R117). -/
def State.freezeSlices (s : State) (t : Nat) : State :=
  (s.modTile t fun x => { x with frozen := true, goodRun := 0, slices := none }).put (R.CAL_STAT.SLC_FROZEN t) 1

/-- SLICE_BLOCK_END (R115 to R117): a block of 2^SBLK conversions is complete. -/
def execSliceBlockEnd (now : Nat) (tile : Fin 4) (s : State) : Out :=
  act boundaryParts now s fun s =>
    let t := tile.val
    let x := s.tile t
    let n := 2 ^ s.get R.CAL_SLCCFG.SBLK
    if x.block.length < n then s
    else
      let old := (List.range 8).map fun i => (sgn 32 (s.get (R.CAL_SOFS.SOFS t i)), s.get (R.CAL_SGAIN.SGAIN t i))
      let l := newSlices old (s.get R.CAL_SLCCFG.SW) (x.block.take n)
      let x := { x with block := x.block.drop n }
      if s.on R.CAL_SLCCFG.HOLD then (s.setTile t x).freezeSlices t
      else if !s.slicesOk t l then
        let s := if x.frozen then s else s.log1 L.SLC_IMPLAUS 2 t
        (s.setTile t x).freezeSlices t
      else if x.frozen ∧ x.goodRun + 1 < 4 then s.setTile t { x with goodRun := x.goodRun + 1 }
      else (s.setTile t { x with frozen := false, goodRun := 0, slices := some l }).put (R.CAL_STAT.SLC_FROZEN t) 0

/-! Runs -/

/-- CAL_REF_RECOVER (R119): 100 consecutive readings within 0.2 %. -/
def execCalRefRecover (now : Nat) (tile : Fin 4) (s : State) : Out :=
  act boundaryParts now s fun s =>
    if !s.on (R.CAL_STAT.REF_BAD tile) ∨ (s.tile tile).refGood < 100 then s else s.put (R.CAL_STAT.REF_BAD tile) 0

/-- The span level in counts at pair index `i` of tile `t`, from CAL_REFV and the stored ratio; class 1 measures the
level of i = 0 on a full scale of 10.24 V. -/
def State.spanLevel (s : State) (t i : Nat) : Rat :=
  let l : Rat := mkRat (s.inUse R.CAL_REFV.VREF) 1000000 * mkRat 1125 2560 * (2 ^ 23 : Nat) * s.ladder t i
  if i = 8 then l / 4 else l

/-- Z, P and N of a channel in run A (`b` = 0) or B (`b` = 3), in counts. -/
def CalRun.mean (r : CalRun) (c b l : Nat) : Rat :=
  let a : Int × Nat := Tbl.get (0, 0) (Tbl.get [] r.sums c) (b + l)
  if a.2 = 0 then 0 else mkRat a.1 (a.2 * 2 ^ 38)

/-- The first failing row of Table 5.2 for a channel of a finished run, with the accepted offset and gain. -/
def State.judge (s : State) (t : Nat) (r : CalRun) (c : Nat) : Option Nat × Rat × Rat :=
  let e := 96 * t + c
  let i := r.code
  let lev := s.spanLevel t i
  let oz (b : Nat) : Rat := r.mean c b 0
  let gain (b : Nat) : Rat := 2 * lev / (r.mean c b 1 - r.mean c b 2)
  let lin (b : Nat) : Rat := (r.mean c b 1 + r.mean c b 2) / 2 - oz b
  let within (x lim : Rat) : Bool := decide (x ≤ lim) && decide (-lim ≤ x)
  let v : View := s.inUse
  let o := (oz 0 + oz 3) / 2
  let k := (gain 0 + gain 3) / 2
  let ppm (n : Nat) (d : Nat) : Rat := mkRat n d
  let used : Rat := mkRat (s.get (R.CAL_UGAIN.GAIN e i)) (2 ^ 30)
  let drift := v (R.CAL_TOL2.DRIFT t)
  let ok (row : Nat) : Bool := match row with
    | 1 => within (oz 0 - oz 3) (v (R.CAL_TOL0.AGREE_OFS t) : Nat)
    | 2 => within (gain 0 - gain 3) (ppm (v (R.CAL_TOL0.AGREE_GAIN t)) 10000000)
    | 3 => within (lin 0) (v (R.CAL_TOL1.LIN_TOL t) : Nat) && within (lin 3) (v (R.CAL_TOL1.LIN_TOL t) : Nat)
    | 4 => within (o - mkRat (s.factOfs e i) 256) (v (R.CAL_TOL2.PLAUS_OFS t) : Nat)
    | 5 => within (k - s.factGain e i) (ppm (v (R.CAL_TOL1.PLAUS_GAIN t)) 1000000)
    | 6 => drift == 0 || within (k - used) (ppm drift 10000000)
    | _ => !r.refBad && !s.on (R.CAL_STAT.REF_BAD t) && decide (((s.tile t).tj - r.tj).natAbs ≤ 200)
  ([1, 2, 3, 4, 5, 6, 7].find? fun row => !ok row, o, k)

/-- A finished channel of a run: its pair is written and will be committed, or the failure is counted and logged, once
per channel and sweep (R124, R129). -/
def State.endChan (s : State) (t : Nat) (r : CalRun) (c : Nat) : State :=
  let e := 96 * t + c
  let i := r.code
  match s.judge t r c with
  | (some row, _, _) =>
    let s := s.bump (R.CAL_CNT.REJECT t)
    if (s.tile t).logged.contains c then s
    else
      let s := s.modTile t fun x => { x with logged := c :: x.logged }
      s.log1 (if row ≤ 2 then L.CAL_DISAGREE else L.CAL_IMPLAUS) 1 e row i
  | (none, o, k) =>
    let s := s.put (R.CAL_OFS.OFS e i) (unsgn 32 (clipS 32 (roundRat (o * 256))))
    let s := (s.put (R.CAL_GAIN.GAIN e i) (fix30 k)).setMark e i 3
    let s := (s.bump (R.CAL_CNT.ACCEPT t)).put (R.CAL_TJ.TJ t) (unsgn 16 (s.tile t).tj)
    ({ s with commits := { s.commits with cal := s.commits.cal ||| 2 ^ t } }).put (R.CAL_STAT.PENDING t) 1

/-- CAL_RUN_END (R123, R124): runs A and B of a batch are complete. -/
def execCalRunEnd (now : Nat) (tile : Fin 4) (s : State) : Out :=
  act boundaryParts now s fun s =>
    let t := tile.val
    match (s.tile t).run with
    | none => s
    | some r =>
      if !r.ended then s
      else
        let s := s.each r.chans fun s c => s.endChan t r c
        let s := (s.modTile t fun x => { x with run := none }).put (R.CAL_STAT.SWEEPING t) 0
        s.passOver t

/-- Channels that CAL_REQM of tile `t` selects. -/
def State.reqChans (s : State) (t : Nat) : List Nat :=
  (List.range 96).filter fun c => hasBit (s.get (R.CAL_REQM.MASK t (c / 32))) (c % 32)

/-- A write to CAL_START (R126): ignored on a tile whose MODE is not REQUEST. -/
def State.calStart (s : State) (q : Requester) (data : Word) : State :=
  s.cmdWrite q R.CAL_START.addr 0xF data fun s =>
    s.each tiles4 fun s t =>
      if !hasBit data.toNat t ∨ s.inUse (R.CAL_CFG.MODE t) ≠ 2 then s
      else
        let todo := calPass s.inUse t (s.reqChans t)
        (s.modTile t fun x => { x with todo := todo, pass := true, logged := [] }).passOver t

/-- CAL_START (R126): a write to the register. -/
def execCalStart (now : Nat) (req : Requester) (data : Word) (s : State) : Out :=
  act boundaryParts now s fun s => s.calStart req data

/-- A write to CAL_COMMIT (R128, R129): software commits of a tile whose shadows the engine owns are ignored. -/
def State.calCommit (s : State) (q : Requester) (data : Word) : State :=
  s.cmdWrite q R.CAL_COMMIT.addr 0xF data fun s =>
    s.each tiles4 fun s t =>
      if !hasBit data.toNat t then s
      else if s.inUse (R.CAL_CFG.MODE t) ≠ 0 then s.bump (R.CAL_CNT2.WIGN t)
      else ({ s with commits := { s.commits with cal := s.commits.cal ||| 2 ^ t } }).put (R.CAL_STAT.PENDING t) 1

/-- CAL_COMMIT (R128): a write to the register. -/
def execCalCommit (now : Nat) (req : Requester) (data : Word) (s : State) : Out :=
  act boundaryParts now s fun s => s.calCommit req data

/-- CAL_TEMP_CHECK (R133): once a second each tile's junction is held against CAL_TJ. -/
def execCalTempCheck (now : Nat) (s : State) : Out :=
  act boundaryParts now s fun s =>
    if s.now < s.cal.tempAt + secU then s
    else
      let s := { s with cal := { s.cal with tempAt := s.now } }
      s.each tiles4 fun s t =>
        let x := s.tile t
        let far := decide (1000 < (x.tj - sgn 16 (s.get (R.CAL_TJ.TJ t))).natAbs)
        let s := if far && !x.drifted then s.log1 L.CAL_TEMP_DRIFT 2 t else s
        s.modTile t fun x => { x with drifted := far }

/-! Burns (R134) -/

/-- The words of user generation `k` from the pairs taken. -/
def State.genWords (s : State) (k : Nat) : List Nat :=
  let recs := (List.range 384).map fun e =>
    let p : Nat × Nat × Nat × Nat := Tbl.get (0, 0, 0, 0) s.cal.taken e
    let o := unsgn 22 (clipS 22 (divRound (sgn 32 p.1) 64))
    let g := unsgn 22 (clipS 22 ((p.2.1 : Int) - 2 ^ 30))
    let cls := if p.2.2.1 = 8 then 2 ^ 47 else p.2.2.1 * 2 ^ 44
    (p.2.2.2, o + g * 2 ^ 22 + cls + p.2.2.2 * 2 ^ 48)
  let area := recs.zipIdx.foldl (fun a x => a + x.1.2 * 2 ^ (60 * x.2)) 0
  let body := (List.range 720).map fun w => area / 2 ^ (32 * w) % 2 ^ 32
  let sec := secOf (s.wbNow 0)
  let tj (t : Nat) : Nat := unsgn 16 (s.tile t).tj
  let head := [0x4341 + 2 ^ 16 + k * 2 ^ 24, s.inUse R.CAL_REFV.VREF, s.get (R.CAL_REFID.ID 0), s.get (R.CAL_REFID.ID 1),
    sec % 2 ^ 32, sec / 2 ^ 32 % 2 ^ 16, tj 0 + 2 ^ 16 * tj 1, tj 2 + 2 ^ 16 * tj 3, recs.foldl (fun a r => a + r.1) 0]
    ++ List.replicate 37 0
  head ++ [wordsCrc (head ++ body), fuseCommit] ++ body

/-- Burn bits: a fuse bit once 1 stays 1, and the bits listed by word and number did not take. -/
def State.burnWord (s : State) (w v : Nat) (missed : List (Nat × Nat)) : State :=
  let lost := (missed.filter fun m => m.1 == w).foldl (fun a m => a ||| 2 ^ m.2) 0
  let v : Word := BitVec.ofNat 32 v &&& ~~~ BitVec.ofNat 32 lost
  { s with fuse := Tbl.set 0 s.fuse w (Tbl.get 0 s.fuse w ||| v) }

/-- A write to CAL_BURN (R134): GO with the key starts a burn of the lowest blank user generation; `vdd18` is the supply in
mV. -/
def State.calBurn (s : State) (q : Requester) (data : Word) (vdd18 : Nat) : State :=
  s.mediated q R.CAL_BURN.addr 0x1FFFF data q.isEngineer fun s =>
    let v := data.toNat
    if v % 2 ^ 16 ≠ 0x6E5D ∨ !hasBit v 16 ∨ s.on R.CAL_BURNST.BUSY then s
    else match [1, 2, 3].find? fun k => s.genState k == 0 with
      | none => (s.put R.CAL_BURNST.RESULT 2).log1 L.FUSE_FULL
      | some k =>
        if vdd18 < 1750 ∨ s.commits.cal ≠ 0
            ∨ tiles4.any (fun t => decide ((s.tile t).tj < 0) || decide (8500 < (s.tile t).tj)) then
          s.put R.CAL_BURNST.RESULT 3
        else
          let s := (s.put R.CAL_BURNST.BUSY 1).put R.CAL_BURNST.GEN k
          let s := { s with cal := { s.cal with burn := some (k, s.now), burnTiles := 15, taken := [] } }
          -- a tile without frames has no boundary to wait for
          s.each tiles4 fun s t => if (s.tile t).framed then s else s.takePairs t

/-- CAL_BURN (R134): a write to the register. -/
def execCalBurn (now : Nat) (req : Requester) (data : Word) (vdd18 : Nat) (s : State) : Out :=
  act { boundaryParts with fuse := true } now s fun s => s.calBurn req data vdd18

/-- CAL_BURN_END (R134): the generation is burned, read back and judged; `missed` lists the bits, by word of the
generation and number, that did not take. -/
def execCalBurnEnd (now : Nat) (missed : List (Nat × Nat)) (s : State) : Out :=
  act { boundaryParts with fuse := true } now s fun s =>
    match s.cal.burn with
    | none => s
    | some (k, _) =>
      if s.cal.burnTiles ≠ 0 then s
      else
        let ws := s.genWords k
        let b := 0x300 * k
        let s := s.each ws.zipIdx fun s x => s.burnWord (b + x.2) x.1 (missed.map fun m => (b + m.1, m.2))
        let ok := ws.zipIdx.all fun x => s.fuseWord (b + x.2) == x.1
        let s := { s with cal := { s.cal with burn := none, burnTiles := 0, taken := [] } }
        let g := s.genState k
        let s := s.put (if k = 1 then R.CAL_FUSEST.GEN1 else if k = 2 then R.CAL_FUSEST.GEN2 else R.CAL_FUSEST.GEN3) g
        let s := (s.put R.CAL_BURNST.BUSY 0).put R.CAL_BURNST.RESULT (if ok then 1 else 4)
        s.log1 (if ok then L.FUSE_BURN_OK else L.FUSE_BURN_FAIL) 8 k

end Sys2Proof.Machine
end

