-- ==== Sys2Proof/Machine/Gzip.lean ====
section
/-! DEFINITION. The gzip members of the compression engines: the pre-shuffle (R231), the member as produced (R232 to
R237) and the decoder with its error codes (R240 to R243). -/

namespace Sys2Proof.Machine

/-! The pre-shuffle -/

/-- Delta per lane (R231): d_i = w_i − w_{i−STRIDE}, and w_i for the first record. -/
def shufDelta (stride : Nat) (ws : List Nat) : List Nat :=
  List.zipWith (fun w p => (w + 2 ^ 32 - p) % 2 ^ 32) ws (List.replicate stride 0 ++ ws)

/-- The words in lane order: lane 0 of every record, then lane 1, and so on (R231). -/
def laneOrder (stride : Nat) (ws : List Nat) : List Nat :=
  (List.range stride).flatMap fun j =>
    (List.range (if stride = 0 then 0 else ws.length / stride)).map fun r => ws.getD (r * stride + j) 0

/-- Byte `b` of a word, byte 0 the most significant. -/
def byteOf (b w : Nat) : Byte := BitVec.ofNat 8 (w / 2 ^ (8 * (3 - b)))

/-- The bytes that the compressor deflates: the words after delta (SHUF bit 0) and byte plane (SHUF bit 1). -/
def shuffle (shuf stride : Nat) (ws : List Nat) : List Byte :=
  let d := if shuf % 2 = 1 then shufDelta stride ws else ws
  if shuf / 2 % 2 = 1 then [0, 1, 2, 3].flatMap fun b => (laneOrder stride d).map (byteOf b)
  else d.flatMap (beBytes 4)

/-- Undo the delta: w_i = d_i + w_{i−STRIDE}, `win` holding the last record's words (R241). -/
def undoDelta : List Nat → List Nat → List Nat
  | _, [] => []
  | [], d :: ds => d :: undoDelta [] ds
  | p :: win, d :: ds => ((d + p) % 2 ^ 32) :: undoDelta (win ++ [(d + p) % 2 ^ 32]) ds

/-- The words that shuffled bytes came from (R241). -/
def unshuffle (shuf stride : Nat) (bs : List Byte) : List Nat :=
  let m := bs.length / 4
  let recs := if stride = 0 then 0 else m / stride
  let d := if shuf / 2 % 2 = 1 then
      (List.range m).map fun i =>
        let k := i % stride * recs + i / stride
        beNat ((List.range 4).map fun b => bs.getD (b * m + k) 0)
    else (List.range m).map fun i => beNat (slice bs (4 * i) 4)
  if shuf % 2 = 1 then undoDelta (List.replicate stride 0) d else d

/-! DEFLATE -/

/-- A DEFLATE token: a literal, or a match of a length at a distance. -/
inductive Token where
  | lit (b : Byte)
  | copy (len dist : Nat)
  deriving DecidableEq, Repr

/-- The tokens that FAST (false) or DENSE (true) chooses for a block, given the bytes before it, newest first: R232 and
R233 do not give the hash that names the candidates, so the choice is open. -/
opaque Config.tokens : Bool → List Byte → List Byte → List Token

/-- The dynamic block that DENSE offers for a block's tokens: the code lengths are not given. The bits with BFINAL
clear, most significant in time first. -/
opaque Config.dynamicBlock : List Token → List Bool

/-- Bytes that a list of tokens yields after `out` (newest first); none where a token is not allowed: a match of 3 to
258 bytes that reaches back at most 32,768 bytes and no further than the data. -/
def expandTokens : List Token → List Byte → Option (List Byte)
  | [], out => some out
  | .lit b :: ts, out => expandTokens ts (b :: out)
  | .copy len dist :: ts, out =>
    if 3 ≤ len ∧ len ≤ 258 ∧ 1 ≤ dist ∧ dist ≤ 32768 ∧ dist ≤ out.length then
      expandTokens ts ((List.range len).foldl (fun o _ => o.getD (dist - 1) 0 :: o) out)
    else none

/-- The tokens of a block behind the bytes `hist` (newest first): the engine's choice where it spells the block, literals
otherwise. -/
def tokensFor (dense : Bool) (hist bs : List Byte) : List Token :=
  let ts := Config.tokens dense hist bs
  if expandTokens ts hist = some (bs.reverse ++ hist) then ts else bs.map .lit

/-- The `n` low bits of `v`, least significant first. -/
def bitsLsb (n v : Nat) : List Bool := (List.range n).map fun i => v / 2 ^ i % 2 == 1

/-- The `n` low bits of `v`, most significant first (Huffman codes). -/
def bitsMsb (n v : Nat) : List Bool := (bitsLsb n v).reverse

/-- Base lengths and extra bits of the length symbols 257 to 285 (RFC 1951). -/
def lenBase : List Nat :=
  [3, 4, 5, 6, 7, 8, 9, 10, 11, 13, 15, 17, 19, 23, 27, 31, 35, 43, 51, 59, 67, 83, 99, 115, 131, 163, 195, 227, 258]
def lenExtra : List Nat :=
  [0, 0, 0, 0, 0, 0, 0, 0, 1, 1, 1, 1, 2, 2, 2, 2, 3, 3, 3, 3, 4, 4, 4, 4, 5, 5, 5, 5, 0]

/-- Base distances and extra bits of the distance symbols 0 to 29 (RFC 1951). -/
def distBase : List Nat :=
  [1, 2, 3, 4, 5, 7, 9, 13, 17, 25, 33, 49, 65, 97, 129, 193, 257, 385, 513, 769, 1025, 1537, 2049, 3073, 4097, 6145,
   8193, 12289, 16385, 24577]
def distExtra : List Nat :=
  [0, 0, 0, 0, 1, 1, 2, 2, 3, 3, 4, 4, 5, 5, 6, 6, 7, 7, 8, 8, 9, 9, 10, 10, 11, 11, 12, 12, 13, 13]

/-- The place of the last base that is at most `v`. -/
def symbolFor (base : List Nat) (v : Nat) : Nat := (base.filter (· ≤ v)).length - 1

/-- The fixed Huffman code of a literal/length symbol (RFC 1951). -/
def fixedCode (sym : Nat) : List Bool :=
  if sym < 144 then bitsMsb 8 (0x30 + sym)
  else if sym < 256 then bitsMsb 9 (0x190 + (sym - 144))
  else if sym < 280 then bitsMsb 7 (sym - 256)
  else bitsMsb 8 (0xC0 + (sym - 280))

/-- The bits of a token under the fixed codes. -/
def fixedToken : Token → List Bool
  | .lit b => fixedCode b.toNat
  | .copy len dist =>
    let i := if len = 258 then 28 else symbolFor lenBase len
    let j := symbolFor distBase dist
    fixedCode (257 + i) ++ bitsLsb (lenExtra.getD i 0) (len - lenBase.getD i 0)
      ++ bitsMsb 5 j ++ bitsLsb (distExtra.getD j 0) (dist - distBase.getD j 0)

/-- Input bytes that a token covers. -/
def Token.covers : Token → Nat
  | .lit _ => 1
  | .copy len _ => len

/-- A piece of a member on its way out: its bits, and the input bytes that are covered once it is written. -/
abbrev Piece := List Bool × Nat

/-- A fixed block (BTYPE 01). -/
def fixedBlock (final : Bool) (ts : List Token) : List Piece :=
  ([final, true, false], 0) :: ts.map (fun t => (fixedToken t, t.covers)) ++ [(fixedCode 256, 0)]

/-- Bits of a list of pieces. -/
def pieceBits (ps : List Piece) : Nat := ps.foldl (fun n p => n + p.1.length) 0

/-- A stored block (BTYPE 00) that begins at bit `pos`. -/
def storedBlock (final : Bool) (pos : Nat) (bs : List Byte) : List Piece :=
  let pad := (8 - (pos + 3) % 8) % 8
  ([final, false, false] ++ List.replicate pad false ++ bitsLsb 16 bs.length ++ bitsLsb 16 (65535 - bs.length), 0)
    :: bs.map fun b => (bitsLsb 8 b.toNat, 1)

/-! The decoder -/

/-- Answers of the decoder: a value, or an error code with its BITPOS (Table 9.3). -/
abbrev Inf (α : Type) := Except (Nat × Nat) α

/-- `n` bits at bit `pos`, least significant first; TRUNCATED past the end. -/
def readBits (d : Array Byte) (pos n : Nat) : Inf Nat :=
  if pos + n > 8 * d.size then .error (6, 8 * d.size)
  else .ok ((List.range n).foldl
    (fun a i => a + (d.getD ((pos + i) / 8) 0).toNat / 2 ^ ((pos + i) % 8) % 2 * 2 ^ i) 0)

/-- Codes left over by a set of code lengths up to 15 bits: negative when over-subscribed, 0 when complete. -/
def codeLeft (lens : List Nat) : Int :=
  (List.range 15).foldl (fun l k => 2 * l - ((lens.filter (· == k + 1)).length : Int)) 1

/-- Over-subscribed at some length. -/
def overSubscribed (lens : List Nat) : Bool :=
  (List.range 16).any fun n =>
    decide ((List.range n).foldl (fun l k => 2 * l - ((lens.filter (· == k + 1)).length : Int)) (1 : Int) < 0)

/-- Symbols of a canonical code in code order: by length, then by number. -/
def codeSymbols (lens : List Nat) (len : Nat) : List Nat :=
  (List.range lens.length).filter fun i => lens.getD i 0 == len

/-- Decode one symbol of the canonical code `lens` at `pos`, bit by bit; answers the symbol and the next position. A
pattern that no code word has is illegal at the word's first bit. -/
def decodeSym (d : Array Byte) (lens : List Nat) (at_ : Nat) : Nat → Nat → Nat → Nat → Nat → Inf (Nat × Nat)
  | 0, _, _, _, _ => .error (1, at_)
  | fuel + 1, pos, len, code, first =>
    match readBits d pos 1 with
    | .error e => .error e
    | .ok b =>
      let code := 2 * code + b
      let first := 2 * first
      let syms := codeSymbols lens len
      if first ≤ code ∧ code - first < syms.length then .ok (syms.getD (code - first) 0, pos + 1)
      else decodeSym d lens at_ fuel (pos + 1) (len + 1) code (first + syms.length)

/-- Decode one symbol at `pos`. -/
def nextSym (d : Array Byte) (lens : List Nat) (pos : Nat) : Inf (Nat × Nat) := decodeSym d lens pos 15 pos 1 0 0

/-- What the decoder has produced: bytes, newest first, and the next bit. -/
structure InfSt where
  out : List Byte
  pos : Nat
  deriving DecidableEq, Repr

/-- The symbols of one block under a literal/length and a distance code, until symbol 256 (R242, R243). -/
def infCodes (d : Array Byte) (space : Nat) (ll dl : List Nat) : Nat → InfSt → Inf InfSt
  | 0, x => .error (6, x.pos)
  | fuel + 1, x => do
    let (sym, p) ← nextSym d ll x.pos
    if sym < 256 then
      if x.out.length + 1 > space then .error (9, x.pos)
      else infCodes d space ll dl fuel { out := BitVec.ofNat 8 sym :: x.out, pos := p }
    else if sym = 256 then .ok { x with pos := p }
    else if sym > 285 then .error (1, x.pos)
    else do
      let ex ← readBits d p (lenExtra.getD (sym - 257) 0)
      let len := lenBase.getD (sym - 257) 0 + ex
      let q := p + lenExtra.getD (sym - 257) 0
      let (ds, r) ← nextSym d dl q
      if ds > 29 then .error (1, q)
      else do
        let dx ← readBits d r (distExtra.getD ds 0)
        let dist := distBase.getD ds 0 + dx
        if dist > x.out.length then .error (2, q)
        else if x.out.length + len > space then .error (9, x.pos)
        else
          let out := (List.range len).foldl (fun o _ => o.getD (dist - 1) 0 :: o) x.out
          infCodes d space ll dl fuel { out := out, pos := r + distExtra.getD ds 0 }

/-- The order in which code-length code lengths are sent (RFC 1951). -/
def clOrder : List Nat := [16, 17, 18, 0, 8, 7, 9, 6, 10, 5, 11, 4, 12, 3, 13, 2, 14, 1, 15]

/-- The HLIT + HDIST code lengths; each with the position of the code word that gave it (R242). -/
def readLens (d : Array Byte) (cl : List Nat) (total : Nat) : Nat → List (Nat × Nat) → Nat → Inf (List (Nat × Nat) × Nat)
  | 0, _, pos => .error (6, pos)
  | fuel + 1, acc, pos =>
    if acc.length ≥ total then .ok (acc, pos)
    else do
      let (sym, p) ← nextSym d cl pos
      if sym < 16 then readLens d cl total fuel (acc ++ [(sym, pos)]) p
      else if sym = 16 ∧ acc.isEmpty then .error (1, pos)
      else do
        let nb := if sym = 16 then 2 else if sym = 17 then 3 else 7
        let ex ← readBits d p nb
        let rep := (if sym = 18 then 11 else 3) + ex
        let v := if sym = 16 then (acc.getLast?.map (·.1)).getD 0 else 0
        if acc.length + rep > total then .error (3, pos)
        else readLens d cl total fuel (acc ++ List.replicate rep (v, pos)) (p + nb)

/-- Code lengths of the fixed codes. -/
def fixedLens : List Nat :=
  List.replicate 144 8 ++ List.replicate 112 9 ++ List.replicate 24 7 ++ List.replicate 8 8

/-- The stored bytes of a block. -/
def infStored (d : Array Byte) (space : Nat) : Nat → InfSt → Inf InfSt
  | 0, x => .ok x
  | n + 1, x => do
    let b ← readBits d x.pos 8
    if x.out.length + 1 > space then .error (9, x.pos)
    else infStored d space n { out := BitVec.ofNat 8 b :: x.out, pos := x.pos + 8 }

/-- A dynamic block behind its three header bits (R242). -/
def infDynamic (d : Array Byte) (space : Nat) (x : InfSt) : Inf InfSt := do
  let hlit ← readBits d x.pos 5
  if hlit + 257 > 286 then .error (1, x.pos)
  else do
    let hdist ← readBits d (x.pos + 5) 5
    if hdist + 1 > 30 then .error (1, x.pos + 5)
    else do
      let hclen ← readBits d (x.pos + 10) 4
      let p := x.pos + 14
      let raw ← (List.range (hclen + 4)).mapM fun i => readBits d (p + 3 * i) 3
      let cl := (List.range 19).map fun sym =>
        ((List.range (hclen + 4)).find? fun i => clOrder.getD i 0 == sym).elim 0 fun i => raw.getD i 0
      if overSubscribed cl || codeLeft cl != 0 then .error (1, p)
      else do
        let q := p + 3 * (hclen + 4)
        let (ls, r) ← readLens d cl (hlit + 257 + hdist + 1) 320 [] q
        let ll := (ls.take (hlit + 257)).map (·.1)
        let dl := (ls.drop (hlit + 257)).map (·.1)
        let dpos := ((ls.drop (hlit + 257)).head?.map (·.2)).getD r
        let single := dl.filter (· != 0) == [1]
        if overSubscribed ll || codeLeft ll != 0 || ll.getD 256 0 == 0 then .error (1, q)
        else if overSubscribed dl || (codeLeft dl != 0 && !single) then .error (1, dpos)
        else infCodes d space ll dl (8 * d.size + 1) { x with pos := r }

/-- The blocks of a DEFLATE stream. -/
def infBlocks (d : Array Byte) (space : Nat) : Nat → InfSt → Inf InfSt
  | 0, x => .error (6, x.pos)
  | fuel + 1, x => do
    let h ← readBits d x.pos 3
    let y ← match h / 2 with
      | 0 => do
        let p := (x.pos + 3 + 7) / 8 * 8
        let len ← readBits d p 16
        let nlen ← readBits d (p + 16) 16
        if len + nlen ≠ 65535 then .error (5, p + 16)
        else infStored d space len { x with pos := p + 32 }
      | 1 => infCodes d space fixedLens (List.replicate 30 5 ++ [5, 5]) (8 * d.size + 1) { x with pos := x.pos + 3 }
      | 2 => infDynamic d space { x with pos := x.pos + 3 }
      | _ => .error (4, x.pos)
    if h % 2 = 1 then .ok y else infBlocks d space fuel y

/-! Members -/

/-- Whether bits of one dynamic block, ended by BFINAL, decode to `bs` behind `hist` (bytes before, newest first). -/
def dynamicOk (bits : List Bool) (hist bs : List Byte) : Bool :=
  let bytes := (chunks 8 (bits.length + 1) bits).map fun c =>
    (BitVec.ofNat 8 (c.foldr (fun b a => (if b then 1 else 0) + 2 * a) 0) : Byte)
  match bits with
  | f :: a :: b :: _ =>
    !f && !a && b &&
    (match infDynamic bytes.toArray (hist.length + bs.length) { out := hist, pos := 3 } with
     | .ok y => y.out == bs.reverse ++ hist && y.pos == bits.length
     | .error _ => false)
  | _ => false

/-- The dynamic block of DENSE, if the engine offers one that spells the block. -/
def dynamicPieces (final : Bool) (ts : List Token) (hist bs : List Byte) : Option (List Piece) :=
  let bits := Config.dynamicBlock ts
  if dynamicOk bits hist bs then some [(final :: bits.drop 1, bs.length)] else none

/-- The shortest of the three encodings of a DENSE block at bit `pos` behind the bytes `hist`: on a tie fixed before
dynamic before stored (R233). Its matches may reach into earlier blocks of the job. -/
def denseBlock (final : Bool) (pos : Nat) (hist bs : List Byte) : List Piece :=
  let ts := tokensFor true hist bs
  let fx := fixedBlock final ts
  let st := storedBlock final pos bs
  let best := match dynamicPieces final ts hist bs with
    | some dy => if pieceBits dy < pieceBits fx then dy else fx
    | none => fx
  if pieceBits st < pieceBits best then st else best

/-- The blocks of DENSE, each of 16,384 bytes but the last (R233). -/
def denseBlocks : List (List Byte) → Nat → List Byte → List Piece
  | [], _, _ => []
  | [b], pos, hist => denseBlock true pos hist b
  | b :: bs, pos, hist =>
    let ps := denseBlock false pos hist b
    ps ++ denseBlocks bs (pos + pieceBits ps) (b.reverse ++ hist)

/-- The DEFLATE data of a member that begins at bit `pos`; empty input gives one final fixed block with only the
end-of-block code in both modes (R236). -/
def deflate (dense : Bool) (pos : Nat) (bs : List Byte) : List Piece :=
  if bs.isEmpty then fixedBlock true []
  else if dense then denseBlocks (chunks 16384 (bs.length + 1) bs) pos []
  else fixedBlock true (tokensFor false [] bs)

/-- Bits of bytes, least significant first. -/
def byteBits (bs : List Byte) : List Bool := bs.flatMap fun b => bitsLsb 8 b.toNat

/-- Header bytes of a member (Tables 9.1 and 9.2). -/
def gzHeader (dense : Bool) (shuf stride origCrc : Nat) : List Byte :=
  [0x1F, 0x8B, 8, if shuf = 0 then 0 else 4, 0, 0, 0, 0, if dense then 2 else 4, 255]
    ++ (if shuf = 0 then []
        else leBytes 2 12 ++ [0x47, 0x50] ++ leBytes 2 8 ++ [1] ++ leBytes 1 shuf ++ leBytes 2 stride
          ++ leBytes 4 origCrc)

/-- The member of an input as pieces (R235). -/
def memberPieces (dense : Bool) (shuf stride : Nat) (orig : List Byte) : List Piece :=
  let bs := if shuf = 0 then orig else shuffle shuf stride ((chunks 4 orig.length orig).map beNat)
  let head := gzHeader dense shuf stride (crc32 orig)
  let body := deflate dense (8 * head.length) bs
  let n := 8 * head.length + pieceBits body
  let pad := (8 - n % 8) % 8
  (byteBits head, 0) :: body
    ++ [(List.replicate pad false, 0), (byteBits (leBytes 4 (crc32 bs) ++ leBytes 4 bs.length), 0)]

/-- Input bytes covered by the pieces written in full within `space` bits (R237). -/
def coveredWithin (space : Nat) : List Piece → Nat → Nat
  | [], _ => 0
  | p :: ps, n => if n + p.1.length ≤ space then p.2 + coveredWithin space ps (n + p.1.length) else 0

/-- The bytes of a list of bits, the last one filled with zeros. -/
def packBits (bits : List Bool) : List Byte :=
  (chunks 8 (bits.length + 1) bits).map fun c =>
    BitVec.ofNat 8 (c.foldr (fun b a => (if b then 1 else 0) + 2 * a) 0)

/-- What a job ends with: a code, output bytes, input bytes consumed, bytes after the trailer, BITPOS of an error. -/
structure JobResult where
  code : Nat
  out : List Byte := []
  consumed : Nat := 0
  spare : Nat := 0
  bitpos : Nat := 0
  deriving DecidableEq, Repr

/-- Compress an input into at most `space` bytes (R237). -/
def compress (dense : Bool) (shuf stride : Nat) (bs : List Byte) (space : Nat) : JobResult :=
  let ps := memberPieces dense shuf stride bs
  if pieceBits ps ≤ 8 * space then { code := 0, out := packBits (ps.flatMap (·.1)), consumed := bs.length }
  else
    let c := coveredWithin (8 * space) ps 0
    { code := 9, consumed := c }

/-- Bytes up to and with the next zero byte from `pos` (bits). -/
def skipName (d : Array Byte) : Nat → Nat → Inf Nat
  | 0, pos => .error (6, pos)
  | fuel + 1, pos => do
    let b ← readBits d pos 8
    if b = 0 then .ok (pos + 8) else skipName d fuel (pos + 8)

/-- The subfield 0x47 0x50 of an extra field of `len` bytes at bit `pos`: the bit where its data begins (R241). -/
def findSubfield (d : Array Byte) : Nat → Nat → Nat → Option Nat
  | 0, _, _ => none
  | fuel + 1, pos, len =>
    if len < 4 then none
    else
      let b (i : Nat) : Nat := (d.getD (pos / 8 + i) 0).toNat
      let n := b 2 + 256 * b 3
      if b 0 = 0x47 ∧ b 1 = 0x50 ∧ n = 8 ∧ 12 ≤ len then some (pos + 32)
      else findSubfield d fuel (pos + 8 * (4 + n)) (len - (4 + n))

/-- The gzip header (R240): answers where the DEFLATE data begins and where the pre-shuffle's parameters stand. -/
def gzParse (d : Array Byte) (unshuf : Bool) : Inf (Nat × Option Nat) := do
  let id1 ← readBits d 0 8
  if id1 ≠ 0x1F then throw (1, 0)
  let id2 ← readBits d 8 8
  if id2 ≠ 0x8B then throw (1, 8)
  let cm ← readBits d 16 8
  if cm ≠ 8 then throw (1, 16)
  let flg ← readBits d 24 8
  if flg / 32 ≠ 0 then throw (1, 24)
  let _ ← readBits d 32 48
  let (p, sub) ← (if flg / 4 % 2 = 1 then do
      let xlen ← readBits d 80 16
      let _ ← readBits d 96 (8 * xlen)
      pure (96 + 8 * xlen, findSubfield d (xlen + 1) 96 xlen)
    else pure (80, none) : Inf (Nat × Option Nat))
  let _ ← (match unshuf, sub with
    | true, none => throw (1, if flg / 4 % 2 = 1 then 80 else 24)
    | true, some q => if (d.getD (q / 8) 0).toNat ≠ 1 then throw (1, q) else pure ()
    | _, _ => pure () : Inf Unit)
  let p ← (if flg / 8 % 2 = 1 then skipName d (d.size + 1) p else pure p : Inf Nat)
  let p ← (if flg / 16 % 2 = 1 then skipName d (d.size + 1) p else pure p : Inf Nat)
  let p ← (if flg / 2 % 2 = 1 then do
      let c ← readBits d p 16
      if c ≠ crc32 (d.toList.take (p / 8)) % 65536 then throw (7, p)
      pure (p + 16)
    else pure p : Inf Nat)
  pure (p, sub)

/-- Decompress the member at the start of an input (R240 to R243): the output bytes and the bytes read. -/
def gunzip (d : Array Byte) (unshuf : Bool) (space : Nat) : Inf (List Byte × Nat) := do
  let (p, sub) ← gzParse d unshuf
  let x ← infBlocks d space (8 * d.size + 1) { out := [], pos := p }
  let q := (x.pos + 7) / 8 * 8
  let bs := x.out.reverse
  let c ← readBits d q 32
  if c ≠ crc32 bs then throw (7, q)
  let n ← readBits d (q + 32) 32
  if n ≠ bs.length % 2 ^ 32 then throw (8, q + 32)
  match unshuf, sub with
  | true, some u =>
    let shuf := (d.getD (u / 8 + 1) 0).toNat
    let stride := (d.getD (u / 8 + 2) 0).toNat + 256 * (d.getD (u / 8 + 3) 0).toNat
    if stride = 0 ∨ bs.length % (4 * stride) ≠ 0 then throw (1, q + 32)
    let ws := unshuffle shuf stride bs
    let out := ws.flatMap (beBytes 4)
    let o := leNat (slice d.toList (u / 8 + 4) 4)
    if o ≠ crc32 out then throw (7, u + 32)
    pure (out, (q + 64) / 8)
  | _, _ => pure (bs, (q + 64) / 8)

/-- A decompression job's result. -/
def decompress (bs : List Byte) (unshuf : Bool) (space : Nat) : JobResult :=
  match gunzip bs.toArray unshuf space with
  | .ok (out, used) => { code := 0, out := out, consumed := used, spare := min 255 (bs.length - used) }
  | .error (code, pos) => { code := code, consumed := min bs.length ((pos + 7) / 8), bitpos := pos }

end Sys2Proof.Machine
end

