-- ==== Sys2Proof/Machine/Compress.lean ====
section
/-! DEFINITION. The jobs of the compression engines (R227 to R230, R237, R238, R244 to R246, R248). Engines 0 to 3 are
C0 to C3, 4 and 5 are D0 and D1. -/

namespace Sys2Proof.Machine

/-- The engine table entry. -/
def State.engine (s : State) (e : Nat) : Option EngJob := Tbl.get none s.cmp.eng e

/-- CMP_STAT follows the engines and the waiting pull jobs. -/
def State.cmpStat (s : State) : State :=
  let b (e : Nat) : Nat := if (s.engine e).isSome then 1 else 0
  let s := s.put R.CMP_STAT.BUSYC (b 0 + 2 * b 1 + 4 * b 2 + 8 * b 3)
  let s := s.put R.CMP_STAT.BUSYD (b 4 + 2 * b 5)
  s.put R.CMP_STAT.PULLWAIT s.cmp.pulls.length

/-- The state with an engine's job replaced. -/
def State.setEngine (s : State) (e : Nat) (j : Option EngJob) : State :=
  ({ s with cmp := { s.cmp with eng := Tbl.set none s.cmp.eng e j } }).cmpStat

/-- A job ends with a code: the counts, and CMP_FAIL for a code other than 0 and CANCELLED (R248). -/
def State.countJob (s : State) (slot : Option Nat) (code : Nat) : State :=
  if code = 0 then s.bump R.CMP_CNT0.JOBS
  else
    let s := s.bump R.CMP_CNT0.FAILS
    let s := if code = 9 then s.bump R.CMP_CNT1.OOS else s
    if code = 11 then s
    else match slot with
      | some j => s.logCycle L.CMP_FAIL 8 j code
      | none => s.logCycle L.CMP_FAIL 0 0 code

/-- A slot reaches DONE with its results (Table 9.6). -/
def State.finishSlot (s : State) (j code outlen consumed spare aux : Nat) : State :=
  let s := (s.put (R.CMP_J_ST.STATE j) 3).put (R.CMP_J_ST.CODE j) code
  let s := s.put (R.CMP_J_OUT.OUTLEN j) outlen
  let s := (s.put (R.CMP_J_USED.CONSUMED j) consumed).put (R.CMP_J_USED.SPARE j) spare
  let s := s.put (R.CMP_J_AUX.AUX j) aux
  let s := s.put R.CMP_DONE.SLOT (s.get R.CMP_DONE.SLOT ||| 2 ^ j)
  (s.hint 2).countJob (some j) code

/-- Output space of a slot (R237). -/
def State.slotSpace (s : State) (j : Nat) : Nat :=
  min (s.get (R.CMP_J_D4.OUTMAX j)) (16384 - 4 * s.get (R.CMP_J_D0.PREFIX j))

/-- BAD_JOB at submission by a requester of class `cls`, but for the protection check (R229, R230, Table 9.5). -/
def State.badJob (s : State) (j : Nat) : Bool :=
  let op := s.get (R.CMP_J_D0.OP j)
  let q := s.get (R.CMP_J_D0.QUEUE j)
  let pre := s.get (R.CMP_J_D0.PREFIX j)
  let stride := s.get (R.CMP_J_D3.STRIDE j)
  let inlen := s.get (R.CMP_J_D2.INLEN j)
  let outmax := s.get (R.CMP_J_D4.OUTMAX j)
  decide (2 ≤ op) || decide (q < 65) || decide (79 < q) || s.inUse (R.QUE_Q_CFG.SIZE q) == 0
  || s.inUse (R.QUE_Q_CFG.PKT q) == 0 || decide (8 < pre)
  || (s.on (R.CMP_J_D0.PATCH_EN j) && decide (pre ≤ s.get (R.CMP_J_D0.PATCH j)))
  || (op == 0 && s.get (R.CMP_J_D0.SHUF j) != 0 && (stride == 0 || inlen % (4 * stride) != 0))
  || outmax == 0 || decide (16384 < outmax)
  || decide (dramBytes < 4 * s.get (R.CMP_J_D1.SRC j) + inlen)

/-- Whether the windows of class `cls` allow the job's source (R360); an empty input reads nothing. -/
def State.sourceOk (s : State) (cls j : Nat) : Bool :=
  s.get (R.CMP_J_D2.INLEN j) == 0 ||
  s.allows cls (0x40000000 + 4 * s.get (R.CMP_J_D1.SRC j)) (s.get (R.CMP_J_D2.INLEN j)) false

/-- GO (R248): queue the descriptor, or end at once with BAD_JOB. -/
def State.goSlot (s : State) (q : Requester) (j : Nat) : State :=
  let st := s.get (R.CMP_J_ST.STATE j)
  if st = 1 ∨ st = 2 then s.bump R.CMP_CNT1.WIGN
  else
    let bad := s.badJob j
    let denied := !bad && !s.sourceOk q.cls j
    let s := if denied then s.deny q.cls (0x40000000 + 4 * s.get (R.CMP_J_D1.SRC j)) else s
    if bad || denied then
      let (x, s) := s.draw
      s.finishSlot j 10 0 0 0 (x % 2 ^ 32)
    else
      let s := { s with cmp := { s.cmp with slots := s.cmp.slots ++ [j], cls := Tbl.set 0 s.cmp.cls j q.cls } }
      s.put (R.CMP_J_ST.STATE j) 1

/-- The engine that runs a slot. -/
def State.engineOf (s : State) (j : Nat) : Option Nat :=
  (List.range 6).find? fun e => decide (s.engine e = some (.slot j))

/-- CANCEL (R244). How much of its input a running job had read is left open. -/
def State.cancelSlot (s : State) (j : Nat) : State :=
  match s.get (R.CMP_J_ST.STATE j) with
  | 1 =>
    let s := { s with cmp := { s.cmp with slots := s.cmp.slots.filter fun i => i != j } }
    let (x, s) := s.draw
    s.finishSlot j 11 0 0 0 (x % 2 ^ 32)
  | 2 =>
    if s.cmp.waiting.any fun w => w.slot == j then s
    else match s.engineOf j with
      | none => s
      | some e =>
        let (x, s) := s.draw
        let (y, s) := s.draw
        let read := x % (s.get (R.CMP_J_D2.INLEN j) + 1)
        let s := { s with cmp := { s.cmp with inBytes := s.cmp.inBytes + read } }
        (s.setEngine e none).finishSlot j 11 0 read 0 (y % 2 ^ 32)
  | _ => s

/-- A write to CMP_Jj_CTL. -/
def State.slotCtl (s : State) (q : Requester) (j : Nat) (data : Word) : State :=
  s.cmdWrite q (R.CMP_J_CTL j).addr 3 data fun s =>
    let s := if fget data 0 1 = 1 then s.goSlot q j else s
    if fget data 1 1 = 1 then s.cancelSlot j else s

/-- The parts that jobs may write. -/
abbrev jobParts : Parts := { resp := true, strm := true, ports := true, mon := true, cmp := true }

/-- CMP_JOB_SUBMIT (R248): a write of GO. -/
def execCmpJobSubmit (now : Nat) (req : Requester) (j : Fin 32) (data : Word) (s : State) : Out :=
  act jobParts now s fun s => s.slotCtl req j data

/-- CMP_JOB_CANCEL (R244): a write of CANCEL. -/
def execCmpJobCancel (now : Nat) (req : Requester) (j : Fin 32) (data : Word) (s : State) : Out :=
  act jobParts now s fun s => s.slotCtl req j data

/-- Compressors that hold pull jobs. -/
def State.pullEngines (s : State) : Nat :=
  ((List.range 4).filter fun e => match s.engine e with
    | some (.pull _) => true
    | _ => false).length

/-- The earliest queued slot with operation `op`. -/
def State.earliest (s : State) (op : Nat) : Option Nat := s.cmp.slots.find? fun j => s.get (R.CMP_J_D0.OP j) == op

/-- Engine `e` takes slot `j`. -/
def State.takeSlot (s : State) (e j : Nat) : State :=
  let s := { s with cmp := { s.cmp with slots := s.cmp.slots.filter fun i => i != j } }
  let s := (s.put (R.CMP_J_ST.STATE j) 2).put (R.CMP_J_ST.ENGINE j) (e % 4)
  s.setEngine e (some (.slot j))

/-- CMP_JOB_START (R228): a free engine takes the oldest pull job it may hold, or the earliest software job. -/
def execCmpJobStart (now : Nat) (e : Fin 6) (s : State) : Out :=
  act jobParts now s fun s =>
    if (s.engine e).isSome then s
    else if 4 ≤ e.val then match s.earliest 1 with
      | some j => s.takeSlot e j
      | none => s
    else match s.cmp.pulls with
      | id :: rest =>
        if s.pullEngines < s.get R.CMP_CFG.PULLMAX then
          ({ s with cmp := { s.cmp with pulls := rest } }).setEngine e (some (.pull id))
        else match s.earliest 0 with
          | some j => s.takeSlot e j
          | none => s
      | [] => match s.earliest 0 with
        | some j => s.takeSlot e j
        | none => s

/-- Words of a byte string, most significant byte first, the last one filled with zero bytes (R235). -/
def wordsOf (bs : List Byte) : List Nat := (chunks 4 bs.length bs).map fun c => beNat (slice c 0 4)

/-- The input bytes of a slot: words of the DRAM window, most significant byte first (R230). -/
def State.slotInput (s : State) (j : Nat) : List Byte :=
  let n := s.get (R.CMP_J_D2.INLEN j)
  ((List.range ((n + 3) / 4)).flatMap fun i => beBytes 4 (s.dramWord (s.get (R.CMP_J_D1.SRC j) + i))).take n

/-- The result of a slot's job before its push (R232 to R243). -/
def State.slotResult (s : State) (j : Nat) : JobResult :=
  let bs := s.slotInput j
  if s.get (R.CMP_J_D0.OP j) = 0 then
    compress (s.on (R.CMP_J_D0.MODE j)) (s.get (R.CMP_J_D0.SHUF j)) (s.get (R.CMP_J_D3.STRIDE j)) bs (s.slotSpace j)
  else decompress bs (s.on (R.CMP_J_D0.UNSHUF j)) (s.slotSpace j)

/-- The packet of a slot: its prefix, with OUTLEN in word PATCH, and the output (R238). -/
def State.slotPacket (s : State) (j : Nat) (out : List Byte) : List Nat :=
  let pre := (List.range (s.get (R.CMP_J_D0.PREFIX j))).map fun i =>
    if s.on (R.CMP_J_D0.PATCH_EN j) ∧ i = s.get (R.CMP_J_D0.PATCH j) then out.length else s.get (R.CMP_J_D8.PFX j i)
  pre ++ wordsOf out

/-- Commit a packet of an engine to a queue. -/
def State.pushPacket (s : State) (q : Nat) (ws : List Nat) : State :=
  let x := s.queue q
  s.setQueue q { x with pkts := x.pkts ++ [{ words := ws, at_ := s.now }] }

/-- A push completes, and its slot with it. -/
def State.finishPush (s : State) (w : PushWait) : State :=
  ((s.pushPacket w.queue w.words).setEngine w.eng none).finishSlot w.slot 0 w.outlen w.consumed w.spare w.aux

/-- Push the output of a slot by WAIT and the queue's policy (R238). -/
def State.pushSlot (s : State) (w : PushWait) : State :=
  let need := w.words.length + 1
  let held := s.cmp.waiting.any fun v => v.queue == w.queue
  if s.on (R.CMP_J_D0.WAIT w.slot) then
    let s := if s.inUse (R.QUE_Q_CFG.POLICY w.queue) = 1 ∨ held then s else s.makeRoom w.queue need 0
    if !held && s.fits w.queue need 0 then s.finishPush w
    else
      let s := if s.inUse (R.QUE_Q_CFG.POLICY w.queue) = 1 then s.bump (R.QUE_Q_CNT2.STALLS w.queue) else s
      { s with cmp := { s.cmp with waiting := s.cmp.waiting ++ [w] } }
  else if !held && s.fits w.queue need 0 then s.finishPush w
  else
    let s := s.bump (R.QUE_Q_CNT2.ABORTS w.queue)
    (s.setEngine w.eng none).finishSlot w.slot 9 0 w.consumed w.spare (8 * w.consumed)

/-- The job of slot `j` on engine `e` ends (R238, R242). A queue that was disabled since rejects the push (R212). -/
def State.endSlot (s : State) (e j : Nat) : State :=
  let r := s.slotResult j
  let q := s.get (R.CMP_J_D0.QUEUE j)
  let s := { s with cmp := { s.cmp with inBytes := s.cmp.inBytes + r.consumed } }
  let (x, s) := s.draw
  if r.code ≠ 0 then
    let aux := if s.get (R.CMP_J_D0.OP j) = 1 then r.bitpos else x
    (s.setEngine e none).finishSlot j r.code 0 r.consumed 0 (aux % 2 ^ 32)
  else if s.inUse (R.QUE_Q_CFG.SIZE q) = 0 then
    ((s.bump (R.QUE_Q_CNT0.PUSHREJ q)).setEngine e none).finishSlot j 10 0 r.consumed 0 (x % 2 ^ 32)
  else s.pushSlot { slot := j, eng := e, queue := q, words := s.slotPacket j r.out, outlen := r.out.length,
                    consumed := r.consumed, spare := r.spare, aux := crc32 r.out }

/-- The compression job of pull `id` ends (R222, R223, R245). -/
def State.endPullJob (s : State) (e id : Nat) : State :=
  let s := s.setEngine e none
  match s.pull? id with
  | none => s.countJob none 11
  | some p => match p.job with
    | none => s.countJob none 11
    | some j =>
      if p.code ≠ 0 then s.countJob none 11
      else
        let bs := j.words.flatMap (beBytes 4)
        let r := compress (p.format == 2) (if p.shuf then 3 else 0) (j.format + 1) bs 16352
        let s := { s with cmp := { s.cmp with inBytes := s.cmp.inBytes + bs.length } }
        if !s.partHeld j then s.partGone p j
        else
          let ws := segPacket p j (wordsOf r.out) r.out.length
          let s := s.countJob none (if s.fits 64 (ws.length + 1) 0 then 0 else 9)
          s.pushSegment p ws j.last

/-- CMP_JOB_END (R238): engine `e` finishes its job. -/
def execCmpJobEnd (now : Nat) (e : Fin 6) (s : State) : Out :=
  act jobParts now s fun s =>
    let s := s.settleWires
    match s.engine e with
    | none => s
    | some (.slot j) => if s.cmp.waiting.any fun w => w.slot == j then s else s.endSlot e j
    | some (.pull id) => s.endPullJob e id

/-- QUEUE_STALL_RESUME (R210): the first producer that waits at queue `q` pushes once there is room. -/
def execQueueStallResume (now : Nat) (q : Fin 80) (s : State) : Out :=
  act jobParts now s fun s =>
    match s.cmp.waiting.find? fun w => w.queue == q.val with
    | none => s
    | some w =>
      let need := w.words.length + 1
      let s := if s.inUse (R.QUE_Q_CFG.POLICY q) = 1 then s else s.makeRoom q need 0
      if !s.fits q need 0 then s
      else ({ s with cmp := { s.cmp with waiting := s.cmp.waiting.erase w } }).finishPush w

/-- CMP_INBYTES_READ: a read of the low word latches the high word (Table 9.7). -/
def execCmpInbytesRead (now : Nat) (req : Requester) (s : State) : Out :=
  act jobParts now s fun s =>
    s.cmdRead req R.CMP_INBYTESL.addr fun s =>
      let n := s.cmp.inBytes
      let s := (s.put R.CMP_INBYTESL.INBYTES n).put R.CMP_INBYTESH.INBYTES (n / 2 ^ 32)
      (s, n % 2 ^ 32)

end Sys2Proof.Machine
end

