-- ==== Sys2Proof/Machine/Cycle.lean ====
section
/-! DEFINITION. Commit requests (R155, R194, R226, R278, R333, R344, R387, R419), the state copy of a lead (R330), pushed
log entries (R407) and the control cycle (R172). -/

namespace Sys2Proof.Machine

/-! Commit requests -/

/-- The blocks of a pair commit by bit: TIM, IOT, QUE, PAR, then TILE and FLT by tile (R333). -/
def CommitSt.kinds (c : CommitSt) : Nat :=
  (if c.tim then 1 else 0) + (if c.iot then 2 else 0) + (if c.que then 4 else 0) + (if c.par then 8 else 0)
    + c.tile % 16 * 16 + c.flt % 16 * 256

/-- The blocks that the bits name. -/
def kindsCommit (k : Nat) : CommitSt :=
  { tim := hasBit k 0, iot := hasBit k 1, que := hasBit k 2, par := hasBit k 3, tile := k / 16 % 16,
    flt := k / 256 % 16 }

/-- Whether a live partner must confirm (Table 12.4). -/
def State.hasPartner (s : State) : Bool := s.isPaired && s.get R.PAR_STAT.STATE != 0

/-- An apply is in progress (Table 14.10). -/
def State.applying (s : State) : Bool := s.get R.SYS_CHOR_ST.STATE == 3

/-- A write or GO of a block of the group is ignored (R387). -/
def State.choBusy (s : State) : State :=
  let s := s.bump R.SYS_CHOR_CNT.CWIGN
  if s.chor.busy then s else { s with chor := { s.chor with busy := true } }.log1 L.CHOR_BUSY

/-- The first control cycle whose boundary lies at least two cycles ahead (R333, R386). -/
def State.twoAhead (s : State) : Nat := ((s.wbNow 0 + (3 * s.cycleU : Nat) - 1) / (s.cycleU : Int)).toNat

/-- A GO: the commits `c` become pending. On the lead of a pair those of R333 are mirrored and wait for B, or are rejected
when they contain a structural change; on the follow they are ignored. -/
def State.requestCommit (s : State) (c : CommitSt) : State :=
  if s.applying then s.choBusy
  else if !s.isPaired ∨ c.kinds = 0 then { s with commits := s.commits.plus c }
  else if s.isFollow then s
  else
    -- a REANCHOR takes effect at a swap (R160)
    let c' := { c with reanchor := false }
    if s.structural c' then s.log1 L.PAIR_COMMIT_FAIL
    else
      let b := s.twoAhead
      let words := (s.coveredAddrs c').filterMap fun a => match regAt? a with
        | some h => if h.info.shadowed then some (a, Tbl.get h.info.reset s.regs a) else none
        | none => none
      let s := { s with commits := { s.commits.plus c with notBefore := b } }
      if s.hasPartner then { s with pair := { s.pair with commitTx := some ⟨words, c'.kinds, b, none⟩ } } else s

/-- The parts that a commit register may write. -/
abbrev goParts : Parts := { commits := true, chor := true, pair := true, resp := true }

/-- A write of GO to a commit register at `a`. -/
def State.goWrite (s : State) (q : Requester) (a : Nat) (mask data : Word) (c : CommitSt) : State :=
  s.cmdWrite q a mask data fun s => if hasBit data.toNat 0 then s.requestCommit c else s

/-- TIM_COMMIT (R194): GO, with REANCHOR in bit 1 (R160). -/
def execTimCommit (now : Nat) (req : Requester) (data : Word) (s : State) : Out :=
  act goParts now s fun s => s.goWrite req (R.TIM_COMMIT).addr 3 data { tim := true, reanchor := hasBit data.toNat 1 }

/-- TIM_REANCHOR (R160): a write to TIM_COMMIT with REANCHOR; without GO it makes nothing pending. -/
def execTimReanchor (now : Nat) (req : Requester) (data : Word) (s : State) : Out :=
  act goParts now s fun s =>
    s.cmdWrite req (R.TIM_COMMIT).addr 3 data fun s =>
      if data.toNat % 4 = 3 then s.requestCommit { tim := true, reanchor := true }
      else if hasBit data.toNat 0 then s.requestCommit { tim := true } else s

/-- IOT_COMMIT (R194). -/
def execIotCommit (now : Nat) (req : Requester) (data : Word) (s : State) : Out :=
  act goParts now s fun s => s.goWrite req (R.IOT_COMMIT).addr 1 data { iot := true }

/-- QUE_COMMIT (R226). -/
def execQueCommit (now : Nat) (req : Requester) (data : Word) (s : State) : Out :=
  act goParts now s fun s => s.goWrite req (R.QUE_COMMIT).addr 1 data { que := true }

/-- PRT_COMMIT (R278). -/
def execPrtCommit (now : Nat) (req : Requester) (data : Word) (s : State) : Out :=
  act goParts now s fun s => s.goWrite req (R.PRT_COMMIT).addr 1 data { prt := true }

/-- PAR_COMMIT (R344). -/
def execParCommit (now : Nat) (req : Requester) (data : Word) (s : State) : Out :=
  act goParts now s fun s => s.goWrite req (R.PAR_COMMIT).addr 1 data { par := true }

/-- FLT_COMMIT (R155): pending for every tile. -/
def execFltCommit (now : Nat) (req : Requester) (data : Word) (s : State) : Out :=
  act goParts now s fun s => s.goWrite req (R.FLT_COMMIT).addr 1 data { flt := 15 }

/-- A write to SYS_TCOMMIT: the tile blocks of bits 0 to 3 and the calibration configurations of bits 4 to 7 (R419). -/
def State.tcommit (s : State) (q : Requester) (data : Word) : State :=
  s.cmdWrite q (R.SYS_TCOMMIT).addr 0xFF data fun s =>
    let s := if data.toNat % 16 = 0 then s else s.requestCommit { tile := data.toNat % 16 }
    if data.toNat / 16 % 16 = 0 then s else s.requestCommit { calcfg := data.toNat / 16 % 16 }

/-- TILE_COMMIT (R419): a write to SYS_TCOMMIT. -/
def execTileCommit (now : Nat) (req : Requester) (data : Word) (s : State) : Out :=
  act goParts now s fun s => s.tcommit req data

/-- CAL_CONFIG_COMMIT (R419): a write to SYS_TCOMMIT. -/
def execCalConfigCommit (now : Nat) (req : Requester) (data : Word) (s : State) : Out :=
  let g : Parts := goParts
  act g now s fun s => s.tcommit req data

/-! The state copy (R330) -/

/-- Base time of the oldest row of stream `n` that is not acknowledged. -/
def State.oldestRow (s : State) (n : Nat) : Option Int :=
  match (s.queue n).pkts.find? (fun p => !p.record) with
  | some p => some p.t
  | none => (s.strmSt n).rows.head?.map (·.t)

/-- Log entries from SEQ `q` on that are still in the log, oldest first. -/
def State.entriesFrom (s : State) (q : Nat) : List LogEntry :=
  let head := s.get R.LOG_HEAD.SEQ
  let lo := max q (head - 8192)
  (List.range (head - lo)).map fun i => Tbl.get {} s.log ((lo + i) % 8192)

/-- The copy that describes the state at a boundary (Table 12.5). -/
def State.makeCopy (s : State) : StateCopy :=
  let new := s.entriesFrom s.pair.logged
  { cycle := s.time.cycleIdx
    runid := s.get R.QUE_RUNID.RUNID
    digest := (List.range 12).map fun w => s.get (R.SYS_CHOR_DIG.DIGEST w)
    flags := s.commits.kinds
    eps := (s.strm.latest.map (·.1)).map fun e =>
      (e, ((s.nextSsn e + 2 ^ 32 - 1) % 2 ^ 32, (Tbl.get resNone s.strm.latest e).2))
    strms := ((List.range 64).filter s.strmOn).map fun n =>
      let x := s.strmSt n
      (n, (s.get (R.QUE_S_PSN.PSN n), s.oldestRow n, [x.produced, x.acked, x.dropped, x.skipped]))
    tempo := ([0, 1, 2, 3].filter fun n => s.tempoSrc n != 0).map fun n =>
      (n, (s.tempoPos n s.time.cycleAt, s.tempoVel n s.time.cycleAt, s.tempoState n))
    zc := ((List.range 8).filter fun c => s.get (R.SAFV_ZC_ST.STATE c) != 3).map fun c =>
      (c, (s.get (R.SAFV_ZC_SEQ.SEQTX c), s.get (R.SAFV_ZC_INC.INCTX c)))
    entries := new.take 256
    lost := new.length - 256 }

/-- The lead of a pair sends the copy. -/
def State.sendCopy (s : State) : State :=
  if !s.hasPartner || s.isFollow then s
  else { s with pair := { s.pair with copyTx := some s.makeCopy, logged := s.get R.LOG_HEAD.SEQ } }

/-! EVENT frames (R407) -/

/-- A log entry as 32 bytes (Table 15.9). -/
def LogEntry.bytes (e : LogEntry) : List Byte :=
  if e.code = 0 then List.replicate 32 0
  else
    let attr := e.plane + e.sev * 4 + (if e.asFollow then 16 else 0) + (if e.copied then 32 else 0) + (if e.hdo then 64 else 0)
    beBytes 4 e.seq ++ beBytes 6 e.sec ++ beBytes 4 e.ns ++ beBytes 2 e.code ++ beBytes 1 attr ++ [0]
      ++ beBytes 2 e.repeats ++ beBytes 2 (e.kind * 4096 + e.index) ++ beBytes 2 e.detail ++ beBytes 8 e.data

/-- The lead pushes the entries of severity PUSHSEV - 1 and above that have been added since the last EVENT frame, 45 at
most. -/
def State.pushEvents (s : State) : State :=
  let p := s.get R.LOG_CFG.PUSHSEV
  if p = 0 ∨ s.isFollow then s
  else
    let es := ((s.entriesFrom s.host.pushed).filter fun e => decide (p - 1 ≤ e.sev)).take 45
    match es.head?, es.getLast? with
    | some a, some z =>
      let f := s.ownFrame 3 6 0 1 a.seq es.length (es.flatMap LogEntry.bytes)
      let s := (s.sendOwn 0 f).sendOwn 1 { f with dtype := 2 }
      { s with host := { s.host with pushed := z.seq + 1 } }
    | _, _ => s

/-! The control cycle -/

/-- Pair commits whose checks this follow has not confirmed one cycle before B apply on neither chip (R333). -/
def State.unconfirmed (s : State) : State :=
  let c := s.commits
  if s.isPaired && s.isFollow && !s.pair.confirmed && c.kinds != 0 && decide (c.notBefore ≤ s.time.cycleIdx + 1) then
    (s.dropCommits (kindsCommit c.kinds)).log1 L.PAIR_COMMIT_FAIL
  else s

/-- The parts that a control cycle may write. -/
abbrev cycleParts : Parts := { boundaryParts with pair := true, host := true, chor := true }

/-- CONTROL_CYCLE (R172): a WB0 instant that is a multiple of CYCLE has come. The entries of the cycle that ends are
logged, pending commits apply, output commands take effect, monitors count, and tempo, the state copy and EVENT frames
go out. -/
def execControlCycle (now : Nat) (s : State) : Out :=
  act cycleParts now s fun s =>
    let k := (s.wbNow 0 / (s.cycleU : Int)).toNat
    if s.cycleU = 0 ∨ (s.time.cycleNo ≠ 0 ∧ k = s.time.cycleIdx) then s
    else
      let b : Int := ((k * s.cycleU : Nat) : Int)
      let s := s.logCycleEnd
      let s := { s with time := { s.time with cycleAt := (s.localOf 0 b).toNat, cycleIdx := k, cycleNo := s.time.cycleNo + 1 } }
      let s := (s.unconfirmed.cycleCommits b).docmdCycle (s.sys.stage == .running)
      (((monCycle s).publishTempo).sendCopy).pushEvents

end Sys2Proof.Machine
end

