-- ==== Sys2Proof/Machine/Peek.lean ====
section
/-! DEFINITION. What a register reads, without the effects that a read can have: most registers read as stored, and the
live ones are computed from the state (R106, R120, R142, R158, R162, R176, R224, R248, R331, R373). -/

namespace Sys2Proof.Machine

/-- The 32-bit word of `i` in two's complement. -/
def lowWord (i : Int) : Nat := unsgn 32 i

/-- A tile is blanked at this moment, TAIL included (Table 3.21). -/
def State.blankedNow (s : State) (t : Nat) : Bool :=
  s.dio.pins &&& s.inUse (R.TILE_BLANK.PINMASK t) != 0 || s.spanAt t (s.wbNow 0) || (s.tile t).tail != 0
    || (s.tile t).armed && s.inUse (R.TILE_BLANK.TAIL t) != 0

/-- Word `w` of the ledger of stream `n`: PRODUCED, ACKED, DROPPED, SKIPPED, each as a low and a high word (R224). -/
def State.ledgerWord (s : State) (n w : Nat) : Nat :=
  let x := s.strmSt n
  [x.produced, x.acked, x.dropped, x.skipped].getD (w / 2) 0 / 2 ^ (32 * (w % 2)) % 2 ^ 32

/-- Coefficient `n` of FLT_COEF: the responses one after another (Table 6.15). -/
def coefAt (n : Nat) : Nat :=
  match ((List.range 16).reverse).find? fun r => decide (coefFirst r ≤ n) with
  | none => 0
  | some r => unsgn 24 ((coefs r).getD (n - coefFirst r) 0)

/-- Word `w` of a log slot (Table 15.9). -/
def State.logWord (s : State) (slot w : Nat) : Nat := beNat (slice (Tbl.get {} s.log slot).bytes (4 * w) 4)

/-- Age of the newest committed copy in µs (Table 12.9). -/
def State.copyAge (s : State) : Nat :=
  if s.pair.copy.isNone then 0 else min 65535 ((s.now - s.pair.copyAt) / usU)

/-- Seconds left of the confirm window (R373). -/
def State.confirmLeft (s : State) : Nat :=
  match s.sec.deadline with
  | none => 0
  | some d => (d - s.now) / secU

/-- Hours since the last passed holding test of brake channel `n`. -/
def State.hoursSince (s : State) (n : Nat) : Nat :=
  min 65535 ((s.now - (Tbl.get {} s.safe.bk n).passAt) / (3600 * secU))

/-- The word that a register reads at this moment. -/
def State.readNow (s : State) (h : RegHit) (a : Nat) : Nat :=
  let i := h.ix 0
  let kept := (Tbl.get h.info.reset s.regs a).toNat
  let id := h.info.id
  if id = RID.TIM_WB_NS then nsOf (s.wbNow i)
  else if id = RID.TIM_WB_FRAC then fracOf (s.wbNow i)
  else if id = RID.TIM_WB_SECL then secOf (s.wbNow i) % 2 ^ 32
  else if id = RID.TIM_WB_SECH then secOf (s.wbNow i) / 2 ^ 32 % 2 ^ 16
  else if id = RID.TIM_WB_HOERR then s.hoErr i s.now
  else if id = RID.TIM_NB_NS then nbNs (s.wbNow (s.nbSrc i))
  else if id = RID.TIM_NB_EP then nbEpoch (s.wbNow (s.nbSrc i))
  else if id = RID.TIM_TMP_POSL then lowWord (s.tempoPos i s.now)
  else if id = RID.IOT_BLANKST then
    s.dio.pins + (tiles4.filter s.blankedNow).foldl (fun a t => a + 2 ^ (4 + t)) 0
  else if id = RID.QUE_S_QUEUED then s.queuedRows i % 2 ^ 32
  else if id = RID.QUE_S_LEDGER then s.ledgerWord i (h.ix 1)
  else if id = RID.CMP_INBYTESL then s.cmp.inBytes % 2 ^ 32
  else if id = RID.CAL_FUSERD then
    if 0xC00 ≤ i ∧ i ≤ 0xCFF then 0 else s.fuseWord i
  else if id = RID.FLT_COEF then coefAt i
  else if id = RID.LOG_ENTRY then s.logWord i (h.ix 1)
  else if id = RID.RES_LO then (Tbl.get resNone s.strm.latest i).1
  else if id = RID.RES_HI then (Tbl.get resNone s.strm.latest i).2
  else if id = RID.PAR_STAT then kept % 2 ^ 16 + 2 ^ 16 * s.copyAge
  else if id = RID.UPD_CONFTMR then kept % 2 ^ 16 + 2 ^ 16 * (s.confirmLeft % 2 ^ 12)
  else if id = RID.SAFV_BK then kept % 2 ^ 16 + 2 ^ 16 * s.hoursSince i
  else kept

/-- The word at a register address, if a register is there. -/
def State.peek (s : State) (a : Nat) : Option Nat := if a % 4 ≠ 0 then none else (regAt? a).map fun h => s.readNow h a

end Sys2Proof.Machine
end

