-- ==== Sys2Proof/Machine/Daymark.lean ====
section
/-! DEFINITION. Register arrays that hold byte strings, daymark registers (R354) and the flash (R351). -/

namespace Sys2Proof.Machine

/-- Write bytes into the words of a register array, first bytes in word 0, most significant first. -/
def State.putBytes (s : State) (f : Nat → FldAt) (bs : List Byte) : State :=
  s.each (chunks 4 bs.length bs).zipIdx fun s x => s.put (f x.2) (beNat (slice x.1 0 4))

/-- The bytes of the first `n` words of a register array. -/
def State.getBytes (s : State) (f : Nat → FldAt) (n : Nat) : List Byte :=
  (List.range n).flatMap fun w => beBytes 4 (s.get (f w))

/-- DMk ← SHA-384(DMk ‖ v) (R354). -/
def State.extendDm (s : State) (k : Nat) (v : List Byte) : State :=
  s.putBytes (R.SEC_DM.DM k) (sha384 (s.getBytes (R.SEC_DM.DM k) 12 ++ v))

/-- An event that extends DM6: its code, then an argument of 8 bytes, then zeros (Table 13.5). -/
def State.dmEvent (s : State) (code arg : Nat) : State :=
  s.extendDm 6 (beBytes 2 code ++ beBytes 8 arg ++ List.replicate 38 0)

/-! Flash -/

/-- Regions of Table 13.3. -/
abbrev flBoot (c : Nat) : Nat := 0x100000 * c
abbrev flSettings (c : Nat) : Nat := 0x200000 + 0x100000 * c
abbrev flChor (slot : Nat) : Nat := 0x400000 + 0x100000 * slot
abbrev flSafety : Nat := 0x600000
abbrev flChangeLog : Nat := 0x700000

/-- S: the image slot size (R351). -/
def slotBytes : Nat := (if Config.flashMiB < 128 then 18 else 24) * 0x100000

/-- The slots I0 and I1, and STAGING as slot 2. -/
def flImage (k : Nat) : Nat := 0x800000 + k * slotBytes

/-- `n` bytes of the flash from `a`. -/
def State.flashRead (s : State) (a n : Nat) : List Byte := (List.range n).map fun i => Tbl.get 0xFF s.flash (a + i)

/-- Every byte from `a` to before `b` is erased. -/
def State.flashErase (s : State) (a b : Nat) : State :=
  { s with flash := s.flash.filter fun e => decide (e.1 < a) || decide (b ≤ e.1) }

/-- Programming clears bits only: the bytes of `l` from `a` on. -/
def State.flashProgram (s : State) (a : Nat) : List Byte → State
  | [] => s
  | b :: l =>
    State.flashProgram { s with flash := Tbl.set 0xFF s.flash a (Tbl.get 0xFF s.flash a &&& b) } (a + 1) l

end Sys2Proof.Machine
end

