-- ==== Sys2Proof/Machine/Image.lean ====
section
/-! DEFINITION. The choreography image: layout and checks (R379 to R383), the candidate configuration (R378), and the
class of a change (R384). -/

namespace Sys2Proof.Machine

/-- A section of an image: type, instance, body, and whether its CRC holds. -/
structure Sect where
  typ : Nat
  inst : Nat
  body : List Byte
  crcOk : Bool
  deriving DecidableEq, Repr

/-- An image that has passed the checks on its form: what its sections hold. -/
structure Img where
  bytes : List Byte
  serial : Nat
  sects : List Sect
  ident : List Byte
  words : Tbl Word
  safety : Option (List Byte)
  expect : List (Nat × Nat × Nat)
  deriving DecidableEq, Repr

/-- A big-endian field of a byte string. -/
def fieldAt (b : List Byte) (i n : Nat) : Nat := beNat (slice b i n)

/-- Whether `n` bytes from `i` are 0. -/
def zeroAt (b : List Byte) (i n : Nat) : Bool := fieldAt b i n == 0

/-- The codes of Table 14.10. -/
abbrev chOk : Nat := 0
abbrev chBusy : Nat := 1
abbrev chBadHeader : Nat := 2
abbrev chBadCrc : Nat := 3
abbrev chWrongHw : Nat := 4
abbrev chFwTooOld : Nat := 5
abbrev chBadSection : Nat := 6
abbrev chNotBound : Nat := 7
abbrev chBadRecord : Nat := 8
abbrev chCheckFail : Nat := 9
abbrev chOldSerial : Nat := 10
abbrev chUseSwap : Nat := 11
abbrev chFollow : Nat := 12
abbrev chPartnerLost : Nat := 13
abbrev chFlashFail : Nat := 14
abbrev chNoPending : Nat := 15

/-! The header (Table 14.2) -/

/-- The header's fields are in range; `len` is SYS_CHOR_LEN. -/
def headerGood (b : List Byte) (len : Nat) : Bool :=
  let fmt := fieldAt b 4 1
  let n := fieldAt b 6 2
  let l := fieldAt b 8 4
  fieldAt b 0 4 == 0x43484F52 && (fmt == 2 || fmt == 3) && decide (fieldAt b 5 1 ≤ 1) && decide (1 ≤ n) && decide (n ≤ 256)
    && decide (64 ≤ l) && decide (l ≤ 1048576) && l % 4 == 0 && (fmt == 3 || zeroAt b 24 4) && decide (l ≤ len)
    && zeroAt b 32 32

/-- The image CRC: over the image with the CRC field taken as 0. -/
def imageCrcGood (b : List Byte) : Bool := crc32c (b.take 28 ++ [0, 0, 0, 0] ++ b.drop 32) == fieldAt b 28 4

/-! The section walk (R380) -/

/-- The sections of `n` headers in a byte string, and whether they fill it exactly. -/
def walk (fmt : Nat) : Nat → List Byte → List Sect × Bool
  | 0, b => ([], b.isEmpty)
  | n + 1, b =>
    let len := fieldAt b 4 4
    let tail := if fmt = 3 then 4 else 0
    if b.length < 8 ∨ len % 4 ≠ 0 ∨ b.length < 8 + len + tail then ([], false)
    else
      let typ := fieldAt b 0 2
      let whole := b.take (8 + len)
      let x : Sect := ⟨typ, fieldAt b 2 1, whole.drop 8, fmt != 3 || crc32c whole == fieldAt (b.drop (8 + len)) 0 4⟩
      let r := walk fmt n (b.drop (8 + len + tail))
      -- the reserved byte of a section that is not ignorable must be 0
      if typ < 0x8000 ∧ !zeroAt b 3 1 then ([], false) else (x :: r.1, r.2)

/-- The section types that records fill. -/
def Sect.isRegs (x : Sect) : Bool := decide (0x10 ≤ x.typ) && decide (x.typ ≤ 0x17)

/-- A section that the walk refuses, given those before it. -/
def Sect.refused (x : Sect) (fmt : Nat) (before : List Sect) : Bool :=
  !x.crcOk
  || (before.isEmpty != (x.typ == 1))
  || x.typ == 1 && x.body.length != 24
  || decide (x.typ < 0x8000) && (
      !(x.typ == 1 || x.isRegs || x.typ == 0x20 || x.typ == 0x40 && fmt == 3)
      || before.any (fun y => y.typ == x.typ && y.inst == x.inst)
      || (if x.typ = 0x10 then decide (3 < x.inst) else x.inst != 0))

/-- The index of the first refused section. -/
def refusedAt (fmt : Nat) : List Sect → List Sect → Option Nat
  | _, [] => none
  | before, x :: l => if x.refused fmt before then some before.length else refusedAt fmt (x :: before) l

/-! Records (R381) -/

/-- The block that a register section fills. -/
def Sect.blk (x : Sect) : Blk :=
  match x.typ with
  | 0x10 => .tile
  | 0x11 => .iot
  | 0x12 => .cal
  | 0x13 => .flt
  | 0x14 => .tim
  | 0x15 => .que
  | 0x16 => .prt
  | 0x17 => .par
  | _ => .res

/-- Registers that an image holds (Table 14.1): of its blocks, with a field that is RW or RWS and none that is WO, but no
coefficients and no run-time commands. -/
def RegInfo.inImage (r : RegInfo) : Bool :=
  (match r.blk with
   | .tile => true
   | .iot => !([RID.IOT_DOQ_P0, RID.IOT_DOQ_P1, RID.IOT_DOCMD, RID.IOT_BRKREQ].contains r.id)
   | .cal => [RID.CAL_CFG, RID.CAL_TOL0, RID.CAL_TOL1, RID.CAL_TOL2, RID.CAL_REFV, RID.CAL_REQM, RID.CAL_SLCCFG].contains r.id
   | .flt => true
   | .tim => true
   | .que => true
   | .prt => true
   | .par => true
   | _ => false)
  && (r.fields.any fun f => f.ty == .rw || f.ty == .rws) && r.fields.all fun f => f.ty != .wo

/-- The words that a body's records write, in order; none for a body that is no sequence of records. `fuel` bounds the
records. -/
def recordsOf : Nat → List Byte → Option (List (Nat × Nat))
  | 0, b => if b.isEmpty then some [] else none
  | fuel + 1, b =>
    if b.isEmpty then some []
    else
      let addr := fieldAt b 0 4
      let count := fieldAt b 4 2
      let op := fieldAt b 6 1
      let step := fieldAt b 7 1
      let n := if op = 0 then count else 1
      if b.length < 8 ∨ addr % 4 ≠ 0 ∨ count = 0 ∨ 4096 < count ∨ 1 < op ∨ step = 0 ∨ b.length < 8 + 4 * n then none
      else
        let ws := (chunks 4 n ((b.drop 8).take (4 * n))).map beNat
        match recordsOf fuel (b.drop (8 + 4 * n)) with
        | none => none
        | some rest =>
          some (((List.range count).map fun k => (addr + 4 * step * k, ws.getD (if op = 0 then k else 0) 0)) ++ rest)

/-- Add a section's words to those of the sections before it; none when a word may not be written. -/
def addWords (x : Sect) : List (Nat × Nat) → Tbl Word → Option (Tbl Word)
  | [], m => some m
  | (a, v) :: l, m => match regAt? a with
    | none => none
    | some h =>
      let w : Word := BitVec.ofNat 32 v
      if h.info.blk = x.blk ∧ (x.typ ≠ 0x10 ∨ h.ix 0 = x.inst) ∧ h.info.inImage ∧ w &&& ~~~ h.info.mask = 0
          ∧ m.all (fun e => e.1 != a) then addWords x l (Tbl.ins m a w)
      else none

/-- The form of a SAFETY body (Table 14.6). -/
def safetyGood (b : List Byte) : Bool :=
  let n := fieldAt b 6 2
  let ids := (List.range n).map fun i => fieldAt b (128 + 8 * i) 2
  decide (b.length ≤ 65536) && fieldAt b 0 4 == 0x53414645 && fieldAt b 4 1 == 1 && decide (fieldAt b 5 1 ≤ 3)
    && decide (1 ≤ n) && decide (n ≤ 512) && b.length == 224 + 8 * n && zeroAt b 9 1 && zeroAt b 12 4
    && ((List.range n).all fun i => zeroAt b (130 + 8 * i) 2)
    && (List.range (n - 1)).all fun i => decide (ids.getD i 0 < ids.getD (i + 1) 0)

/-- The fields of an IDENT body are in range (Table 14.5). -/
def identGood (b : List Byte) : Bool :=
  decide (fieldAt b 1 1 ≤ 15) && decide (fieldAt b 2 2 < 1024) && decide (fieldAt b 4 1 ≤ 1) && zeroAt b 5 3

/-- The entries of an EXPECT body (R385). -/
def expectOf (b : List Byte) : List (Nat × Nat × Nat) :=
  (chunks 12 b.length b).map fun e => (fieldAt e 0 4, fieldAt e 4 4, fieldAt e 8 4)

/-- The form of an EXPECT body: whole entries, each of a register. -/
def expectGood (b : List Byte) : Bool :=
  b.length % 12 == 0 && (expectOf b).all fun e => e.1 % 4 == 0 && (regAt? e.1).isSome

/-- Check 7 of R383 over the sections: the words written, or the index of the first section that fails. -/
def recordsCheck : Nat → List Sect → Tbl Word → Except Nat (Tbl Word)
  | _, [], m => .ok m
  | k, x :: l, m =>
    if x.isRegs then match recordsOf x.body.length x.body with
      | none => .error k
      | some ws => match addWords x ws m with
        | none => .error k
        | some m => recordsCheck (k + 1) l m
    else if x.typ = 1 ∧ !identGood x.body ∨ x.typ = 0x20 ∧ !safetyGood x.body ∨ x.typ = 0x40 ∧ !expectGood x.body then .error k
    else recordsCheck (k + 1) l m

/-! Checks 1 to 7 (R383) -/

/-- Check 6: the binding to units, and the SAFETY fields that must equal IDENT; answers the index of the section. -/
def State.bound (s : State) (sects : List Sect) (ident : List Byte) : Option Nat :=
  let a := fieldAt ident 8 8
  let b := fieldAt ident 16 8
  if (a != 0 || b != 0) && s.unitId != a && s.unitId != b then some 0
  else sects.findIdx? fun x => x.typ == 0x20 && !(fieldAt x.body 8 1 == fieldAt ident 0 1
    && fieldAt x.body 10 2 == fieldAt ident 2 2 && slice x.body 16 16 == slice ident 8 16)

/-- Checks 1 to 7 on the `len` bytes `raw`: the image, or the load code with the section index. -/
def State.checkImage (s : State) (raw : List Byte) : Except (Nat × Nat) Img :=
  if raw.length < 64 ∨ !headerGood raw raw.length then .error (chBadHeader, 0)
  else
    let b := raw.take (fieldAt raw 8 4)
    let fmt := fieldAt b 4 1
    if !imageCrcGood b then .error (chBadCrc, 0)
    else if fieldAt b 12 4 ≠ s.get R.SYS_HWTYPE.HWTYPE then .error (chWrongHw, 0)
    else if fmt = 3 ∧ s.get R.SYS_FWVER.VERSION < fieldAt b 24 4 then .error (chFwTooOld, 0)
    else
      let (sects, all) := walk fmt (fieldAt b 6 2) (b.drop 64)
      match refusedAt fmt [] sects with
      | some k => .error (chBadSection, k)
      | none =>
        if !all then .error (chBadSection, sects.length)
        else if fieldAt b 5 1 = 1 ∧ !sects.any (fun x => x.typ == 0x20) then .error (chBadSection, sects.length)
        else
          let ident := (sects.head?.map (·.body)).getD []
          match s.bound sects ident with
          | some k => .error (chNotBound, k)
          | none => match recordsCheck 0 sects [] with
            | .error k => .error (chBadRecord, k)
            | .ok words => .ok
                { bytes := b, serial := fieldAt b 16 4, sects := sects, ident := ident, words := words
                  safety := (sects.find? fun x => x.typ == 0x20).map (·.body)
                  expect := ((sects.find? fun x => x.typ == 0x40).map fun x => expectOf x.body).getD [] }

/-! The candidate configuration (R378, R386) -/

/-- Every commit of the group. -/
def groupCommit : CommitSt :=
  { tim := true, iot := true, que := true, prt := true, par := true, tile := 15, calcfg := 15, flt := 15 }

/-- A word with its fields of a type taken from another word. -/
def RegInfo.mix (r : RegInfo) (ty : FldTy) (old new : Word) : Word :=
  (r.fields.filter fun f => f.ty == ty).foldl (fun w f => fset w f.lo f.w (fget new f.lo f.w)) old

/-- The fields of a type of every register that an image holds take the image's values, or their reset values. -/
def State.writeImage (s : State) (ty : FldTy) (words : Tbl Word) : State :=
  s.each ((s.regs.map (·.1)) ++ (words.map (·.1))) fun s a => match regAt? a with
    | none => s
    | some h =>
      if h.info.inImage then
        let old := Tbl.get h.info.reset s.regs a
        { s with regs := Tbl.set h.info.reset s.regs a (h.info.mix ty old (Tbl.get h.info.reset words a)) }
      else s

/-- The values of IDENT: SYS_LINEADDR, and PAIRED of SYS_CHAINPOS. -/
def State.loadIdent (s : State) (ident : List Byte) : State :=
  let s := s.put R.SYS_LINEADDR.LINE_ID (fieldAt ident 0 1)
  let s := (s.put R.SYS_LINEADDR.HUB_ADDR (fieldAt ident 2 2)).put R.SYS_LINEADDR.SEGMENT (fieldAt ident 1 1)
  s.put R.SYS_CHAINPOS.PAIRED (fieldAt ident 4 1)

/-- The state whose shadows, RW fields and identity are the image's. -/
def State.candidate (s : State) (i : Img) : State :=
  ((s.writeImage .rws i.words).writeImage .rw i.words).loadIdent i.ident

/-- The section that fills the blocks that a rejected commit drops. -/
def Rej.typ (r : Rej) : Nat × Nat :=
  let d := r.drop
  let low (m : Nat) : Nat := ([0, 1, 2, 3].find? fun t => hasBit m t).getD 0
  if d.tile != 0 then (0x10, low d.tile) else if d.iot then (0x11, 0) else if d.calcfg != 0 then (0x12, 0)
  else if d.flt != 0 then (0x13, 0) else if d.tim then (0x14, 0) else if d.que then (0x15, 0) else if d.prt then (0x16, 0)
  else (0x17, 0)

/-- The index of the section of a type and instance; 0 when the image has none. -/
def Img.indexOf (i : Img) (x : Nat × Nat) : Nat :=
  (i.sects.findIdx? fun y => y.typ == x.1 && (x.1 != 0x10 || y.inst == x.2)).getD 0

/-- Check 8 of R383: the section and row on which the candidate fails. HOME has one bit, so every stream of an image has a
home direction (R17). -/
def State.candidateRej (s : State) (i : Img) : Option (Nat × Nat) :=
  let bad := i.words.find? fun e => match regAt? e.1 with
    | none => false
    | some h => h.info.fields.any fun f => (f.ty == .rw || f.ty == .rws) && !f.accepts (fget e.2 f.lo f.w)
  match bad with
  | some e => some ((i.sects.findIdx? fun x => match regAt? e.1 with
      | some h => x.isRegs && x.blk == h.info.blk && (x.typ != 0x10 || x.inst == h.ix 0)
      | none => false).getD 0, 0)
  | none => ((s.candidate i).firstRej groupCommit).map fun r => (i.indexOf r.typ, r.detail)

/-! Classes of change (R384): 0 NONE, 1 LIVE, 2 STRUCTURAL -/

/-- The IDENT body of the image in force. -/
def identOf (b : List Byte) : List Byte := (b.drop 72).take 24

/-- The class of the change that an image makes. -/
def State.classOf (s : State) (i : Img) : Nat :=
  let same := match s.chor.force with
    | none => false
    | some f => sha384 f == sha384 i.bytes
  if same then 0
  else
    let ident := match s.chor.force with
      | none => s.get R.SYS_LINEADDR.LINE_ID != fieldAt i.ident 0 1 || s.hubAddr != fieldAt i.ident 2 2
          || s.get R.SYS_LINEADDR.SEGMENT != fieldAt i.ident 1 1 || s.get R.SYS_CHAINPOS.PAIRED != fieldAt i.ident 4 1
      | some f => identOf f != i.ident
    if ident || (s.candidate i).structural groupCommit then 2 else 1

end Sys2Proof.Machine
end

