-- ==== Sys2Proof/Machine/Chor.lean ====
section
/-! DEFINITION. Loading, applying and storing choreography images (R383 to R393). -/

namespace Sys2Proof.Machine

/-- The parts that a choreography command may write. -/
abbrev chorParts : Parts :=
  { boundaryParts with chor := true, pair := true, safe := true, flash := true }

/-- STATE of SYS_CHOR_ST, whose change sets a hint cause (Table 15.13). -/
def State.chorState (s : State) (n : Nat) : State :=
  if s.get R.SYS_CHOR_ST.STATE = n then s else (s.put R.SYS_CHOR_ST.STATE n).hint 3

/-- PSERIAL and PDIG show the pending image while STATE is PENDING. -/
def State.showPending (s : State) : State :=
  match s.get R.SYS_CHOR_ST.STATE, s.chor.pend with
  | 2, some b => (s.put R.SYS_CHOR_PSERIAL.SERIAL (fieldAt b 16 4)).putBytes R.SYS_CHOR_PDIG.DIGEST (sha384 b)
  | _, _ => (s.put R.SYS_CHOR_PSERIAL.SERIAL 0).putBytes R.SYS_CHOR_PDIG.DIGEST (List.replicate 48 0)

/-- CODE of the last action. -/
def State.chorCode (s : State) (n : Nat) : State := s.put R.SYS_CHOR_ST.CODE n

/-- SECTION and ROW of the last failure. -/
def State.chorErr (s : State) (sect row : Nat) : State := (s.put R.SYS_CHOR_ERR.SECTION sect).put R.SYS_CHOR_ERR.ROW row

/-- A load that fails: an image that was pending stays so, because a rejected image leaves no trace. -/
def State.loadFails (s : State) (code sect row : Nat) : State :=
  ((s.chorCode code).chorErr sect row).log1 L.CHOR_REJ 8 sect (code * 256 + row)

/-- LOAD of the bytes `raw` (R383). -/
def State.loadImage (s : State) (raw : List Byte) : State :=
  match s.checkImage raw with
  | .error (code, sect) => s.loadFails code sect 0
  | .ok i => match s.candidateRej i with
    | some (sect, row) => s.loadFails chCheckFail sect row
    | none =>
      let s := { s with chor := { s.chor with pend := some i.bytes } }
      let s := ((s.chorState 2).chorCode chOk).put R.SYS_CHOR_ST.CLASS (s.classOf i)
      s.showPending.log1 L.CHOR_LOADED

/-- LOAD (R383): the image of SYS_CHOR_LEN bytes at SYS_CHOR_SRC. -/
def State.chorLoad (s : State) : State :=
  if s.applying then s.chorCode chBusy
  else s.loadImage (s.dramRead (4 * s.get R.SYS_CHOR_SRC.SRC) (s.get R.SYS_CHOR_LEN.LEN))

/-! The safety section of an image (R320, R382) -/

/-- The parameters that a section sets, by ID; those it does not name are 0. -/
def sectionParams (b : List Byte) : Tbl Nat :=
  (List.range (fieldAt b 6 2)).foldl (fun m i => Tbl.set 0 m (fieldAt b (128 + 8 * i) 2) (fieldAt b (132 + 8 * i) 4)) []

/-- A section that differs from the one in force becomes pending, and changes nothing else. -/
def State.handSafety (s : State) (body : Option (List Byte)) : State :=
  match body with
  | none => s
  | some b =>
    if s.get R.SAFV_STATE.MODE ≠ 0 ∧ sectionParams b = s.safe.cfg then s
    else
      let s := { s with safe := { s.safe with pending := some b } }
      ((s.put R.SAFV_STATE.PENDING 1).hint 6).log1 L.SAFE_SECT_PENDING

/-! Apply (R386 to R389) -/

/-- The image is in force (R388, R390, R391): its digest and serial show, DM4 takes the digest. -/
def State.finishApply (s : State) (i : Img) : State :=
  let slot := if s.chor.force.isNone then 0 else 1 - s.get R.SYS_CHOR_ST.SLOT
  let s := { s with chor := { force := some i.bytes, expect := !i.expect.isEmpty, toStore := some slot } }
  let d := sha384 i.bytes
  let s := ((s.chorState 0).chorCode chOk).showPending
  let s := ((s.put R.SYS_CHOR_ST.CLASS 0).put R.SYS_CHOR_ST.STORED 0).put R.SYS_CHOR_ST.DRIFTED 0
  let s := ((s.put R.SYS_CHOR_SERIAL.SERIAL i.serial).putBytes R.SYS_CHOR_DIG.DIGEST d).extendDm 4 d
  (s.bump R.SYS_CHOR_CNT.APPLIES).handSafety i.safety

/-- The apply ends with nothing applied and the image still pending. -/
def State.endApply (s : State) (code : Nat) : State :=
  let s := { s with chor := { s.chor with b := none, tiles := 0, busy := false } }
  ((s.chorState 2).chorCode code).showPending

/-- The candidate goes into the shadows, and B is named: the first boundary at least two cycles ahead (R386). -/
def State.beginApply (s : State) (i : Img) (b : Nat) : State :=
  let s := s.writeImage .rws i.words
  let s := { s with chor := { s.chor with b := some ((b * s.cycleU : Nat) : Int), tiles := 0, busy := false } }
  ((s.chorState 3).chorCode chOk).showPending

/-- APPLY (R388). -/
def State.chorApply (s : State) : State :=
  if s.isPaired && s.isFollow then s.chorCode chFollow
  else if s.applying then s.chorCode chBusy
  else match s.chor.pend with
    | none => s.chorCode chNoPending
    | some bytes => match s.checkImage bytes with
      | .error _ => s.chorCode chNoPending
      | .ok i =>
        let cls := s.get R.SYS_CHOR_ST.CLASS
        if cls = 0 then s.chorCode chOk
        else if s.chor.force.isSome ∧ i.serial ≤ s.get R.SYS_CHOR_SERIAL.SERIAL then s.chorCode chOldSerial
        else if cls = 2 ∧ s.isPaired then s.chorCode chUseSwap
        else
          let b := s.twoAhead
          let s := s.beginApply i b
          -- in a pair the image is a pair commit, which a live partner must confirm (R333)
          if s.hasPartner then { s with pair := { s.pair with commitTx := some ⟨[], groupCommit.kinds, b, some i.bytes⟩ } } else s

/-- DISCARD (Table 14.10). -/
def State.chorDiscard (s : State) : State :=
  if s.applying then s.chorCode chBusy
  else if s.chor.pend.isNone then s.chorCode chNoPending
  else
    let s := { s with chor := { s.chor with pend := none } }
    (((s.chorState 0).chorCode chOk).put R.SYS_CHOR_ST.CLASS 0).showPending

/-- A write to SYS_CHOR_CTL (R393): it acts with its KEY and one action bit only. A hub with no image takes LOAD and APPLY
from the host alone (R392). -/
def State.chorCtl (s : State) (q : Requester) (data : Word) : State :=
  let host := match q with
    | .host => true
    | _ => false
  s.mediated q R.SYS_CHOR_CTL.addr 0x7FFFF data (host || q.isEngineer) fun s =>
    if data.toNat % 65536 ≠ 0x4C9D then s
    else match data.toNat / 65536 % 8 with
      | 1 => if s.chor.bare && !host then s else s.chorLoad
      | 2 => if s.chor.bare && !host then s else s.chorApply
      | 4 => s.chorDiscard
      | _ => s

/-- CHOR_LOAD (R383): a write to SYS_CHOR_CTL. -/
def execChorLoad (now : Nat) (req : Requester) (data : Word) (s : State) : Out :=
  act chorParts now s fun s => s.chorCtl req data

/-- CHOR_APPLY (R388): a write to SYS_CHOR_CTL. -/
def execChorApply (now : Nat) (req : Requester) (data : Word) (s : State) : Out :=
  act chorParts now s fun s => s.chorCtl req data

/-- CHOR_DISCARD (R393): a write to SYS_CHOR_CTL. -/
def execChorDiscard (now : Nat) (req : Requester) (data : Word) (s : State) : Out :=
  act chorParts now s fun s => s.chorCtl req data

/-- The commits that apply at B: the hub-wide ones, and those of the tiles that have no frame boundary. -/
def State.groupAtB (s : State) : CommitSt :=
  let mask := (tiles4.filter fun t => !(s.tile t).framed).foldl (fun a t => a + 2 ^ t) 0
  { groupCommit with tile := mask, calcfg := mask, flt := mask }

/-- CHOR_APPLY_BOUNDARY (R386, R388, R389): at B the checks run again, and the group commit applies; a structural change
restarts acquisition. The framed tiles of a live change follow at their own boundaries. -/
def execChorApplyBoundary (now : Nat) (s : State) : Out :=
  act chorParts now s fun s =>
    match s.chor.b, s.chor.pend with
    | some b, some bytes =>
      if !s.applying ∨ s.chor.tiles ≠ 0 ∨ ((s.time.cycleIdx * s.cycleU : Nat) : Int) < b then s
      else match s.checkImage bytes with
        | .error _ => s.endApply chCheckFail
        | .ok i =>
          let c := s.candidate i
          match c.firstRej groupCommit with
          | some r => (s.chorErr (i.indexOf r.typ) r.detail).endApply chCheckFail
          | none =>
            let c := c.dropCommits groupCommit
            if s.get R.SYS_CHOR_ST.CLASS = 2 then (c.restart groupCommit b).finishApply i
            else
              let c := c.applyCommits c.groupAtB b (b + (c.cycleU : Int))
              let left := 15 - c.groupAtB.tile
              if left = 0 then c.finishApply i else { c with chor := { c.chor with tiles := left } }
    | _, _ => s

/-- The expectations of the image in force are held against the registers; a MASK of 0 always matches (R385). -/
def State.runExpect (s : State) : State :=
  let s := { s with chor := { s.chor with expect := false } }
  match s.chor.force with
  | none => s
  | some b => match s.checkImage b with
    | .error _ => s
    | .ok i => match i.expect.find? fun e => e.2.1 != 0 && (s.peek e.1).getD 0 &&& e.2.1 != e.2.2 with
      | none => s
      | some e => (s.put R.SYS_CHOR_ST.EXPECT 1).log1 L.CHOR_EXPECT 0 0 0 e.1

/-- What the choreography does at a frame boundary of tile `t`: the expectations of an image that has applied on every
tile, and its part of an apply in progress (R385, R386). -/
def State.chorFrame (s : State) (t : Nat) : State :=
  let s := if s.chor.expect then s.runExpect else s
  if !s.applying || !hasBit s.chor.tiles t then s
  else
    let s := s.applyCommits { tile := 2 ^ t, calcfg := 2 ^ t, flt := 2 ^ t } 0 0
    let s := { s with chor := { s.chor with tiles := s.chor.tiles - 2 ^ t } }
    if s.chor.tiles ≠ 0 then s
    else match s.chor.pend.map s.checkImage with
      | some (.ok i) => s.finishApply i
      | _ => s

/-- CHOR_STORE (R390): the firmware writes the image in force into its slot and reads it back; `ok` says that the read-back
agrees. A write that fails has programmed as much of the image as it did. -/
def execChorStore (now : Nat) (ok : Bool) (s : State) : Out :=
  act chorParts now s fun s =>
    match s.chor.toStore, s.chor.force with
    | some slot, some b =>
      let s := { s with chor := { s.chor with toStore := none } }
      let s := s.flashErase (flChor slot) (flChor slot + 0x100000)
      if ok then ((s.flashProgram (flChor slot) b).put R.SYS_CHOR_ST.SLOT slot).put R.SYS_CHOR_ST.STORED 1
      else
        let (n, s) := s.draw
        ((s.flashProgram (flChor slot) (b.take (n % (b.length + 1)))).chorCode chFlashFail).log1 L.CHOR_STORE_FAIL 8 slot
    | _, _ => s

end Sys2Proof.Machine
end

