-- ==== Sys2Proof/Machine/Manifest.lean ====
section
/-! DEFINITION. Security fuses (R345), manifests (R352), what makes an image acceptable (R353), and the state words of the
image regions (R370). -/

namespace Sys2Proof.Machine

/-! Security fuses (Table 13.1) -/

/-- `n` fuse words from `w` as bytes, big-endian. -/
def State.fuseBytes (s : State) (w n : Nat) : List Byte := (List.range n).flatMap fun i => beBytes 4 (s.fuseWord (w + i))

/-- The unit ID, HWTYPE and POLICY words. -/
def State.fusedUnit (s : State) : Nat := s.fuseWord 0xC08 + 2 ^ 32 * s.fuseWord 0xC09
def State.fusedHw (s : State) : Nat := s.fuseWord 0xC0A
def State.ownerFw (s : State) : Bool := hasBit (s.fuseWord 0xC0B) 0

/-- Whether VENDOR_HASH is burned. -/
def State.vendorBurned (s : State) : Bool := (List.range 12).any fun i => s.fuseWord (0xC10 + i) != 0

/-- Owner slot `k`: enrolled, revoked, its hash, whether any bit of the hash is burned. -/
def State.enrolled (s : State) (k : Nat) : Bool := hasBit (s.fuseWord 0xC50) k
def State.revoked (s : State) (k : Nat) : Bool := hasBit (s.fuseWord 0xC50) (4 + k)
def State.ownerHash (s : State) (k : Nat) : List Byte := s.fuseBytes (0xC20 + 12 * k) 12
def State.ownerSpent (s : State) (k : Nat) : Bool := (List.range 12).any fun i => s.fuseWord (0xC20 + 12 * k + i) != 0

/-- The number of bits that are 1 in a word of 32 bits. -/
def ones32 (v : Nat) : Nat := ((List.range 32).filter fun i => hasBit v i).length

/-- The anti-rollback count: burned bits of the ARB words. -/
def State.arb (s : State) : Nat := ones32 (s.fuseWord 0xC51) + ones32 (s.fuseWord 0xC52)

/-- The hash of a key of 96 bytes, X then Y: SHA-384 of its uncompressed point (R345). -/
def keyHash (key : List Byte) : List Byte := sha384 (0x04 :: key)

/-- The enrolled, unrevoked slot that holds a key's hash (R348). -/
def State.ownerSlot (s : State) (key : List Byte) : Option Nat :=
  let h := keyHash key
  [0, 1, 2, 3].find? fun k => s.enrolled k && !s.revoked k && s.ownerHash k == h

/-! Manifests (Table 13.4) -/

/-- A manifest: its bytes, signatures included, and its fields. -/
structure Manifest where
  bytes : List Byte
  kind : Nat
  hw : Nat
  version : Nat
  build : Nat
  svn : Nat
  setFmt : Nat
  confWin : Nat
  length : Nat
  blocks : Nat
  units : List Nat
  owner : Bool
  vkey : List Byte
  okey : List Byte
  deriving DecidableEq, Repr

/-- Bytes that VSIG and OSIG sign. -/
def Manifest.signed (m : Manifest) : List Byte := m.bytes.take (352 + 48 * m.blocks)
def Manifest.vsig (m : Manifest) : List Byte := slice m.bytes (352 + 48 * m.blocks) 96
def Manifest.osig (m : Manifest) : List Byte := slice m.bytes (448 + 48 * m.blocks) 96

/-- The hash that block `b` must have, and the block's length. -/
def Manifest.hash (m : Manifest) (b : Nat) : List Byte := slice m.bytes (352 + 48 * b) 48
def Manifest.blockLen (m : Manifest) (b : Nat) : Nat := if b + 1 = m.blocks then m.length - 65536 * b else 65536

/-- The manifest digest, IMGID (R352), and the order of versions. -/
def Manifest.digest (m : Manifest) : List Byte := sha384 m.bytes
def Manifest.imgId (m : Manifest) : Nat := beNat (m.digest.take 4)
def Manifest.rank (m : Manifest) : Nat := m.version * 2 ^ 32 + m.build

/-- Bytes of the manifest whose first bytes are `b`. -/
def manifestLen (b : List Byte) : Nat := 448 + 48 * beNat (slice b 28 2) + (if beNat (slice b 31 1) = 1 then 96 else 0)


/-- A manifest whose fields are in range (Table 13.4), at the front of a byte string. A payload fits an image slot (R351). -/
def parseManifest (b : List Byte) : Option Manifest :=
  let f (i n : Nat) : Nat := beNat (slice b i n)
  if f 0 4 ≠ 0x46574D4E ∨ f 4 1 ≠ 1 then none
  else
    let n := manifestLen b
    let kind := f 5 1
    let len := f 24 4
    let blocks := f 28 2
    let units := f 30 1
    let most := if kind = 0 then min 383 (slotBytes / 65536 - 1) else 14
    if b.length < n ∨ 1 < kind ∨ f 6 2 ≠ 0 ∨ 64 < f 20 1 ∨ (kind = 0 ∧ f 21 1 = 0)
        ∨ (if kind = 0 then f 22 2 < 60 ∨ 3600 < f 22 2 else f 22 2 ≠ 0)
        ∨ len = 0 ∨ blocks ≠ (len + 65535) / 65536 ∨ most < blocks ∨ 16 < units ∨ 1 < f 31 1
        ∨ f (32 + 8 * units) (8 * (16 - units)) ≠ 0 ∨ (f 31 1 = 0 ∧ f 256 96 ≠ 0) then none
    else some
      { bytes := b.take n, kind := kind, hw := f 8 4, version := f 12 4, build := f 16 4, svn := f 20 1, setFmt := f 21 1
        confWin := f 22 2, length := len, blocks := blocks, units := (List.range units).map fun i => f (32 + 8 * i) 8
        owner := f 31 1 == 1, vkey := slice b 160 96, okey := slice b 256 96 }

/-- A manifest is bound to no unit, or to this one too. -/
def State.boundHere (s : State) (m : Manifest) : Bool := m.units.isEmpty || m.units.contains s.fusedUnit

/-- A manifest is acceptable with a KIND (R353), its blocks apart. -/
def State.acceptable (s : State) (kind : Nat) (m : Manifest) : Bool :=
  m.kind == kind && keyHash m.vkey == s.fuseBytes 0xC10 12 && ecdsaVerify m.vkey m.signed m.vsig
    && (!s.ownerFw || m.owner && (s.ownerSlot m.okey).isSome && ecdsaVerify m.okey m.signed m.osig)
    && m.hw == s.fusedHw && s.boundHere m && decide (s.arb ≤ m.svn)

/-! Images in flash (R351, R370) -/

/-- The manifest in the header sector at `base`. -/
def State.manifestAt (s : State) (base : Nat) : Option Manifest :=
  parseManifest (s.flashRead base (min 0xF000 (manifestLen (s.flashRead base 32))))

/-- Block `b` of the image at `base`. -/
def State.flashBlock (s : State) (base : Nat) (m : Manifest) (b : Nat) : List Byte :=
  s.flashRead (base + 65536 * (b + 1)) (m.blockLen b)

/-- Every block of the image at `base` matches its hash. -/
def State.blocksGood (s : State) (base : Nat) (m : Manifest) : Bool :=
  (List.range m.blocks).all fun b => sha384 (s.flashBlock base m b) == m.hash b

/-- The manifest of an image that is acceptable with all its blocks. -/
def State.fullGood (s : State) (kind base : Nat) : Option Manifest :=
  match s.manifestAt base with
  | none => none
  | some m => if s.acceptable kind m && s.blocksGood base m then some m else none

/-- A state word of the region at `base`, and programming it (Table 13.10). -/
def State.stateWord (s : State) (base off : Nat) : Nat := beNat (s.flashRead (base + 0xF000 + off) 4)
def State.programWord (s : State) (base off v : Nat) : State := s.flashProgram (base + 0xF000 + off) (beBytes 4 v)

/-- Offsets of the state words of I0 and I1, and of STAGING. -/
abbrev swSeq : Nat := 0x00
abbrev swCopied : Nat := 0x04
abbrev swConfirmed : Nat := 0x08
abbrev swRejected : Nat := 0x0C
abbrev swTrials : Nat := 0x10
abbrev swComplete : Nat := 0x00
abbrev swActivate : Nat := 0x04
abbrev swStagingRejected : Nat := 0x08

/-- Whether the bit of block `b` in the written bitmap is cleared. -/
def State.written (s : State) (b : Nat) : Bool :=
  !hasBit ((s.flashRead (flImage 2 + 0xF020 + b / 8) 1).headD 0).toNat (7 - b % 8)

/-- Clear the bit of block `b` in the written bitmap. -/
def State.clearWritten (s : State) (b : Nat) : State :=
  s.flashProgram (flImage 2 + 0xF020 + b / 8) [0xFF ^^^ BitVec.ofNat 8 (2 ^ (7 - b % 8))]

/-- Copy `n` bytes of flash from `a` to the erased place `b`. -/
def State.flashCopy (s : State) (a b n : Nat) : State :=
  let part := s.flash.filter fun e => decide (a ≤ e.1) && decide (e.1 < a + n)
  { s with flash := part.foldl (fun f e => Tbl.set 0xFF f (e.1 - a + b) e.2) s.flash }

end Sys2Proof.Machine
end

