-- ==== Sys2Proof/Machine/Safe.lean ====
section
/-! DEFINITION. The two safety units: parameters (R322), input states (R286 to R290), SACK (R291, R292), permits and gate
drives (R295), readback (R297), and the safety tick (R281 to R284). -/

namespace Sys2Proof.Machine

/-- The parts that a safety command may write. -/
abbrev safeParts : Parts :=
  { safe := true, pair := true, ports := true, strm := true, flash := true, sec := true, dio := true, resp := true }

/-! Parameters (Table 11.9) -/

/-- The parameter of a number and an index; 0 when nothing set it. -/
def State.sparam (s : State) (no i : Nat) : Nat := Tbl.get 0 s.safe.cfg (no * 256 + i)

abbrev pSiEn : Nat := 1
abbrev pSiKind : Nat := 2
abbrev pSiTsa : Nat := 3
abbrev pSiFilt : Nat := 5
abbrev pSiDt : Nat := 6
abbrev pSiRestart : Nat := 7
abbrev pBkEn : Nat := 16
abbrev pBkInmask : Nat := 17
abbrev pBkImin : Nat := 18
abbrev pBkImax : Nat := 19
abbrev pBkTon : Nat := 20
abbrev pBkEnc : Nat := 21
abbrev pBkSas : Nat := 22
abbrev pBkItest : Nat := 23
abbrev pBkTeng : Nat := 24
abbrev pBkThold : Nat := 25
abbrev pBkCreep : Nat := 26
abbrev pBkTbt : Nat := 27
abbrev pBkGrace : Nat := 28
abbrev pTsw : Nat := 32
abbrev pZcEn : Nat := 48
abbrev pZcConnid : Nat := 49
abbrev pZcSeed : Nat := 50
abbrev pZcIncmin : Nat := 51
abbrev pZcBrkmask : Nat := 52
abbrev pZcWdmax : Nat := 53
abbrev pZcLatw : Nat := 54
abbrev pZcTxper : Nat := 55
abbrev pSasEp : Nat := 64
abbrev pSasRole : Nat := 65
abbrev pSasBrkmask : Nat := 66
abbrev pSasEn : Nat := 67

/-- Inputs, channels and connections. -/
abbrev inputs16 : List Nat := List.range 16
abbrev chans8 : List Nat := List.range 8

/-- Inputs and connections that are enabled, and signals that are named (R300). -/
def State.siOn (s : State) (i : Nat) : Bool := s.sparam pSiEn i == 1
def State.zcOn (s : State) (c : Nat) : Bool := s.sparam pZcEn c == 1
def State.sasOn (s : State) (k : Nat) : Bool := s.sparam pSasEn k == 1

/-! State -/

def State.setSafe (s : State) (x : SafeSt) : State := { s with safe := x }
def State.bk (s : State) (n : Nat) : BkSt := Tbl.get {} s.safe.bk n
def State.setBk (s : State) (n : Nat) (x : BkSt) : State := s.setSafe { s.safe with bk := Tbl.set {} s.safe.bk n x }
def SafeUnit.input (u : SafeUnit) (i : Nat) : SiSt := Tbl.get {} u.si i
def SafeUnit.setInput (u : SafeUnit) (i : Nat) (x : SiSt) : SafeUnit := { u with si := Tbl.set {} u.si i x }

/-- Change both units. -/
def State.bothUnits (s : State) (f : SafeUnit → SafeUnit) : State :=
  s.setSafe { s.safe with sp := f s.safe.sp, kp := f s.safe.kp }

/-- The safety configuration is in force in some mode (R321). -/
def State.safeMode (s : State) : Nat := s.get R.SAFV_STATE.MODE

/-- A change of SAFV_STATE sets a hint cause (Table 15.13). -/
def State.safeHint (s old : State) : State :=
  if s.word R.SAFV_STATE = old.word R.SAFV_STATE then s else s.hint 6

/-- CROSS and KCLK with their register bits. -/
def State.setCross (s : State) (b : Bool) : State := (s.setSafe { s.safe with cross := b }).putBit R.SAFV_STATE.CROSS b
def State.setKclk (s : State) (b : Bool) : State := (s.setSafe { s.safe with kclk := b }).putBit R.SAFV_STATE.KCLK b

/-! Faults, permits and drives -/

/-- The lowest active brake fault; 0 for none (Table 11.13). -/
def BkSt.lowest (x : BkSt) : Nat := ([1, 2, 3, 4, 5, 6, 7, 8, 9].find? fun f => hasBit x.faults f).getD 0

/-- The registers of a brake channel follow its state. -/
def State.showBk (s : State) (n : Nat) : State :=
  let x := s.bk n
  let s := (s.putBit (R.SAFV_BK.PERMIT_SP n) (hasBit s.safe.sp.permits n)).putBit (R.SAFV_BK.PERMIT_K n) (hasBit s.safe.kp.permits n)
  let s := (s.putBit (R.SAFV_BK.REQ n) (hasBit (s.get R.IOT_BRKREQ.REQ) n)).putBit (R.SAFV_BK.HS n) x.hs
  (s.putBit (R.SAFV_BK.LS n) x.ls).put (R.SAFV_BK.FAULT n) x.lowest

/-- A mask without its bit `n`. -/
def clearBit (m n : Nat) : Nat := if hasBit m n then m - 2 ^ n else m

/-- The safety processor withdraws its permit for channel `n`, and SBH goes off. -/
def State.dropHigh (s : State) (n : Nat) : State :=
  let x := s.bk n
  let s := s.setSafe { s.safe with sp := { s.safe.sp with permits := clearBit s.safe.sp.permits n } }
  (s.setBk n { x with hs := false, changed := if x.hs then s.now else x.changed }).showBk n

/-- Keeper withdraws its permit for channel `n`, and SBL goes off. -/
def State.dropLow (s : State) (n : Nat) : State :=
  let x := s.bk n
  let s := s.setSafe { s.safe with kp := { s.safe.kp with permits := clearBit s.safe.kp.permits n } }
  (s.setBk n { x with ls := false, changed := if x.ls then s.now else x.changed }).showBk n

/-- Both gate drives of every channel go off; the permits stay. -/
def State.drivesOff (s : State) : State :=
  s.each chans8 fun s n =>
    let x := s.bk n
    (s.setBk n { x with hs := false, ls := false, pulse := none, changed := if x.hs || x.ls then s.now else x.changed }).showBk n

/-- A brake fault is raised: the safety processor withdraws its permit (R297). Those of Table 11.3 and R298 are logged. -/
def State.raiseBk (s : State) (n f : Nat) : State :=
  let x := s.bk n
  if hasBit x.faults f then s
  else
    let s := s.setBk n { x with faults := x.faults ||| 2 ^ f, okAt := none, acked := clearBit x.acked f }
    let s := if f ≤ 4 then s.log1 L.BRAKE_FAULT 4 n f else s
    s.dropHigh n

/-- A brake fault clears. -/
def State.clearBk (s : State) (n f : Nat) : State :=
  let x := s.bk n
  (s.setBk n { x with faults := clearBit x.faults f, acked := clearBit x.acked f }).showBk n

/-- A Zhocy connection holds channel `n` applied (R295, R310). -/
def State.zcHolds (s : State) (n : Nat) : Bool :=
  chans8.any fun c => s.zcOn c &&
    (if s.get (R.SAFV_ZC_ST.STATE c) = 1 then hasBit (s.get (R.SAFV_ZC_INC.STOPMASK c)) n
     else hasBit (s.sparam pZcBrkmask c) n)

/-- What the safety processor alone sees against channel `n`: the STOP bit of its vector (R282). -/
def State.spStops (s : State) (n : Nat) : Bool := s.zcHolds n || (s.bk n).faults != 0

/-- The permit of a unit as far as its inputs go: enabled, every input of INMASK in RUN, CROSS and KCLK clear (R295). -/
def State.inputsPermit (s : State) (u : SafeUnit) (n : Nat) : Bool :=
  s.safeMode != 0 && !s.safe.cross && !s.safe.kclk && s.sparam pBkEn n == 1 &&
    inputs16.all fun i => !hasBit (s.sparam pBkInmask n) i || s.siOn i && (u.input i).st == 0

/-- The channels that hold a property, as a mask. -/
def maskOf (f : Nat → Bool) : Nat := (chans8.filter f).foldl (fun a n => a + 2 ^ n) 0

/-- Every channel that the safety processor sees a reason to hold loses its permit at once. -/
def State.dropHeld (s : State) : State := s.each chans8 fun s n => if s.spStops n then s.dropHigh n else s

/-! Inputs (R286 to R290) -/

/-- Channel `ch` of input `i` counts as safe at the filtered levels `lev`; an overloaded SIT makes its inputs safe
(R286, R287). -/
def State.chanSafe (s : State) (i ch lev : Nat) : Bool :=
  let src := s.sparam (pSiTsa + ch) i
  let on := hasBit lev ch
  src != 0 && hasBit s.safe.sitOvl (src - 1) || (if ch = 1 ∧ s.sparam pSiKind i = 1 then on else !on)

/-- An input's state after a tick at which its channels are safe or not (Table 11.1). -/
def SiSt.next (x : SiSt) (a b manual : Bool) : SiSt :=
  if x.st = 3 then { x with test := false }
  else if x.test then { x with st := 3, fcls := 2, cnt := 0, test := false }
  else if a || b then { x with st := 1, cnt := if a == b then 0 else if x.st = 1 then x.cnt + 1 else 1 }
  else if x.st = 1 then { x with st := if manual then 2 else 0, cnt := 0 }
  else x

/-- The inputs of a unit after a tick. -/
def State.nextInputs (s : State) (u : SafeUnit) : SafeUnit :=
  (inputs16.filter s.siOn).foldl (init := u) fun u i =>
    let x := u.input i
    u.setInput i (x.next (s.chanSafe i 0 x.lev) (s.chanSafe i 1 x.lev) (s.sparam pSiRestart i == 1))

/-! SACK (R291, R292) -/

/-- A unit after a tick at which SACK reads `on` as before or off: the press that runs, and the one that has just ended. -/
def SafeUnit.nextSack (u : SafeUnit) (on : Bool) : SafeUnit :=
  if on then
    let u := { u with sack := true, offRun := 0, ended := none }
    if u.press = 0 then u else { u with press := u.press + 1 }
  else
    let off := u.offRun + 1
    { u with sack := false, offRun := off, armed := u.armed || decide (4000 ≤ off), press := 0
             ended := if u.press = 0 then none else some u.press }

/-- As `SafeUnit.nextSack`, for a press that begins: it counts only if the unit is armed. -/
def SafeUnit.sackTick (u : SafeUnit) (on : Bool) : SafeUnit :=
  if u.fresh then { u with sack := on, press := 0, offRun := if on then 0 else 1, armed := false, counts := false, ended := none }
  else if on && !u.sack then { u with sack := true, press := 1, counts := u.armed, offRun := 0, ended := none }
  else u.nextSack on

/-! Readback (Table 11.3) -/

/-- The fault that the readings show for the commanded states (0: none), and whether they are as expected. `sum` is the coil
current of R313, `ton` whether the current window applies. -/
def readback (hs ls ton : Bool) (sbv sbi sum vfld imin imax : Nat) : Nat × Bool :=
  let top := decide (vfld ≤ sbv + 300)
  match hs, ls with
  | false, false => (if sbv < 100 then 4 else if top then 3 else 0, decide (300 ≤ sbv) && !top)
  | false, true => (if top then 3 else if 300 ≤ sbv then 1 else 0, decide (sbv < 100))
  | true, false => (if 5 * imin ≤ sbi then 4 else if !top then 2 else 0, top && decide (sbi < 5 * imin))
  | true, true =>
    (if !ton then 0 else if sum < 50 * imin then 1 else if 50 * imax < sum then 2 else 0,
     top && decide (50 * imin ≤ sum) && decide (sum ≤ 50 * imax))

/-- The readings of channel `n` at a tick: registers, the comparison of R297, and since when they are as expected. -/
def State.readBk (s : State) (n : Nat) (t : TickIn) : State :=
  let x := s.bk n
  let sbv := t.sbv.getD n 0
  let sbi := t.sbi.getD n 0
  let own := s.sparam pBkImin n
  let s := (s.put (R.SAFV_BKM.SBV n) (min 65535 sbv)).put (R.SAFV_BKM.SBI n) (min 60000 sbi)
  let s := s.putBit (R.SAFV_BK.APPLIED n) (s.sparam pBkEn n != 1 || decide (sbi < 50 * own))
  if s.sparam pBkEn n ≠ 1 ∨ x.pulse.isSome ∨ s.now < x.changed + 2 * msU then s.setBk n { x with run := 0, seen := 0 }
  else
    let sum := match t.partner with
      | some (_, _, ps, on) => if hasBit on n then sbi + ps.getD n 0 else sbi
      | none => sbi
    let ton := decide (x.changed + s.sparam pBkTon n * msU ≤ s.now)
    let (f, ok) := readback x.hs x.ls ton sbv sbi sum t.vfld own (s.sparam pBkImax n)
    let okAt := if !ok then none else if x.okAt.isSome then x.okAt else some s.now
    s.setBk n { x with seen := f, run := if f = 0 then 0 else if f = x.seen then x.run + 1 else 1, okAt := okAt }

/-! The holding test at a tick (R303) -/

/-- The newest sample of the channel's CURRENT signal: its magnitude if it is valid (R302). -/
def State.testCurrent (s : State) (n : Nat) : Option Nat :=
  let e := s.sparam pSasEp (s.sparam pBkSas n)
  let w := (Tbl.get resNone s.strm.latest e).1
  if validFlags (wordFlags w) then some (wordValue w).natAbs else none

/-- The test ends with a result; the brake is released again once the torque is gone. -/
def State.endTest (s : State) (h : HoldTest) (result : Nat) : State :=
  let n := h.ch
  let s := (s.put (R.SAFV_BK.TORQUE_REQ n) 0).put (R.SAFV_BK.TEST n) result
  let s := s.setSafe { s.safe with test := some { h with phase := 3, at_ := s.now }, lastTest := n }
  let s := if result = 2 then s.raiseBk n 7 else s
  s.log1 L.BRAKE_TEST 4 n result h.creep

/-- What every tick checks of a holding test. -/
def State.testTick (s : State) : State :=
  match s.safe.test with
  | none => s
  | some h =>
    if h.phase = 3 then s
    else if !s.inputsPermit s.safe.sp h.ch ∨ s.zcHolds h.ch then s.endTest h 5
    else if h.phase ≠ 2 then s
    else
      let enc := s.sparam pBkEnc h.ch
      let creep := max h.creep (Tbl.get 0 s.time.enc enc - h.c0).natAbs
      let h := { h with creep := creep }
      let bad := match Tbl.get none s.time.encBad enc with
        | some b => decide (h.at_ ≤ b)
        | none => false
      if bad then s.endTest h 4
      else if s.sparam pBkCreep h.ch < creep then s.endTest h 2
      else match s.testCurrent h.ch with
        | some v => if v < s.sparam pBkItest h.ch then s.endTest h 3 else s.setSafe { s.safe with test := some h }
        | none => s.endTest h 3

/-- The test drops SBH of channel `n`. -/
def State.testing (s : State) (n : Nat) : Bool := match s.safe.test with
  | some h => h.ch == n
  | none => false

/-! The tick (R281 to R284) -/

/-- A unit that has started takes the other's states; two that start together put every input in DEMAND (R284). -/
def startUnits (sp kp : SafeUnit) (vs : Nat) : SafeUnit × SafeUnit :=
  let like (u v : SafeUnit) : SafeUnit :=
    (inputs16).foldl (init := u) fun u i => u.setInput i { u.input i with st := (v.input i).st, fcls := (v.input i).fcls, cnt := 0 }
  let demand (u : SafeUnit) : SafeUnit :=
    (inputs16).foldl (init := u) fun u i => u.setInput i { u.input i with st := 1, fcls := 0, cnt := 0 }
  if sp.fresh && kp.fresh then (demand sp, demand kp)
  else if sp.fresh && hasBit vs 0 then (like sp kp, kp)
  else if kp.fresh && hasBit vs 1 then (sp, like kp sp)
  else (sp, kp)

/-- Two state vectors differ in a field (R282, R283). -/
def State.vectorsDiffer (s : State) (a b : SafeUnit) : Bool :=
  a.permits != b.permits || a.sack != b.sack || a.press != b.press ||
    (inputs16.filter s.siOn).any fun i =>
      let x := a.input i
      let y := b.input i
      x.lev != y.lev || x.st != y.st || x.fcls != y.fcls

/-- The registers of the inputs follow the safety processor's. -/
def State.showInputs (s : State) : State :=
  s.each inputs16 fun s i =>
    let x := s.safe.sp.input i
    let on := s.siOn i
    let s := ((s.put (R.SAFV_SI.STATE i) (if on then x.st else 1)).put (R.SAFV_SI.FCLASS i) (if on && x.st == 3 then x.fcls else 0))
    let s := (s.putBit (R.SAFV_SI.SAFE_A i) (on && s.chanSafe i 0 x.lev)).putBit (R.SAFV_SI.SAFE_B i) (on && s.chanSafe i 1 x.lev)
    (s.putBit (R.SAFV_SI.EN i) on).put (R.SAFV_SI.DCNT i) (min 8191 x.cnt)

/-- The gate drives of channel `n` after the permits of a tick. -/
def State.driveBk (s : State) (n : Nat) : State :=
  let x := s.bk n
  let able := !s.sys.fieldFault && !s.dio.lost
  let hs := able && hasBit s.safe.sp.permits n && hasBit (s.get R.IOT_BRKREQ.REQ) n && !s.testing n && !s.safe.down
  let ls := able && hasBit s.safe.kp.permits n
  let moved := hs != x.hs || ls != x.ls
  (s.setBk n { x with hs := hs, ls := ls, changed := if moved then s.now else x.changed
                      pulse := if moved then none else x.pulse }).showBk n

/-- A demand applies channel `n`. -/
def State.demanded (s : State) (n : Nat) : Bool :=
  s.zcHolds n || inputs16.any fun i => hasBit (s.sparam pBkInmask n) i && (s.safe.sp.input i).st != 0

/-- A tick of both units. -/
def State.safetyTick (s : State) (t : TickIn) : State :=
  let vs := t.vectors.val
  let was := s.safe
  let (sp, kp) := startUnits was.sp was.kp vs
  let sp := { (s.nextInputs (sp.sackTick (hasBit t.sack.val 0))) with fresh := was.sp.fresh && !was.kp.fresh && !hasBit vs 0 }
  let kp := { (s.nextInputs (kp.sackTick (hasBit t.sack.val 1))) with fresh := was.kp.fresh && !was.sp.fresh && !hasBit vs 1 }
  let s := s.setSafe { was with sp := sp, kp := kp, vfld := t.vfld, down := was.down && !hasBit vs 1 }
  let s := if vs = 3 then { s with dio := { s.dio with lost := false } } else s
  -- an overdue test becomes a fault when a demand applies the channel (R304)
  let s := s.each chans8 fun s n => if (s.bk n).overdue && s.demanded n then s.raiseBk n 9 else s
  let s := s.testTick
  let stop := maskOf s.spStops
  let sp := { s.safe.sp with permits := maskOf fun n => s.inputsPermit s.safe.sp n && !hasBit stop n && !s.safe.sp.fresh }
  let kp := { s.safe.kp with permits := maskOf fun n => s.inputsPermit s.safe.kp n && !hasBit s.safe.stop n && !s.safe.kp.fresh }
  let bad := vs != 3 || s.vectorsDiffer sp kp
  let run := if was.sp.fresh || was.kp.fresh then 0 else if bad then s.safe.disagree + 1 else 0
  let prun := match t.partner with
    | none => 0
    | some (states, permits, _, _) =>
      if permits ≠ sp.permits ∨ inputs16.any (fun i => s.siOn i && states.getD i 1 != (sp.input i).st) then s.safe.partnerRun + 1
      else 0
  let s := s.setSafe { s.safe with sp := sp, kp := kp, disagree := run, partnerRun := prun, stop := if hasBit vs 1 then stop else s.safe.stop }
  let s := (s.put R.SAFV_STATE.DISAGREE (min 65535 run)).putBit R.SAFV_STATE.SACK sp.sack
  let s := s.showInputs
  s.each chans8 fun s n => (s.driveBk n).readBk n t

/-- SAFETY_TICK (R281 to R284, R289, R295, R297): a WB0 instant that is a multiple of 250 µs has come. Both units step
their inputs and SACK, exchange their vectors, and set permits and drives. -/
def execSafetyTick (now : Nat) (t : TickIn) (s : State) : Out :=
  act safeParts now s fun s =>
    let k := (s.wbNow 0 / ((250 * usU : Nat) : Int)).toNat
    if s.safe.tick = some k ∨ s.sys.fieldFault then s
    else ((s.setSafe { s.safe with tick := some k }).safetyTick t).safeHint s

end Sys2Proof.Machine
end

