-- ==== Sys2Proof/Machine/Brakes.lean ====
section
/-! DEFINITION. What the safety units do beside the tick: filters, test gaps, latches, acknowledges, brake diagnostics and
the holding test (R281 to R304, R314). -/

namespace Sys2Proof.Machine

/-! Latches of the units -/

/-- Both units withdraw every permit, and every gate drive goes off. -/
def State.withdrawAll (s : State) : State :=
  (s.bothUnits fun u => { u with permits := 0 }).drivesOff

/-- KEEPER_MARKER_TIMEOUT (R281): Keeper has counted `rc` cycles of its oscillator since the last marker; outside 4,500 to
5,500 it latches KCLK and drops its permits. It runs without the logic side. -/
def execKeeperMarkerTimeout (now rc : Nat) (s : State) : Out :=
  always safeParts now s fun s =>
    if 4500 ≤ rc ∧ rc ≤ 5500 ∨ s.safe.kclk then s
    else
      let t := s.each chans8 fun s n => s.dropLow n
      (((t.setKclk true).log1 L.KEEPER_CLK)).safeHint s

/-- CROSS_LATCH (R283): after 33 disagreeing ticks both units withdraw every permit and latch. -/
def execCrossLatch (now : Nat) (s : State) : Out :=
  act safeParts now s fun s =>
    if s.safe.disagree < 33 ∨ s.safe.cross then s
    else ((s.withdrawAll.setCross true).log1 L.CROSS_FAULT).safeHint s

/-- PAIR_SAFE_MISMATCH (R314): 33 ticks of difference between the safety processors of a pair set CROSS. -/
def execPairSafeMismatch (now : Nat) (s : State) : Out :=
  act safeParts now s fun s =>
    if s.safe.partnerRun < 33 ∨ s.safe.cross then s
    else ((s.withdrawAll.setCross true).log1 L.PAIR_SAFE_MISMATCH).safeHint s

/-! Start of the safety processor (R284, R308, R312) -/

/-- A connection at a start or a load: INIT, or off; its incarnation is the larger of INC_MIN and the stored one, and it
accepts only a new one. -/
def State.startZc (s : State) (c : Nat) : State :=
  let on := s.zcOn c
  let s := s.setSafe { s.safe with zc := Tbl.set {} s.safe.zc c {} }
  let s := s.put (R.SAFV_ZC_ST.STATE c) (if s.safeMode = 0 then 0 else if on then 0 else 3)
  let inc := if on then max (s.sparam pZcIncmin c) (Tbl.get 0 s.safe.incs (s.sparam pZcConnid c)) else 0
  let s := (s.put (R.SAFV_ZC_ST.INC_CUR c) inc).put (R.SAFV_ZC_INC.STOPMASK c) 0xFF
  ((s.put (R.SAFV_ZC_INC.INCTX c) s.safe.incTx).put (R.SAFV_ZC_SEQ.SEQTX c) 0).put (R.SAFV_ZC_SEQ.SEQRX c) 0

/-- Every connection starts, with the next sending incarnation. -/
def State.startZcs (s : State) : State :=
  let s := s.setSafe { s.safe with incTx := (s.safe.incTx + 1) % 65536 }
  s.each chans8 fun s c => s.startZc c

/-- A holding test in progress is gone. -/
def State.noTest (s : State) : State :=
  match s.safe.test with
  | none => s
  | some h => ((s.setSafe { s.safe with test := none }).put (R.SAFV_BK.TESTING h.ch) 0).put (R.SAFV_BK.TORQUE_REQ h.ch) 0

/-- The safety processor starts: every SBH is off, its unit takes Keeper's states at the next tick, connections start. -/
def State.startSp (s : State) : State :=
  let s := s.noTest
  let s := s.setSafe { s.safe with sp := { si := s.safe.sp.si.map fun e => (e.1, { e.2 with st := 1, fcls := 0, cnt := 0, test := false }) } }
  let s := s.each chans8 fun s n => s.dropHigh n
  s.startZcs

/-- SP_WATCHDOG (R285): every SBH drops, and the safety processor alone restarts. -/
def execSpWatchdog (now : Nat) (s : State) : Out :=
  act safeParts now s fun s => (s.startSp.setSafe { s.startSp.safe with down := true }).safeHint s

/-! Safe inputs -/

/-- WB0 time within the 16 ms pattern of the test gaps, in 2^-16 ns (R287). -/
def State.gapPhase (s : State) (k : Nat) : Nat :=
  ((s.wbNow 0 - ((4 * msU * k : Nat) : Int)) % ((16 * msU : Nat) : Int)).toNat

/-- SAFE_INPUT_FILTER (R287, R288): channel `ch` of input `i` has held `level` since local time `since`, as unit `unit` (0 the
safety processor, 1 Keeper) sees it. Across the gap of its own source and for 100 µs after it a channel holds. -/
def execSafeInputFilter (now : Nat) (i : Fin 16) (ch : Fin 2) (level : Bool) (unit : Fin 2) (since : Nat) (s : State) : Out :=
  act safeParts now s fun s =>
    let src := s.sparam (pSiTsa + ch.val) i
    if !s.siOn i ∨ s.now < since + s.sparam pSiFilt i * 250 * usU ∨ (src ≠ 0 ∧ s.gapPhase (src - 1) < 300 * usU) then s
    else
      let f (u : SafeUnit) : SafeUnit :=
        let x := u.input i
        let rest := clearBit x.lev ch
        u.setInput i { x with lev := rest + (if level then 2 ^ ch.val else 0) }
      if unit.val = 0 then s.setSafe { s.safe with sp := f s.safe.sp } else s.setSafe { s.safe with kp := f s.safe.kp }

/-- SIT_GAP_CHECK (R287): 150 µs into the gap of SIT `k`, `on` lists the channels (input × 2 + channel) that read on; one that
has `k` as its source faults at the next tick. -/
def execSitGapCheck (now : Nat) (k : Fin 4) (on : List Nat) (s : State) : Out :=
  act safeParts now s fun s =>
    if s.gapPhase k < 150 * usU ∨ 200 * usU ≤ s.gapPhase k ∨ s.sys.fieldFault then s
    else
      s.each inputs16 fun s i =>
        let hit (ch : Nat) : Bool := s.sparam (pSiTsa + ch) i == k.val + 1 && on.contains (2 * i + ch)
        if !s.siOn i || !(hit 0 || hit 1) || (s.safe.sp.input i).st == 3 then s
        else
          let s := s.bothUnits fun u => u.setInput i { u.input i with test := true }
          s.log1 L.SI_TEST 4 i

/-- SIT_OVL (R287): the output of SIT `k` stays below 12 V while it drives, or no longer does. -/
def execSitOvl (now : Nat) (k : Fin 4) (low : Bool) (s : State) : Out :=
  act safeParts now s fun s =>
    if low = hasBit s.safe.sitOvl k then s
    else if low then (s.setSafe { s.safe with sitOvl := s.safe.sitOvl + 2 ^ k.val }).log1 L.SIT_OVL 4 k
    else s.setSafe { s.safe with sitOvl := clearBit s.safe.sitOvl k }

/-- SI_DISCREPANCY (R290): the discrepancy count of input `i` has reached DTT + 1 in a unit. -/
def execSiDiscrepancy (now : Nat) (i : Fin 16) (s : State) : Out :=
  act safeParts now s fun s =>
    let lim := s.sparam pSiDt i + 1
    let due (u : SafeUnit) : Bool := s.siOn i && (u.input i).st == 1 && decide (lim ≤ (u.input i).cnt)
    let f (u : SafeUnit) : SafeUnit := if due u then u.setInput i { u.input i with st := 3, fcls := 1 } else u
    let log := due s.safe.sp || due s.safe.kp
    let t := (s.bothUnits f).showInputs
    if log then t.log1 L.SI_DISCREPANCY 4 i else s

/-! Acknowledges (R291 to R293) -/

/-- A press that ended at this tick acknowledges. -/
def SafeUnit.acks (u : SafeUnit) : Bool := match u.ended with
  | some n => u.counts && !u.stuck && decide (400 ≤ n) && decide (n ≤ 19999)
  | none => false

/-- Inputs of a unit after an acknowledge, and those it acted on. -/
def State.ackInputs (s : State) (u : SafeUnit) : SafeUnit × Nat :=
  (inputs16.filter s.siOn).foldl (init := (u, 0)) fun r i =>
    let x := r.1.input i
    if x.st = 3 ∧ s.chanSafe i 0 x.lev ∧ s.chanSafe i 1 x.lev then (r.1.setInput i { x with st := 1, fcls := 0, cnt := 0 }, r.2 + 2 ^ i)
    else if x.st = 2 then (r.1.setInput i { x with st := 0 }, r.2 + 2 ^ i)
    else r

/-- The excitation sources of endpoint `e` show no class that is not cleared (R301). -/
def State.excQuiet (s : State) (e : Nat) : Bool :=
  let t := tileOf e
  let c := chanOf e
  (s.excSt t (c / 4)).classes.isEmpty && (s.excSt t (24 + c)).classes.isEmpty

/-- Brake faults that an acknowledge clears: those of Table 11.3 once the readings have been right for 1 s, SIG_FAULT once
its sources are clear; those of a switch test then wait for a passing test (R297, R299, R301). -/
def State.ackBk (s : State) (n : Nat) : State :=
  let x := s.bk n
  let held := match x.okAt with
    | some t => decide (t + secU ≤ s.now)
    | none => false
  let s := s.each [1, 2, 3, 4] fun s f => if held && hasBit x.faults f then s.clearBk n f else s
  let s := if hasBit x.faults 8 && x.sigs.all s.excQuiet then (s.setBk n { s.bk n with sigs := [] }).clearBk n 8 else s
  s.setBk n { s.bk n with acked := (s.bk n).faults &&& 0x60 }

/-- An entry of the change log (Table 11.8) with bytes 14 to 27 `mid` and configuration digest `digest` is written as entry
`i`, after the previous entry `prev` (none for the first entry ever), signed with the identity key. -/
def State.changeEntry (s : State) (i : Nat) (mid digest : List Byte) (prev : Option (List Byte)) (key : Nat) : List Byte :=
  let x := s.wbNow 0
  let body := beBytes 4 i ++ beBytes 6 (secOf x) ++ beBytes 4 (nsOf x) ++ mid ++ digest
    ++ (match prev with | some p => sha384 p | none => List.replicate 48 0) ++ List.replicate 36 0
  body ++ ecdsaSign key body

/-- UNIT_SECRET and the identity key (R346). -/
def State.identityKey (s : State) : Nat :=
  beNat (hmac384 (s.fuseBytes 0xC00 8)
    ("GH5384 identity".toUTF8.toList.map (fun b => BitVec.ofNat 8 b.toNat) ++ beBytes 4 s.fusedHw)) % (ecN - 1) + 1

/-- The place of a change log entry, and the newest entry. -/
def entryAt (i : Nat) : Nat := flChangeLog + 256 * (i - 1)
def State.lastEntry (s : State) : Option (List Byte) :=
  let n := s.get R.SAFV_LOG.ENTRIES
  if n = 0 then none else some (s.flashRead (entryAt n) 256)

/-- Write the next entry; a write that does not read back leaves part of the entry, and the log as long as it was. Answers
whether it succeeded. -/
def State.logChange (s : State) (mid digest : List Byte) (ok : Bool) : State × Bool :=
  let n := s.get R.SAFV_LOG.ENTRIES + 1
  let e := s.changeEntry n mid digest s.lastEntry s.identityKey
  if ok then ((s.flashProgram (entryAt n) e).put R.SAFV_LOG.ENTRIES n, true)
  else
    let (k, s) := s.draw
    (s.flashProgram (entryAt n) (e.take (k % 256)), false)

/-- SAFV_DIGEST as bytes. -/
def State.safeDigest (s : State) : List Byte := s.getBytes R.SAFV_DIGEST.DIGEST 12

/-- MODE of SAFV_STATE, kept in the SAFETY region too, and logged when it changes. -/
def State.setMode (s : State) (m : Nat) : State :=
  let old := s.safeMode
  let s := (s.setSafe { s.safe with mode := m }).put R.SAFV_STATE.MODE m
  if old = m then s else s.log1 L.SAFE_MODE 0 0 m

/-- An acknowledge with the seal closed ends commissioning, with an entry that records the digest in force (R321). What the
entry's request fields hold is not stated. -/
def State.toService (s : State) : State :=
  if s.safeMode ≠ 1 ∨ !s.on R.SYS_STRAP.SEAL_CLOSED then s
  else
    let (r, s) := s.draw
    let mid := beBytes 2 (r % 2 ^ 16) ++ List.replicate 12 0
    let s := if s.get R.SAFV_LOG.ENTRIES < 4096 then (s.logChange mid s.safeDigest true).1 else s
    s.setMode 2

/-- SACK_RELEASE (R291, R293): the release after a press acknowledges, in each unit whose press counts. -/
def execSackRelease (now : Nat) (s : State) : Out :=
  act safeParts now s fun s =>
    let a := s.safe.sp.acks
    let b := s.safe.kp.acks
    if !a && !b then s
    else
      let (sp, m) := if a then s.ackInputs s.safe.sp else (s.safe.sp, 0)
      let (kp, _) := if b then s.ackInputs s.safe.kp else (s.safe.kp, 0)
      let t := s.setSafe { s.safe with sp := { sp with ended := none }, kp := { kp with ended := none } }
      if !a then t
      else
        let u := t.each chans8 fun s n => s.ackBk n
        let bks := maskOf fun n => (u.bk n).faults != (t.bk n).faults
        let latched := (u.safe.cross || u.safe.kclk) && b && u.on R.SYS_STRAP.SEAL_OPEN
        let u := if latched then ((u.setCross false).setKclk false).setSafe
          { ((u.setCross false).setKclk false).safe with disagree := 0, partnerRun := 0 } else u
        let u := (u.log1 L.SAFE_ACK 0 0 0 (m + bks * 2 ^ 16 + (if latched then 2 ^ 24 else 0))).toService
        u.showInputs.safeHint s

/-- SACK_STUCK (R292): a press has reached 20,000 ticks in a unit. -/
def execSackStuck (now : Nat) (s : State) : Out :=
  act safeParts now s fun s =>
    let due (u : SafeUnit) : Bool := u.sack && !u.stuck && decide (20000 ≤ u.press)
    if !due s.safe.sp && !due s.safe.kp then s
    else
      let t := s.bothUnits fun u => if due u then { u with stuck := true, counts := false } else u
      let t := if due s.safe.sp then (t.put R.SAFV_STATE.SACK_STUCK 1).log1 L.SACK_STUCK else t
      t.safeHint s

/-- SACK_STUCK_CLEAR (R292): SACK has read off for 4,000 ticks in a unit. -/
def execSackStuckClear (now : Nat) (s : State) : Out :=
  act safeParts now s fun s =>
    let t := s.bothUnits fun u => if 4000 ≤ u.offRun then { u with stuck := false } else u
    (t.putBit R.SAFV_STATE.SACK_STUCK t.safe.sp.stuck).safeHint s

/-! Brake diagnostics -/

/-- BRAKE_READBACK_FAULT (R297): channel `n` has mismatched at 4 consecutive ticks. -/
def execBrakeReadbackFault (now : Nat) (n : Fin 8) (s : State) : Out :=
  act safeParts now s fun s =>
    let x := s.bk n
    if x.run < 4 ∨ x.seen = 0 then s else s.raiseBk n x.seen

/-- BRAKE_OVERCURRENT (R298): SBI of channel `n` (in 0.02 mV) above 2 × IMAX turns both gate drives off. -/
def execBrakeOvercurrent (now : Nat) (n : Fin 8) (sbi : Nat) (s : State) : Out :=
  act safeParts now s fun s =>
    if s.sparam pBkEn n ≠ 1 ∨ sbi ≤ 2 * (50 * s.sparam pBkImax n) then s else (s.raiseBk n 2).dropLow n

/-- TSW in local units. -/
def State.tswU (s : State) : Nat := s.sparam pTsw 0 * secU

/-- The offset of a switch test in its period: the high side n × 50 ms, the low side TSW / 2 later, and on the follow of a
pair TSW / 4 later still (R299, R313). -/
def State.testOffset (s : State) (n : Nat) (high : Bool) : Nat :=
  50 * n * msU + (if high then 0 else s.tswU / 2) + (if s.isPaired && s.isFollow then s.tswU / 4 else 0)

/-- An acknowledged fault of a switch test clears by a pass of that switch. -/
def State.switchPass (s : State) (n : Nat) (high : Bool) : State :=
  let f := if high then 5 else 6
  if hasBit (s.bk n).acked f then s.clearBk n f else s

/-- BRAKE_SWITCH_TEST (R299): in each TSW period, at its offset, a switch is pulsed off; with both switches off the readings
already prove both open. -/
def execBrakeSwitchTest (now : Nat) (n : Fin 8) (high : Bool) (s : State) : Out :=
  act safeParts now s fun s =>
    if s.tswU = 0 ∨ s.sparam pBkEn n ≠ 1 then s
    else
      let x := s.bk n
      let at_ := s.wbNow 0 - (s.testOffset n high : Int)
      let k := (at_ / (s.tswU : Int)).toNat + 1
      let side := if high then 0 else 1
      if at_ < 0 ∨ Tbl.get 0 x.tested side = k then s
      else
        let x := { x with tested := Tbl.set 0 x.tested side k }
        let s := s.setBk n x
        let pulse (how : Nat) : State := s.setBk n { x with pulse := some ⟨high, s.now, how⟩, changed := s.now }
        match x.hs, x.ls with
        | true, true => pulse (if high then 0 else 1)
        | false, true => if high then s else pulse 2
        | false, false => if x.okAt.isSome then s.switchPass n high else s
        | true, false => s

/-- BRAKE_SWITCH_CONFIRM (R299): the readings (10 mV, 0.02 mV) confirm within 500 µs that the switch has opened, and the
pulse ends. -/
def execBrakeSwitchConfirm (now : Nat) (n : Fin 8) (sbv sbi : Nat) (s : State) : Out :=
  act safeParts now s fun s =>
    let x := s.bk n
    match x.pulse with
    | none => s
    | some p =>
      let seen := match p.how with
        | 0 => decide (sbv < 100)
        | 1 => decide (sbi < 5 * s.sparam pBkImin n)
        | _ => decide (300 ≤ sbv)
      if !seen ∨ p.at_ + 500 * usU < s.now then s
      else ((s.setBk n { x with pulse := none, changed := s.now }).bump R.SAFV_CNT.SWPASS).switchPass n p.high

/-- BRAKE_SWITCH_TIMEOUT (R299): an opening not confirmed within 500 µs; the other switch drops at once. -/
def execBrakeSwitchTimeout (now : Nat) (n : Fin 8) (s : State) : Out :=
  act safeParts now s fun s =>
    let x := s.bk n
    match x.pulse with
    | none => s
    | some p =>
      if s.now ≤ p.at_ + 500 * usU then s
      else
        let s := ((s.setBk n { x with pulse := none, changed := s.now }).bump R.SAFV_CNT.SWFAIL).raiseBk n (if p.high then 5 else 6)
        if p.high then s.dropLow n else s

/-! Signals (R300, R301) -/

/-- SAS_FAULT_RECORD (R300, R301): the safety processor takes the oldest excitation fault record; one that no signal names is
counted and ignored. -/
def execSasFaultRecord (now : Nat) (s : State) : Out :=
  act { safeParts with cal := true } now s fun s =>
    match s.cal.recs with
    | [] => s
    | (e, _, _) :: l =>
      let s := { s with cal := { s.cal with recs := l } }
      match inputs16.filter fun k => s.sasOn k && s.sparam pSasEp k == e with
      | [] => s.setSafe { s.safe with unnamed := s.safe.unnamed + 1 }
      | ks => s.each chans8 fun s n =>
          if ks.any fun k => hasBit (s.sparam pSasBrkmask k) n then
            let s := s.raiseBk n 8
            s.setBk n { s.bk n with sigs := if (s.bk n).sigs.contains e then (s.bk n).sigs else e :: (s.bk n).sigs }
          else s

/-! The holding test (R303, R304) -/

/-- Whether a test of channel `n` may start (R303, step 1). -/
def State.mayTest (s : State) (n : Nat) : Bool :=
  s.safeMode != 0 && s.sparam pBkEn n == 1 && s.sparam pBkItest n != 0 && s.safe.test.isNone
    && (inputs16.all fun i => !hasBit (s.sparam pBkInmask n) i || s.siOn i && (s.safe.sp.input i).st == 0)
    && (s.bk n).faults &&& 0x17E == 0
    && (match Tbl.get none s.time.encBad (s.sparam pBkEnc n) with
        | some t => decide (t + secU < s.now)
        | none => true)

/-- A test of channel `n` starts: SBH drops (R303, step 2). -/
def State.startTest (s : State) (n : Nat) : State :=
  let s := s.setSafe { s.safe with test := some { ch := n, at_ := s.now } }
  let x := s.bk n
  ((s.setBk n { x with hs := false, pulse := none, changed := if x.hs then s.now else x.changed }).put (R.SAFV_BK.TESTING n) 1).showBk n

/-- BRAKE_TEST_ENGAGE (R303, step 3): after TENG ms the count is recorded and the torque asked for. -/
def execBrakeTestEngage (now : Nat) (s : State) : Out :=
  act safeParts now s fun s =>
    match s.safe.test with
    | none => s
    | some h =>
      if h.phase ≠ 0 ∨ s.now < h.at_ + s.sparam pBkTeng h.ch * msU then s
      else
        let c := Tbl.get 0 s.time.enc (s.sparam pBkEnc h.ch)
        (s.setSafe { s.safe with test := some { h with phase := 1, at_ := s.now, c0 := c } }).put (R.SAFV_BK.TORQUE_REQ h.ch) 1

/-- BRAKE_TEST_TORQUE (R303, steps 4 and 5): the first valid sample of at least ITEST starts the hold. -/
def execBrakeTestTorque (now : Nat) (s : State) : Out :=
  act safeParts now s fun s =>
    match s.safe.test with
    | none => s
    | some h =>
      let strong := match s.testCurrent h.ch with
        | some v => decide (s.sparam pBkItest h.ch ≤ v)
        | none => false
      if h.phase ≠ 1 ∨ !strong ∨ h.at_ + 5 * secU < s.now then s
      else s.setSafe { s.safe with test := some { h with phase := 2, at_ := s.now } }

/-- BRAKE_TEST_NO_TORQUE (R303, step 4): no sufficient current within 5 s. -/
def execBrakeTestNoTorque (now : Nat) (s : State) : Out :=
  act safeParts now s fun s =>
    match s.safe.test with
    | none => s
    | some h => if h.phase ≠ 1 ∨ s.now < h.at_ + 5 * secU then s else s.endTest h 3

/-- BRAKE_TEST_HOLD_END (R303, step 6, R304): THOLD has passed; the test passes. -/
def execBrakeTestHoldEnd (now : Nat) (s : State) : Out :=
  act safeParts now s fun s =>
    match s.safe.test with
    | none => s
    | some h =>
      if h.phase ≠ 2 ∨ s.now < h.at_ + s.sparam pBkThold h.ch * msU then s
      else
        let s := s.endTest h 1
        let s := s.setBk h.ch { s.bk h.ch with passAt := s.now, due := false, overdue := false }
        (s.clearBk h.ch 7).clearBk h.ch 9

/-- BRAKE_TEST_RESTORE (R303, step 6): once the current is below half of ITEST, SBH follows R295 again. -/
def execBrakeTestRestore (now : Nat) (s : State) : Out :=
  act safeParts now s fun s =>
    match s.safe.test with
    | none => s
    | some h =>
      let weak := match s.testCurrent h.ch with
        | some v => decide (2 * v < s.sparam pBkItest h.ch)
        | none => false
      if h.phase ≠ 3 ∨ !weak then s else (s.noTest).driveBk h.ch

/-- Local time at which the test of channel `n` falls due. -/
def State.dueAt (s : State) (n : Nat) : Nat := (s.bk n).passAt + s.sparam pBkTbt n * 3600 * secU

/-- TEST_DUE (R304): TBT hours after the last pass. -/
def execTestDue (now : Nat) (n : Fin 8) (s : State) : Out :=
  act safeParts now s fun s =>
    if s.sparam pBkTbt n = 0 ∨ (s.bk n).due ∨ s.now < s.dueAt n then s
    else (s.setBk n { s.bk n with due := true }).log1 L.TEST_DUE 4 n

/-- TEST_GRACE_EXPIRY (R304): GRACE hours later a demand will make TEST_DUE a fault. -/
def execTestGraceExpiry (now : Nat) (n : Fin 8) (s : State) : Out :=
  act safeParts now s fun s =>
    if !(s.bk n).due ∨ s.now < s.dueAt n + s.sparam pBkGrace n * 3600 * secU then s
    else s.setBk n { s.bk n with overdue := true }

end Sys2Proof.Machine
end

