-- ==== Sys2Proof/Machine/Zhocy.lean ====
section
/-! DEFINITION. Zhocy (R305 to R313). -/

namespace Sys2Proof.Machine

/-- A connection's state. -/
def State.zc (s : State) (c : Nat) : ZcSt := Tbl.get {} s.safe.zc c
def State.setZc (s : State) (c : Nat) (x : ZcSt) : State := s.setSafe { s.safe with zc := Tbl.set {} s.safe.zc c x }

/-- The safety check of connection `c` over the bytes before the CRC (R306). -/
def State.zcCrc (s : State) (c : Nat) (b : List Byte) : Nat := crc32cFrom (s.sparam pZcSeed c) b

/-- What a message's checks 3 to 7 of R307 find on connection `c`: the counter that it raises, or none. -/
def State.zcRefuses (s : State) (c : Nat) (b : List Byte) : Option FldAt :=
  let f (i n : Nat) : Nat := beNat (slice b i n)
  let len := f 10 1
  let inc := f 4 2
  let cur := s.get (R.SAFV_ZC_ST.INC_CUR c)
  let gap := (f 6 2 + 65536 - s.get (R.SAFV_ZC_SEQ.SEQRX c)) % 65536
  if f (12 + len) 4 ≠ s.zcCrc c (b.take (12 + len)) then some (R.SAFV_ZC_C0.CRCERR c)
  else if f 8 2 = 0 then some (R.SAFV_ZC_C2.PAYERR c)
  else if inc < cur ∨ (inc = cur ∧ (s.zc c).fresh) then some (R.SAFV_ZC_C0.OLDINC c)
  else if inc = cur ∧ gap = 0 then some (R.SAFV_ZC_C1.DUP c)
  else if inc = cur ∧ 1024 < gap then some (R.SAFV_ZC_C1.SEQERR c)
  else if len ≠ 0 ∧ len ≠ 4 then some (R.SAFV_ZC_C2.PAYERR c)
  else none

/-- The test bits of a message act on a channel of the connection's BRKMASK (R311). -/
def State.zcTest (s : State) (c flags n : Nat) : State :=
  if 7 < n ∨ !hasBit (s.sparam pZcBrkmask c) n then s
  else
    let s := if hasBit flags 1 && s.mayTest n then s.startTest n else s
    match s.safe.test with
    | some h => if hasBit flags 2 && h.ch == n && h.phase != 3 then s.endTest h 6 else s
    | none => s

/-- An accepted message (R308 to R311). -/
def State.zcAccept (s : State) (c : Nat) (b : List Byte) : State :=
  let f (i n : Nat) : Nat := beNat (slice b i n)
  let inc := f 4 2
  let s := if inc = s.get (R.SAFV_ZC_ST.INC_CUR c) then s
    else
      let s := s.setSafe { s.safe with incs := Tbl.set 0 s.safe.incs (s.sparam pZcConnid c) inc }
      (s.put (R.SAFV_ZC_ST.INC_CUR c) inc).put (R.SAFV_ZC_INC.STOPMASK c) 0xFF
  let s := s.put (R.SAFV_ZC_SEQ.SEQRX c) (f 6 2)
  let wait := (min (f 8 2) (s.sparam pZcWdmax c) + s.sparam pZcLatw c) * msU
  let s := s.setZc c { s.zc c with fresh := false, deadline := some (s.now + wait) }
  if f 10 1 = 0 then s
  else
    let flags := f 13 1
    let s := s.put (R.SAFV_ZC_INC.STOPMASK c) (f 12 1)
    let s := if hasBit flags 0 then s.put (R.SAFV_ZC_ST.STATE c) 1 else s
    (s.zcTest c flags (f 14 1)).dropHeld

/-- A message is checked and accepted (R307); the lead passes an accepted one to its partner (R313). -/
def State.zhocy (s : State) (b : List Byte) : State :=
  let len := (b.getD 10 0).toNat
  if s.safeMode = 0 then s
  else if 64 < len ∨ b.length ≠ 16 + len then s.bump R.SAFV_ZCERR.BADLEN
  else match chans8.find? fun c => s.zcOn c && s.sparam pZcConnid c == beNat (slice b 0 4) && (b.getD 11 0).toNat % 2 == 0 with
    | none => s.bump R.SAFV_ZCERR.NOCONN
    | some c => match s.zcRefuses c b with
      | some fld => s.bump fld
      | none =>
        let s := s.zcAccept c b
        s.mirror (.zhocy b)

/-- ZHOCY_RX (R307): a SAFE frame arrives by a chain port. -/
def execZhocyRx (now : Nat) (rx : Rx) (s : State) : Out :=
  act safeParts now s fun s =>
    s.receive rx (fun f => f.flow == 4 && f.type == 0) fun s => (s.zhocy rx.frame.body).safeHint s

/-- ZHOCY_WD (R310): the deadline of connection `c` has passed. -/
def execZhocyWd (now : Nat) (c : Fin 8) (s : State) : Out :=
  act safeParts now s fun s =>
    match (s.zc c).deadline with
    | none => s
    | some d =>
      if !s.zcOn c ∨ s.now < d then s
      else
        let s := (s.setZc c { s.zc c with deadline := none }).put (R.SAFV_ZC_ST.STATE c) 2
        ((s.bump (R.SAFV_ZC_C2.WDFAIL c)).log1 L.ZHOCY_WD 4 c).dropHeld

/-- The status payload (Table 11.5). -/
def State.zcStatus (s : State) : List Byte :=
  let ins (p : SiSt → Bool) : Nat := (inputs16.filter fun i => s.siOn i && p (s.safe.sp.input i)).foldl (fun a i => a + 2 ^ i) 0
  let bits (l : List (Nat × Bool)) : Nat := (l.filter (·.2)).foldl (fun a x => a + 2 ^ x.1) 0
  let torque := chans8.any fun n => s.on (R.SAFV_BK.TORQUE_REQ n)
  let ch := match s.safe.test with
    | some h => h.ch
    | none => s.safe.lastTest
  let res := s.get (R.SAFV_BK.TEST s.safe.lastTest)
  beBytes 2 (ins fun x => x.st != 0) ++ beBytes 2 (ins fun x => x.st == 3)
    ++ beBytes 1 (s.safe.sp.permits &&& s.safe.kp.permits)
    ++ beBytes 1 (maskOf fun n => s.on (R.SAFV_BK.APPLIED n))
    ++ beBytes 1 (maskOf fun n => (s.bk n).faults != 0)
    ++ beBytes 1 (bits [(0, s.on R.SYS_STRAP.SEAL_OPEN), (1, s.safe.cross || s.safe.kclk), (2, s.safe.sp.stuck),
        (3, s.safeMode == 1), (4, torque), (5, s.safe.test.isSome)])
    ++ beBytes 1 (ch * 16 + res) ++ [0] ++ beBytes 2 (s.get R.SAFV_LOG.ENTRIES) ++ s.safeDigest.take 4

/-- The message that connection `c` sends (Table 11.4, R312). -/
def State.zcMessage (s : State) (c : Nat) : List Byte :=
  let b := beBytes 4 (s.sparam pZcConnid c) ++ beBytes 2 (s.get (R.SAFV_ZC_INC.INCTX c)) ++ beBytes 2 (s.get (R.SAFV_ZC_SEQ.SEQTX c))
    ++ beBytes 2 (2 * s.sparam pZcTxper c) ++ [16, 1] ++ s.zcStatus
  b ++ beBytes 4 (s.zcCrc c b)

/-- ZHOCY_SEND (R312): every TXPER ms of WB0 the lead sends the status of connection `c` out of both chain ports (R262). -/
def execZhocySend (now : Nat) (c : Fin 8) (s : State) : Out :=
  act safeParts now s fun s =>
    let per := s.sparam pZcTxper c * msU
    if s.isFollow ∨ !s.zcOn c ∨ per = 0 ∨ s.safeMode = 0 then s
    else
      let k := (s.wbNow 0 / (per : Int)).toNat
      if (s.zc c).sentAt = some k then s
      else
        let s := s.setZc c { s.zc c with sentAt := some k }
        let s := s.put (R.SAFV_ZC_SEQ.SEQTX c) (s.get (R.SAFV_ZC_SEQ.SEQTX c) + 1)
        let f := s.ownFrame 4 0 0 1 0 0 (s.zcMessage c)
        (s.sendOwn 0 f).sendOwn 1 { f with dtype := 2 }

end Sys2Proof.Machine
end

