-- ==== Sys2Proof/Machine/Spmb.lean ====
section
/-! DEFINITION. The safety configuration: constraints (R300, R306, R322), the mailbox (R316 to R318, R323), and the change of
configuration (R319 to R321). -/

namespace Sys2Proof.Machine

/-! Constraints (Table 11.9) -/

/-- A value of a configuration. -/
def cfgAt (c : Tbl Nat) (no i : Nat) : Nat := Tbl.get 0 c (no * 256 + i)

/-- Every ID of the canonical list, in ascending order (R382). -/
def paramIds : List Nat :=
  let per (nos : List Nat) (n : Nat) : List Nat := nos.flatMap fun no => (List.range n).map fun i => no * 256 + i
  per [1, 2, 3, 4, 5, 6, 7] 16 ++ per ((List.range 13).map (· + 16)) 8 ++ [pTsw * 256] ++ per ((List.range 8).map (· + 48)) 8
    ++ per [64, 65, 66, 67] 16

/-- A value lies between two limits. -/
def within (v lo hi : Nat) : Bool := decide (lo ≤ v) && decide (v ≤ hi)

/-- The ranges of an input, of a channel, of a connection and of a signal; one that is not enabled, or not named, is not
checked. -/
def siGood (c : Tbl Nat) (i : Nat) : Bool :=
  let v (no : Nat) : Nat := cfgAt c no i
  v 1 == 0 || v 1 == 1 && within (v 2) 0 1 && within (v 3) 0 4 && within (v 4) 0 4 && within (v 5) 1 4 && within (v 6) 16 8000
    && within (v 7) 0 1 && !(v 3 == v 4 && v 3 != 0)
def bkGood (c : Tbl Nat) (n : Nat) : Bool :=
  let v (no : Nat) : Nat := cfgAt c no n
  (v 23 == 0 || cfgAt c pSasEn (v 22) == 1 && decide (v 22 ≤ 15) && cfgAt c pSasRole (v 22) == 1) &&
  (v 16 == 0 || v 16 == 1 && within (v 17) 0 65535 && within (v 18) 1 500 && within (v 19) 1 500 && decide (v 18 < v 19)
    && within (v 20) 10 1000 && within (v 21) 0 3 && decide (v 23 < 2 ^ 23)
    && (v 23 == 0 || within (v 24) 50 2000 && within (v 25) 100 10000 && within (v 26) 1 65535)
    && within (v 27) 0 720 && within (v 28) 0 168)
def zcGood (c : Tbl Nat) (k : Nat) : Bool :=
  let v (no : Nat) : Nat := cfgAt c no k
  v 48 == 0 || v 48 == 1 && v 50 != 0 && within (v 51) 0 65535 && within (v 52) 0 255 && within (v 53) 2 1000 && within (v 54) 0 100
    && within (v 55) 1 1000
    && chans8.all fun j => j == k || cfgAt c 48 j == 0 || cfgAt c 49 j != v 49 && cfgAt c 50 j != v 50
def State.sasGood (s : State) (c : Tbl Nat) (k : Nat) : Bool :=
  let v (no : Nat) : Nat := cfgAt c no k
  let e := v 64
  v 67 == 0 || v 67 == 1 && within e 0 383 && within (v 65) 0 1 && within (v 66) 0 255
    && s.inUse (R.TILE_CHCFG.SAFE (tileOf e) (chanOf e)) == 1 && chanOn s.inUse e
    && (v 65 == 0 || s.inUse (R.CAL_TOL2.DRIFT (tileOf e)) != 0)

/-- A configuration meets every range and constraint, and names only parameters of Table 11.9 (R322). -/
def State.safetyOk (s : State) (c : Tbl Nat) : Bool :=
  c.all (fun e => paramIds.contains e.1) && inputs16.all (siGood c) && chans8.all (bkGood c) && within (cfgAt c pTsw 0) 1 60
    && chans8.all (zcGood c) && inputs16.all (s.sasGood c)

/-- The safety digest of a configuration (R382). -/
def digestOf (c : Tbl Nat) : List Byte := sha384 (paramIds.flatMap fun id => beBytes 2 id ++ beBytes 4 (Tbl.get 0 c id))

/-- A service parameter may change while sealed. -/
def isService (no : Nat) : Bool := [6, 27, 28, 32, 54, 55].contains no

/-! The configuration in force -/

/-- A configuration comes into force in both units: what reads it follows; `load` puts every input in DEMAND and starts the
connections (R308, R310, R321), and so does a start with the stored configuration. -/
def State.configure (s : State) (cfg : Tbl Nat) (load : Bool) : State :=
  let was := s.zcOn
  let s := s.setSafe { s.safe with cfg := cfg }
  let s := s.putBytes R.SAFV_DIGEST.DIGEST (digestOf cfg)
  let s := s.bothUnits fun u => (inputs16).foldl (init := u) fun u i =>
    if load || cfgAt cfg pSiEn i == 0 then u.setInput i { u.input i with st := 1, fcls := 0, cnt := 0, test := false } else u
  let s := if load then s.startZcs else s.each chans8 fun s c => if s.zcOn c != was c then s.startZc c else s
  let s := match s.safe.pending with
    | some b => if sectionParams b = cfg then (s.setSafe { s.safe with pending := none }).put R.SAFV_STATE.PENDING 0 else s
    | none => s
  s.showInputs.dropHeld

/-- The safety processor starts with the configuration that the SAFETY region holds (R52, R285, R321). -/
def State.restoreSafety (s : State) : State :=
  if s.safe.mode = 0 then s
  else
    let s := s.setMode s.safe.mode
    let s := s.putBytes R.SAFV_DIGEST.DIGEST (digestOf s.safe.cfg)
    s.startZcs.showInputs

/-- SAFETY_CONFIG_SWITCH (R318, R319): the agreed tick has come. In a pair the partner must have confirmed the change; the entry
is written and read back (`flashOk`) before the change applies. -/
def execSafetyConfigSwitch (now : Nat) (confirmed flashOk : Bool) (s : State) : Out :=
  act safeParts now s fun s =>
    match s.safe.newCfg with
    | none => s
    | some c =>
      if (s.wbNow 0 / ((250 * usU : Nat) : Int)).toNat < c.tick then s
      else
        let t := s.setSafe { s.safe with newCfg := none }
        -- only the chip whose mailbox took the request ends it
        let end_ (t : State) (code : Nat) : State :=
          if s.on R.SYS_SPMB_ST.BUSY then ((t.put R.SYS_SPMB_ST.BUSY 0).put R.SYS_SPMB_ST.CODE code).hint 7 else t
        if s.isPaired && !confirmed then end_ t 8
        else
          let (t, ok) := t.logChange c.entry (digestOf c.cfg) flashOk
          if !ok then end_ t 9
          else
            let t := (end_ t 0).configure c.cfg c.load
            let t := if c.load then (t.setMode 1).extendDm 5 (digestOf c.cfg) else t
            t.safeHint s

/-! The mailbox (R323) -/

/-- Word `w` of the request. -/
def State.reqWord (s : State) (w : Nat) : Nat :=
  if w < 32 then s.get (R.SYS_SPMB_REQ.REQ w) else s.get (R.SYS_SPMB_REQ_HI.REQ (w - 32))

/-- `n` bytes of the request from word `w`. -/
def State.reqBytes (s : State) (w n : Nat) : List Byte :=
  ((List.range ((n + 3) / 4)).flatMap fun i => beBytes 4 (s.reqWord (w + i))).take n

/-- OP, ROLE and PWLEN of the request. -/
def State.reqOp (s : State) : Nat := s.reqWord 0 % 256
def State.reqRole (s : State) : Nat := s.reqWord 0 / 256 % 256
def State.reqPwlen (s : State) : Nat := s.reqWord 0 / 65536 % 256

/-- The request ends with a code; only READ_LOG leaves a response. -/
def State.spmbEnd (s : State) (code : Nat) : State :=
  ((s.put R.SYS_SPMB_ST.BUSY 0).put R.SYS_SPMB_ST.CODE code).putBytes R.SYS_SPMB_RSP.RSP (List.replicate 256 0)

/-- The OWNER password is checked (R317): 0 for right, else the code. Five wrong ones in a row lock passwords out. -/
def State.password (s : State) : State × Nat :=
  if s.safe.lockAt.isSome then (s, 4)
  else
    let n := s.reqPwlen
    let right := match s.safe.pw with
      | none => false
      | some d => within n 8 64 && sha384 (s.safe.salt ++ s.reqBytes 1 n) == d
    if right then (s.setSafe { s.safe with wrong := 0 }, 0)
    else if n = 0 then (s, 3)
    else
      let s := s.bump R.SAFV_LOG.PWFAIL
      let k := s.safe.wrong + 1
      if k < 5 then (s.setSafe { s.safe with wrong := k }, 3)
      else
        let s := s.setSafe { s.safe with wrong := 0, lockAt := some s.now }
        ((s.put R.SAFV_STATE.LOCKOUT 1).log1 L.SAFE_LOCKOUT, 3)

/-- Bytes 14 to 27 of a change log entry: role, request code, requester, parameter, old and new value (Table 11.8). -/
def State.entryMid (s : State) (q : Requester) (id old new : Nat) : State × List Byte :=
  let (from_, s) := match q with
    | .host => (0, s)
    | .mgmt _ => (2 ^ 14, s)
    -- the firmware itself is neither: which of the two it writes is not stated
    | _ => (s.draw.1 % 2 * 2 ^ 14, s.draw.2)
  (s, beBytes 1 s.reqRole ++ beBytes 1 s.reqOp ++ beBytes 2 from_ ++ beBytes 2 id ++ beBytes 4 old ++ beBytes 4 new)

/-- A new configuration is agreed on: the units switch at a tick at least 4 ticks ahead, a pair at one at least 100 ms
ahead, and the lead passes it to the follow (R319). -/
def State.agreeCfg (s : State) (q : Requester) (cfg : Tbl Nat) (load : Bool) (id old new : Nat) : State :=
  let (s, mid) := s.entryMid q id old new
  let t := (s.wbNow 0 / ((250 * usU : Nat) : Int)).toNat + (if s.isPaired then 401 else 5)
  let c : NewCfg := ⟨t, cfg, load, mid⟩
  let s := (s.setSafe { s.safe with newCfg := some c }).put R.SYS_SPMB_ST.BUSY 1
  s.mirror (.safety c)

/-- Seal, password and room in the log (Table 11.7); answers the code, 0 when all hold. -/
def State.mayChange (s : State) (sealed pw room : Bool) : State × Nat :=
  if sealed && !s.on R.SYS_STRAP.SEAL_OPEN then (s, 2)
  else
    let (s, code) := if pw then s.password else (s, 0)
    if code ≠ 0 then (s, code) else if room && decide (4096 ≤ s.get R.SAFV_LOG.ENTRIES) then (s, 5) else (s, 0)

/-- LOAD_SAFETY of the section at the byte address of word 17 (R320, R382). -/
def State.loadSafety (s : State) (q : Requester) : State :=
  let (s, code) := s.mayChange true true true
  if code ≠ 0 then s.spmbEnd code
  else
    let n := s.reqWord 18
    let b := s.dramRead (s.reqWord 17) (min n 65536)
    if !within n 1 65536 ∨ !safetyGood b then s.spmbEnd 7
    else
      let key := slice b 32 96
      let body := b.take (128 + 8 * fieldAt b 6 2)
      let cfg := sectionParams b
      let units := [fieldAt b 16 8, fieldAt b 24 8]
      if (s.ownerSlot key).isNone ∨ !ecdsaVerify key body (slice b body.length 96) then s.spmbEnd 6
      else if fieldAt b 8 1 ≠ s.lineId ∨ fieldAt b 10 2 ≠ s.hubAddr ∨ (units ≠ [0, 0] ∧ !units.contains s.unitId) then s.spmbEnd 8
      else if !s.safetyOk cfg then s.spmbEnd 7
      else s.agreeCfg q cfg true 0 0 0

/-- SET_PARAM of word 17 to the value of word 18 (R322). -/
def State.setParam (s : State) (q : Requester) : State :=
  let id := s.reqWord 17
  let v := s.reqWord 18
  let (s, code) := s.mayChange (!isService (id / 256)) true true
  if code ≠ 0 then s.spmbEnd code
  else if s.safeMode = 0 then s.spmbEnd 8
  else
    let cfg := Tbl.set 0 s.safe.cfg id v
    if !paramIds.contains id ∨ !s.safetyOk cfg then s.spmbEnd 7
    else s.agreeCfg q cfg false id (Tbl.get 0 s.safe.cfg id) v

/-- SET_PASSWORD (R317, R323). -/
def State.setPassword (s : State) (q : Requester) (flashOk : Bool) : State :=
  let (s, code) := s.mayChange true s.safe.pw.isSome true
  let n := s.reqWord 17 % 256
  if code ≠ 0 then s.spmbEnd code
  else if !within n 8 64 then s.spmbEnd 7
  else
    let (s, mid) := s.entryMid q 0 0 0
    let (s, ok) := s.logChange mid (if s.safeMode = 0 then List.replicate 48 0 else s.safeDigest) flashOk
    if !ok then s.spmbEnd 9
    else
      let (salt, s) := (List.range 16).foldl (init := (([] : List Byte), s)) fun r _ =>
        (BitVec.ofNat 8 r.2.draw.1 :: r.1, r.2.draw.2)
      let s := s.setSafe { s.safe with salt := salt, pw := some (sha384 (salt ++ s.reqBytes 18 n)), wrong := 0 }
      s.spmbEnd 0

/-- CLEAR_LOG (R318): the log is emptied, and entry 1 of the new one holds the digest of the last entry of the old one. -/
def State.clearLog (s : State) (q : Requester) (flashOk : Bool) : State :=
  let (s, code) := s.mayChange true true false
  if code ≠ 0 then s.spmbEnd code
  else
    let old := s.lastEntry
    let (s, mid) := s.entryMid q 0 0 0
    let e := s.changeEntry 1 mid (if s.safeMode = 0 then List.replicate 48 0 else s.safeDigest) old s.identityKey
    if !flashOk then s.spmbEnd 9
    else
      let s := (s.flashErase flChangeLog (flChangeLog + 0x100000)).flashProgram flChangeLog e
      (s.put R.SAFV_LOG.ENTRIES 1).spmbEnd 0

/-- BRAKE_TEST and ABORT_TEST of the channel of word 17 (R303). -/
def State.reqTest (s : State) (start : Bool) : State :=
  let n := s.reqWord 17
  if 1 < s.reqRole then s.spmbEnd 8
  else if 7 < n then s.spmbEnd 7
  else if start then
    if s.mayTest n then (s.startTest n).spmbEnd 0 else s.spmbEnd 8
  else match s.safe.test with
    | some h => if h.ch = n ∧ h.phase ≠ 3 then (s.endTest h 6).spmbEnd 0 else s.spmbEnd 8
    | none => s.spmbEnd 8

/-- READ_LOG of the entry of word 17. -/
def State.readLog (s : State) : State :=
  let i := s.reqWord 17
  if 1 < s.reqRole then s.spmbEnd 8
  else if !within i 1 (s.get R.SAFV_LOG.ENTRIES) then s.spmbEnd 7
  else (s.spmbEnd 0).putBytes R.SYS_SPMB_RSP.RSP (s.flashRead (entryAt i) 256)

/-- A request that has been submitted. -/
def State.spmbRun (s : State) (q : Requester) (flashOk : Bool) : State :=
  match s.reqOp with
  | 1 => s.loadSafety q
  | 2 => s.setParam q
  | 3 => s.setPassword q flashOk
  | 4 => s.clearLog q flashOk
  | 5 => s.reqTest true
  | 6 => s.reqTest false
  | 7 => s.readLog
  | _ => s.spmbEnd 10

/-- A write to SYS_SPMB_CTL: GO submits the request unless one is in progress. The end of a request sets a hint cause
(Table 15.13). -/
def State.spmbCtl (s : State) (q : Requester) (data : Word) (flashOk : Bool) : State :=
  let host := match q with
    | .host => true
    | _ => false
  s.mediated q R.SYS_SPMB_CTL.addr 1 data (host || q.isEngineer) fun s =>
    if !hasBit data.toNat 0 ∨ s.on R.SYS_SPMB_ST.BUSY then s
    else
      let t := s.spmbRun q flashOk
      (if t.on R.SYS_SPMB_ST.BUSY then t else t.hint 7).safeHint s

/-- SPMB_LOAD_SAFETY (R320): a write of GO with OP 1. `flashOk` says that what a request writes to flash reads back. -/
def execSpmbLoadSafety (now : Nat) (req : Requester) (data : Word) (flashOk : Bool) (s : State) : Out :=
  act safeParts now s fun s => s.spmbCtl req data flashOk

/-- SPMB_SET_PARAM (R322): a write of GO with OP 2. -/
def execSpmbSetParam (now : Nat) (req : Requester) (data : Word) (flashOk : Bool) (s : State) : Out :=
  act safeParts now s fun s => s.spmbCtl req data flashOk

/-- SPMB_SET_PASSWORD (R323): a write of GO with OP 3. -/
def execSpmbSetPassword (now : Nat) (req : Requester) (data : Word) (flashOk : Bool) (s : State) : Out :=
  act safeParts now s fun s => s.spmbCtl req data flashOk

/-- SPMB_CLEAR_LOG (R318): a write of GO with OP 4. -/
def execSpmbClearLog (now : Nat) (req : Requester) (data : Word) (flashOk : Bool) (s : State) : Out :=
  act safeParts now s fun s => s.spmbCtl req data flashOk

/-- SPMB_BRAKE_TEST (R303): a write of GO with OP 5. -/
def execSpmbBrakeTest (now : Nat) (req : Requester) (data : Word) (flashOk : Bool) (s : State) : Out :=
  act safeParts now s fun s => s.spmbCtl req data flashOk

/-- SPMB_ABORT_TEST (R323): a write of GO with OP 6. -/
def execSpmbAbortTest (now : Nat) (req : Requester) (data : Word) (flashOk : Bool) (s : State) : Out :=
  act safeParts now s fun s => s.spmbCtl req data flashOk

/-- SPMB_READ_LOG (R323): a write of GO with OP 7. -/
def execSpmbReadLog (now : Nat) (req : Requester) (data : Word) (flashOk : Bool) (s : State) : Out :=
  act safeParts now s fun s => s.spmbCtl req data flashOk

/-- SPMB_BAD_OP (R323): a write of GO with an undefined OP. -/
def execSpmbBadOp (now : Nat) (req : Requester) (data : Word) (flashOk : Bool) (s : State) : Out :=
  act safeParts now s fun s => s.spmbCtl req data flashOk

/-- SAFE_LOCKOUT_END (R317): fifteen minutes after a lockout. -/
def execSafeLockoutEnd (now : Nat) (s : State) : Out :=
  act safeParts now s fun s =>
    match s.safe.lockAt with
    | none => s
    | some t =>
      if s.now < t + 900 * secU then s
      else ((s.setSafe { s.safe with lockAt := none }).put R.SAFV_STATE.LOCKOUT 0).safeHint s

end Sys2Proof.Machine
end

