-- ==== Sys2Proof/Machine/Reset.lean ====
section
/-! DEFINITION. Resets (R48 to R50), supplies and temperature (R33 to R38), the reference (R45), the seal (R47). -/

namespace Sys2Proof.Machine

/-- Every part: a reset reaches all of them. -/
abbrev allParts : Parts :=
  { live := true, wo := true, dram := true, resp := true, sys := true, commits := true, time := true, dio := true, strm := true
    ports := true, mon := true, cmp := true, latch := true, tiles := true, chains := true, cal := true, fuse := true
    safe := true, pair := true, sec := true, chor := true, host := true, flash := true }

/-- Every part but the DRAM window, which only stores and the loss of the logic supplies reach (R213, R218). -/
abbrev regParts : Parts := { allParts with dram := false }

/-! What a reset leaves -/

/-- Registers that a warm reset leaves as they are: the cause, the supplies, the log position, RUNID and the history
exceptions (R218), what the rules keep of the safety functions and of management (R324, R403). -/
def keptWarm (a : Nat) : Bool :=
  match regAt? a with
  | none => false
  | some h => h.info.blk == .safv || [RID.SYS_RSTCAUSE, RID.SYS_PWRSTAT, RID.LOG_HEAD, RID.QUE_RUNID, RID.QUE_EXC_EARLY,
      RID.QUE_EXC_RESET, RID.QUE_EXC_DAMAGED, RID.SYS_MGMTNONCE, RID.SYS_MGMTLAST].contains h.info.id

/-- A bit that a fuse burn cut short leaves open takes a free value: a free number of the words is burned, and free bits of
the next one. -/
def State.cutBurn (s : State) : State :=
  match s.cal.burn with
  | none => s
  | some (k, _) =>
    if s.cal.burnTiles ≠ 0 then s
    else
      let ws := s.genWords k
      let (n, s) := s.draw
      let n := n % (ws.length + 1)
      let (m, s) := s.draw
      let s := s.each ((ws.take n).zipIdx) fun s x => s.burnWord (0x300 * k + x.2) x.1 []
      match ws.drop n with
      | [] => s
      | w :: _ => s.burnWord (0x300 * k + n) (w &&& m) []

/-- Every field at its reset value, but for what no reset touches: time, the queue of commands, the fuses, the flash, the pins and
the field side's own monitors. `kept` names registers that stay. -/
def State.wiped (s : State) (kept : Nat → Bool) : State :=
  let base := (s.regs.filter fun e => kept e.1)
  let regs := Tbl.ins (Tbl.ins base 0x100004 0x80FFFFFF) 0x100008 3
  { State.reset with
    now := s.now, fresh := s.fresh, pending := s.pending, regs := regs, fuse := s.fuse, flash := s.flash
    sys := { s.sys with stage := .reset, sealNew := true, staged := [] }
    dio := { pins := s.dio.pins, pinAt := s.dio.pinAt }
    tiles := s.tiles.map fun e => (e.1, { tj := e.2.tj }) }

/-- The safety functions after a warm reset: the safety processor is gone until its configuration is loaded again, and Keeper
keeps its state (R283, R284). -/
def State.safeWarm (s : State) (was : SafeSt) : State :=
  let s := s.setSafe { was with tick := none, pending := none, newCfg := none, down := true }
  let s := s.noTest
  let s := s.setSafe { s.safe with sp := { si := s.safe.sp.si.map fun e => (e.1, { e.2 with st := 1, fcls := 0, cnt := 0, test := false }) } }
  let s := s.drivesOff
  let s := s.each chans8 fun s n => s.dropHigh n
  let s := ((s.put R.SAFV_STATE.MODE 0).put R.SAFV_STATE.PENDING 0).putBytes R.SAFV_DIGEST.DIGEST (List.replicate 48 0)
  ((s.each chans8 fun s c => s.startZc c).put R.SAFV_STATE.SEAL_OPEN 0)

/-- The streams after a warm reset (R218, R224, R225): queued and open rows are dropped, ledgers, history and the SSNs stay.
After REFLOSS each open block loses the samples whose words were staged, at most 15 words. -/
def State.strmWarm (s : State) (refLoss : Bool) : State :=
  let s := s.each (List.range 64) fun s n => s.closePacket n
  let s := s.each (List.range 64) fun s n =>
    s.each (s.queue n).pkts fun s p => (s.modStrm n fun x => { x with dropped := x.dropped + p.rows }).loseRanges n (s.packetRanges n p)
  let s := if !refLoss then s
    else s.each (s.strm.hist.map (·.1)) fun s e =>
      let h := s.histEp e
      match h.blocks.getLast? with
      | none => s
      | some b =>
        if !b.isOpen then s
        else
          let (k, s) := s.draw
          let lost := min b.samples.length ((k % 16 + b.format) / (b.format + 1))
          if lost = 0 then s
          else
            let left := b.samples.take (b.samples.length - lost)
            let blocks := if left.isEmpty then h.blocks.dropLast else h.blocks.dropLast ++ [{ b with samples := left }]
            let s := if left.isEmpty then s.setFree (s.strm.free + 1) else s
            let s := s.setHist e { h with blocks := blocks }
            { s with sys := { s.sys with staged := s.sys.staged ++ [(e, ((b.ssn + left.length) % 2 ^ 32, lost))] } }
  s.each (s.strm.hist.map (·.1)) fun s e => s.closeBlock e

/-- A stream's ledger and delivery memory. -/
def StreamSt.ledger (x : StreamSt) : StreamSt :=
  { produced := x.produced, acked := x.acked, dropped := x.dropped, skipped := x.skipped, frontier := x.frontier, lost := x.lost
    floor := x.floor }

/-- The FAULT beat of a lead (R328). -/
def State.faultBeat (s : State) : State :=
  if s.isPaired && !s.isFollow then { s with pair := { s.pair with faultTx := some s.now } } else s

/-- A warm reset with cause bit `cause` (Table 2.9). -/
def State.warmReset (s : State) (cause : Nat) : State :=
  let beat := s.isPaired && !s.isFollow
  let s := (s.strmWarm (cause == 6)).cutBurn
  let t := s.wiped keptWarm
  let t := { t with
    log := s.log, dram := s.dram
    sys := { t.sys with staged := s.sys.staged }
    strm := { streams := s.strm.streams.map fun (e : Nat × StreamSt) => (e.1, e.2.ledger), hist := s.strm.hist, free := s.strm.free, ssn := s.strm.ssn }
    cmp := { inBytes := s.cmp.inBytes }
    host := { pushed := s.host.pushed }
    sec := { bootWd := s.sec.bootWd, why := s.sec.why, bads := s.sec.bads, confl := s.sec.confl }
    pair := { faultTx := if beat then some s.now else none } }
  let t := t.put R.QUE_HFREE.FREE s.strm.free
  let t := (t.put R.SYS_PWRSTAT.FLD_DROPS 0).putBit R.UPD_STAT.CONFLICT (!s.sec.confl.isEmpty)
  let t := (t.safeWarm s.safe).safeHint t
  let t := { t with sys := { t.sys with stage := .reset } }
  t.setWord R.SYS_RSTCAUSE (t.word R.SYS_RSTCAUSE ||| BitVec.ofNat 32 (2 ^ cause))

/-- Draw `n` random words into a register array. -/
def State.randomWords (s : State) (f : Nat → FldAt) (n : Nat) : State :=
  s.each (List.range n) fun s w => s.draw.2.put (f w) s.draw.1

/-- A power-on reset (Table 2.9, R199, R218, R283, R403): nothing of the log, the history and the queues is left, and RUNID and
the management NONCE are new. `cause` is POR or BROWNOUT. The safety configuration, the password and the
incarnations lie in flash. -/
def State.coldReset (s : State) (cause : Nat) : State :=
  let beat := s.isPaired && !s.isFollow
  let s := s.cutBurn
  let fld := s.word R.SYS_PWRSTAT
  let old := s.safe
  let t := s.wiped fun _ => false
  let t := { t with
    pair := { faultTx := if beat then some s.now else none }
    safe := { cfg := old.cfg, mode := old.mode, salt := old.salt, pw := old.pw, incs := old.incs, incTx := old.incTx }
    sec := { bootWd := none } }
  let t := t.setWord R.SYS_PWRSTAT (fld &&& 0xFF)
  let t := t.setWord R.SYS_RSTCAUSE (BitVec.ofNat 32 (2 ^ cause))
  let (r, t) := t.draw
  let t := t.put R.QUE_RUNID.RUNID (r % 65536)
  t.randomWords (fun _ => R.SYS_MGMTNONCE.NONCE) 1

/-! Sources (R33, R38, R45, R48 to R50) -/

/-- POWER_ON_RESET (R48): the logic supplies ramp. -/
def execPowerOnReset (now : Nat) (s : State) : Out :=
  always allParts now s fun s =>
    let s := s.coldReset 0
    { s with sys := { s.sys with porHold := true, pulse := false } }

/-- LOGIC_SUPPLY_FALL (R33): VDD09, VDD11 or VDD18 has been below its falling threshold for 5 µs. -/
def execLogicSupplyFall (now : Nat) (_supply : Fin 3) (s : State) : Out :=
  let p : Parts := allParts
  always p now s fun s =>
    let s := s.coldReset 1
    { s with sys := { s.sys with porHold := true, pulse := false } }

/-- THERMAL_RESET (R38): a junction has reached 120 °C. -/
def execThermalReset (now : Nat) (s : State) : Out :=
  always regParts now s fun s =>
    if s.sys.thermal then s
    else
      let s := s.warmReset 7
      { s with sys := { s.sys with thermal := true } }

/-- THERMAL_RECOVERY (R38): every junction is below 100 °C. -/
def execThermalRecovery (now : Nat) (s : State) : Out :=
  always { regs := false, log := false, sys := true } now s fun s => { s with sys := { s.sys with thermal := false, pulse := s.sys.pulse || s.sys.thermal } }

/-- REFCLK_LOSS (R45): no edge on the reference for 2 µs. -/
def execRefclkLoss (now : Nat) (s : State) : Out :=
  always regParts now s fun s =>
    if s.sys.refLost then s
    else
      let s := s.warmReset 6
      { s with sys := { s.sys with refLost := true } }

/-- REFCLK_RETURN (R45): the reference has run for 1 ms without a break. -/
def execRefclkReturn (now : Nat) (s : State) : Out :=
  let p : Parts := { regs := false, log := false, sys := true }
  always p now s fun s => { s with sys := { s.sys with refLost := false, pulse := s.sys.pulse || s.sys.refLost } }

/-- RESET_N_ASSERT (R49, R50): RESET_N has been low for `ns` nanoseconds: nothing below 1 µs, a warm reset that holds while it
stays low from 10 µs on; in between, it is open whether there is a warm reset. -/
def execResetNAssert (now ns : Nat) (s : State) : Out :=
  always regParts now s fun s =>
    if ns < 1000 ∨ s.sys.pinLow then s
    else if ns < 10000 then
      let (r, s) := s.draw
      if r % 2 = 0 then s
      else
        let s := s.warmReset 2
        { s with sys := { s.sys with pulse := true } }
    else
      let s := s.warmReset 2
      { s with sys := { s.sys with pinLow := true } }

/-- RESET_N_RELEASE (R50): RESET_N is high again. -/
def execResetNRelease (now : Nat) (s : State) : Out :=
  let p : Parts := { regs := false, log := false, sys := true }
  always p now s fun s => { s with sys := { s.sys with pinLow := false, pulse := s.sys.pulse || s.sys.pinLow } }

/-- A warm reset by a source that acts once. -/
def State.pulseReset (s : State) (cause : Nat) : State :=
  let s := s.warmReset cause
  { s with sys := { s.sys with pulse := true } }

/-- WATCHDOG_RESET (R48): the management watchdog has expired. -/
def execWatchdogReset (now : Nat) (s : State) : Out :=
  act regParts now s fun s => s.pulseReset 3

/-- A write to SYS_RSTCTL, by the windows or for an OWNER (Table 15.7): WARM with the KEY resets. -/
def State.rstCtl (s : State) (q : Requester) (data : Word) : State :=
  s.mediated q R.SYS_RSTCTL.addr 0x1FFFF data q.isOwner fun s =>
    if !hasBit data.toNat 16 then s
    else if data.toNat % 65536 = 0x5A17 then s.pulseReset 4 else s.log1 L.RST_KEY_BAD

/-- SOFT_RESET (R48): a write to SYS_RSTCTL. -/
def execSoftReset (now : Nat) (req : Requester) (data : Word) (s : State) : Out :=
  act regParts now s fun s => s.rstCtl req data

/-! The field side (R34, R35) -/

/-- FIELD_SUPPLY_FAULT (R34): `which` has been out of range for 5 µs: 0 VFLD low, 1 VFLD over-voltage, 2 VFA50, 3 VFD18. -/
def execFieldSupplyFault (now : Nat) (which : Fin 4) (s : State) : Out :=
  always { safeParts with sys := true, tiles := true } now s fun s =>
    let s := match which.val with
      | 0 => s.put R.SYS_PWRSTAT.VFLD_OK 0
      | 1 => (s.put R.SYS_PWRSTAT.VFLD_OK 0).put R.SYS_PWRSTAT.VFLD_OV 1
      | 2 => s.put R.SYS_PWRSTAT.VFA50_OK 0
      | _ => s.put R.SYS_PWRSTAT.VFD18_OK 0
    let s := s.put R.SYS_PWRSTAT.FLD_GOOD 0
    if s.sys.fieldFault then s
    else
      let s := { s with sys := { s.sys with fieldFault := true }, dio := { s.dio with off := true, goodAt := none } }
      let s := s.withdrawAll
      if s.sys.stopped then s
      else ((s.bump R.SYS_PWRSTAT.FLD_DROPS).log1 (if which.val = 1 then L.FLD_OV else L.FLD_UV)).faultBeat

/-- FIELD_SUPPLY_GOOD (R34, R284): all three field supplies have been good for 10 ms. Excitation switches back on, and both safety
units start together. -/
def execFieldSupplyGood (now : Nat) (s : State) : Out :=
  always { boundaryParts with sys := true, safe := true } now s fun s =>
    let s := (((s.put R.SYS_PWRSTAT.VFLD_OK 1).put R.SYS_PWRSTAT.VFA50_OK 1).put R.SYS_PWRSTAT.VFD18_OK 1)
    let s := (s.put R.SYS_PWRSTAT.FLD_GOOD 1).put R.SYS_PWRSTAT.VFLD_OV 0
    if !s.sys.fieldFault then s
    else
      let s := { s with sys := { s.sys with fieldFault := false }, dio := { s.dio with goodAt := some s.now } }
      let s := s.bothUnits fun u => { u with fresh := true, armed := false, counts := false, press := 0, ended := none }
      if s.sys.stopped then s
      else s.each tiles4 fun s t => s.each (List.range 120) fun s src => s.excSwitch t src

/-- LOGIC_TRAFFIC_LOSS (R35): the I/O tile has had no traffic from the logic side for 200 µs. -/
def execLogicTrafficLoss (now : Nat) (s : State) : Out :=
  always safeParts now s fun s => ({ s with dio := { s.dio with lost := true, off := true } }).drivesOff

/-- TJ_HIGH (R37, R328): a junction has reached 115 °C. -/
def execTjHigh (now : Nat) (s : State) : Out :=
  act { pair := true } now s fun s => (s.log1 L.TJ_HIGH).faultBeat

/-! The seal (R47) -/

/-- SEAL_CHANGE (R47): the pins show another code. -/
def execSealChange (now : Nat) (code : Fin 16) (s : State) : Out :=
  always { regs := false, log := false, sys := true } now s fun s =>
    if s.sys.sealCand = code.val then s
    else { s with sys := { s.sys with sealCand := code, sealSince := s.now, sealNew := true } }

/-- SEAL_CODE_ACCEPT (R47): a code that has been stable for 20 ms is accepted, in recovery too (R357). -/
def execSealCodeAccept (now : Nat) (s : State) : Out :=
  always { sys := true } now s fun s =>
    let held := s.sys.porHold || s.sys.pinLow || s.sys.thermal || s.sys.refLost || s.sys.pulse
    if held ∨ !s.sys.sealNew ∨ s.now < s.sys.sealSince + 20 * msU then s
    else
      let c := s.sys.sealCand
      let t := { s with sys := { s.sys with sealNew := false } }
      if s.get R.SYS_STRAP.SEAL = c ∧ !(s.get R.SYS_STRAP.SEAL = 0) then t
      else
        let t := (t.put R.SYS_STRAP.SEAL c).putBit R.SYS_STRAP.SEAL_OPEN (c == 0b1010)
        let t := (t.putBit R.SYS_STRAP.SEAL_CLOSED (c == 0b0101)).putBit R.SYS_STRAP.SEAL_INVALID (c != 0b1010 && c != 0b0101)
        let t := t.putBit R.SAFV_STATE.SEAL_OPEN (c == 0b1010)
        (if c ≠ 0b1010 ∧ c ≠ 0b0101 then t.log1 L.SEAL_INVALID else t).safeHint s

end Sys2Proof.Machine
end

