-- ==== Sys2Proof/Machine/Boot.lean ====
section
/-! DEFINITION. The start (R44, R46, R52, R345, R346, R355 to R357): boot ROM, roles of the image slots (R371), activation
(R372), and the boot stage. -/

namespace Sys2Proof.Machine

/-! Fuses (R345, R346) -/

/-- The registers that show what the security fuses hold. -/
def State.showKeys (s : State) : State :=
  let s := s.each [0, 1, 2, 3] fun s k => s.each (List.range 12) fun s w =>
    s.put (R.SEC_OWNH.HASH k w) (s.fuseWord (0xC20 + 12 * k + w))
  let st := s.fuseWord 0xC50
  let s := ((s.put R.SEC_OWNST.ENROLLED st).put R.SEC_OWNST.REVOKED (st / 16)).putBit R.SEC_OWNST.OWNER_FW s.ownerFw
  (s.putBit R.SEC_OWNST.VENDOR s.vendorBurned).put R.SEC_ARB.COUNT s.arb

/-- The fuse load of a start: identity, keys, and the public identity key. -/
def State.showIdentity (s : State) : State :=
  let lo := s.fuseWord 0xC08
  let hi := s.fuseWord 0xC09
  let s := ((s.put R.SEC_UNITIDL.UNIT_ID lo).put R.SEC_UNITIDH.UNIT_ID hi).put R.SEC_HWTYPE.HWTYPE s.fusedHw
  let s := ((s.put R.SYS_UNITIDL.UNIT_ID lo).put R.SYS_UNITIDH.UNIT_ID hi).put R.SYS_HWTYPE.HWTYPE s.fusedHw
  s.showKeys.putBytes R.SEC_IDPUB.KEY (ecPublic s.identityKey)

/-! The boot copies (R356) -/

/-- The hub enters recovery (R357). -/
def State.recover (s : State) : State :=
  { s.put R.SEC_BOOTST.RECOVERY 1 with sys := { (s.put R.SEC_BOOTST.RECOVERY 1).sys with stage := .recovery } }

/-- The order in which the BOOT copies are tried. -/
def State.bootOrder (s : State) : List Nat :=
  match s.sec.bootWd with
  | some 0 => [1, 0]
  | some _ => [0, 1]
  | none =>
    let rank (c : Nat) : Nat := ((s.manifestAt (flBoot c)).map fun m => m.rank + 1).getD 0
    if rank 0 < rank 1 then [1, 0] else [0, 1]

/-- The first acceptable BOOT copy, with its manifest; those that fail are logged and extend DM6. -/
def tryBoot : List Nat → State → State × Option (Nat × Manifest)
  | [], s => (s, none)
  | c :: l, s => match s.fullGood 1 (flBoot c) with
    | some m => (s, some (c, m))
    | none => tryBoot l ((s.dmEvent L.BOOT_COPY_BAD c).log1 L.BOOT_COPY_BAD 8 c)

/-! Roles (R371) -/

/-- The manifest of slot `k` if the slot is a candidate. -/
def State.candidateSlot (s : State) (k : Nat) : Option Manifest :=
  let b := flImage k
  if s.stateWord b swCopied ≠ 0 ∨ s.stateWord b swRejected = 0 then none
  else match s.manifestAt b with
    | none => none
    | some m => if s.arb ≤ m.svn then some m else none

/-- ACTIVE and FALLBACK. -/
def State.slotRoles (s : State) : Option Nat × Option Nat :=
  match s.candidateSlot 0, s.candidateSlot 1 with
  | none, none => (none, none)
  | some _, none => (some 0, none)
  | none, some _ => (some 1, none)
  | some _, some _ =>
    if s.stateWord (flImage 0) swSeq < s.stateWord (flImage 1) swSeq then (some 1, some 0) else (some 0, some 1)

/-- A slot whose image is confirmed. -/
def State.confirmedSlot (s : State) (k : Nat) : Bool := s.stateWord (flImage k) swConfirmed == 0

/-- The conflict list clears when an image above every digest in it is activated (R368). -/
def State.clearConflicts (s : State) (rank : Nat) : State :=
  if s.sec.confl.all fun e => decide (e.2 < rank) then { s.put R.UPD_STAT.CONFLICT 0 with sec := { s.sec with confl := [] } } else s

/-- Activation of STAGING in place of the slot that is not `act` (R372). The state words of STAGING are not copied. -/
def State.activate (s : State) (act_ : Nat) : State :=
  let st := flImage 2
  match s.fullGood 0 st with
  | none => (s.programWord st swStagingRejected 0).log1 L.UPD_ACT_FAIL
  | some m =>
    let b := flImage (1 - act_)
    let seq := s.stateWord (flImage act_) swSeq + 1
    let s := s.flashErase b (b + slotBytes)
    let s := (s.flashProgram b m.bytes).flashCopy (st + 65536) (b + 65536) m.length
    let s := (s.programWord b swSeq seq).programWord b swCopied 0
    (((s.clearConflicts m.rank).dmEvent L.UPD_ACTIVATED m.imgId).log1 L.UPD_ACTIVATED 8 (1 - act_)).put R.SEC_BOOTST.ACTIVATED 1

/-- Whether a start activates STAGING (R372). -/
def State.activates (s : State) (act_ : Nat) : Bool :=
  let st := flImage 2
  s.stateWord st swActivate == 0 && s.stateWord st swStagingRejected != 0 && s.confirmedSlot act_ &&
    match s.manifestAt st, s.manifestAt (flImage act_) with
    | some a, some b => a.bytes != b.bytes
    | _, _ => false

/-- Slot `k` runs as ACTIVE, as a trial unless it is confirmed: the next TRIALS bit clears, and the confirm timer runs from the
reset release (R371, R373). -/
def State.runActive (s : State) (k : Nat) (fall : Option Nat) : State :=
  let b := flImage k
  let s := { s with sec := { s.sec with act := some k, fall := fall, deadline := none, rewritten := false } }
  match s.manifestAt b with
  | none => s
  | some m =>
    let s := (s.put R.UPD_AVER.VERSION m.version).put R.UPD_ABUILD.BUILD m.build
    if s.confirmedSlot k then s
    else
      let w := s.stateWord b swTrials
      let left := [0, 1, 2].find? fun i => hasBit w i
      let s := match left with
        | some i => s.programWord b swTrials (w - 2 ^ i)
        | none => s
      let s := (s.put R.SEC_BOOTST.TRIAL 1).put R.UPD_CONFTMR.WINDOW m.confWin
      { s with sec := { s.sec with deadline := some (s.sys.releasedAt + m.confWin * secU) } }

/-- The roles of a start (R371). -/
def State.resolveSlots (s : State) : State :=
  match s.slotRoles with
  | (none, _) => s.recover
  | (some a, fall) =>
    if s.confirmedSlot a then s.runActive a fall
    else match fall with
      | none => (s.log1 L.UPD_NO_FALLBACK 8 a).runActive a none
      | some f =>
        if s.sec.why ≠ 0 ∨ s.stateWord (flImage a) swTrials % 8 = 0 then
          let s := (s.programWord (flImage a) swRejected 0).put R.SEC_BOOTST.RESTORED 1
          ((s.dmEvent L.UPD_FALLBACK f).log1 L.UPD_FALLBACK 8 f).runActive f none
        else s.runActive a (some f)

/-! The ROM (R44, R46, R355) -/

/-- Entries that the change log in flash holds. -/
def State.entriesInFlash (s : State) : Nat :=
  let blank (i : Nat) : Bool := beNat (s.flashRead (entryAt (i + 1)) 4) != i + 1
  ((List.range 4096).find? blank).getD 4096

/-- The ROM from the fuse load to the jump to the boot stage. -/
def State.runRom (s : State) : State :=
  let s := s.loadFuses.showIdentity.seedRotation
  let s := s.extendDm 0 (sha384 (beBytes 4 (s.get R.SYS_ROMVER.ROMVER) ++ s.fuseBytes 0xC08 0xF8))
  let s := s.randomWords R.SEC_NONCE.NONCE 8
  let s := s.put R.SAFV_LOG.ENTRIES s.entriesInFlash
  let s := if s.sec.why = 1 then s.put R.UPD_STAT.CONFEXP 1 else s
  if !s.vendorBurned then s.recover
  else
    let order := s.bootOrder
    match tryBoot order s with
    | (s, none) => s.recover
    | (s, some (c, m)) =>
      let s := (s.put R.SEC_BOOTST.COPY c).putBit R.SEC_BOOTST.OTHER_BAD (order.head? != some c)
      let s := s.extendDm 1 m.digest
      let s := match s.slotRoles.1 with
        | some a => if s.activates a then s.activate a else s
        | none => s
      let s := s.resolveSlots
      { s with sec := { s.sec with bootWd := none, why := 0 } }

/-- RESET_RELEASE (R44, R46, R52, R355): the last reset source releases. `refEdges` were seen on REFCLK in 100 µs, and `role` is
the level of ROLE. The bases start at 0, and the ROM runs. -/
def execResetRelease (now refEdges : Nat) (role : Bool) (s : State) : Out :=
  always regParts now s fun s =>
    if s.sys.stage ≠ .reset ∨ s.sys.pinLow ∨ s.sys.thermal ∨ s.sys.refLost then s
    else
      let s := { s with time := {}, sys := { s.sys with stage := .boot, porHold := false, pulse := false, releasedAt := s.now
                                                        sealSince := s.now, sealNew := true } }
      let s := (s.putBit R.SYS_STRAP.CLKSRC (decide (2000 ≤ refEdges))).putBit R.SYS_STRAP.ROLE_PIN role
      let s := (s.putBit R.SYS_CHAINPOS.FOLLOW role).putBit R.PAR_STAT.FOLLOW role
      s.runRom

/-- BOOT_STAGE_START (R355, step 4): the boot stage checks ACTIVE and starts the firmware, or marks ACTIVE REJECTED and asks for a
reset. -/
def execBootStageStart (now : Nat) (s : State) : Out :=
  act regParts now s fun s =>
    match s.sys.stage, s.sec.act with
    | .boot, some k => match s.fullGood 0 (flImage k) with
      | none => (s.programWord (flImage k) swRejected 0).pulseReset 4
      | some m =>
        let s := ((s.extendDm 2 m.digest).put R.SEC_DMCTL.LOCKED 1).put R.SYS_FWVER.VERSION m.version
        let s := s.put R.SYS_FWBUILD.BUILD m.build
        { s with sys := { s.sys with stage := .firmware } }
    | _, _ => s

/-- BOOT_WATCHDOG (R356): the boot stage has run for 1 s; the other BOOT copy is tried first next. -/
def execBootWatchdog (now : Nat) (s : State) : Out :=
  act regParts now s fun s =>
    if s.sys.stage ≠ .boot ∨ s.now < s.sys.releasedAt + secU then s
    else
      let s := { s with sec := { s.sec with bootWd := some (s.get R.SEC_BOOTST.COPY) } }
      s.pulseReset 3

end Sys2Proof.Machine
end

