-- ==== Sys2Proof/Machine/Sec.lean ====
section
/-! DEFINITION. The SEC engine: daymark reports (R358, R359), owner keys (R348, R349), daymark extensions (R354). -/

namespace Sys2Proof.Machine

/-- The parts that the SEC engine may write. -/
abbrev secParts : Parts := { resp := true, fuse := true }

/-! Reports (Table 13.6) -/

/-- FLAGS of a report. -/
def State.reportFlags (s : State) : Nat :=
  let b (x : Bool) (n : Nat) : Nat := if x then 2 ^ n else 0
  b s.isFollow 0 + b (s.on R.SEC_BOOTST.TRIAL) 1 + b (s.on R.SEC_BOOTST.RESTORED) 2 + b (s.on R.SAFV_STATE.PENDING) 3
    + b (s.on R.UPD_STAT.CONFLICT) 4 + b (s.on R.SYS_STRAP.SEAL_OPEN) 5

/-- Bytes 0 to 611 of a report over a nonce. -/
def State.reportBody (s : State) (nonce : List Byte) : List Byte :=
  beBytes 4 0x444D524B ++ [1] ++ beBytes 1 s.reportFlags ++ beBytes 2 708 ++ beBytes 8 s.unitId
    ++ beBytes 4 (s.get R.SEC_HWTYPE.HWTYPE) ++ beBytes 1 s.lineId ++ [0] ++ beBytes 2 s.hubAddr ++ slice nonce 0 32
    ++ beBytes 6 (secOf (s.wbNow 0)) ++ beBytes 1 (s.wbState 0) ++ [0] ++ beBytes 4 (nsOf (s.wbNow 0))
    ++ beBytes 4 (s.get R.UPD_AVER.VERSION) ++ beBytes 4 (s.get R.UPD_ABUILD.BUILD) ++ beBytes 1 s.arb
    ++ beBytes 1 (s.fuseWord 0xC50) ++ beBytes 1 (if s.ownerFw then 1 else 0) ++ [0]
    ++ (List.range 8).flatMap (fun k => s.getBytes (R.SEC_DM.DM k) 12)
    ++ s.getBytes R.SYS_CHOR_DIG.DIGEST 12
    ++ (if s.get R.SAFV_STATE.MODE = 0 then List.replicate 48 0 else s.getBytes R.SAFV_DIGEST.DIGEST 12)
    ++ slice s.sec.settings 0 48 ++ beBytes 2 (s.get R.SAFV_LOG.ENTRIES) ++ beBytes 2 0

/-- A request ends with a code. -/
def State.secEnd (s : State) (code : Nat) : State := (s.put R.SEC_ST.BUSY 0).put R.SEC_ST.CODE code

/-- REPORT (R358): the report, signed with the identity key over the SHA-384 of its body. -/
def State.secReport (s : State) : State :=
  let body := s.reportBody (s.getBytes R.SEC_REQ.REQ 8)
  (s.putBytes R.SEC_RSP.RSP (body ++ ecdsaSign s.identityKey body)).secEnd 0

/-! Key operations (R349) -/

/-- What a signature of a key operation covers: the unit ID, SEC_NONCE and the arguments. -/
def State.keyMsg (s : State) (args : List Byte) : List Byte :=
  beBytes 8 s.fusedUnit ++ s.getBytes R.SEC_NONCE.NONCE 8 ++ args

/-- A key or a signature in the request: 24 words from word `w`. The places are the model's choice: a new key at 0 with its
signature at 24, an enrolled key at 48 with its signature at 72. -/
def State.reqPart (s : State) (w : Nat) : List Byte := s.getBytes (fun i => R.SEC_REQ.REQ (w + i)) 24

/-- The slot of the enrolled, unrevoked key that has signed the arguments. -/
def State.keySigner (s : State) (args : List Byte) : Option Nat :=
  match s.ownerSlot (s.reqPart 48) with
  | none => none
  | some k => if ecdsaVerify (s.reqPart 48) (s.keyMsg args) (s.reqPart 72) then some k else none

/-- The enrolled, unrevoked slots. -/
def State.liveKeys (s : State) : List Nat := [0, 1, 2, 3].filter fun k => s.enrolled k && !s.revoked k

/-- ENROL: the hash into the lowest slot without one, read back, and then the ENROLLED bit. -/
def State.secEnrol (s : State) (missed : List (Nat × Nat)) : State :=
  match [0, 1, 2, 3].find? fun k => !s.ownerSpent k with
  | none => s.secEnd 4
  | some k =>
    let key := s.reqPart 0
    let own := ecdsaVerify key (s.keyMsg key) (s.reqPart 24)
    let first := [0, 1, 2, 3].all fun j => !s.enrolled j
    if !own ∨ !first ∧ (s.keySigner key).isNone then s.secEnd 3
    else
      let h := keyHash key
      let s := s.each (List.range 12) fun s w => s.burnWord (0xC20 + 12 * k + w) (beNat (slice h (4 * w) 4)) missed
      if s.ownerHash k ≠ h then s.showKeys.secEnd 7
      else
        let s := s.burnWord 0xC50 (2 ^ k) missed
        if !s.enrolled k then s.showKeys.secEnd 7
        else ((s.showKeys.dmEvent L.SEC_ENROL k).log1 L.SEC_ENROL 8 k).secEnd 0

/-- REVOKE of slot `k`. -/
def State.secRevoke (s : State) (k : Nat) (missed : List (Nat × Nat)) : State :=
  if s.liveKeys = [k] then s.secEnd 5
  else match s.keySigner (beBytes 1 k) with
    | none => s.secEnd 3
    | some j =>
      if j = k then s.secEnd 3
      else
        let s := s.burnWord 0xC50 (2 ^ (4 + k)) missed
        if !s.revoked k then s.showKeys.secEnd 7
        else ((s.showKeys.dmEvent L.SEC_REVOKE k).log1 L.SEC_REVOKE 8 k).secEnd 0

/-- SET_OWNER_FW. -/
def State.secOwnerFw (s : State) (missed : List (Nat × Nat)) : State :=
  if (s.keySigner []).isNone then s.secEnd 3
  else
    let s := s.burnWord 0xC0B 1 missed
    s.showKeys.secEnd (if s.ownerFw then 0 else 7)

/-- An operation that has been started: key operations need the open seal, and renew SEC_NONCE. -/
def State.secRun (s : State) (op slot : Nat) (missed : List (Nat × Nat)) : State :=
  if op = 1 then s.secReport
  else if op = 0 ∨ 4 < op then s.secEnd 6
  else
    let s := if !s.on R.SYS_STRAP.SEAL_OPEN then s.secEnd 2
      else match op with
        | 2 => s.secEnrol missed
        | 3 => s.secRevoke slot missed
        | _ => s.secOwnerFw missed
    s.randomWords R.SEC_NONCE.NONCE 8

/-- A write to SEC_CMD (Tables 13.12 and 15.7): REPORT for anyone, key operations for an OWNER. `missed` lists the fuse bits, by
word and number, that do not take. -/
def State.secCmd (s : State) (q : Requester) (data : Word) (missed : List (Nat × Nat)) : State :=
  let op := data.toNat % 16
  s.mediated q R.SEC_CMD.addr 0x7F data (q.isOwner || op < 2 || 4 < op) fun s =>
    if !hasBit data.toNat 6 ∨ s.on R.SEC_ST.BUSY then s else s.secRun op (data.toNat / 16 % 4) missed

/-- SEC_REPORT (R358): a write to SEC_CMD with OP 1. -/
def execSecReport (now : Nat) (req : Requester) (data : Word) (missed : List (Nat × Nat)) (s : State) : Out :=
  act secParts now s fun s => s.secCmd req data missed

/-- SEC_ENROL (R349): a write to SEC_CMD with OP 2. -/
def execSecEnrol (now : Nat) (req : Requester) (data : Word) (missed : List (Nat × Nat)) (s : State) : Out :=
  act secParts now s fun s => s.secCmd req data missed

/-- SEC_REVOKE (R349): a write to SEC_CMD with OP 3. -/
def execSecRevoke (now : Nat) (req : Requester) (data : Word) (missed : List (Nat × Nat)) (s : State) : Out :=
  act secParts now s fun s => s.secCmd req data missed

/-- SEC_SET_OWNER_FW (R349): a write to SEC_CMD with OP 4. -/
def execSecSetOwnerFw (now : Nat) (req : Requester) (data : Word) (missed : List (Nat × Nat)) (s : State) : Out :=
  act secParts now s fun s => s.secCmd req data missed

/-- SEC_BAD_OP (Table 13.12): a write to SEC_CMD with an undefined OP. -/
def execSecBadOp (now : Nat) (req : Requester) (data : Word) (missed : List (Nat × Nat)) (s : State) : Out :=
  act secParts now s fun s => s.secCmd req data missed

/-! Daymark registers (R354) -/

/-- A write that only PL0 may make (Table 15.7); anyone else's write ends with an error response. -/
def State.pl0Write (s : State) (q : Requester) (a : Nat) (mask data : Word) (f : State → State) : State :=
  if q.isPl0 then s.cmdWrite q a mask data f
  else match q with
    | .host => s.answer q true 0
    | .mgmt _ => s.answer q true 0
    | _ => if s.permits q a 4 true then s.answer q true 0 else (s.deny q.cls a).answer q true 0

/-- A write to SEC_DMCTL: GO extends a register, then LOCK locks DM0 to DM2 until the next reset. -/
def State.dmCtl (s : State) (q : Requester) (data : Word) : State :=
  s.pl0Write q R.SEC_DMCTL.addr 0x3F data fun s =>
    let k := data.toNat % 8
    let s := if hasBit data.toNat 3 && !(s.on R.SEC_DMCTL.LOCKED && decide (k < 3)) then
        s.extendDm k (s.getBytes R.SEC_DMEXT.VALUE 12)
      else s
    if hasBit data.toNat 4 then s.put R.SEC_DMCTL.LOCKED 1 else s

/-- DM_EXTEND (R354): a write to SEC_DMCTL with GO. -/
def execDmExtend (now : Nat) (req : Requester) (data : Word) (s : State) : Out :=
  act { resp := true } now s fun s => s.dmCtl req data

/-- DM_LOCK (R354): a write to SEC_DMCTL with LOCK. -/
def execDmLock (now : Nat) (req : Requester) (data : Word) (s : State) : Out :=
  act { resp := true } now s fun s => s.dmCtl req data

end Sys2Proof.Machine
end

