-- ==== Sys2Proof/Machine/Update.lean ====
section
/-! DEFINITION. Farandole (R363 to R369): offers, manifests, blocks, conflicts, and the images of a pair. -/

namespace Sys2Proof.Machine

/-- The parts that Farandole may write. -/
abbrev updParts : Parts := { linkParts with sec := true, flash := true }

/-! The session as the registers show it (Table 13.13) -/

/-- The manifest of ACTIVE, and the manifest of the session. -/
def State.activeMan (s : State) : Option Manifest := s.sec.act.bind fun k => s.manifestAt (flImage k)
def State.sessMan (s : State) : Option Manifest := s.sec.sess.bind fun x => parseManifest x.man

/-- VERSION and BUILD of ACTIVE as one number. -/
def State.activeRank (s : State) : Nat := (s.activeMan.map (·.rank)).getD 0

/-- An activation is pending: requested in STAGING, not refused, and not the image that runs (R372). -/
def State.activationPending (s : State) : Bool :=
  let b := flImage 2
  s.stateWord b swActivate == 0 && s.stateWord b swStagingRejected != 0 &&
    (s.manifestAt b).map (·.bytes) != s.activeMan.map (·.bytes)

/-- SESSION. -/
def State.sessNo (s : State) : Nat :=
  match s.sec.sess with
  | none => if s.sec.mfetch.isSome then 1 else 0
  | some x => if !x.complete then 2 else if s.activationPending then 4 else 3

/-- Show the session; a change of SESSION sets a hint cause (Table 15.13). -/
def State.showSess (s : State) : State :=
  let n := s.sessNo
  let s := if s.get R.UPD_STAT.SESSION = n then s else (s.put R.UPD_STAT.SESSION n).hint 4
  let (img, rank, held) := match s.sec.sess, s.sessMan, s.sec.mfetch with
    | some x, some m, _ => (m.imgId, m.rank, x.blocks.length)
    | none, _, some f => (f.img, f.rank, 0)
    | _, _, _ => (0, 0, 0)
  let s := (s.put R.UPD_STAT.HELD held).put R.UPD_IMG.IMGID img
  let s := (s.put R.UPD_SVER.VERSION (rank / 2 ^ 32)).put R.UPD_SBUILD.BUILD rank
  s.putBit R.UPD_STAT.CONFLICT (!s.sec.confl.isEmpty)

/-- The session replaced, or changed. -/
def State.setSess (s : State) (x : Option SessSt) : State := { s with sec := { s.sec with sess := x } }
def State.modSess (s : State) (f : SessSt → SessSt) : State := s.setSess (s.sec.sess.map f)

/-- The session ends; STAGING stays as it is. -/
def State.endSess (s : State) : State :=
  ({ s with sec := { s.sec with sess := none, mfetch := none, held := [] } }).showSess

/-! Frames (Table 13.8) -/

/-- The key of a sender: STYPE × 1024 + SRC. -/
def senderKey (f : Frame) : Nat := f.stype * 1024 + f.src

/-- An UPDATE frame to the chip or root `key` out of chain port `p`. -/
def State.sendUpd (s : State) (p key type a b : Nat) (payload : List Byte) : State :=
  s.sendOwn p (s.ownFrame 6 type (key % 1024) (key / 1024) a b payload)

/-- REFUSE with a reason: 1 BUSY, 2 NOT_HELD, 3 CONFLICT, 4 NOT_BOUND. -/
def State.refuse (s : State) (p key img reason : Nat) : State :=
  (s.bump R.UPD_CNT1.REFUSED).sendUpd p key 5 img reason []

/-- The fragments of a byte string, 1,440 bytes each, with their numbers and whether each is the last. -/
def fragments (b : List Byte) : List (Nat × Bool × List Byte) :=
  let l := chunks 1440 b.length b
  l.zipIdx.map fun x => (x.2, x.2 + 1 == l.length, x.1)

/-- IMGID of a digest held as a number. -/
def digestImg (d : Nat) : Nat := d / 2 ^ 352

/-- An image with this IMGID is in the conflict list. -/
def State.inConflict (s : State) (img : Nat) : Bool := s.sec.confl.any fun e => digestImg e.1 == img

/-- A refused digest that is still remembered, by IMGID; answers what a requester hears. -/
def State.refusedImg (s : State) (img : Nat) : Option Nat :=
  (s.sec.bads.find? fun e => digestImg e.1 == img && decide (s.now < e.2.1 + 3600 * secU)).map (·.2.2)

/-! Holders (R364) -/

/-- The distance to a holder. -/
def State.distance (s : State) (key : Nat) (h : Holder) : Nat :=
  let a := s.get R.SYS_CHAINPOS.HOPS_A
  if key / 1024 = 1 then a else if key / 1024 = 2 then s.get R.SYS_CHAINPOS.HOPS_B
  else if a < h.hopsA then h.hopsA - a else a - h.hopsA

/-- Whether a holder's bitmap shows block `b`. -/
def Holder.has (h : Holder) (b : Nat) : Bool := hasBit (h.have_.getD (b / 8) 0).toNat (7 - b % 8)

/-- The nearest live holder of an image among those that `ok` accepts. -/
def State.nearest (s : State) (img : Nat) (ok : Nat → Holder → Bool) : Option (Nat × Holder) :=
  let l := s.sec.holders.filter fun e => e.2.img == img && decide (s.now < e.2.at_ + 3 * secU) && s.portUp e.2.port && ok e.1 e.2
  (sortBy (fun a b => decide (s.distance a.1 a.2 ≤ s.distance b.1 b.2)) l).head?

/-! Fetching a manifest (R365) -/

/-- Ask the nearest holder that has not failed for the manifest; with none left the fetch ends, unless a FETCH named it. -/
def State.askManifest (s : State) (f : ManFetch) : State :=
  match s.nearest f.img fun k _ => !f.tried.contains k with
  | some (k, h) =>
    let s := { s with sec := { s.sec with mfetch := some { f with src := some k, at_ := s.now, tries := 0, frags := [], count := none,
                                                                  rank := h.rank } } }
    (s.sendUpd h.port k 1 f.img 0 []).showSess
  | none =>
    let keep_ := if f.named.isSome then some { f with src := none, tries := 0, frags := [], count := none, tried := [] } else none
    ({ s with sec := { s.sec with mfetch := keep_ } }).showSess

/-! Fetching blocks (R366) -/

/-- The request outstanding toward chain port `p`, and replacing it. -/
def SessSt.out (x : SessSt) (p : Nat) : Option FetchSt := Tbl.get none x.fetch p
def SessSt.setOut (x : SessSt) (p : Nat) (f : Option FetchSt) : SessSt := { x with fetch := Tbl.set none x.fetch p f }

/-- Whether block `b` is verified. -/
def SessSt.holds (x : SessSt) (b : Nat) : Bool := x.blocks.any fun e => e.1 == b

/-- The holder on the side of port `p` to ask for block `b`: the nearest that shows it, or else the nearest that is fetching
the image itself. -/
def State.sourceFor (s : State) (img p b : Nat) (tried : List Nat) : Option (Nat × Holder) :=
  let fit (k : Nat) (h : Holder) : Bool := h.port == p && decide (h.bad < 3) && !tried.contains k
  match s.nearest img fun k h => fit k h && h.has b with
  | some r => some r
  | none => s.nearest img fun k h => fit k h && k / 1024 == 0

/-- Ask for block `b` toward port `p` with a new RID, from fragment 0. -/
def State.askBlock (s : State) (img p b : Nat) (tried : List Nat) : State :=
  match s.sec.sess, s.sourceFor img p b tried with
  | some x, some (k, _) =>
    let x := { x.setOut p (some { src := k, block := b, rid := x.rid, at_ := s.now, tried := tried }) with rid := (x.rid + 1) % 256 }
    (s.setSess (some x)).sendUpd p k 3 img (b * 2 ^ 16 + (x.rid + 255) % 256) []
  | _, _ => s.modSess fun x => x.setOut p none

/-- With nothing outstanding toward port `p`, ask for the first block that is lacking and has a holder there. -/
def State.fetchNext (s : State) (p : Nat) : State :=
  match s.sec.sess, s.sessMan with
  | some x, some m =>
    if s.isFollow ∨ x.complete ∨ !s.portUp p ∨ (x.out p).isSome then s
    else
      let busy (b : Nat) : Bool := [0, 1].any fun q => (x.out q).map (·.block) == some b
      let want := (List.range m.blocks).find? fun b =>
        !x.holds b && !busy b && (s.sourceFor m.imgId p b []).isSome
      match want with
      | none => s
      | some b => s.askBlock m.imgId p b []
  | _, _ => s

/-- Ask toward both chain ports. -/
def State.fetchBoth (s : State) : State := (s.fetchNext 0).fetchNext 1

/-- The request toward port `p` moves to another holder. -/
def State.moveFetch (s : State) (p : Nat) (f : FetchSt) : State :=
  match s.sessMan with
  | none => s
  | some m =>
    let s := (s.bump R.UPD_CNT2.RETRIES).askBlock m.imgId p f.block (f.src :: f.tried)
    s.fetchBoth

/-! The images of a pair (R369) -/

/-- The lead passes bytes on to its follow: the manifest, or block `b`. -/
def State.pushToFollow (s : State) (img : Nat) (b : Option Nat) (bytes : List Byte) : State :=
  match s.partnerPort with
  | none => s
  | some p =>
    if !s.isPaired || s.isFollow then s
    else
      let head := match b with
        | none => 256
        | some k => k * 2 ^ 16
      s.each (fragments bytes) fun s x =>
        s.sendOwn p (s.ownFrame 3 5 s.hubAddr 0 img (head + x.1 * 1024 + (if x.2.1 then 512 else 0)) x.2.2)

/-! Sessions and conflicts (R365, R368) -/

/-- A session with an acceptable manifest starts: the header sector of STAGING is erased and takes it. -/
def State.startSess (s : State) (m : Manifest) : State :=
  let b := flImage 2
  let s := (s.flashErase b (b + 65536)).flashProgram b m.bytes
  let hs : Tbl Holder := s.sec.holders.map fun e => (e.1, { e.2 with bad := 0 })
  let s := { s with sec := { s.sec with sess := some { man := m.bytes }, mfetch := none, held := [], holders := hs } }
  ((s.pushToFollow m.imgId none m.bytes).showSess).fetchBoth

/-- Two digests enter the conflict list, which holds 8. -/
def State.conflict (s : State) (a b : Manifest) : State :=
  let new := [a, b].map fun m => (beNat m.digest, m.rank)
  let l := s.sec.confl.filter (fun e => !new.any fun n => n.1 == e.1) ++ new
  let s := { s with sec := { s.sec with confl := l.drop (l.length - 8) } }
  ((s.bump R.UPD_CNT2.CONFLICTS).log1 L.UPD_CONFLICT).showSess

/-- A manifest that is not acceptable is counted, logged once and remembered for an hour; one that is not bound to this unit is
refused as such to requesters. -/
def State.badManifest (s : State) (bytes : List Byte) : State :=
  let d := beNat (sha384 bytes)
  let bads := s.sec.bads.filter fun e => decide (s.now < e.2.1 + 3600 * secU)
  let known := bads.any fun e => e.1 == d
  let s := s.bump R.UPD_CNT0.BADMAN
  let m := parseManifest bytes
  let unbound := (m.map fun m => !s.boundHere m).getD false
  let old := (m.map fun m => decide (m.svn < s.arb)).getD false
  let s := if known then s else s.log1 L.UPD_BAD_MANIFEST
  let s := if old then s.log1 L.UPD_SVN else s
  let bads := if known then bads else (d, s.now, if unbound then 4 else 2) :: bads
  ({ s with sec := { s.sec with bads := bads, mfetch := none } }).showSess

/-- What becomes of an acceptable manifest (Table 13.9); `named` says that a FETCH named it. -/
def State.takeManifest (s : State) (m : Manifest) (named : Bool) : State :=
  let s := ({ s with sec := { s.sec with mfetch := none } }).showSess
  if s.sec.confl.any fun e => e.1 == beNat m.digest then s
  else match s.sessMan, s.activeMan with
    | some x, _ =>
      if x.digest = m.digest then s
      else if x.rank < m.rank then ((s.bump R.UPD_CNT2.SUPERSEDED).log1 L.UPD_SUPERSEDED).startSess m
      else if x.rank = m.rank then ((s.programWord (flImage 2) swStagingRejected 0).endSess).conflict x m
      else s
    | none, some a =>
      if a.digest = m.digest then s
      else if a.rank = m.rank then s.conflict a m
      else if m.rank < a.rank ∧ !named then s
      else s.startSess m
    | none, none => s.startSess m

/-- The bytes of a manifest have arrived: they are checked (R353). -/
def State.judgeManifest (s : State) (img : Nat) (named : Option Nat) (bytes : List Byte) : State :=
  let d := sha384 bytes
  if beNat (d.take 4) ≠ img ∨ (named.map fun n => n != beNat d).getD false then s.badManifest bytes
  else match parseManifest bytes with
    | none => s.badManifest bytes
    | some m =>
      if m.bytes.length ≠ bytes.length ∨ !(s.acceptable 0 m || s.acceptable 1 m) then s.badManifest bytes
      else s.takeManifest m named.isSome

/-! Offers -/

/-- The OFFER of this hub's session. -/
def State.offer (s : State) : Frame :=
  let (img, rank, kind, blocks, held) := match s.sec.sess, s.sessMan, s.sec.mfetch with
    | some x, some m, _ => (m.imgId, m.rank, m.kind, m.blocks, x.blocks.map fun (e : Nat × List Byte) => e.1)
    | _, _, some f => (f.img, f.rank, 0, 0, [])
    | _, _, _ => (0, 0, 0, 0, [])
  let bits := (List.range 48).map fun i =>
    BitVec.ofNat 8 ((List.range 8).foldl (fun a j => if held.contains (8 * i + j) then a + 2 ^ (7 - j) else a) 0)
  s.ownFrame 6 0 0 3 img (held.length * 2 ^ 16 + blocks)
    (beBytes 8 rank ++ beBytes 1 kind ++ beBytes 1 s.sessNo ++ beBytes 1 (s.get R.SYS_CHAINPOS.HOPS_A)
      ++ beBytes 1 (s.get R.SYS_CHAINPOS.HOPS_B) ++ bits)

/-- UPD_OFFER_SEND (R364): once a second a hub whose session is not IDLE offers it; a follow originates nothing (R15). -/
def execUpdOfferSend (now : Nat) (s : State) : Out :=
  act updParts now s fun s =>
    let due := match s.sec.offerAt with
      | none => true
      | some t => decide (t + secU ≤ s.now)
    if s.isFollow ∨ s.sessNo = 0 ∨ !due then s
    else ({ s with sec := { s.sec with offerAt := some s.now } }).sendBoth s.offer

/-- An OFFER: its sender is a holder for 3 s, and the hub may start a session, or look at what meets its session. -/
def State.offerRx (s : State) (p : Nat) (f : Frame) : State :=
  if f.length ≠ 60 ∨ s.isFollow then s
  else
    let key := senderKey f
    let b := f.body
    let rank := beNat (slice b 0 8)
    let port := if f.stype = 1 then 0 else if f.stype = 2 then 1 else p
    let old : Holder := Tbl.get {} s.sec.holders key
    let h : Holder := { at_ := s.now, img := f.a, rank := rank, count := f.b % 2 ^ 16, have_ := slice b 12 48
                        hopsA := beNat (slice b 10 1), port := port, bad := if old.img = f.a then old.bad else 0 }
    let s := { s with sec := { s.sec with holders := Tbl.set {} s.sec.holders key h } }
    let fresh := !s.inConflict f.a && (s.refusedImg f.a).isNone
    match s.sec.mfetch, s.sessMan with
    | some m, _ => if m.src.isNone ∧ m.img = f.a then s.askManifest m else s.fetchBoth
    | none, some x =>
      if x.imgId = f.a then s.fetchBoth
      else if fresh && decide (x.rank ≤ rank) then s.askManifest { img := f.a }
      else s
    | none, none =>
      if fresh && decide (s.activeRank < rank) && !s.on R.SEC_BOOTST.TRIAL && !s.activationPending then s.askManifest { img := f.a }
      else s

/-- UPD_OFFER_RX (R364, R365). -/
def execUpdOfferRx (now : Nat) (rx : Rx) (s : State) : Out :=
  act updParts now s fun s => s.receive rx (fun f => f.flow == 6 && f.type == 0) fun s => s.offerRx rx.port rx.frame

/-- UPD_FETCH (R365): a request of the OWNER role names the digest of an image. -/
def execUpdFetch (now : Nat) (req : Requester) (digest : List Byte) (s : State) : Out :=
  act { updParts with resp := true } now s fun s =>
    if !req.isOwner ∨ digest.length ≠ 48 then s.answer req true 0
    else
      let s := s.answer req false 0
      let d := beNat digest
      if s.isFollow ∨ s.inConflict (digestImg d) ∨ s.sessMan.map (·.digest) = some digest then s
      else s.askManifest { img := digestImg d, named := some d }

/-! Serving (R366, R367) -/

/-- Requests that port `p` is serving or keeps: those whose frames wait there, and held ones. -/
def State.inService (s : State) (p : Nat) : Nat :=
  let ids := (s.portSt p).txq.filterMap fun i => match i.body with
    | .peb f => if !i.transit && f.flow == 6 && (f.type == 2 || f.type == 4) then
        some (f.type, f.dtype, f.dst, if f.type = 2 then 0 else f.b / 2 ^ 16 * 256 + f.b % 256) else none
    | _ => none
  ids.eraseDups.length + (s.sec.held.filter fun h => h.port == p).length

/-- The fragments of a verified block go to a requester. -/
def State.serve (s : State) (img p key block rid : Nat) (mask : Option Nat) (bytes : List Byte) : State :=
  let l := (fragments bytes).filter fun x => match mask with
    | none => true
    | some m => hasBit m x.1
  let s := s.each l fun s x =>
    s.sendUpd p key 4 img (block * 2 ^ 16 + x.1 * 1024 + (if x.2.1 then 512 else 0) + rid) x.2.2
  s.bump R.UPD_CNT1.SERVED

/-- The reason for which image `img` is not served: it is in conflict, refused, not held, or serving is disabled. -/
def State.whyNot (s : State) (img : Nat) : Option Nat :=
  if s.inConflict img then some 3
  else if s.get R.UPD_CFG.UPDRATE = 0 then some 2
  else if s.sessMan.map (·.imgId) = some img then none
  else some ((s.refusedImg img).getD 2)

/-- UPD_MAN_REQ_RX (R363, R367). -/
def execUpdManReqRx (now : Nat) (rx : Rx) (s : State) : Out :=
  act updParts now s fun s => s.receive rx (fun f => f.flow == 6 && f.type == 1) fun s =>
    let f := rx.frame
    let p := rx.port.val
    match s.whyNot f.a, s.sec.sess with
    | none, some x =>
      if 2 ≤ s.inService p then s.refuse p (senderKey f) f.a 1
      else s.each (fragments x.man) fun s y =>
        s.sendUpd p (senderKey f) 2 f.a (y.1 * 256 + (if y.2.1 then 128 else 0)) y.2.2
    | r, _ => s.refuse p (senderKey f) f.a (r.getD 2)

/-- A block request: served, held while the block is on its way, or refused. -/
def State.blkReq (s : State) (p : Nat) (f : Frame) : State :=
  let key := senderKey f
  let block := f.b / 2 ^ 16
  let rid := f.b % 256
  let mask := if f.length = 8 then some (beNat f.body) else none
  match s.whyNot f.a, s.sec.sess with
  | none, some x =>
    if f.length ≠ 0 ∧ f.length ≠ 8 then s.bump (R.PRT_P_CNT2.BADHDR p)
    else if 2 ≤ s.inService p then s.refuse p key f.a 1
    else match x.blocks.find? fun (e : Nat × List Byte) => e.1 == block with
      | some (_, bytes) => s.serve f.a p key block rid mask bytes
      | none =>
        if [0, 1].any fun q => (x.out q).map (·.block) == some block then
          { s with sec := { s.sec with held := s.sec.held ++ [⟨key, p, block, rid, mask, s.now⟩] } }
        else s.refuse p key f.a 2
  | r, _ => s.refuse p key f.a (r.getD 2)

/-- UPD_BLK_REQ_RX (R366, R367). -/
def execUpdBlkReqRx (now : Nat) (rx : Rx) (s : State) : Out :=
  act updParts now s fun s => s.receive rx (fun f => f.flow == 6 && f.type == 3) fun s => s.blkReq rx.port rx.frame

/-- UPD_HELD_REQUEST_EXPIRY (R366): requests that have waited 2 s for their block are dropped. -/
def execUpdHeldRequestExpiry (now : Nat) (s : State) : Out :=
  act { regs := false, log := false, sec := true } now s fun s =>
    { s with sec := { s.sec with held := s.sec.held.filter fun h => decide (s.now < h.at_ + 2 * secU) } }

/-! Manifests and blocks that arrive -/

/-- The bytes of `n` fragments, if all are there. -/
def joined (frags : Tbl (List Byte)) (n : Nat) : Option (List Byte) :=
  if (List.range n).all fun i => frags.any fun e => e.1 == i then some (frags.flatMap (·.2)) else none

/-- A MAN fragment of the fetch in progress, from the holder that was asked. -/
def State.manRx (s : State) (f : Frame) : State :=
  match s.sec.mfetch with
  | none => s
  | some m =>
    if m.src ≠ some (senderKey f) ∨ m.img ≠ f.a then s
    else
      let n := f.b / 256 % 256
      let count := if hasBit f.b 7 then some (n + 1) else m.count
      let m := { m with frags := Tbl.set [] m.frags n f.body, count := count, at_ := s.now }
      let s := { s with sec := { s.sec with mfetch := some m } }
      match count.bind (joined m.frags) with
      | none => s
      | some bytes => s.judgeManifest m.img m.named bytes

/-- UPD_MAN_RX (R365, R368). -/
def execUpdManRx (now : Nat) (rx : Rx) (s : State) : Out :=
  act updParts now s fun s => s.receive rx (fun f => f.flow == 6 && f.type == 2) fun s => s.manRx rx.frame

/-- A block has passed its hash: it is held, requests that wait for it are served, and a follow gets it. -/
def State.blockGood (s : State) (m : Manifest) (b : Nat) (bytes : List Byte) : State :=
  let s := s.modSess fun x => { x with blocks := Tbl.ins x.blocks b bytes }
  let wait := s.sec.held.filter fun h => h.block == b
  let s := { s with sec := { s.sec with held := s.sec.held.filter fun h => h.block != b } }
  let s := s.each wait fun s h => s.serve m.imgId h.port h.key b h.rid h.mask bytes
  (s.pushToFollow m.imgId (some b) bytes).showSess

/-- A fragment of the block that chain port `p` waits for; with the last one the block is checked. -/
def State.blkFrag (s : State) (m : Manifest) (p : Nat) (f : FetchSt) (n : Nat) (body : List Byte) : State :=
  let count := (m.blockLen f.block + 1439) / 1440
  if count ≤ n then s
  else
    let f := { f with frags := Tbl.set [] f.frags n body, at_ := s.now }
    match joined f.frags count with
    | none => s.modSess fun x => x.setOut p (some f)
    | some bytes =>
      let s := s.modSess fun x => x.setOut p none
      let s := if sha384 bytes = m.hash f.block then s.blockGood m f.block bytes
        else
          let h : Holder := Tbl.get {} s.sec.holders f.src
          (s.bump R.UPD_CNT0.BADBLK).modSess id |> fun s =>
            { s with sec := { s.sec with holders := Tbl.set {} s.sec.holders f.src { h with bad := h.bad + 1 } } }
      s.fetchBoth

/-- A BLK fragment: it must be of the block, RID and source that are expected. -/
def State.blkRx (s : State) (f : Frame) : State :=
  match s.sec.sess, s.sessMan with
  | some x, some m =>
    let mine (o : FetchSt) : Bool := o.src == senderKey f && o.block == f.b / 2 ^ 16 && o.rid == f.b % 256
    match [0, 1].find? fun q => ((x.out q).map mine).getD false with
    | none => s
    | some p => match x.out p with
      | none => s
      | some o => if m.imgId = f.a then s.blkFrag m p o (f.b / 1024 % 64) f.body else s
  | _, _ => s

/-- UPD_BLK_RX (R366). -/
def execUpdBlkRx (now : Nat) (rx : Rx) (s : State) : Out :=
  act updParts now s fun s => s.receive rx (fun f => f.flow == 6 && f.type == 4) fun s => s.blkRx rx.frame

/-- A REFUSE of what was asked moves the request to another holder at once. -/
def State.refuseRx (s : State) (f : Frame) : State :=
  let key := senderKey f
  match s.sec.mfetch with
  | some m =>
    if m.src = some key ∧ m.img = f.a then (s.bump R.UPD_CNT2.RETRIES).askManifest { m with tried := key :: m.tried }
    else s
  | none => match s.sec.sess, s.sessMan with
    | some x, some m =>
      if m.imgId ≠ f.a then s
      else match [0, 1].find? fun q => (x.out q).map (·.src) == some key with
        | none => s
        | some p => match x.out p with
          | none => s
          | some o => s.moveFetch p o
    | _, _ => s

/-- UPD_REFUSE_RX (R366). -/
def execUpdRefuseRx (now : Nat) (rx : Rx) (s : State) : Out :=
  act updParts now s fun s => s.receive rx (fun f => f.flow == 6 && f.type == 5) fun s => s.refuseRx rx.frame

/-- 200 ms of a request have passed, or its port is down. -/
def State.fetchDue (s : State) (p at_ : Nat) : Bool := !s.portUp p || decide (at_ + 200 * msU ≤ s.now)

/-- A block request toward port `p` that lacks fragments: they are asked for again, or after three tries from another
holder. -/
def State.retryBlock (s : State) (p : Nat) : State :=
  match s.sec.sess, s.sessMan with
  | some x, some m => match x.out p with
    | none => s.fetchNext p
    | some o =>
      if !s.fetchDue p o.at_ then s
      else if !s.portUp p ∨ 3 ≤ o.tries then s.moveFetch p o
      else
        let count := (m.blockLen o.block + 1439) / 1440
        let lack := ((List.range count).filter fun i => !o.frags.any fun e => e.1 == i).foldl (fun a i => a + 2 ^ i) 0
        let s := (s.bump R.UPD_CNT2.RETRIES).modSess fun x => x.setOut p (some { o with tries := o.tries + 1, at_ := s.now })
        s.sendUpd p o.src 3 m.imgId (o.block * 2 ^ 16 + o.rid) (beBytes 8 lack)
  | _, _ => s

/-- A manifest request that is not answered whole. -/
def State.retryManifest (s : State) : State :=
  match s.sec.mfetch with
  | none => s
  | some m => match m.src with
    | none => s
    | some k =>
      let h : Holder := Tbl.get {} s.sec.holders k
      if !s.fetchDue h.port m.at_ then s
      else if !s.portUp h.port ∨ 3 ≤ m.tries then (s.bump R.UPD_CNT2.RETRIES).askManifest { m with tried := k :: m.tried }
      else
        let s := { s with sec := { s.sec with mfetch := some { m with tries := m.tries + 1, at_ := s.now } } }
        (s.bump R.UPD_CNT2.RETRIES).sendUpd h.port k 1 m.img 0 []

/-- UPD_FRAGMENT_TIMEOUT (R366): of the block request toward chain port 0 or 1, or of the manifest request. -/
def execUpdFragmentTimeout (now : Nat) (which : Fin 3) (s : State) : Out :=
  act updParts now s fun s => if which.val < 2 then s.retryBlock which else s.retryManifest

/-! Storing (R366) and the boot stage (R356) -/

/-- A complete boot stage image goes, with the identity certificate, into the BOOT copy that did not run; a good copy asks for a
warm reset. -/
def State.installBoot (s : State) (m : Manifest) : State :=
  let run := s.get R.SEC_BOOTST.COPY
  let b := flBoot (1 - run)
  let cert := s.flashRead (flBoot run + 0xFF000) 0x1000
  let s := (s.flashErase b (b + 0x100000)).flashProgram b m.bytes
  let s := (s.flashCopy (flImage 2 + 65536) (b + 65536) m.length).flashProgram (b + 0xFF000) cert
  if (s.fullGood 1 b).isSome then s.pulseReset 4 else s

/-- UPD_BLOCK_STORED (R366, R370): a verified block is written into its sector of STAGING and read back; `ok` says that the
read-back agrees. The last one makes the session COMPLETE. -/
def execUpdBlockStored (now block : Nat) (ok : Bool) (s : State) : Out :=
  act regParts now s fun s =>
    match s.sec.sess, s.sessMan with
    | some x, some m => match x.blocks.find? fun (e : Nat × List Byte) => e.1 == block with
      | none => s
      | some e =>
        if x.complete ∨ x.stored.contains block then s
        else
          let at_ := flImage 2 + 65536 * (block + 1)
          let s := s.flashErase at_ (at_ + 65536)
          if !ok then
            let (n, s) := s.draw
            s.flashProgram at_ (e.2.take (n % e.2.length))
          else
            let s := (s.flashProgram at_ e.2).clearWritten block
            let s := s.modSess fun x => { x with stored := block :: x.stored }
            if x.stored.length + 1 < m.blocks then s
            else
              let s := (s.programWord (flImage 2) swComplete 0).modSess fun x => { x with complete := true }
              let s := (s.log1 L.UPD_COMPLETE).showSess
              if m.kind = 1 then s.installBoot m else s
    | _, _ => s

/-- After a warm reset the firmware takes up the session that STAGING holds: blocks whose bit is clear count if they match their
hash (R366). -/
def State.resumeSess (s : State) : State :=
  let b := flImage 2
  match s.manifestAt b with
  | none => s.showSess
  | some m =>
    if s.stateWord b swStagingRejected = 0 ∨ !(s.acceptable 0 m || s.acceptable 1 m) then s.showSess
    else
      let good := (List.range m.blocks).filter fun i => s.written i && sha384 (s.flashBlock b m i) == m.hash i
      let blocks : Tbl (List Byte) := good.map fun i => (i, s.flashBlock b m i)
      let all := good.length == m.blocks
      let s := s.setSess (some { man := m.bytes, blocks := blocks, stored := good, complete := all })
      let s := if all && s.stateWord b swComplete != 0 then (s.programWord b swComplete 0).log1 L.UPD_COMPLETE else s
      s.showSess

/-! The follow's side of R369 -/

/-- A manifest fragment from the lead. -/
def State.pushedMan (s : State) (f : Frame) : State :=
  let n := f.b / 1024 % 64
  let (frags, count) := match s.sec.pushMan with
    | some (img, l, c) => if img = f.a then (l, c) else ([], none)
    | none => ([], none)
  let frags := Tbl.set [] frags n f.body
  let count := if hasBit f.b 9 then some (n + 1) else count
  let s := { s with sec := { s.sec with pushMan := some (f.a, frags, count) } }
  match count.bind (joined frags) with
  | none => s
  | some bytes =>
    let s := { s with sec := { s.sec with pushMan := none } }
    match parseManifest bytes with
    | some m =>
      if m.imgId ≠ f.a ∨ m.bytes.length ≠ bytes.length ∨ !(s.acceptable 0 m || s.acceptable 1 m) then s.badManifest bytes
      else if s.sessMan.map (·.digest) = some m.digest then s else s.startSess m
    | none => s.badManifest bytes

/-- A block fragment from the lead. -/
def State.pushedBlk (s : State) (f : Frame) : State :=
  match s.sec.sess, s.sessMan with
  | some x, some m =>
    let b := f.b / 2 ^ 16
    if m.imgId ≠ f.a ∨ m.blocks ≤ b ∨ x.holds b then s
    else
      let frags := match s.sec.pushBlk with
        | some (k, l) => if k = b then l else []
        | none => []
      let frags := Tbl.set [] frags (f.b / 1024 % 64) f.body
      let s := { s with sec := { s.sec with pushBlk := some (b, frags) } }
      match joined frags ((m.blockLen b + 1439) / 1440) with
      | none => s
      | some bytes =>
        let s := { s with sec := { s.sec with pushBlk := none } }
        if sha384 bytes = m.hash b then s.blockGood m b bytes else s.bump R.UPD_CNT0.BADBLK
  | _, _ => s

/-- MGMT_UPD_PUSH_RX (R369): the follow takes a fragment from its lead, checks what it completes, and keeps it. -/
def execMgmtUpdPushRx (now : Nat) (rx : Rx) (s : State) : Out :=
  act updParts now s fun s => s.receive rx (fun f => f.flow == 3 && f.type == 5) fun s =>
    if !s.isFollow then s else if hasBit rx.frame.b 8 then s.pushedMan rx.frame else s.pushedBlk rx.frame

end Sys2Proof.Machine
end

