-- ==== Sys2Proof/Machine/UpdCtl.lean ====
section
/-! DEFINITION. UPD_CTL: activation, confirmation, rollback (R372 to R376), the confirm timer, and recovery (R357). -/

namespace Sys2Proof.Machine

/-! Confirmation (R373, R376) -/

/-- Burn ARB bits, the lowest unburned one first, until the count is `n`. -/
def State.burnArb (s : State) (n : Nat) : State :=
  s.each (List.range 64) fun s i =>
    if s.arb < n ∧ !hasBit (s.fuseWord (0xC51 + i / 32)) (i % 32) then s.burnWord (0xC51 + i / 32) (2 ^ (i % 32)) [] else s

/-- The advance of a confirmed ACTIVE. -/
def State.advanceArb (s : State) : State :=
  match s.activeMan with
  | none => s
  | some m => if m.svn ≤ s.arb then s else ((s.burnArb (min 64 m.svn)).showKeys).log1 L.ARB_ADVANCE

/-- CONFIRM: the timer stops, CONFIRMED is programmed on ACTIVE, and then ARB advances. -/
def State.confirm (s : State) : State :=
  match s.sec.act with
  | none => s
  | some k =>
    if s.confirmedSlot k then s
    else
      let s := s.programWord (flImage k) swConfirmed 0
      let s := { s with sec := { s.sec with deadline := none } }
      ((s.put R.SEC_BOOTST.TRIAL 0).put R.UPD_CONFTMR.WINDOW 0).advanceArb

/-! Activation and rollback (R372, R375) -/

/-- ACTIVATE: with a COMPLETE session of a firmware image, requested in STAGING; the start that follows activates it. -/
def State.requestActivate (s : State) : State :=
  match s.sec.sess, s.sessMan with
  | some x, some m =>
    if !x.complete ∨ m.kind ≠ 0 then s
    else ((s.programWord (flImage 2) swActivate 0).showSess).pulseReset 5
  | _, _ => s

/-- FALLBACK, if it is a candidate still. -/
def State.fallback (s : State) : Option Manifest := s.sec.fall.bind s.candidateSlot

/-- ROLLBACK: an unconfirmed ACTIVE gives way to FALLBACK; a confirmed one only for an OWNER, and only to a FALLBACK that reads the
newest settings. -/
def State.rollback (s : State) (owner : Bool) : State :=
  match s.sec.act with
  | none => s
  | some k => match s.fallback with
    | none => if s.confirmedSlot k && !owner then s else s.log1 L.UPD_ROLLBACK_REFUSED
    | some m =>
      if !s.confirmedSlot k then ({ s with sec := { s.sec with why := 2 } }).pulseReset 4
      else if !owner then s
      else if m.setFmt < s.sec.format then s.log1 L.UPD_ROLLBACK_REFUSED
      else (s.programWord (flImage k) swRejected 0).pulseReset 4

/-- A write to UPD_CTL (Tables 13.13 and 15.7): the KEY with one action bit, each for the roles that its rule names. -/
def State.updCtl (s : State) (q : Requester) (data : Word) : State :=
  let v := data.toNat
  let act_ := if v % 2 ^ 16 = 0x7E2B then v / 2 ^ 16 % 32 else 0
  let ok := match act_ with
    | 1 => q.isEngineer
    | 4 => q.isOwner
    | 8 => q.isEngineer
    | 16 => q.isOwner
    | _ => false
  s.mediated q R.UPD_CTL.addr 0x1FFFFF data ok fun s =>
    match act_ with
    | 1 => s.requestActivate
    | 2 => s.confirm
    | 4 => s.rollback q.isOwner
    | 8 => s.endSess
    | 16 => ({ s with sec := { s.sec with confl := [] } }).showSess
    | _ => s

/-- UPD_ACTIVATE (R372): a write to UPD_CTL. -/
def execUpdActivate (now : Nat) (req : Requester) (data : Word) (s : State) : Out :=
  act regParts now s fun s => s.updCtl req data

/-- UPD_CONFIRM (R373): a write to UPD_CTL. -/
def execUpdConfirm (now : Nat) (req : Requester) (data : Word) (s : State) : Out :=
  act regParts now s fun s => s.updCtl req data

/-- UPD_ROLLBACK (R375): a write to UPD_CTL. -/
def execUpdRollback (now : Nat) (req : Requester) (data : Word) (s : State) : Out :=
  act regParts now s fun s => s.updCtl req data

/-- UPD_ABORT (Table 13.13): a write to UPD_CTL. -/
def execUpdAbort (now : Nat) (req : Requester) (data : Word) (s : State) : Out :=
  act regParts now s fun s => s.updCtl req data

/-- UPD_CLRCONF (R368): a write to UPD_CTL. -/
def execUpdClrconf (now : Nat) (req : Requester) (data : Word) (s : State) : Out :=
  act regParts now s fun s => s.updCtl req data

/-! The confirm timer (R373) -/

/-- A write to UPD_CONFTMR: PL0 sets the window once per start, before it expires; it is counted from reset release. A value out
of range is ignored and logged (R6). -/
def State.confTmr (s : State) (q : Requester) (data : Word) : State :=
  s.pl0Write q R.UPD_CONFTMR.addr 0x0FFF0FFF data fun s =>
    let w := data.toNat % 2 ^ 12
    if w < 60 ∨ 3600 < w then s.log1 L.REG_RANGE 0 0 0 R.UPD_CONFTMR.addr
    else if s.sec.deadline.isNone ∨ s.sec.rewritten then s
    else
      let s := s.put R.UPD_CONFTMR.WINDOW w
      { s with sec := { s.sec with deadline := some (s.sys.releasedAt + w * secU), rewritten := true } }

/-- CONFTMR_WRITE (R373): a write to UPD_CONFTMR. -/
def execConftmrWrite (now : Nat) (req : Requester) (data : Word) (s : State) : Out :=
  act { resp := true, sec := true } now s fun s => s.confTmr req data

/-- CONFIRM_WINDOW_EXPIRY (R373): an unconfirmed trial ends with a warm reset by the watchdog. -/
def execConfirmWindowExpiry (now : Nat) (s : State) : Out :=
  act regParts now s fun s =>
    match s.sec.deadline with
    | none => s
    | some d => if s.now < d then s else ({ s with sec := { s.sec with why := 1 } }).pulseReset 3

/-! Recovery (R357) -/

/-- Whether the recovery registers answer: in recovery, to the host SPI port, with the seal open. -/
def State.rcvOpen (s : State) (q : Requester) : Bool :=
  q == .host && s.sys.stage == .recovery && s.on R.SYS_STRAP.SEAL_OPEN
    && !(s.sys.porHold || s.sys.pinLow || s.sys.thermal || s.sys.refLost || s.sys.pulse)

/-- A write to UPD_RCVCTL: a flash operation starts, unless one is in progress. -/
def State.rcvCtl (s : State) (q : Requester) (data : Word) : State :=
  if !s.rcvOpen q then s.answer q true 0
  else
    let ops := data.toNat % 4
    let s := if data &&& 0xFFFFFFF0 ≠ 0 then s.bump (R.SYS_REQERR2.RSVD q.no) else s
    let s := if ops = 0 ∨ s.sec.rcv.isSome then s
      else { s.put R.UPD_RCVCTL.BUSY 1 with sec := { s.sec with rcv := some (ops, s.get R.UPD_RCVADDR.ADDR) } }
    s.answer q false 0

/-- RCV_ERASE (R357): a write to UPD_RCVCTL. -/
def execRcvErase (now : Nat) (req : Requester) (data : Word) (s : State) : Out :=
  always { resp := true, sec := true } now s fun s => s.rcvCtl req data

/-- RCV_PROGRAM (R357): a write to UPD_RCVCTL. -/
def execRcvProgram (now : Nat) (req : Requester) (data : Word) (s : State) : Out :=
  always { resp := true, sec := true } now s fun s => s.rcvCtl req data

/-- RCV_FLASH_DONE (R357): the flash operation ends, the erase of the sector before the programming of the page. FAIL shows that the
flash does not read back as it should; `ok` says that the device did what it was told, else it has done part of it. -/
def execRcvFlashDone (now : Nat) (ok : Bool) (s : State) : Out :=
  always { sec := true, flash := true } now s fun s =>
    match s.sec.rcv with
    | none => s
    | some (ops, addr) =>
      let sect := addr / 65536 * 65536
      let page := addr / 256 * 256
      let data := s.getBytes R.UPD_RCVDATA.DATA 64
      let (n, s) := if ok then (65536, s) else s.draw
      let s := if hasBit ops 0 then s.flashErase sect (sect + n % 65537) else s
      let s := if hasBit ops 1 then s.flashProgram page (data.take (if ok then 256 else n % 256)) else s
      let good := ok && decide (addr < Config.flashMiB * 2 ^ 20) && (!hasBit ops 1 || s.flashRead page 256 == data)
      let s := (s.put R.UPD_RCVCTL.BUSY 0).putBit R.UPD_RCVCTL.FAIL (!good)
      { s with sec := { s.sec with rcv := none } }

end Sys2Proof.Machine
end

