-- ==== Sys2Proof/Machine/Pair.lean ====
section
/-! DEFINITION. Pairs (R325 to R344): heartbeats, state copies, pair commits, takeover, and the self-test of the follow. -/

namespace Sys2Proof.Machine

/-- The parts that a pair command may write. -/
abbrev pairParts : Parts :=
  { boundaryParts with pair := true, chor := true, safe := true, sec := true, flash := true }

/-- The pair state of Table 12.4. -/
def State.parState (s : State) (n : Nat) : State := s.put R.PAR_STAT.STATE n

/-- The pair part changed. -/
def State.modPair (s : State) (f : PairSt → PairSt) : State := { s with pair := f s.pair }

/-- The firmware has brought the partner link up. -/
def State.linkRuns (s : State) : Bool := s.sys.stage == .firmware || s.sys.stage == .running

/-! Excitation (R338) -/

/-- IEPE sources step to full current: an excitation switch, with the hold of R149. -/
def State.stepIepe (s : State) : State :=
  s.each ((List.range 384).filter fun e => s.inUse (R.TILE_CHCFG.MODE (tileOf e) (chanOf e)) == 5) fun s e =>
    let s := s.armSettle e
    let s := s.setChain e { s.chain e with stepAt := some (s.epBase e) }
    s.abandonRun (tileOf e) fun c => c == chanOf e

/-! Swaps that end early (R342) -/

/-- A swap ends with a result; PAIR_SWAP_FAIL for one that fails. -/
def State.endSwap (s : State) (result : Nat) : State :=
  let s := (s.modPair fun x => { x with swap := none }).put R.PAR_SWAPST.RESULT result
  let s := (s.put R.PAR_SWAPST.STEP 0).put R.PAR_STAT.SWAPPING 0
  if result = 1 then s.log1 L.PAIR_SWAP else s.log1 L.PAIR_SWAP_FAIL 0 0 result

/-- The partner is gone: a swap up to step 5 ends with PARTNER_LOST, and an apply that waits for its boundary with PARTNER_LOST
(R342, R388). -/
def State.partnerGone (s : State) (newLead : Bool) : State :=
  let s := match s.pair.swap with
    | some w => if w.step < 6 then s.endSwap 5 else s
    | none => s
  let s := s.modPair fun x => { x with mute := [] }
  if newLead && s.applying && s.chor.tiles == 0 then s.endApply chPartnerLost else s

/-! Takeover (R334) -/

/-- Packets from the first one that has a row at or after base time `t` on. -/
def newerPackets (t : Option Int) (l : List Packet) : List Packet :=
  match t with
  | none => l
  | some t => l.filter fun p => decide (t ≤ p.lastT)

/-- The first SSN of a packet; in an EVENT stream its first row carries it. -/
def State.firstSsn (s : State) (n : Nat) (p : Packet) : Nat := if s.strmClass n = 3 then p.words.getD 1 0 else p.ssn

/-- The record packet that begins what stream `n` sends, with EPOCH and SYNC of a reason, for its first packet. -/
def State.syncPacket (s : State) (n reason : Nat) (p : Packet) : Packet :=
  { words := epochEntry (s.strmNb n) 2 p.t
      ++ syncEntry (s.strmClass n) reason (s.get R.QUE_RUNID.RUNID) (s.firstSsn n p) (s.strmPeriod n) p.t
    record := true, t := p.t, lastT := p.t, at_ := p.at_ }

/-- Packets with PSNs that rise from `psn`. -/
def numbered (psn : Nat) (l : List Packet) : List Packet := l.zipIdx.map fun x => { x.1 with psn := (psn + x.2) % 2 ^ 32, sentAt := none }

/-- Stream `n` of the new lead: PSNs jump by 65,536 past the copied one, a record packet with SYNC REASON 4 comes first, and the
copied ledger goes on. -/
def State.takeStrm (s : State) (n : Nat) : State :=
  let c := s.pair.copy.bind fun c => (c.strms.find? fun e => e.1 == n).map (·.2)
  let psn := match c with
    | some x => (x.1 + 65536) % 2 ^ 32
    | none => s.get (R.QUE_S_PSN.PSN n)
  let q := s.queue n
  let l := newerPackets (c.bind fun x => x.2.1) q.pkts
  let l := match l.head? with
    | some p => s.syncPacket n 4 p :: l
    | none => []
  let l := numbered psn l
  let s := (s.setQueue n { q with pkts := l }).put (R.QUE_S_PSN.PSN n) ((psn + l.length) % 2 ^ 32)
  let s := s.modStrm n fun x =>
    let counts := (c.map fun y => y.2.2).getD [x.produced, x.acked, x.dropped, x.skipped]
    let at3 := counts.getD 1 0 + counts.getD 2 0 + counts.getD 3 0
    { x with sendPsn := psn, sentTop := psn, owed := if l.isEmpty then some (4, 2) else x.owed
             acked := counts.getD 1 0, dropped := counts.getD 2 0, skipped := counts.getD 3 0, produced := at3 }
  let s := s.modStrm n fun x => { x with produced := x.produced + s.queuedRows n }
  s.strmReady n

/-- Zhocy of a new lead: the sending SEQ goes on at the copied value plus 64, from the next TXPER boundary (R315). -/
def State.takeZhocy (s : State) : State :=
  s.each chans8 fun s c =>
    let s := match s.pair.copy.bind fun y => (y.zc.find? fun e => e.1 == c).map (·.2) with
      | none => s
      | some (seq, inc) => (s.put (R.SAFV_ZC_SEQ.SEQTX c) (seq + 64)).put (R.SAFV_ZC_INC.INCTX c) inc
    let per := s.sparam pZcTxper c * msU
    if per = 0 then s else s.setZc c { s.zc c with sentAt := some (s.wbNow 0 / (per : Int)).toNat }

/-- The follow declares its lead failed and takes over: cause 1 heartbeat lost, 2 FAULT beat. `cut` lists the endpoints whose
current pulse the old lead did not complete (R339). -/
def State.declare (s : State) (cause : Nat) (cut : List Nat) : State :=
  let s := s.log1 L.PAIR_LEAD_LOST
  let s := s.modPair fun x => { x with declared := some (s.now, cause, s.copyAge), beatAt := none }
  let s := (s.partnerGone true).setRole false
  let s := (s.put R.PAR_LAST.CAUSE cause).bump R.PAR_CNT0.TAKEOVERS
  -- the comparison with the partner stops (R314)
  let s := s.setSafe { s.safe with partnerRun := 0 }
  let s := s.stepIepe
  let s := s.each cut fun s e => s.setChain e { s.chain e with win := (s.chain e).win ||| fEXF }
  (s.each ((List.range 64).filter s.strmOn) fun s n => s.takeStrm n).takeZhocy

/-- The lead declares its follow lost (R336). -/
def State.followLost (s : State) : State :=
  let s := (s.log1 L.PAIR_FOLLOW_LOST).modPair fun x => { x with beatAt := none }
  ((s.partnerGone false).stepIepe).parState 0

/-! Heartbeats (R327, R328) -/

/-- PARTNER_HEARTBEAT_SEND (R327): every 50 µs, with the role, the unit ID and the number of the control cycle. -/
def execPartnerHeartbeatSend (now : Nat) (s : State) : Out :=
  act { regs := false, log := false, pair := true } now s fun s =>
    let due := match s.pair.beatTx with
      | none => true
      | some t => decide (t + 50 * usU ≤ s.now)
    if !s.linkRuns ∨ !due then s else s.modPair fun x => { x with beatTx := some s.now }

/-- The lead passes its session on to a follow that has become READY (R369). -/
def State.pushSession (s : State) : State :=
  match s.sec.sess, s.sessMan with
  | some x, some m => (s.pushToFollow m.imgId none x.man).each x.blocks fun s e => s.pushToFollow m.imgId (some e.1) e.2
  | _, _ => s

/-- What a heartbeat says of the partner: the lead shows the state of its follow, and a follow joins its lead (Table 12.4). -/
def State.beat (s : State) (follow : Bool) (unit cycle state : Nat) : State :=
  let was := s.pair.partnerState
  let s := s.modPair fun x =>
    { x with beatAt := some s.now, partnerFollow := follow, partnerUnit := unit, partnerState := state, partnerCycle := cycle }
  if !s.isPaired then s
  else if !s.isFollow && follow && s.pair.declared.isNone then
    let s := s.parState state
    let s := if state = 3 ∧ was ≠ 3 then s.log1 L.PAIR_FOLLOW_DEGRADED else s
    if state = 2 ∧ was < 2 then s.pushSession else s
  else if s.isFollow && !follow && s.get R.PAR_STAT.STATE == 0 && s.sys.stage == .running then s.parState 1
  else s

/-- PARTNER_HEARTBEAT_RX (R328). `state` is the sender's pair state. -/
def execPartnerHeartbeatRx (now : Nat) (follow : Bool) (unit cycle : Nat) (state : Fin 4) (s : State) : Out :=
  act pairParts now s fun s => if s.linkRuns then s.beat follow unit cycle state else s

/-- HEARTBEAT_TIMEOUT (R328): 200 µs without a heartbeat on either lane. -/
def execHeartbeatTimeout (now : Nat) (cut : List Nat) (s : State) : Out :=
  act pairParts now s fun s =>
    match s.pair.beatAt with
    | none => s
    | some t =>
      if !s.isPaired ∨ s.now < t + 200 * usU then s
      else if s.isFollow then s.declare 1 cut
      else if s.get R.PAR_STAT.STATE = 0 then s else s.followLost

/-- FAULT_BEAT_RX (R328): the follow takes over at once. -/
def execFaultBeatRx (now : Nat) (cut : List Nat) (s : State) : Out :=
  act pairParts now s fun s => if s.isPaired && s.isFollow && s.linkRuns then s.declare 2 cut else s

/-- TAKEOVER_COMPLETE (R334, R340): one control cycle after the declaration. -/
def execTakeoverComplete (now : Nat) (s : State) : Out :=
  act pairParts now s fun s =>
    match s.pair.declared with
    | none => s
    | some (t, cause, age) =>
      if s.now < t + s.cycleU then s
      else
        let s := if s.get R.PAR_STAT.STATE = 3 then s.log1 L.PAIR_FOLLOW_DEGRADED else s
        ((s.modPair fun x => { x with declared := none }).parState 0).log1 L.PAIR_TAKEOVER 0 0 cause age

/-- PARTNER_LANE_LOSS (R327). -/
def execPartnerLaneLoss (now : Nat) (lane : Fin 2) (s : State) : Out :=
  act { pair := true } now s fun s =>
    let l := s.get R.PAR_STAT.LANES
    if !hasBit l lane then s
    else ((s.put R.PAR_STAT.LANES (l - 2 ^ lane.val)).bump R.PAR_CNT1.LANEDOWN).log1 L.PAIR_LANE

/-- PARTNER_LANE_UP (R327, R336): copies start anew, on the way of a follow from JOINING to READY. -/
def execPartnerLaneUp (now : Nat) (lane : Fin 2) (s : State) : Out :=
  act { pair := true } now s fun s =>
    let l := s.get R.PAR_STAT.LANES
    if !s.linkRuns ∨ hasBit l lane then s
    else
      let s := s.put R.PAR_STAT.LANES (l + 2 ^ lane.val)
      if l = 0 ∧ s.isFollow then s.modPair fun x => { x with copies := 0 } else s

/-! Self-test (R340) -/

/-- A fault of the self-test: the follow is DEGRADED. -/
def State.testFault (s : State) : State :=
  let s := s.modPair fun x => { x with faultAt := some s.now }
  if s.get R.PAR_STAT.STATE = 2 then s.parState 3 else s

/-- Whether this chip tests itself: a follow with its partner. -/
def State.selfTests (s : State) : Bool := s.isPaired && s.isFollow && s.sys.stage == .running

/-- FOLLOW_BIST (Table 12.7): of C0 to C3, D0, D1 and the pull engine. -/
def execFollowBist (now : Nat) (engine : Fin 7) (ok : Bool) (s : State) : Out :=
  act { pair := true } now s fun s =>
    if !s.selfTests ∨ ok then s
    else (s.modPair fun x => { x with bist := x.bist ||| 2 ^ engine.val }).testFault

/-- MEMORY_SCRUB (Table 12.7): errors found since the last one, correctable and not. -/
def execMemoryScrub (now corrected uncorrected : Nat) (s : State) : Out :=
  act { pair := true } now s fun s =>
    if !s.selfTests then s
    else
      let s := s.modPair fun x => { x with scrubC := satAdd 16 x.scrubC corrected, scrubU := satAdd 16 x.scrubU uncorrected }
      if uncorrected = 0 then s else s.testFault

/-- FOLLOW_DEGRADED_CLEAR (R340): 60 s without a fault. -/
def execFollowDegradedClear (now : Nat) (s : State) : Out :=
  act { pair := true } now s fun s =>
    match s.pair.faultAt with
    | none => s
    | some t =>
      if s.get R.PAR_STAT.STATE ≠ 3 ∨ !s.isFollow ∨ s.now < t + 60 * secU then s
      else (s.modPair fun x => { x with faultAt := none }).parState 2

/-- The lead's mean and beacon value for frame `f` of tile `t` against the follow's own (Table 12.7). -/
def State.compareDigest (s : State) (t f : Nat) (mean beacon : Int) : State :=
  match (s.tile t).digest with
  | none => s
  | some (g, m, b) =>
    if g ≠ f ∨ !s.selfTests then s
    else
      let dtol := s.inUse R.PAR_CFG.DTOL
      let tol := s.inUse (R.TILE_BCN.TOL t)
      let digBad := dtol != 0 && decide (dtol < (m - mean).natAbs)
      let apart := tol != 0 && decide (2 * tol < (b - beacon).natAbs)
      let bcnBad := apart || s.get (R.TILE_BCNST.RESULT t) == 1
      let dr := if digBad then Tbl.get 0 s.pair.digRun t + 1 else 0
      let br := if bcnBad then Tbl.get 0 s.pair.bcnRun t + 1 else 0
      let s := if digBad then s.bump R.PAR_CNT0.DIGFAIL else s
      let s := s.modPair fun x =>
        { x with digRun := Tbl.set 0 x.digRun t dr, bcnRun := Tbl.set 0 x.bcnRun t br,
                 digFail := satAdd 16 x.digFail (if digBad then 1 else 0), bcnFail := satAdd 16 x.bcnFail (if apart then 1 else 0) }
      if 100 ≤ dr ∨ 100 ≤ br then s.testFault else s

/-- HEALTH_REPORT_SEND (R341): once a second the follow sends its report out of both chain ports. `tjMax` is the highest junction
temperature in 0.01 °C. -/
def execHealthReportSend (now : Nat) (tjMax : Int) (s : State) : Out :=
  act pairParts now s fun s =>
    let due := match s.pair.healthTx with
      | none => true
      | some t => decide (t + secU ≤ s.now)
    if !s.selfTests ∨ !due then s
    else
      let x := s.pair
      let b := beBytes 8 s.unitId ++ beBytes 1 (s.get R.PAR_STAT.STATE) ++ beBytes 1 (s.get R.PAR_STAT.LANES) ++ beBytes 2 x.bist
        ++ beBytes 2 x.scrubC ++ beBytes 2 x.scrubU ++ beBytes 2 x.digFail ++ beBytes 2 x.bcnFail ++ beBytes 2 x.copyInc
        ++ beBytes 2 s.copyAge ++ beBytes 2 (unsgn 16 tjMax) ++ beBytes 2 x.ssnAlign ++ beBytes 4 0
      let s := s.modPair fun x => { x with healthTx := some s.now, bist := 0, scrubC := 0, scrubU := 0, digFail := 0, bcnFail := 0,
                                           copyInc := 0, ssnAlign := 0 }
      let f := s.ownFrame 3 4 0 1 0 0 b
      (s.sendOwn 0 f).sendOwn 1 { f with dtype := 2 }

/-- MGMT_HEALTH_RX (R341, R402): the follow's report on its way through the lead, or addressed to it. -/
def execMgmtHealthRx (now : Nat) (rx : Rx) (s : State) : Out :=
  act { linkParts with pair := true } now s fun s =>
    let f := rx.frame
    let note (s : State) : State := s.modPair fun x => { x with health := some f.body }
    let own := (s.rxGate rx).2 && f.flow == 3 && f.type == 4 && f.dtype != 0 && f.sfol && f.src == s.hubAddr && f.stype == 0
      && s.partnerPort == some rx.port.val
    let t := s.receive rx (fun f => f.flow == 3 && f.type == 4) note
    if own then note t else t

/-! State copies (R331, R332, R411) -/

/-- The SSN that the follow has given its sample of endpoint `e` with the timestamp word `w`. -/
def State.ownSsn (s : State) (e w : Nat) : Option Nat :=
  if (Tbl.get resNone s.strm.latest e).2 = w then some ((s.nextSsn e + 2 ^ 32 - 1) % 2 ^ 32)
  else (s.histEp e).blocks.findSome? fun b =>
    (b.samples.findIdx? fun x => nbNs x.t % 2 ^ 31 == w).map fun i => (b.ssn + i) % 2 ^ 32

/-- The next SSN of endpoint `e` follows the lead's: SSN `ssn` at timestamp `w`. -/
def State.alignSsn (s : State) (e ssn w : Nat) : State :=
  match s.ownSsn e w with
  | none => s
  | some own =>
    if own = ssn then s
    else
      let s := s.closeBlock e
      let s := s.setSsn e ((s.nextSsn e + ssn + 2 ^ 32 - own) % 2 ^ 32)
      let s := s.modPair fun x => { x with ssnAlign := satAdd 16 x.ssnAlign 1 }
      (s.bump R.PAR_CNT1.SSNALIGN).log1 L.PAIR_SSN_ALIGN 1 e

/-- Packets of stream `n` whose rows the lead has had acknowledged leave the follow's queue. With nothing unacknowledged on the
lead, those are the rows up to the newest sample that it had. -/
def State.trimStrm (s : State) (c : StateCopy) (n : Nat) (oldest : Option Int) : State :=
  let e := s.inUse (R.QUE_ROSTER.EP (s.inUse (R.QUE_S_CFG.BASE n)))
  let stays (p : Packet) : Bool := match oldest with
    | some t => decide (t ≤ p.lastT)
    | none => match c.eps.find? fun x => x.1 == e with
      | none => true
      | some x => decide (2 ^ 30 ≤ (x.2.2 + 2 ^ 31 - nbNs p.lastT % 2 ^ 31) % 2 ^ 31)
  let q := s.queue n
  s.setQueue n { q with pkts := q.pkts.filter stays }

/-- A tempo base takes the lead's position at the boundary, and tracks from there. -/
def State.alignTempo (s : State) (n at_ : Nat) (pos : Int) (vel : Rat) : State :=
  let x := s.tempo n
  let d := pos - s.tempoPos n at_
  match s.tempoSrc n with
  | 1 => s.setTempo n { x with pos := x.pos + d, held := x.held + d }
  | 2 => s.setTempo n { x with p0 := mkRat pos 65536, v0 := vel, a := 0, t0 := s.wbAt 0 at_, corr := 0, held := pos }
  | 3 => s.setTempo n { x with cnt := ((x.cnt : Int) + divRound d 65536).toNat, held := pos }
  | _ => s

/-- An entry of the lead's log goes into the follow's. -/
def State.copyEntry (s : State) (e : LogEntry) : State := s.logStore { e with copied := true }

/-- The follow's own settle counts have ended. -/
def State.settled (s : State) : Bool := s.chains.all fun e => e.2.settle == 0 && !e.2.arm && !e.2.winStl

/-- A copy that is committed: what R332 does with it. -/
def State.useCopy (s : State) (c : StateCopy) : State :=
  let s := s.modPair fun x => { x with copy := some c, copyAt := s.now, copies := x.copies + 1 }
  let s := s.each c.eps fun s e => s.alignSsn e.1 e.2.1 e.2.2
  let s := s.put R.QUE_RUNID.RUNID c.runid
  let s := s.each c.strms fun s e => s.trimStrm c e.1 e.2.2.1
  let at_ := (s.localOf 0 ((c.cycle * s.cycleU : Nat) : Int)).toNat
  let s := s.each c.tempo fun s e => s.alignTempo e.1 at_ e.2.1 e.2.2.1
  let s := s.each c.entries fun s e => s.copyEntry e
  let s := if c.lost = 0 then s else s.log1 L.LOG_COPY_LOST 0 0 0 c.lost
  let s := if s.pair.swap.isNone && s.settled then s.modPair fun x => { x with mute := [] } else s
  if s.get R.PAR_STAT.STATE = 1 ∧ 16 ≤ s.pair.copies ∧ s.settled ∧ s.pair.swap.isNone then
    s.parState (if s.pair.faultAt.isSome then 3 else 2)
  else s

/-- STATE_COPY_RX (R331, R332): `good` says that the trailer arrived, its CRC matches, and the commit marker names the cycle. -/
def execStateCopyRx (now : Nat) (c : StateCopy) (good : Bool) (s : State) : Out :=
  act pairParts now s fun s =>
    if !s.isPaired ∨ !s.isFollow ∨ !s.linkRuns then s
    else if !good then
      (s.modPair fun x => { x with copies := 0, copyInc := satAdd 16 x.copyInc 1 }).bump R.PAR_CNT1.COPYINC
    else s.useCopy c

/-! Pair commits (R333, R388) -/

/-- Shadow words from the lead. -/
def State.shadowWords (s : State) (ws : List (Nat × Word)) : State :=
  s.each ws fun s w => match regAt? w.1 with
    | none => s
    | some h => { s with regs := Tbl.set h.info.reset s.regs w.1 (h.info.mix .rws (Tbl.get h.info.reset s.regs w.1) w.2) }

/-- PAIR_COMMIT_MIRROR_RX (R333, R388): the follow takes the shadows and the GO, or the image of a LIVE apply, checks them, and
confirms what passes. -/
def execPairCommitMirrorRx (now : Nat) (m : CommitMsg) (s : State) : Out :=
  act pairParts now s fun s =>
    if !s.isPaired ∨ !s.isFollow ∨ !s.linkRuns then s
    else match m.image with
      | none =>
        let s := s.shadowWords m.words
        let c := kindsCommit m.kinds
        let s := { s with commits := { s.commits.plus c with notBefore := m.at_ } }
        s.modPair fun x => { x with confirmed := (s.firstRej c).isNone }
      | some b => match s.checkImage b with
        | .error _ => s.modPair fun x => { x with confirmed := false }
        | .ok i =>
          if (s.candidateRej i).isSome then s.modPair fun x => { x with confirmed := false }
          else
            let s := { s with chor := { s.chor with pend := some i.bytes } }
            let s := (s.put R.SYS_CHOR_ST.CLASS 1).beginApply i m.at_
            s.modPair fun x => { x with confirmed := true }

/-- PAIR_COMMIT_FAIL (R333): one cycle before B the follow has not confirmed, and neither chip applies. -/
def execPairCommitFail (now : Nat) (s : State) : Out :=
  act pairParts now s fun s =>
    let c := s.commits
    let due := c.kinds != 0 && decide (c.notBefore ≤ s.time.cycleIdx + 1)
    let image := s.applying && (match s.chor.b with
      | some b => decide (b ≤ ((s.time.cycleIdx + 1) * s.cycleU : Nat)) && s.chor.tiles == 0
      | none => false)
    if !s.isPaired ∨ (!due && !image) then s
    else
      let s := if due then s.dropCommits (kindsCommit c.kinds) else s
      let s := if image then s.endApply chCheckFail else s
      (s.modPair fun x => { x with commitTx := none, confirmed := false }).log1 L.PAIR_COMMIT_FAIL

end Sys2Proof.Machine
end

