-- ==== Sys2Proof/Machine/Swap.lean ====
section
/-! DEFINITION. Swaps (R342), and what the lead mirrors to its follow (R313, R319, R327, R340, R342). -/

namespace Sys2Proof.Machine

/-- STEP of the swap in progress. -/
def State.swapStep (s : State) (n : Nat) : State :=
  (s.modPair fun x => { x with swap := x.swap.map fun w => ({ w with step := n, at_ := s.now } : SwapSt) }).put R.PAR_SWAPST.STEP n

/-! Request (step 1) -/

/-- A write to PAR_SWAP: the KEY with GO starts a swap on the lead of a pair; `peer` is the digest of the image that the follow holds
pending. -/
def State.requestSwap (s : State) (image : Bool) (peer : Option (List Byte)) : State :=
  if s.pair.partnerState ≠ 2 ∨ !s.hasPartner then s.endSwap 2
  else if image && (s.chor.pend.isNone || s.chor.pend.map sha384 != peer) then s.endSwap 3
  else
    let s := (s.modPair fun x => { x with swap := some ⟨2, image, s.now, none⟩ }).mirror (.rehearse image)
    (s.put R.PAR_SWAPST.STEP 2).put R.PAR_STAT.SWAPPING 1

/-- A write to PAR_SWAP: for an OWNER or ENGINEER; ignored on the follow, and while a swap is in progress. -/
def State.parSwap (s : State) (q : Requester) (data : Word) (peer : Option (List Byte)) : State :=
  s.mediated q R.PAR_SWAP.addr 0x3FFFF data q.isEngineer fun s =>
    if data.toNat % 2 ^ 16 ≠ 0x5A3C ∨ !hasBit data.toNat 16 ∨ !s.isPaired ∨ s.isFollow ∨ s.pair.swap.isSome then s
    else s.requestSwap (hasBit data.toNat 17) peer

/-- PAR_SWAP (R342): a write to the register. -/
def execParSwap (now : Nat) (req : Requester) (data : Word) (peer : Option (List Byte)) (s : State) : Out :=
  act { pair := true, resp := true } now s fun s => s.parSwap req data peer

/-! Rehearsal (steps 2 and 3) -/

/-- Whether endpoint `e` differs between two views in what feeds its chain or in the chain. -/
def epChanged (old new : View) (e : Nat) : Bool :=
  if e < 384 then
    let t := tileOf e
    let c := chanOf e
    differ old new (chainFields e ++ [R.TILE_CHCFG.MODE t c, R.TILE_CHCFG.GAIN t c, R.TILE_FRAMEL.FRAME t, R.TILE_FRAMEH.FRAME t,
      R.TILE_STRB.STRBSRC t]) || (stepTouches old new t).contains c
  else differ old new [R.IOT_DICFG.EN (e - 384), R.IOT_DIPER.P (e - 384)]

/-- Whether stream `n` differs between two views. -/
def strmChanged (old new : View) (n : Nat) : Bool :=
  differ old new [R.QUE_S_CFG.EN n, R.QUE_S_CFG.CLASS n, R.QUE_S_CFG.KIND n, R.QUE_S_CFG.WIDTH n, R.QUE_S_RED.OP n, R.QUE_S_RED.DSH n]
    || rosterOf old n != rosterOf new n || (rosterOf new n).any fun e => epChanged old new e

/-- The image `b` becomes the configuration of this chip without a restart; the endpoints that it changes are muted. -/
def State.rehearseImage (s : State) (b : List Byte) : State :=
  match s.checkImage b with
  | .error _ => s
  | .ok i =>
    let old : View := s.inUse
    let c := s.candidate i
    let t := c.applyCommits groupCommit (c.wbNow 0) (c.wbNow 0)
    t.modPair fun x => { x with mute := (List.range 512).filter fun e => epChanged old t.inUse e }

/-- The follow rehearses: with the pending image, or with nothing to change. -/
def State.rehearse (s : State) (image : Bool) : State :=
  let s := (s.modPair fun x => { x with swap := some ⟨2, image, s.now, none⟩ }).put R.PAR_STAT.SWAPPING 1
  let s := s.put R.PAR_SWAPST.STEP 2
  match image, s.chor.pend with
  | true, some b => s.rehearseImage b
  | _, _ => s

/-- The follow returns to its old configuration by a second rehearsal. -/
def State.rehearseBack (s : State) : State :=
  match s.pair.swap with
  | none => s
  | some w =>
    let s := s.endSwap 4
    match w.image, s.chor.force with
    | true, some b => s.rehearseImage b
    | _, _ => s

/-- Every rehearsed chain has settled. -/
def State.rehearsed (s : State) : Bool :=
  s.pair.mute.all fun e => (s.chain e).settle == 0 && !(s.chain e).arm && !(s.chain e).winStl

/-- SWAP_READY (R342): on the follow the rehearsed settle counts have ended; on the lead the follow's report has come, and B is
named. -/
def execSwapReady (now : Nat) (s : State) : Out :=
  act { pair := true } now s fun s =>
    match s.pair.swap with
    | none => s
    | some w =>
      if 3 < w.step then s
      else if s.isFollow then (if s.rehearsed then s.swapStep 3 else s)
      else
        let b := s.twoAhead
        let s := (s.swapStep 4).mirror (.boundary b)
        s.modPair fun x => { x with swap := x.swap.map fun w => ({ w with b := some b } : SwapSt) }

/-- SWAP_TIMEOUT (R342): no report within 10 s. -/
def execSwapTimeout (now : Nat) (s : State) : Out :=
  act pairParts now s fun s =>
    match s.pair.swap with
    | none => s
    | some w =>
      if 3 < w.step ∨ s.now < w.at_ + 10 * secU then s
      else if s.isFollow then s.rehearseBack
      else (s.mirror .back).endSwap 4

/-! The boundary (steps 4 to 6) -/

/-- What the old lead hands over: packets that are not acknowledged, next PSNs, next SSNs. -/
def State.handOver (s : State) : Handover :=
  { strms := ((List.range 64).filter s.strmOn).map fun n => (n, ((s.queue n).pkts, s.get (R.QUE_S_PSN.PSN n)))
    ssn := s.strm.ssn }

/-- The roles change. -/
def State.swapRole (s : State) (follow : Bool) : State :=
  ((s.setRole follow).put R.PAR_LAST.CAUSE 3).swapStep 6

/-- The old lead stops originating, passes its queues on, and applies the image with a restart. -/
def State.swapOut (s : State) (image : Bool) : State :=
  let s := s.each (List.range 64) fun s n => s.closePacket n
  let s := s.modPair fun x => { x with handover := some s.handOver, copies := 0, copy := none }
  let s := ((s.swapRole true).parState 1).stopOriginating
  let s := s.each (List.range 64) fun s n => s.setQueue n { s.queue n with pkts := [] }
  let b : Int := ((s.time.cycleIdx * s.cycleU : Nat) : Int)
  match image, s.chor.pend.map s.checkImage with
  | true, some (.ok i) =>
    let c := s.candidate i
    let re := c.commits.reanchor
    let c := c.dropCommits { groupCommit with reanchor := true }
    (c.restart groupCommit b fun s => if re then s.reanchor else s).finishApply i
  | _, _ => s

/-- Stream `n` of the new lead: the packets handed over come first under their own PSNs. -/
def State.takeHandover (s : State) (n : Nat) (pkts : List Packet) (psn : Nat) (changed : Bool) : State :=
  let s := s.setQueue n { s.queue n with pkts := pkts }
  let s := s.put (R.QUE_S_PSN.PSN n) psn
  let s := s.modStrm n fun x =>
    { x with rows := [], parts := [], sendPsn := (pkts.head?.map (·.psn)).getD psn, sentTop := psn
             owed := some (if changed then 2 else 4, 2) }
  s.strmReady n

/-- The new lead: the queues and the numbering that are handed over, then its own rows. -/
def State.swapIn (s : State) (image : Bool) (h : Handover) : State :=
  let old : View := match s.chor.force.map s.checkImage with
    | some (.ok i) => if image then (s.candidate i).get else s.inUse
    | _ => s.inUse
  let muted := s.pair.mute
  let s := s.modPair fun x => { x with mute := [], declared := none }
  let s := (s.swapRole false).parState 1
  let s := s.each muted fun s e => s.setSsn e (Tbl.get 0 h.ssn e)
  let s := s.each ((List.range 64).filter s.strmOn) fun s n =>
    let (pkts, psn) := match h.strms.find? fun e => e.1 == n with
      | some e => e.2
      | none => ([], s.get (R.QUE_S_PSN.PSN n))
    s.takeHandover n pkts psn (image && strmChanged old s.inUse n)
  let s := s.takeZhocy
  match image, s.chor.pend.map s.checkImage with
  | true, some (.ok i) => s.finishApply i
  | _, _ => s

/-- SWAP_BOUNDARY (R342): the control cycle boundary B. `h` is what the old lead hands over, as the new lead receives it. -/
def execSwapBoundary (now : Nat) (h : Handover) (s : State) : Out :=
  act pairParts now s fun s =>
    match s.pair.swap with
    | none => s
    | some w => match w.b with
      | none => s
      | some b =>
        if w.step ≠ 4 ∨ s.time.cycleIdx < b then s
        else if s.isFollow then s.swapIn w.image h else s.swapOut w.image

/-- SWAP_REJOIN (R342): the old lead is READY again as follow; both chips end the swap. -/
def execSwapRejoin (now : Nat) (s : State) : Out :=
  act { pair := true } now s fun s =>
    match s.pair.swap with
    | none => s
    | some w =>
      if w.step ≠ 6 then s
      else if s.isFollow then
        if 16 ≤ s.pair.copies ∧ s.settled then (s.parState 2).endSwap 1 else s
      else if s.pair.partnerState = 2 then s.endSwap 1 else s

/-! The mirror (R327) -/

/-- PARTNER_MIRROR_RX: the follow does what the lead has done. -/
def execPartnerMirrorRx (now : Nat) (m : Mirror) (s : State) : Out :=
  act { pairParts with dio := true } now s fun s =>
    if !s.isPaired ∨ !s.isFollow ∨ !s.linkRuns then s
    else match m with
      | .doPush p0 p1 ctl => (((s.setWord R.IOT_DOQ_P0 p0).setWord R.IOT_DOQ_P1 p1)).doqCtl ctl.toNat
      | .docmd v =>
        let s := s.setWord R.IOT_DOCMD v
        { s with dio := { s.dio with docmd := true } }
      | .brkReq v => s.setWord R.IOT_BRKREQ v
      | .zhocy b => (s.zhocy b).safeHint s
      | .digest tile f mean beacon => s.compareDigest tile f mean beacon
      | .safety n => s.setSafe { s.safe with newCfg := some n }
      | .rehearse image => s.rehearse image
      | .boundary b =>
        (s.swapStep 4).modPair fun x => { x with swap := x.swap.map fun w => ({ w with b := some b } : SwapSt) }
      | .back => s.rehearseBack

end Sys2Proof.Machine
end

