-- ==== Sys2Proof/Machine/Bus.lean ====
section
/-! DEFINITION. The register bus: reads with their latches (R5, R107, R158, R163, R176, R224, R248, R409), writes by field type
(R3 to R6), and the registers whose writes are commands. -/

namespace Sys2Proof.Machine

/-! Latches -/

/-- What reads of one kind have latched for a requester: 0 RES, 1 and 2 the wide bases, 3 NB, 4 ledger, 5 log slot. -/
def State.latched (s : State) (q : Requester) (kind : Nat) : List Nat := Tbl.get [] s.latch (4 * kind + q.no)
def State.setLatched (s : State) (q : Requester) (kind : Nat) (l : List Nat) : State :=
  { s with latch := Tbl.set [] s.latch (4 * kind + q.no) l }

/-- A read that takes word `w` of what is latched for index `i`, or the live value. -/
def State.fromLatch (s : State) (q : Requester) (kind i w live : Nat) : Nat :=
  match s.latched q kind with
  | j :: l => if j = i then l.getD w live else live
  | [] => live

/-- A read that consumes what is latched for index `i`, with SNAP in bit `b`, or reads the live value (R107, R163). -/
def State.consume (s : State) (q : Requester) (kind i b live : Nat) : State × Nat :=
  match s.latched q kind with
  | j :: v :: _ => if j = i then (s.setLatched q kind [], v + 2 ^ b) else (s, live)
  | _ => (s, live)

/-- Words 0 to 7 of the ledger of stream `n`, then QUEUED (R224). -/
def State.ledger (s : State) (n : Nat) : List Nat := (List.range 8).map (s.ledgerWord n) ++ [s.queuedRows n % 2 ^ 32]

/-- Every ROC field of a register clears (Table 0.3). -/
def State.clearRoc (s : State) (h : RegHit) (a : Nat) : State :=
  let old := Tbl.get h.info.reset s.regs a
  let new := h.info.fields.foldl (init := old) fun w f => if f.ty = .roc then fset w f.lo f.w 0 else w
  { s with regs := Tbl.set h.info.reset s.regs a new }

/-- A read of the register at `a` by a requester: its word, and what the read does. -/
def State.readReg (s : State) (q : Requester) (h : RegHit) (a : Nat) : State × Nat :=
  let i := h.ix 0
  let v := s.readNow h a
  let id := h.info.id
  if id = RID.RES_LO then
    (s.setLatched q 0 [i, (Tbl.get resNone s.strm.latest i).2], v)
  else if id = RID.RES_HI then s.consume q 0 i 31 v
  else if id = RID.TIM_WB_NS then
    let x := s.wbNow i
    (s.setLatched q (1 + i) [i, fracOf x + 2 ^ 16, secOf x % 2 ^ 32, secOf x / 2 ^ 32 % 2 ^ 16], v)
  else if id = RID.TIM_WB_FRAC then (s, s.fromLatch q (1 + i) i 0 v)
  else if id = RID.TIM_WB_SECL then (s, s.fromLatch q (1 + i) i 1 v)
  else if id = RID.TIM_WB_SECH then (s, s.fromLatch q (1 + i) i 2 v)
  else if id = RID.TIM_NB_NS then (s.setLatched q 3 [i, nbEpoch (s.wbNow (s.nbSrc i))], v)
  else if id = RID.TIM_NB_EP then s.consume q 3 i 16 v
  else if id = RID.TIM_TMP_POSL then
    let s := s.put (R.TIM_TMP_POSH.POS i) (lowWord (s.tempoPos i s.now / 2 ^ 32))
    (s.put (R.TIM_TMP_VEL.VEL i) (lowWord (s.tempoVel i s.now * 256).floor), v)
  else if id = RID.QUE_S_LEDGER then
    if h.ix 1 = 0 then (s.setLatched q 4 (i :: s.ledger i), v) else (s, s.fromLatch q 4 i (h.ix 1) v)
  else if id = RID.QUE_S_QUEUED then (s, s.fromLatch q 4 i 8 v)
  else if id = RID.CMP_INBYTESL then
    let n := s.cmp.inBytes
    ((s.put R.CMP_INBYTESL.INBYTES n).put R.CMP_INBYTESH.INBYTES (n / 2 ^ 32), v)
  else if id = RID.LOG_ENTRY then
    if h.ix 1 = 0 then (s.setLatched q 5 (i :: (List.range 8).map (s.logWord i)), v) else (s, s.fromLatch q 5 i (h.ix 1) v)
  else (s.clearRoc h a, v)

/-! Accesses (R3, R361, R415) -/

/-- The byte offset in the DRAM window of an access that lies within it. -/
def dramOffset? (a size : Nat) : Option Nat :=
  if 0x40000000 ≤ a ∧ a + size ≤ 0x40000000 + dramBytes then some (a - 0x40000000) else none

/-- The registers of recovery, which answer to the host alone (R377). -/
def isRecovery (h : RegHit) : Bool := [RID.UPD_RCVADDR, RID.UPD_RCVCTL, RID.UPD_RCVDATA].contains h.info.id

/-- An access that is no naturally aligned 32-bit one (R3), or that no register holds (R415), ends with an error response and is
counted. -/
def State.misaligned (s : State) (q : Requester) : State := (s.bump (R.SYS_REQERR.ALIGN q.no)).answer q true 0
def State.unmapped (s : State) (q : Requester) : State := (s.bump (R.SYS_REQERR.UNMAPPED q.no)).answer q true 0

/-- A read of `size` bytes at `a`: protection first, then alignment, then the map. -/
def State.busRead (s : State) (q : Requester) (a size : Nat) : State :=
  let hit := if a % 4 = 0 ∧ size = 4 then regAt? a else none
  if (hit.map isRecovery).getD false then
    if s.rcvOpen q then s.answer q false ((hit.map fun h => s.readNow h a).getD 0) else s.answer q true 0
  else if !s.permits q a size false then (s.deny q.cls a).answer q true 0
  else match dramOffset? a size with
    | some o => s.answer q false (leNat (s.dramRead o size))
    | none =>
      if a % 4 ≠ 0 ∨ size ≠ 4 then s.misaligned q
      else match hit with
        | none => s.unmapped q
        | some h =>
          let (s, v) := s.readReg q h a
          s.answer q false v

/-- The new word of a register after a write by field types: RW and RWS fields take the bits, an RW field only a value in its
range, W1C fields clear where a bit is 1 (Table 0.3, R6). -/
def RegInfo.written (r : RegInfo) (old data : Word) : Word :=
  r.fields.foldl (init := old) fun w f =>
    let v := fget data f.lo f.w
    match f.ty with
    | .rw => if f.accepts v then fset w f.lo f.w v else w
    | .rws => fset w f.lo f.w v
    | .w1c => w &&& ~~~ (data &&& fieldMask f.lo f.w)
    | _ => w

/-- Whether a write sets an RW field to a value outside its range. -/
def RegInfo.outOfRange (r : RegInfo) (data : Word) : Bool :=
  r.fields.any fun f => f.ty == .rw && !f.accepts (fget data f.lo f.w)

/-- Fields by type. -/
def State.writeFields (s : State) (h : RegHit) (a : Nat) (data : Word) : State :=
  let old := Tbl.get h.info.reset s.regs a
  let s := { s with regs := Tbl.set h.info.reset s.regs a (h.info.written old data) }
  if h.info.outOfRange data then s.log1 L.REG_RANGE 0 0 0 a else s

/-- A write to a shadow pair (R128, R129): only while software owns the tile's shadows; it is marked. Pairs 9 to 15 do not
exist. -/
def State.pairWrite (s : State) (h : RegHit) (a : Nat) (data : Word) : State :=
  let e := h.ix 0
  let i := h.ix 1
  if 9 ≤ i then s
  else if s.inUse (R.CAL_CFG.MODE (tileOf e)) ≠ 0 then s.bump (R.CAL_CNT2.WIGN (tileOf e))
  else
    let b := if h.info.id = RID.CAL_OFS then 1 else 2
    ((s.writeFields h a data).setMark e i (s.mark e i ||| b)).showSrc e

/-- Key registers that are written and not read. -/
def isKeyWord (h : RegHit) : Bool :=
  [RID.PRT_P_CKN, RID.PRT_P_CAK, RID.PRT_P_SAK, RID.PRT_P_SALT, RID.PRT_P_SSCI].contains h.info.id

/-- A word of a key. -/
def State.keyWrite (s : State) (a : Nat) (data : Word) : State := { s with wo := Tbl.set 0 s.wo a data }

/-- Word 7 of SYS_MGMTKEYr puts the key of role `r` in force (Table 15.13). -/
def State.mgmtKeyWrite (s : State) (r w a : Nat) (data : Word) : State :=
  let s := s.keyWrite a data
  if w ≠ 7 then s
  else
    let k := beBytes 32 (s.keyWords (R.SYS_MGMTKEY r) 8)
    { s with host := { s.host with keys := Tbl.set none s.host.keys r (some k) } }

/-- Shadows of the blocks of an image, which an apply in progress keeps to itself (R387). -/
def RegInfo.ofGroup (r : RegInfo) : Bool :=
  r.shadowed && [Blk.tile, .iot, .cal, .flt, .tim, .que, .prt, .par].contains r.blk
    && !([RID.CAL_OFS, RID.CAL_GAIN].contains r.id)

/-- What a write of the register at `a` does that is allowed and has no rule of its own elsewhere. -/
def State.writeReg (s : State) (h : RegHit) (a : Nat) (data : Word) : State :=
  let id := h.info.id
  if id = RID.CAL_OFS ∨ id = RID.CAL_GAIN then s.pairWrite h a data
  else if h.info.ofGroup && s.applying then s.choBusy
  else if [RID.CMP_J_D0, RID.CMP_J_D1, RID.CMP_J_D2, RID.CMP_J_D3, RID.CMP_J_D4, RID.CMP_J_D5, RID.CMP_J_D8].contains id
      ∧ (s.get (R.CMP_J_ST.STATE (h.ix 0)) = 1 ∨ s.get (R.CMP_J_ST.STATE (h.ix 0)) = 2) then s.bump R.CMP_CNT1.WIGN
  else if (id = RID.SYS_SPMB_REQ ∨ id = RID.SYS_SPMB_REQ_HI) ∧ s.on R.SYS_SPMB_ST.BUSY then s
  else if isKeyWord h then
    let s := s.keyWrite a data
    if id = RID.PRT_P_CAK then s.modPort (h.ix 0) fun x => { x with cakSet := true } else s
  else if id = RID.SYS_MGMTKEY then s.mgmtKeyWrite (h.ix 0) (h.ix 1) a data
  else if id = RID.TIM_WB1_SETL then { s with time := { s.time with setLo := data.toNat } }
  else if id = RID.TIM_WB1_SETH then s.setWb1 data.toNat
  else
    let s := s.writeFields h a data
    if id = RID.CAL_SLCCFG ∧ s.on R.CAL_SLCCFG.HOLD then s.each tiles4 fun s t => s.freezeSlices t
    else if id = RID.IOT_DOCMD then ({ s with dio := { s.dio with docmd := true } }).mirror (.docmd data)
    else if id = RID.IOT_BRKREQ then s.mirror (.brkReq data) else s

/-- Writes of registers that carry a command: the meaning of the command, as its own row has it. -/
def State.command? (s : State) (q : Requester) (h : RegHit) (data : Word) (ph : Phys) : Option State :=
  let a (r : RegAt) : Nat := r.addr
  let i := h.ix 0
  let id := h.info.id
  if id = RID.SYS_RSTCTL then some (s.rstCtl q data)
  else if id = RID.SYS_CHOR_CTL then some (s.chorCtl q data)
  else if id = RID.SYS_TCOMMIT then some (s.tcommit q data)
  else if id = RID.SYS_SPMB_CTL then some (s.spmbCtl q data ph.flashOk)
  else if id = RID.IOT_DOQ_CTL then some (s.cmdWrite q (a R.IOT_DOQ_CTL) 0x7FF data fun s => s.doqCtl data.toNat)
  else if id = RID.IOT_COMMIT then some (s.goWrite q (a R.IOT_COMMIT) 1 data { iot := true })
  else if id = RID.CAL_COMMIT then some (s.calCommit q data)
  else if id = RID.CAL_START then some (s.calStart q data)
  else if id = RID.CAL_BURN then some (s.calBurn q data ph.vdd18)
  else if id = RID.FLT_COMMIT then some (s.goWrite q (a R.FLT_COMMIT) 1 data { flt := 15 })
  else if id = RID.TIM_COMMIT then
    some (s.goWrite q (a R.TIM_COMMIT) 3 data { tim := true, reanchor := hasBit data.toNat 1 })
  else if id = RID.QUE_COMMIT then some (s.goWrite q (a R.QUE_COMMIT) 1 data { que := true })
  else if id = RID.CMP_J_CTL then some (s.slotCtl q i data)
  else if id = RID.PRT_P_SCTL then some (s.sctl q i data)
  else if id = RID.PRT_COMMIT then some (s.goWrite q (a R.PRT_COMMIT) 1 data { prt := true })
  else if id = RID.PAR_SWAP then some (s.parSwap q data ph.peer)
  else if id = RID.PAR_COMMIT then some (s.goWrite q (a R.PAR_COMMIT) 1 data { par := true })
  else if id = RID.SEC_DMCTL then some (s.dmCtl q data)
  else if id = RID.SEC_CMD then some (s.secCmd q data ph.missed)
  else if id = RID.UPD_CTL then some (s.updCtl q data)
  else if id = RID.UPD_CONFTMR then some (s.confTmr q data)
  else if id = RID.UPD_RCVCTL then some (s.rcvCtl q data)
  else none

/-- A write of a register that carries no command: the role rules of Table 15.7 for a mediated register, the windows for any
other one. -/
def State.plainWrite (s : State) (q : Requester) (h : RegHit) (a : Nat) (w : Word) : State :=
  let f (s : State) : State := s.writeReg h a w
  let id := h.info.id
  let host := match q with
    | .host => true
    | _ => false
  if isRecovery h then
    if s.rcvOpen q then (s.writeFields h a w).answer q false 0 else s.answer q true 0
  else if h.info.blk = .prot then s.pl0Write q a h.info.mask w f
  else if id = RID.SYS_MGMTKEY then s.mediated q a h.info.mask w q.isOwner f
  else if id = RID.SYS_SPMB_REQ ∨ id = RID.SYS_SPMB_REQ_HI then s.mediated q a h.info.mask w (host || q.isEngineer) f
  else if id = RID.SEC_REQ then s.mediated q a h.info.mask w true f
  else s.cmdWrite q a h.info.mask w f

/-- A write of `data`, `size` bytes, at `a`: of a register, which leaves the DRAM window alone, or of bytes of that window (R3,
R415). -/
def State.busWrite (s : State) (q : Requester) (a size data : Nat) (ph : Phys) : State :=
  match if a % 4 = 0 ∧ size = 4 then regAt? a else none with
  | none =>
    if !s.permits q a size true then (s.deny q.cls a).answer q true 0
    else match dramOffset? a size with
      | some o => (s.dramWrite o (leBytes size data)).answer q false 0
      | none => if a % 4 ≠ 0 ∨ size ≠ 4 then s.misaligned q else s.unmapped q
  | some h =>
    let w : Word := BitVec.ofNat 32 data
    { (s.command? q h w ph).getD (s.plainWrite q h a w) with dram := s.dram }

/-! The rows -/

/-- REGISTER_WRITE (R3 to R6, R415). -/
def execRegisterWrite (now : Nat) (req : Requester) (addr size data : Nat) (ph : Phys) (s : State) : Out :=
  act allParts now s fun s => s.busWrite req addr size data ph

/-- The parts that a read may write. -/
abbrev readParts : Parts := { resp := true, latch := true }

/-- ROC_READ (R5): a read of any register without a row of its own. -/
def execRocRead (now : Nat) (req : Requester) (addr size : Nat) (s : State) : Out :=
  act readParts now s fun s => s.busRead req addr size

/-- RES_LO_READ (R107). -/
def execResLoRead (now : Nat) (req : Requester) (e : Fin 512) (s : State) : Out :=
  act readParts now s fun s => s.busRead req (R.RES_LO e).addr 4

/-- RES_HI_READ (R107). -/
def execResHiRead (now : Nat) (req : Requester) (e : Fin 512) (s : State) : Out :=
  act readParts now s fun s => s.busRead req (R.RES_HI e).addr 4

/-- WB_NS_READ (R158). -/
def execWbNsRead (now : Nat) (req : Requester) (k : Fin 2) (s : State) : Out :=
  act readParts now s fun s => s.busRead req (R.TIM_WB_NS k).addr 4

/-- NB_NS_READ (R163). -/
def execNbNsRead (now : Nat) (req : Requester) (n : Fin 6) (s : State) : Out :=
  act readParts now s fun s => s.busRead req (R.TIM_NB_NS n).addr 4

/-- TEMPO_POS_READ (R176). -/
def execTempoPosRead (now : Nat) (req : Requester) (n : Fin 4) (s : State) : Out :=
  act readParts now s fun s => s.busRead req (R.TIM_TMP_POSL n).addr 4

/-- LEDGER_READ (R224). -/
def execLedgerRead (now : Nat) (req : Requester) (st : Fin 64) (s : State) : Out :=
  act readParts now s fun s => s.busRead req (R.QUE_S_LEDGER st 0).addr 4

/-- LOG_ENTRY_READ (R409). -/
def execLogEntryRead (now : Nat) (req : Requester) (slot : Fin 8192) (s : State) : Out :=
  act readParts now s fun s => s.busRead req (R.LOG_ENTRY slot 0).addr 4

/-- WB1_SET (R158): a write to TIM_WB1_SETH. -/
def execWb1Set (now : Nat) (req : Requester) (data : Word) (s : State) : Out :=
  act { time := true, resp := true } now s fun s =>
    s.cmdWrite req R.TIM_WB1_SETH.addr 0xFFFF data fun s => s.setWb1 data.toNat

/-- PROT_WRITE (R362): a write to word `w` of the PROT block. -/
def execProtWrite (now : Nat) (req : Requester) (w : Fin 256) (data : Word) (s : State) : Out :=
  act { resp := true } now s fun s => s.busWrite req (0x100000 + 4 * w.val) 4 data.toNat {}

/-- MGMT_KEY_WRITE (R403, Table 15.13): a write to word 7 of the key of a role. -/
def execMgmtKeyWrite (now : Nat) (req : Requester) (role : Fin 4) (data : Word) (s : State) : Out :=
  act { resp := true, wo := true, host := true } now s fun s => s.busWrite req (R.SYS_MGMTKEY role 7).addr 4 data.toNat {}

end Sys2Proof.Machine
end

