-- ==== Sys2Proof/Machine/HostPort.lean ====
section
/-! DEFINITION. The host SPI port (R394 to R400) and management over the line (R401 to R405). -/

namespace Sys2Proof.Machine

/-! Accesses of a frame or a request -/

/-- Registers whose writes are handed to the firmware (Table 15.7). -/
def isMediated (a : Nat) : Bool :=
  inProt a || match regAt? a with
    | none => false
    | some h => [RID.SYS_RSTCTL, RID.SYS_MGMTKEY, RID.SYS_CHOR_CTL, RID.SYS_SPMB_REQ, RID.SYS_SPMB_REQ_HI, RID.SYS_SPMB_CTL,
        RID.CAL_BURN, RID.PAR_SWAP, RID.UPD_CTL, RID.SEC_CMD, RID.SEC_REQ, RID.SEC_DMCTL].contains h.info.id

/-- The last answer to a requester. -/
def State.respOf (s : State) (q : Requester) : BusResp := Tbl.get {} s.resp q.no

/-- The addresses of `n` words from `a`, or `n` times `a` (FIXED). -/
def wordAddrs (a n : Nat) (fixed : Bool) : List Nat := (List.range n).map fun k => if fixed then a else a + 4 * k

/-- Reads of every word: a failing one reads as 0; the index of the first that fails (R397). -/
def State.readWords (s : State) (q : Requester) (as : List Nat) : State × List Nat × Option Nat :=
  as.zipIdx.foldl (init := (s, [], none)) fun (r : State × List Nat × Option Nat) x =>
    let s := r.1.busRead q x.1 4
    let y := s.respOf q
    (s, r.2.1 ++ [if y.err then 0 else y.data], r.2.2 <|> (if y.err then some x.2 else none))

/-- Writes in order up to the first that fails, or up to the first mediated one: the index of that word, whether it failed, and the
words that are left to the firmware. -/
def writeWords (q : Requester) : List (Nat × Word) → Nat → State → State × Nat × Bool × List (Nat × Word)
  | [], k, s => (s, k, false, [])
  | x :: l, k, s =>
    if isMediated x.1 then (s, k, false, x :: l)
    else
      let s := s.busWrite q x.1 4 x.2.toNat {}
      if (s.respOf q).err then (s, k, true, []) else writeWords q l (k + 1) s

/-- The firmware's part: every word in order up to the first that fails; a write that resets the hub is the last. Whether the word
that fails is mediated. -/
def finishWords (q : Requester) (ph : Phys) : List (Nat × Word) → Nat → State → State × Option (Nat × Bool)
  | [], _, s => (s, none)
  | x :: l, k, s =>
    let s := s.busWrite q x.1 4 x.2.toNat ph
    if s.sys.stopped then (s, none)
    else if (s.respOf q).err then (s, some (k, isMediated x.1)) else finishWords q ph l (k + 1) s

/-- The host and management part replaced. -/
def State.modHost (s : State) (f : HostSt → HostSt) : State := { s with host := f s.host }

/-! 32-bit frames (R394 to R398) -/

/-- The host port works unless a source holds the hub in reset; it works in recovery (R357). -/
def State.hostUp (s : State) : Bool := !(s.sys.porHold || s.sys.pinLow || s.sys.thermal || s.sys.refLost || s.sys.pulse)

/-- HINT_N is driven low while a cause is set that SYS_HINTEN enables (R410). -/
def State.hintLow (s : State) : Bool := s.get R.SYS_HINTST.CAUSE &&& s.get R.SYS_HINTEN.EN != 0

/-- The bytes of a word as the port shifts them. -/
def spiBytes (l : List Word) : List Byte := l.flatMap fun w => beBytes 4 w.toNat

/-- The status word that opens a frame's answer. CODE is open while a frame that ended early still waits for the firmware. -/
def State.hostStatus (s : State) : State × Word :=
  let (c, s) := if s.host.meds.any fun m => m.req == .host && !m.legacy then s.draw else (s.host.code, s)
  (s, BitVec.ofNat 32 (5 * 2 ^ 28 + c % 16 * 2 ^ 24 + s.get R.SYS_HINTST.CAUSE * 2 ^ 16 + s.host.frames % 2 ^ 16))

/-- A frame ends with a code: the counters, and CODE for the next frame's status. A frame that ended early is counted in ABORTS and
not in FRAMES. -/
def State.hostEnd (s : State) (code : Nat) (early : Bool) : State :=
  let s := s.modHost fun x => { x with code := code }
  let s := if early then s.bump R.SYS_HOSTCNT.ABORTS else s
  if code = 0 then
    if early then s else (s.bump R.SYS_HOSTCNT.FRAMES).modHost fun x => { x with frames := x.frames + 1 }
  else if code = 1 ∨ code = 2 then (s.bump R.SYS_HOSTCNT.CRCERR).logCycle L.HOST_ERR else s

/-- The answer's START word, and what follows it: the data words and their CRC. -/
def hostAnswer (code index : Nat) (data : List Nat) : List Word :=
  let ws : List Word := BitVec.ofNat 32 (0x5AC3 * 2 ^ 16 + code % 2 ^ 8 * 2 ^ 8 + index % 2 ^ 8) :: data.map (BitVec.ofNat 32 ·)
  ws ++ [BitVec.ofNat 32 (crc16 (spiBytes ws) * 2 ^ 16)]

/-- What the header asks for (Table 15.3): OP, FIXED, COUNT and the address. -/
def headerFault (w addr crc : Word) (op n : Nat) : Bool :=
  fget w 29 3 != 5 || op == 3 || (op != 2 && (n == 0 || decide (128 < n))) || fget w 0 14 != 0
    || fget addr 0 2 != 0 || fget crc 0 16 != 0

/-- A 32-bit frame whose CRC word has arrived: `late` says that data of the DRAM window was not ready after 16 WAIT words. A frame
with another number of data words than COUNT has its CRC word in the wrong place. -/
def State.hostFrame (s : State) (header addr : Word) (data : List Word) (crc : Word) (late early : Bool) : State :=
  let (s, status) := s.hostStatus
  let op := fget header 27 2
  let n := fget header 18 8
  let sent := header :: addr :: data
  let front := status :: List.replicate (data.length + 2) 0
  let show_ (s : State) (l : List Word) : State := s.modHost fun x => { x with miso := front ++ (if early then [] else l) }
  let fault := headerFault header addr crc op n
  let placed := fault || op == 2 && data.isEmpty || op == 0 && data.isEmpty || op == 1 && data.length == n
  if fget crc 16 16 ≠ crc16 (spiBytes sent) ∨ !placed then show_ (s.hostEnd 1 early) (hostAnswer 1 0 [])
  else if fault then show_ (s.hostEnd 2 early) (hostAnswer 2 0 [])
  else if op = 2 then show_ (s.hostEnd 0 early) (hostAnswer 0 0 [])
  else
    let as := wordAddrs (fget header 14 4 * 2 ^ 32 + addr.toNat) n (fget header 26 1 == 1)
    if op = 0 then
      let (s, ws, bad) := s.readWords .host as
      if late && as.any fun a => (dramOffset? a 4).isSome then
        let (i, s) := s.draw
        show_ (s.hostEnd 4 early) (hostAnswer 4 i (ws.map fun _ => 0))
      else
        let code := if bad.isSome then 3 else 0
        show_ (s.hostEnd code early) (hostAnswer code (bad.getD 0) ws)
    else
      let (s, k, bad, left) := writeWords .host (as.zip data) 0 s
      if left.isEmpty then
        let code := if bad then 3 else 0
        show_ (s.hostEnd code early) (hostAnswer code (if bad then k else 0) [])
      else
        let m : MedReq := { req := .host, words := left, index := k, early := early }
        show_ (s.modHost fun x => { x with meds := x.meds ++ [m] }) []

/-- The parts that a read frame may write. -/
abbrev hostParts : Parts := { resp := true, latch := true, host := true }

/-- A header whose OP is WRITE. -/
def isWriteOp (header : Word) : Bool := fget header 27 2 == 1

/-- HOST_READ (R397): a frame whose OP is not WRITE. -/
def execHostRead (now : Nat) (header addr crc : Word) (late : Bool) (s : State) : Out :=
  always hostParts now s fun s => if s.hostUp && !isWriteOp header then s.hostFrame header addr [] crc late false else s

/-- HOST_WRITE (R397). -/
def execHostWrite (now : Nat) (header addr : Word) (data : List Word) (crc : Word) (s : State) : Out :=
  always allParts now s fun s => if s.hostUp then s.hostFrame header addr data crc false false else s

/-- HOST_NOP (R395): a frame whose OP is not WRITE. -/
def execHostNop (now : Nat) (header addr crc : Word) (s : State) : Out :=
  let p : Parts := hostParts
  always p now s fun s => if s.hostUp && !isWriteOp header then s.hostFrame header addr [] crc false false else s

/-- HOST_FRAME_ABORT (R398): HCS_N rises before the last CRC word. With a request whose CRC word has come, the accesses run; with
less, nothing is accessed, and the CODE that the next status word shows is open. -/
def execHostFrameAbort (now : Nat) (request : Option (Word × Word × List Word × Word)) (late : Bool) (s : State) : Out :=
  always allParts now s fun s =>
    if !s.hostUp then s
    else match request with
      | some (header, addr, data, crc) => s.hostFrame header addr data crc late true
      | none =>
        let (s, status) := s.hostStatus
        let (c, s) := s.draw
        (s.bump R.SYS_HOSTCNT.ABORTS).modHost fun x => { x with code := c % 16, miso := [status] }

/-! Legacy frames (R399, R400) -/

/-- The byte address of the word that holds halfword `a`, if `a` is not reserved (R400). -/
def State.legacyWord (s : State) (a : Nat) : Option Nat :=
  if a < 0x800 then some (0x10000000 + 4 * (a / 2))
  else if a < 0x802 then some R.SYS_HOSTPAGE.addr
  else if a < 0x1000 then none
  else some (s.get R.SYS_HOSTPAGE.PAGE * 2 ^ 13 + 4 * ((a - 0x1000) / 2))

/-- A legacy frame puts the result of the read before it on HMISO; one of other than 32 clocks is discarded (R399). -/
def State.legacyFrame (s : State) (clocks : Nat) (f : State → State) : State :=
  if clocks ≠ 32 then s.bump R.SYS_HOSTCNT2.LEGERR
  else f (s.modHost fun x => { x with miso := [BitVec.ofNat 32 x.result] })

/-- HOST_LEGACY_READ (R400): a low half is read with its word, whose high half the next legacy frame may read. -/
def execHostLegacyRead (now : Nat) (half : Fin 8192) (clocks : Nat) (s : State) : Out :=
  always hostParts now s fun s =>
    if !s.hostUp then s
    else s.legacyFrame clocks fun s =>
      let kept := s.host.kept
      let s := (s.bump R.SYS_HOSTCNT2.LEGACY).modHost fun x => { x with kept := none, low := none }
      match s.legacyWord half with
      | none => s.modHost fun x => { x with result := 0 }
      | some a =>
        if half.val % 2 = 1 ∧ (kept.map (·.1)) = some a then
          s.modHost fun x => { x with result := (kept.map (·.2)).getD 0 }
        else
          let s := s.busRead .host a 4
          let v := (s.respOf .host).data
          if half.val % 2 = 0 then s.modHost fun x => { x with result := v % 2 ^ 16, kept := some (a, v / 2 ^ 16) }
          else s.modHost fun x => { x with result := v / 2 ^ 16 }

/-- HOST_LEGACY_WRITE (R400): a low half is held; the high half of the same word in the next legacy frame writes the word. -/
def execHostLegacyWrite (now : Nat) (half : Fin 8192) (data : BitVec 16) (clocks : Nat) (s : State) : Out :=
  always allParts now s fun s =>
    if !s.hostUp then s
    else s.legacyFrame clocks fun s =>
      let low := s.host.low
      let s := s.modHost fun x => { x with kept := none, low := none }
      match s.legacyWord half with
      | none => s.bump R.SYS_HOSTCNT2.LEGERR
      | some a =>
        if half.val % 2 = 0 then (s.bump R.SYS_HOSTCNT2.LEGACY).modHost fun x => { x with low := some (a, data.toNat) }
        else match low with
          | none => s.bump R.SYS_HOSTCNT2.LEGERR
          | some (b, l) =>
            if b ≠ a then s.bump R.SYS_HOSTCNT2.LEGERR
            else
              let s := s.bump R.SYS_HOSTCNT2.LEGACY
              let w : Word := BitVec.ofNat 32 (data.toNat * 2 ^ 16 + l)
              if isMediated a then s.modHost fun x => { x with meds := x.meds ++ [{ req := .host, words := [(a, w)], legacy := true }] }
              else s.busWrite .host a 4 w.toNat {}

/-! Management over the line (R401 to R406) -/

/-- The key of a role that is in force. -/
def State.mgmtKey (s : State) (role : Nat) : Option (List Byte) := Tbl.get none s.host.keys role

/-- The MAC over header bytes 2 to 15 and payload bytes before the last 16 (R401). -/
def mgmtMac (key : List Byte) (f : Frame) (l : List Byte) : List Byte :=
  (hmac384 key (f.header.drop 2 ++ l)).take 16

/-- The answer to a framed request: it echoes the request, carries the chip's NONCE, and a MAC under the same key, of zeros for
BAD_ROLE and BAD_MAC. -/
def State.mgmtReply (s : State) (p : Nat) (f : Frame) (code index : Nat) (words : List Nat) : State :=
  let body := slice f.body 0 4 ++ beBytes 4 (s.get R.SYS_MGMTNONCE.NONCE) ++ slice f.body 8 12
    ++ beBytes 1 code ++ beBytes 1 index ++ [0, 0] ++ words.flatMap fun w => beBytes 4 w
  let dtype := if f.stype = 1 then 1 else if f.stype = 2 then 2 else 0
  let r := s.ownFrame 3 (f.type + 1) f.src dtype (f.a / 2 ^ 16 * 2 ^ 16) 0 (body ++ List.replicate 16 0)
  let mac := match s.mgmtKey (f.body.getD 0 0).toNat with
    | some k => if code = 2 ∨ code = 3 then List.replicate 16 0 else mgmtMac k r body
    | none => List.replicate 16 0
  s.sendOwn p { r with payload := body ++ mac }

/-- The first check of R403: length, fields and the body's COUNT. -/
def mgmtBad (f : Frame) : Bool :=
  let n := beNat (slice f.body 28 2)
  let sel := (f.body.getD 1 0).toNat
  decide (f.length < 48) || decide (2 < sel) || beNat (slice f.body 2 2) != 0 || (sel != 2 && beNat (slice f.body 12 8) != 0)
    || n == 0 || decide (256 < n) || f.length != 48 + (if f.type = 2 then 4 * n else 0)
    || decide (2 ^ 36 ≤ beNat (slice f.body 20 8)) || decide (1 < beNat (slice f.body 30 2))
    || f.a % 2 ^ 16 != 0 || f.b != 0

/-- The code with which the checks of R403 end a request: 1 BAD_FRAME, 2 BAD_ROLE, 3 BAD_MAC, 4 STALE. -/
def State.mgmtCode (s : State) (f : Frame) : Nat :=
  let role := (f.body.getD 0 0).toNat
  if mgmtBad f then 1
  else match s.mgmtKey role with
    | none => 2
    | some k =>
      if mgmtMac k f (f.body.take (f.length - 16)) ≠ f.body.drop (f.length - 16) then 3
      else if beNat (slice f.body 4 4) ≠ s.get R.SYS_MGMTNONCE.NONCE
          ∨ beNat (slice f.body 8 4) ≤ s.get (R.SYS_MGMTLAST.COUNTER role) then 4
      else 0

/-- A framed request that this chip consumes: NO_CHIP where it names another one, BUSY with 16 in process, then the checks, then
`f` for its role (R403, R404, R406). -/
def State.mgmtRequest (s : State) (p : Nat) (f : Frame) (run : Requester → State → State) : State :=
  if !s.belongs f then s.mgmtReply p f 8 0 []
  else if 16 ≤ (s.host.meds.filter fun m => m.rx.isSome).length then (s.bump R.SYS_MGMTCNT.REJECTED).mgmtReply p f 7 0 []
  else
    let code := s.mgmtCode f
    if code ≠ 0 then (((s.bump R.SYS_MGMTCNT.REJECTED).logCycle L.MGMT_AUTH).mgmtReply p f code 0 [])
    else
      let role := (f.body.getD 0 0).toNat
      let s := (s.bump R.SYS_MGMTCNT.ACCEPTED).put (R.SYS_MGMTLAST.COUNTER role) (beNat (slice f.body 8 4))
      run (.mgmt (Fin.ofNat 4 role)) s

/-- The words that a request names. -/
def mgmtAddrs (f : Frame) : List Nat :=
  wordAddrs (beNat (slice f.body 20 8)) (beNat (slice f.body 28 2)) (beNat (slice f.body 30 2) % 2 == 1)

/-- MGMT_READ_REQ (R405). -/
def execMgmtReadReq (now : Nat) (rx : Rx) (s : State) : Out :=
  act regParts now s fun s => s.receive rx (fun f => f.flow == 3 && f.type == 0) fun s =>
    let f := rx.frame
    s.mgmtRequest rx.port f fun q s =>
      let (s, ws, bad) := s.readWords q (mgmtAddrs f)
      s.mgmtReply rx.port f (if bad.isSome then 5 else 0) (bad.getD 0) ws

/-- Words that ask for a daymark report. -/
def asksReport (l : List (Nat × Word)) : Bool := l.any fun x => x.1 == R.SEC_CMD.addr && x.2.toNat % 16 == 1 && hasBit x.2.toNat 6

/-- A request is handed to the firmware, which holds at most 4 requests for reports (R358). -/
def State.toFirmware (s : State) (m : MedReq) (p : Nat) (f : Frame) : State :=
  if asksReport m.words && decide (4 ≤ (s.host.meds.filter fun x => x.rx.isSome && asksReport x.words).length) then
    (s.bump R.SYS_MGMTCNT.REJECTED).mgmtReply p f 7 0 []
  else s.modHost fun x => { x with meds := x.meds ++ [m] }

/-- MGMT_WRITE_REQ (R405): the engine writes, or hands a mediated write to the firmware. -/
def execMgmtWriteReq (now : Nat) (rx : Rx) (s : State) : Out :=
  act allParts now s fun s => s.receive rx (fun f => f.flow == 3 && f.type == 2) fun s =>
    let f := rx.frame
    s.mgmtRequest rx.port f fun q s =>
      let as := mgmtAddrs f
      let ws := (List.range as.length).map fun k => BitVec.ofNat 32 (beNat (slice f.body (32 + 4 * k) 4))
      let (s, k, bad, left) := writeWords q (as.zip ws) 0 s
      if left.isEmpty then s.mgmtReply rx.port f (if bad then 5 else 0) (if bad then k else 0) []
      else s.toFirmware { req := q, words := left, index := k, rx := some (rx.port.val, f) } rx.port f

/-- MEDIATED_WRITE_DONE (R405): the firmware completes the oldest write that waits for it; its response or START follows, unless
the write has reset the hub. -/
def execMediatedWriteDone (now : Nat) (ph : Phys) (s : State) : Out :=
  act allParts now s fun s =>
    match s.host.meds with
    | [] => s
    | m :: rest =>
      let s := s.modHost fun x => { x with meds := rest }
      let (s, bad) := finishWords m.req ph m.words m.index s
      if s.sys.stopped then s
      else match m.rx with
        | some (p, f) => match bad with
          | none => s.mgmtReply p f 0 0 []
          | some (k, med) => s.mgmtReply p f (if med then 6 else 5) k []
        | none =>
          if m.legacy then s
          else
            let code := if bad.isSome then 3 else 0
            let s := s.hostEnd code m.early
            if m.early then s
            else s.modHost fun x => { x with miso := x.miso ++ hostAnswer code ((bad.map (·.1)).getD 0) [] }

end Sys2Proof.Machine
end

