-- ==== Sys2Proof/Machine/Start.lean ====
section
/-! DEFINITION. The firmware's start: settings (R374), the choreography image (R390, R392), and the role at the partner link
(R46, R52). -/

namespace Sys2Proof.Machine

/-! Settings -/

/-- Bytes of a SETTINGS or CHOREOGRAPHY slot. -/
abbrev slotSize : Nat := 0x100000

/-- Settings slot `k` is in use: DM3 takes its digest. -/
def State.useSettings (s : State) (k : Nat) : State :=
  let d := sha384 (s.flashRead (flSettings k) slotSize)
  ({ s with sec := { s.sec with settings := d } }).extendDm 3 d

/-- The migrated settings go into the other slot (R374). What the extension of DM6 names is left open. -/
def State.migrate (s : State) (k : Nat) (b : List Byte) : State :=
  let a := flSettings (1 - k)
  let s := (s.flashErase a (a + slotSize)).flashProgram a b
  let (c, s) := s.draw
  let (x, s) := s.draw
  (s.useSettings (1 - k)).dmEvent c x

/-- The settings of a start. A trial whose settings cannot be read asks for the rollback. -/
def State.loadSettings (s : State) (x : Settings) : State :=
  let s := { s with sec := { s.sec with format := x.newest } }
  let trial := s.on R.SEC_BOOTST.TRIAL
  if trial && x.unreadable then (s.log1 L.UPD_MIGRATE_FAIL).rollback false
  else
    let s := match x.slot with
      | none => s
      | some k =>
        let s := s.useSettings k
        match x.migrated with
        | some b => if trial then s.migrate k b else s
        | none => s
    s.each x.words fun s e => s.busWrite (.core0 0) e.1 4 e.2.toNat {}

/-! The image (R390) -/

/-- The image in CHOREOGRAPHY slot `k`, if it passes checks 1 to 7. -/
def State.slotImage (s : State) (k : Nat) : Option Img :=
  match s.checkImage (s.flashRead (flChor k) slotSize) with
  | .ok i => some i
  | .error _ => none

/-- The slots in the order in which a start tries them. -/
def State.imageOrder (s : State) : List (Nat × Img) :=
  match s.slotImage 0, s.slotImage 1 with
  | none, none => []
  | some i, none => [(0, i)]
  | none, some i => [(1, i)]
  | some i, some j => if i.serial < j.serial then [(1, j), (0, i)] else [(0, i), (1, j)]

/-- The first image of the list that passes check 8; those that fail it are logged. -/
def tryImages : List (Nat × Img) → State → State × Option (Nat × Img)
  | [], s => (s, none)
  | (k, i) :: l, s =>
    if (s.candidateRej i).isNone then (s, some (k, i)) else tryImages l (s.log1 L.CHOR_SLOT_BAD 8 k)

/-- The image of slot `k` is the first commit: its registers, then what shows it. -/
def State.startImage (s : State) (k : Nat) (i : Img) : State :=
  let s := (s.candidate i).restart groupCommit (s.wbNow 0)
  let s := { s with chor := { force := some i.bytes, expect := !i.expect.isEmpty } }
  let d := sha384 i.bytes
  let s := (((s.chorState 0).chorCode chOk).put R.SYS_CHOR_ST.SLOT k).put R.SYS_CHOR_ST.STORED 1
  let s := (s.put R.SYS_CHOR_ST.CLASS 0).put R.SYS_CHOR_ST.DRIFTED 0
  ((s.put R.SYS_CHOR_SERIAL.SERIAL i.serial).putBytes R.SYS_CHOR_DIG.DIGEST d).extendDm 4 d

/-- With an image in force: the safety functions start, its section is handed over, and the samples that a REFLOSS reset took are
counted (R52, R218). -/
def State.afterImage (s : State) (i : Img) : State :=
  let s := s.restoreSafety.handSafety i.safety
  let lost := s.sys.staged
  let s := { s with sys := { s.sys with staged := [] } }
  s.each lost fun s x => s.exceptions 2 x.1 x.2.1 x.2.2

/-- FIRMWARE_START (R52): DRAM, PHYs and partner link are up; settings and the choreography image are loaded, or the hub stays
without an image (R392). `settings` is what the firmware finds in the SETTINGS slots. -/
def execFirmwareStart (now : Nat) (settings : Settings) (s : State) : Out :=
  act regParts now s fun s =>
    if s.sys.stage ≠ .firmware ∨ s.chor.bare ∨ s.chor.force.isSome then s
    else
      let s := s.loadSettings settings
      if s.sys.stopped then s
      else
        let s := s.resumeSess
        let s := match s.sec.act with
          | some k => if s.confirmedSlot k then s.advanceArb else s
          | none => s
        match tryImages s.imageOrder s with
        | (s, none) => { s.log1 L.CHOR_NONE with chor := { s.chor with bare := true } }
        | (s, some (k, i)) => (s.startImage k i).afterImage i

/-! The role (R46) -/

/-- ROLE_RESOLVE (R46): the partner link comes up while this chip starts. `acts` says that the partner acts as lead, `unit` is its
unit ID and `pin` its ROLE. -/
def execRoleResolve (now : Nat) (acts : Bool) (unit : Nat) (pin : Bool) (s : State) : Out :=
  act { pair := true } now s fun s =>
    if s.sys.stage ≠ .firmware then s
    else
      let s := if acts then (s.setRole true).log1 L.ROLE_OVERRIDE
        else if s.on R.SYS_STRAP.ROLE_PIN = pin then (s.setRole (decide (unit < s.unitId))).log1 L.ROLE_CONFLICT
        else s
      s.modPair fun x => { x with beatAt := some s.now, partnerFollow := !s.isFollow, partnerUnit := unit }

end Sys2Proof.Machine
end

