-- ==== Sys2Proof/Machine/Strobe.lean ====
section
/-! DEFINITION. The frame strobe of a tile (R24, R82, R85). -/

namespace Sys2Proof.Machine

/-- FRAME_STROBE (R82, R85): tile `t` opens the frame of its next strobe, once that instant has come. A frame whose
results are still missing then counts as lost in its transfer. -/
def execFrameStrobe (now : Nat) (tile : Fin 4) (s : State) : Out :=
  act chorParts now s fun s =>
    let t := tile.val
    match s.nextStrobe t with
    | none => s
    | some (at_, _) =>
      if s.wbNow 0 < at_ then s
      else
        let s := (s.each (s.beaconGroup t) fun s u => s.modTile u fun x =>
          if x.res.isSome then x else { x with res := some { fails := 3 } }).settleGroup t
        match s.nextStrobe t with
        | none => s
        | some (at_, f) => (if (s.tile t).framed then s.chorFrame t else s).strobe t at_ f

end Sys2Proof.Machine
end

