-- ==== Sys2Proof/Machine/Transmit.lean ====
section
/-! DEFINITION. A free port starts its next frame (R16, R256, R259, R261, R267, R270, R273). -/

namespace Sys2Proof.Machine

/-- A link frame that brings a port up: the only kind sent on a port that is not up (R263). -/
def TxBody.bringsUp : TxBody → Bool
  | .peb f => f.isHello
  | .mkpdu _ => true
  | _ => false

/-- A frame that UPDRATE paces (R367, R369): an UPDATE frame of the hub's own, or an UPD_PUSH. -/
def TxItem.paced (i : TxItem) : Bool :=
  !i.transit && (match i.body with
    | .peb f => f.flow == 6 || f.flow == 3 && f.type == 5
    | _ => false)

/-- Whether an item may start on port `p` now. -/
def State.mayStart (s : State) (p : Nat) (i : TxItem) : Bool :=
  (s.portUp p || i.body.bringsUp)
  && (s.secMode p == 0 || s.on (R.PRT_P_STAT.SECURED p) || (match i.body with
    | .mkpdu _ => true
    | _ => false))
  && (!i.paced || decide ((s.portSt p).updAt ≤ s.now))

/-- A frame goes on the wire of port `p`; under MACsec it takes the next packet number. -/
def State.onWire (s : State) (p : Nat) (body : TxBody) (sent : Option Frame) (bytes : Nat) : State :=
  let sec := match body with
    | .mkpdu _ => false
    | _ => true
  let s := s.modPort p fun x =>
    { x with wire := some ⟨body, sent, s.now, s.now + wireTime s p bytes⟩,
             sas := if sec then x.sas.map fun a => if a.an = x.txAn then { a with txPn := a.txPn + 1 } else a else x.sas }
  s.bump (R.PRT_P_CNT1.TXFRM p)

/-- A Pebiyr frame as port `p` sends it: VER is the link version (R267), or 1 in a LINK_HELLO (R263). -/
def State.stamped (s : State) (p : Nat) (f : Frame) : Frame := { f with ver := if f.isHello then 1 else s.lver p }

/-- Start a Pebiyr frame of item `i` on port `p`. -/
def State.startPeb (s : State) (p : Nat) (i : TxItem) (f : Frame) : State :=
  let g := s.stamped p f
  if !f.isHello && !g.inVersion g.ver then s.bump (R.PRT_P_CNT4.VERDROP p)
  else if f.flow != 0 && (f.dtype == 1 || f.dtype == 2) && !s.reach p && decide (p < 2) then s.bump (R.PRT_P_CNT3.NOROUTE p)
  else
    let n := wireBytes s p g.length
    let rate := s.get R.UPD_CFG.UPDRATE
    let s := if i.paced && rate != 0 then s.modPort p fun x => { x with updAt := s.now + n * 8 * usU / rate } else s
    s.onWire p i.body (some g) n

/-- A copy of a stream packet for a MIRROR port, made at its first send (R273). -/
def State.mirrorTo (s : State) (p : Nat) (f : Frame) : State :=
  let n := wireBytes s p f.length
  if !s.portUp p ∨ transitBytes (s.portSt p) + n > 114688 then s.bump (R.PRT_P_CNT4.TXDROP p)
  else s.enqueue p { prio := 2, transit := true, bytes := n, body := .peb f }

/-- Whether port `p` mirrors stream `n`. -/
def State.mirrors (s : State) (p n : Nat) : Bool :=
  s.inUse (R.PRT_P_CFG.USE p) == 3 &&
    (if n < 32 then hasBit (s.inUse (R.PRT_P_MIRL.MASK p)) n else hasBit (s.inUse (R.PRT_P_MIRH.MASK p)) (n - 32))

/-- The bytes of words, each big-endian (R256). -/
def wordBytes (ws : List Nat) : List Byte := ws.flatMap fun w => beBytes 4 w

/-- The frame of a stream packet out of chain port `p` (Tables 10.3 and 10.5). -/
def State.strmFrame (s : State) (n p : Nat) (k : Packet) : Frame :=
  s.ownFrame 1 (if k.record then 1 else 0) 0 (p + 1) k.psn (if k.record then 0 else k.ssn) (wordBytes k.words) n

/-- Start the packet at the send point of stream `n` on port `p` (R203, R270, R273). -/
def State.startStrm (s : State) (p n : Nat) : State :=
  match s.atSendPoint n with
  | none => s
  | some k =>
    if (s.strmSt n).port ≠ p then s
    else
      let f := s.strmFrame n p k
      let s := s.onWire p (.strm n) (some (s.stamped p f)) (wireBytes s p f.length)
      let s := s.modStrm n fun x =>
        { x with sendPsn := (k.psn + 1) % 2 ^ 32,
                 sentTop := if serialLe x.sentTop k.psn then (k.psn + 1) % 2 ^ 32 else x.sentTop }
      let s := if k.sentAt.isSome then s
        else
          let q := s.queue n
          let s := s.setQueue n { q with pkts := q.pkts.map fun j => if j = k then { j with sentAt := some s.now } else j }
          s.each ([2, 3].filter fun m => s.mirrors m n) fun s m => s.mirrorTo m f
      s.strmReady n

/-- The frame of fragment `k.frags` of a pull segment (R222, R261). -/
def State.pullFrame (s : State) (k : Packet) (d : Nat × Nat × Nat) : Frame :=
  let data := ((wordBytes k.words).drop (1440 * k.frags)).take 1440
  let last := k.frags + 1 == fragsOf k
  let dtype := if d.2.1 = 1 then 1 else if d.2.1 = 2 then 2 else 0
  s.ownFrame 2 1 d.2.2 dtype (k.words.getD 0 0 / 2 ^ 8 * 2 ^ 8)
    (k.words.getD 1 0 % 2 ^ 16 * 2 ^ 16 + k.frags * 2 ^ 8 + (if last then 128 else 0)) data

/-- Start the next fragment of Q64 on port `p`. -/
def State.startPull (s : State) (p : Nat) : State :=
  let mine (k : Packet) : Bool := match k.pull with
    | some d => d.1 == p && decide (k.frags < fragsOf k)
    | none => false
  match (s.queue 64).pkts.find? mine with
  | none => s
  | some k => match k.pull with
    | none => s
    | some d =>
      let f := s.pullFrame k d
      let s := s.onWire p .pull (some (s.stamped p f)) (wireBytes s p f.length)
      let q := s.queue 64
      let s := s.setQueue 64 { q with pkts := q.pkts.map fun j => if j = k then { j with frags := j.frags + 1 } else j }
      s.pullReady p

/-- Start an item on port `p`. -/
def State.startItem (s : State) (p : Nat) (i : TxItem) : State :=
  match i.body with
  | .peb f => s.startPeb p i f
  | .strm n => s.startStrm p n
  | .pull => s.startPull p
  | .ptp m rx own =>
    let (s, m) := s.ptpEgress p m rx own
    s.onWire p (.ptp m rx own) none i.bytes
  | .arp _ => s.onWire p i.body none i.bytes
  | .mkpdu _ => s.onWire p i.body none i.bytes

/-- FRAME_TRANSMIT (R16, R270): a port with link whose wire is free starts the first frame that may leave. -/
def execFrameTransmit (now : Nat) (port : Fin 4) (s : State) : Out :=
  act linkParts now s fun s =>
    let s := s.settleWires
    let p := port.val
    let x := s.portSt p
    if !s.on (R.PRT_P_STAT.LINK p) ∨ x.wire.isSome ∨ portRate s p = 0 then s
    else match firstItem (x.txq.filter (s.mayStart p)) with
      | none => s
      | some i => (s.setPort p { x with txq := x.txq.erase i }).startItem p i

end Sys2Proof.Machine
end

