-- ==== Sys2Proof/Machine/Dispatch.lean ====
section
/-! DEFINITION. What each command does: one arm per command, one meaning per arm. -/

namespace Sys2Proof.Machine

/-- The effect of a command on everything but the queue of waiting commands. -/
def exec (i : Instr) (s : State) : Host.Outcome State Fault Refusal :=
  match i with
  | .registerWrite now req addr size data ph => Sys2Proof.Machine.execRegisterWrite now req addr size data ph s
  | .rocRead now req addr size => Sys2Proof.Machine.execRocRead now req addr size s
  | .powerOnReset now => Sys2Proof.Machine.execPowerOnReset now s
  | .logicSupplyFall now supply => Sys2Proof.Machine.execLogicSupplyFall now supply s
  | .fieldSupplyFault now which => Sys2Proof.Machine.execFieldSupplyFault now which s
  | .fieldSupplyGood now => Sys2Proof.Machine.execFieldSupplyGood now s
  | .logicTrafficLoss now => Sys2Proof.Machine.execLogicTrafficLoss now s
  | .tjHigh now => Sys2Proof.Machine.execTjHigh now s
  | .thermalReset now => Sys2Proof.Machine.execThermalReset now s
  | .thermalRecovery now => Sys2Proof.Machine.execThermalRecovery now s
  | .refclkLoss now => Sys2Proof.Machine.execRefclkLoss now s
  | .refclkReturn now => Sys2Proof.Machine.execRefclkReturn now s
  | .resetNAssert now ns => Sys2Proof.Machine.execResetNAssert now ns s
  | .resetNRelease now => Sys2Proof.Machine.execResetNRelease now s
  | .watchdogReset now => Sys2Proof.Machine.execWatchdogReset now s
  | .softReset now req data => Sys2Proof.Machine.execSoftReset now req data s
  | .resetRelease now refEdges role => Sys2Proof.Machine.execResetRelease now refEdges role s
  | .bootStageStart now => Sys2Proof.Machine.execBootStageStart now s
  | .bootWatchdog now => Sys2Proof.Machine.execBootWatchdog now s
  | .firmwareStart now settings => Sys2Proof.Machine.execFirmwareStart now settings s
  | .roleResolve now acts unit pin => Sys2Proof.Machine.execRoleResolve now acts unit pin s
  | .sealChange now code => Sys2Proof.Machine.execSealChange now code s
  | .sealCodeAccept now => Sys2Proof.Machine.execSealCodeAccept now s
  | .controlCycle now => Sys2Proof.Machine.execControlCycle now s
  | .frameStrobe now tile => Sys2Proof.Machine.execFrameStrobe now tile s
  | .tempoStrobeFix now tile => Sys2Proof.Machine.execTempoStrobeFix now tile s
  | .tileResultTransfer now tile res => Sys2Proof.Machine.execTileResultTransfer now tile res s
  | .excFault now tile src cls onset => Sys2Proof.Machine.execExcFault now tile src cls onset s
  | .excTrip now tile group => Sys2Proof.Machine.execExcTrip now tile group s
  | .excTripRetry now tile group limited => Sys2Proof.Machine.execExcTripRetry now tile group limited s
  | .excClear now tile src => Sys2Proof.Machine.execExcClear now tile src s
  | .openInputTest now tile failed => Sys2Proof.Machine.execOpenInputTest now tile failed s
  | .blankPinEdge now pin on => Sys2Proof.Machine.execBlankPinEdge now pin on s
  | .bcnClear now tile => Sys2Proof.Machine.execBcnClear now tile s
  | .calRefRecover now tile => Sys2Proof.Machine.execCalRefRecover now tile s
  | .sliceBlockEnd now tile => Sys2Proof.Machine.execSliceBlockEnd now tile s
  | .calRunEnd now tile => Sys2Proof.Machine.execCalRunEnd now tile s
  | .calStart now req data => Sys2Proof.Machine.execCalStart now req data s
  | .calCommit now req data => Sys2Proof.Machine.execCalCommit now req data s
  | .calTempCheck now => Sys2Proof.Machine.execCalTempCheck now s
  | .calBurn now req data vdd18 => Sys2Proof.Machine.execCalBurn now req data vdd18 s
  | .calBurnEnd now missed => Sys2Proof.Machine.execCalBurnEnd now missed s
  | .tileCommit now req data => Sys2Proof.Machine.execTileCommit now req data s
  | .calConfigCommit now req data => Sys2Proof.Machine.execCalConfigCommit now req data s
  | .fltCommit now req data => Sys2Proof.Machine.execFltCommit now req data s
  | .timCommit now req data => Sys2Proof.Machine.execTimCommit now req data s
  | .timReanchor now req data => Sys2Proof.Machine.execTimReanchor now req data s
  | .iotCommit now req data => Sys2Proof.Machine.execIotCommit now req data s
  | .queCommit now req data => Sys2Proof.Machine.execQueCommit now req data s
  | .prtCommit now req data => Sys2Proof.Machine.execPrtCommit now req data s
  | .parCommit now req data => Sys2Proof.Machine.execParCommit now req data s
  | .resLoRead now req e => Sys2Proof.Machine.execResLoRead now req e s
  | .resHiRead now req e => Sys2Proof.Machine.execResHiRead now req e s
  | .wbNsRead now req k => Sys2Proof.Machine.execWbNsRead now req k s
  | .nbNsRead now req n => Sys2Proof.Machine.execNbNsRead now req n s
  | .tempoPosRead now req n => Sys2Proof.Machine.execTempoPosRead now req n s
  | .ledgerRead now req st => Sys2Proof.Machine.execLedgerRead now req st s
  | .cmpInbytesRead now req => Sys2Proof.Machine.execCmpInbytesRead now req s
  | .logEntryRead now req slot => Sys2Proof.Machine.execLogEntryRead now req slot s
  | .ptpRx now port m => Sys2Proof.Machine.execPtpRx now port m s
  | .ptpDelayReqSend now k => Sys2Proof.Machine.execPtpDelayReqSend now k s
  | .ptpSyncLoss now k => Sys2Proof.Machine.execPtpSyncLoss now k s
  | .holdLimitExceeded now k => Sys2Proof.Machine.execHoldLimitExceeded now k s
  | .timOffsetLarge now => Sys2Proof.Machine.execTimOffsetLarge now s
  | .nbWrap now n => Sys2Proof.Machine.execNbWrap now n s
  | .ppsOutPulse now => Sys2Proof.Machine.execPpsOutPulse now s
  | .ppsInEdge now => Sys2Proof.Machine.execPpsInEdge now s
  | .ppsInLoss now => Sys2Proof.Machine.execPpsInLoss now s
  | .wb1Set now req data => Sys2Proof.Machine.execWb1Set now req data s
  | .encoderEdge now enc edge => Sys2Proof.Machine.execEncoderEdge now enc edge s
  | .encoderIndex now enc => Sys2Proof.Machine.execEncoderIndex now enc s
  | .mainsEdge now => Sys2Proof.Machine.execMainsEdge now s
  | .mainsHoldover now => Sys2Proof.Machine.execMainsHoldover now s
  | .mainsLost now => Sys2Proof.Machine.execMainsLost now s
  | .tempoRx now rx => Sys2Proof.Machine.execTempoRx now rx s
  | .tempoHoldover now n => Sys2Proof.Machine.execTempoHoldover now n s
  | .tempoLost now n => Sys2Proof.Machine.execTempoLost now n s
  | .tempoRecordWrite now n => Sys2Proof.Machine.execTempoRecordWrite now n s
  | .diLevelAccept now input level since => Sys2Proof.Machine.execDiLevelAccept now input level since s
  | .diLevelSample now input transferFailed => Sys2Proof.Machine.execDiLevelSample now input transferFailed s
  | .doPush now req data => Sys2Proof.Machine.execDoPush now req data s
  | .doClear now req data => Sys2Proof.Machine.execDoClear now req data s
  | .doFix now d => Sys2Proof.Machine.execDoFix now d s
  | .doEdge now d => Sys2Proof.Machine.execDoEdge now d s
  | .streamFlush now st => Sys2Proof.Machine.execStreamFlush now st s
  | .queueStallResume now q => Sys2Proof.Machine.execQueueStallResume now q s
  | .streamSkipResume now st => Sys2Proof.Machine.execStreamSkipResume now st s
  | .historyBlockRelease now e => Sys2Proof.Machine.execHistoryBlockRelease now e s
  | .streamAckRx now rx => Sys2Proof.Machine.execStreamAckRx now rx s
  | .streamNakRx now rx => Sys2Proof.Machine.execStreamNakRx now rx s
  | .streamAcksRx now rx => Sys2Proof.Machine.execStreamAcksRx now rx s
  | .pullRequestRx now rx => Sys2Proof.Machine.execPullRequestRx now rx s
  | .pullCancelRx now rx => Sys2Proof.Machine.execPullCancelRx now rx s
  | .pullSegment now id crcFails => Sys2Proof.Machine.execPullSegment now id crcFails s
  | .pullSegmentRetry now id => Sys2Proof.Machine.execPullSegmentRetry now id s
  | .cmpJobSubmit now req j data => Sys2Proof.Machine.execCmpJobSubmit now req j data s
  | .cmpJobCancel now req j data => Sys2Proof.Machine.execCmpJobCancel now req j data s
  | .cmpJobStart now e => Sys2Proof.Machine.execCmpJobStart now e s
  | .cmpJobEnd now e => Sys2Proof.Machine.execCmpJobEnd now e s
  | .phyLinkUp now port pcs master snr peerOk => Sys2Proof.Machine.execPhyLinkUp now port pcs master snr peerOk s
  | .phyLinkLoss now port => Sys2Proof.Machine.execPhyLinkLoss now port s
  | .sgmiiControlWord now port link fullDuplex speed => Sys2Proof.Machine.execSgmiiControlWord now port link fullDuplex speed s
  | .linkHelloSend now port => Sys2Proof.Machine.execLinkHelloSend now port s
  | .linkHelloRx now rx => Sys2Proof.Machine.execLinkHelloRx now rx s
  | .helloMiss now port => Sys2Proof.Machine.execHelloMiss now port s
  | .rootHelloRx now rx => Sys2Proof.Machine.execRootHelloRx now rx s
  | .rootHelloMiss now port => Sys2Proof.Machine.execRootHelloMiss now port s
  | .transitFrameRx now rx => Sys2Proof.Machine.execTransitFrameRx now rx s
  | .frameRxDiscard now rx => Sys2Proof.Machine.execFrameRxDiscard now rx s
  | .frameTransmit now port => Sys2Proof.Machine.execFrameTransmit now port s
  | .arpRx now port eth m => Sys2Proof.Machine.execArpRx now port eth m s
  | .mkpduRx now port m => Sys2Proof.Machine.execMkpduRx now port m s
  | .mkaHelloSend now port => Sys2Proof.Machine.execMkaHelloSend now port s
  | .mkaRekey now port => Sys2Proof.Machine.execMkaRekey now port s
  | .mkaFail now port => Sys2Proof.Machine.execMkaFail now port s
  | .macsecInstall now req port data => Sys2Proof.Machine.execMacsecInstall now req port data s
  | .mgmtReadReq now rx => Sys2Proof.Machine.execMgmtReadReq now rx s
  | .mgmtWriteReq now rx => Sys2Proof.Machine.execMgmtWriteReq now rx s
  | .mediatedWriteDone now ph => Sys2Proof.Machine.execMediatedWriteDone now ph s
  | .mgmtHealthRx now rx => Sys2Proof.Machine.execMgmtHealthRx now rx s
  | .mgmtUpdPushRx now rx => Sys2Proof.Machine.execMgmtUpdPushRx now rx s
  | .mgmtKeyWrite now req role data => Sys2Proof.Machine.execMgmtKeyWrite now req role data s
  | .hostRead now header addr crc late => Sys2Proof.Machine.execHostRead now header addr crc late s
  | .hostWrite now header addr data crc => Sys2Proof.Machine.execHostWrite now header addr data crc s
  | .hostNop now header addr crc => Sys2Proof.Machine.execHostNop now header addr crc s
  | .hostFrameAbort now request late => Sys2Proof.Machine.execHostFrameAbort now request late s
  | .hostLegacyRead now half clocks => Sys2Proof.Machine.execHostLegacyRead now half clocks s
  | .hostLegacyWrite now half data clocks => Sys2Proof.Machine.execHostLegacyWrite now half data clocks s
  | .safetyTick now t => Sys2Proof.Machine.execSafetyTick now t s
  | .keeperMarkerTimeout now rc => Sys2Proof.Machine.execKeeperMarkerTimeout now rc s
  | .crossLatch now => Sys2Proof.Machine.execCrossLatch now s
  | .spWatchdog now => Sys2Proof.Machine.execSpWatchdog now s
  | .safeInputFilter now input ch level unit since => Sys2Proof.Machine.execSafeInputFilter now input ch level unit since s
  | .sitGapCheck now k on => Sys2Proof.Machine.execSitGapCheck now k on s
  | .sitOvl now k low => Sys2Proof.Machine.execSitOvl now k low s
  | .siDiscrepancy now input => Sys2Proof.Machine.execSiDiscrepancy now input s
  | .sackRelease now => Sys2Proof.Machine.execSackRelease now s
  | .sackStuck now => Sys2Proof.Machine.execSackStuck now s
  | .sackStuckClear now => Sys2Proof.Machine.execSackStuckClear now s
  | .brakeReadbackFault now n => Sys2Proof.Machine.execBrakeReadbackFault now n s
  | .brakeOvercurrent now n sbi => Sys2Proof.Machine.execBrakeOvercurrent now n sbi s
  | .brakeSwitchTest now n high => Sys2Proof.Machine.execBrakeSwitchTest now n high s
  | .brakeSwitchConfirm now n sbv sbi => Sys2Proof.Machine.execBrakeSwitchConfirm now n sbv sbi s
  | .brakeSwitchTimeout now n => Sys2Proof.Machine.execBrakeSwitchTimeout now n s
  | .sasFaultRecord now => Sys2Proof.Machine.execSasFaultRecord now s
  | .brakeTestEngage now => Sys2Proof.Machine.execBrakeTestEngage now s
  | .brakeTestTorque now => Sys2Proof.Machine.execBrakeTestTorque now s
  | .brakeTestNoTorque now => Sys2Proof.Machine.execBrakeTestNoTorque now s
  | .brakeTestHoldEnd now => Sys2Proof.Machine.execBrakeTestHoldEnd now s
  | .brakeTestRestore now => Sys2Proof.Machine.execBrakeTestRestore now s
  | .testDue now n => Sys2Proof.Machine.execTestDue now n s
  | .testGraceExpiry now n => Sys2Proof.Machine.execTestGraceExpiry now n s
  | .zhocyRx now rx => Sys2Proof.Machine.execZhocyRx now rx s
  | .zhocyWd now c => Sys2Proof.Machine.execZhocyWd now c s
  | .zhocySend now c => Sys2Proof.Machine.execZhocySend now c s
  | .pairSafeMismatch now => Sys2Proof.Machine.execPairSafeMismatch now s
  | .spmbLoadSafety now req data flashOk => Sys2Proof.Machine.execSpmbLoadSafety now req data flashOk s
  | .spmbSetParam now req data flashOk => Sys2Proof.Machine.execSpmbSetParam now req data flashOk s
  | .spmbSetPassword now req data flashOk => Sys2Proof.Machine.execSpmbSetPassword now req data flashOk s
  | .spmbClearLog now req data flashOk => Sys2Proof.Machine.execSpmbClearLog now req data flashOk s
  | .spmbBrakeTest now req data flashOk => Sys2Proof.Machine.execSpmbBrakeTest now req data flashOk s
  | .spmbAbortTest now req data flashOk => Sys2Proof.Machine.execSpmbAbortTest now req data flashOk s
  | .spmbReadLog now req data flashOk => Sys2Proof.Machine.execSpmbReadLog now req data flashOk s
  | .spmbBadOp now req data flashOk => Sys2Proof.Machine.execSpmbBadOp now req data flashOk s
  | .safetyConfigSwitch now confirmed flashOk => Sys2Proof.Machine.execSafetyConfigSwitch now confirmed flashOk s
  | .safeLockoutEnd now => Sys2Proof.Machine.execSafeLockoutEnd now s
  | .partnerHeartbeatSend now => Sys2Proof.Machine.execPartnerHeartbeatSend now s
  | .partnerHeartbeatRx now follow unit cycle state => Sys2Proof.Machine.execPartnerHeartbeatRx now follow unit cycle state s
  | .heartbeatTimeout now cut => Sys2Proof.Machine.execHeartbeatTimeout now cut s
  | .faultBeatRx now cut => Sys2Proof.Machine.execFaultBeatRx now cut s
  | .takeoverComplete now => Sys2Proof.Machine.execTakeoverComplete now s
  | .partnerLaneLoss now lane => Sys2Proof.Machine.execPartnerLaneLoss now lane s
  | .partnerMirrorRx now m => Sys2Proof.Machine.execPartnerMirrorRx now m s
  | .stateCopyRx now c good => Sys2Proof.Machine.execStateCopyRx now c good s
  | .pairCommitMirrorRx now m => Sys2Proof.Machine.execPairCommitMirrorRx now m s
  | .pairCommitFail now => Sys2Proof.Machine.execPairCommitFail now s
  | .followBist now engine ok => Sys2Proof.Machine.execFollowBist now engine ok s
  | .memoryScrub now corrected uncorrected => Sys2Proof.Machine.execMemoryScrub now corrected uncorrected s
  | .followDegradedClear now => Sys2Proof.Machine.execFollowDegradedClear now s
  | .healthReportSend now tjMax => Sys2Proof.Machine.execHealthReportSend now tjMax s
  | .parSwap now req data peer => Sys2Proof.Machine.execParSwap now req data peer s
  | .swapReady now => Sys2Proof.Machine.execSwapReady now s
  | .swapTimeout now => Sys2Proof.Machine.execSwapTimeout now s
  | .swapBoundary now h => Sys2Proof.Machine.execSwapBoundary now h s
  | .swapRejoin now => Sys2Proof.Machine.execSwapRejoin now s
  | .secReport now req data missed => Sys2Proof.Machine.execSecReport now req data missed s
  | .secEnrol now req data missed => Sys2Proof.Machine.execSecEnrol now req data missed s
  | .secRevoke now req data missed => Sys2Proof.Machine.execSecRevoke now req data missed s
  | .secSetOwnerFw now req data missed => Sys2Proof.Machine.execSecSetOwnerFw now req data missed s
  | .secBadOp now req data missed => Sys2Proof.Machine.execSecBadOp now req data missed s
  | .dmExtend now req data => Sys2Proof.Machine.execDmExtend now req data s
  | .dmLock now req data => Sys2Proof.Machine.execDmLock now req data s
  | .protWrite now req w data => Sys2Proof.Machine.execProtWrite now req w data s
  | .updOfferSend now => Sys2Proof.Machine.execUpdOfferSend now s
  | .updOfferRx now rx => Sys2Proof.Machine.execUpdOfferRx now rx s
  | .updFetch now req digest => Sys2Proof.Machine.execUpdFetch now req digest s
  | .updManReqRx now rx => Sys2Proof.Machine.execUpdManReqRx now rx s
  | .updManRx now rx => Sys2Proof.Machine.execUpdManRx now rx s
  | .updBlkReqRx now rx => Sys2Proof.Machine.execUpdBlkReqRx now rx s
  | .updBlkRx now rx => Sys2Proof.Machine.execUpdBlkRx now rx s
  | .updRefuseRx now rx => Sys2Proof.Machine.execUpdRefuseRx now rx s
  | .updFragmentTimeout now which => Sys2Proof.Machine.execUpdFragmentTimeout now which s
  | .updHeldRequestExpiry now => Sys2Proof.Machine.execUpdHeldRequestExpiry now s
  | .updBlockStored now block ok => Sys2Proof.Machine.execUpdBlockStored now block ok s
  | .updActivate now req data => Sys2Proof.Machine.execUpdActivate now req data s
  | .updConfirm now req data => Sys2Proof.Machine.execUpdConfirm now req data s
  | .updRollback now req data => Sys2Proof.Machine.execUpdRollback now req data s
  | .updAbort now req data => Sys2Proof.Machine.execUpdAbort now req data s
  | .updClrconf now req data => Sys2Proof.Machine.execUpdClrconf now req data s
  | .conftmrWrite now req data => Sys2Proof.Machine.execConftmrWrite now req data s
  | .confirmWindowExpiry now => Sys2Proof.Machine.execConfirmWindowExpiry now s
  | .rcvErase now req data => Sys2Proof.Machine.execRcvErase now req data s
  | .rcvProgram now req data => Sys2Proof.Machine.execRcvProgram now req data s
  | .rcvFlashDone now ok => Sys2Proof.Machine.execRcvFlashDone now ok s
  | .chorLoad now req data => Sys2Proof.Machine.execChorLoad now req data s
  | .chorApply now req data => Sys2Proof.Machine.execChorApply now req data s
  | .chorDiscard now req data => Sys2Proof.Machine.execChorDiscard now req data s
  | .chorApplyBoundary now => Sys2Proof.Machine.execChorApplyBoundary now s
  | .chorStore now ok => Sys2Proof.Machine.execChorStore now ok s
  | .monitorSample now u v => Sys2Proof.Machine.execMonitorSample now u v s
  | .monitorIntervalEnd now u => Sys2Proof.Machine.execMonitorIntervalEnd now u s
  | .partnerLaneUp now lane => Sys2Proof.Machine.execPartnerLaneUp now lane s
  | .mkaLifeTimeExpiry now port sci => Sys2Proof.Machine.execMkaLifeTimeExpiry now port sci s

end Sys2Proof.Machine
end

