-- ==== Sys2Proof/Safety.lean ====
section
/-! DEFINITION. The terms in which claims about the hub are stated: a running hub, the instant at which a command takes
effect, what a command completes with, and the canonical form of the DRAM window. -/

namespace Sys2Proof.Machine

/-- No reset source is active and the hub is not in recovery (R48, R357): commands have their effect. -/
abbrev State.Running (s : State) : Prop := s.sys.stopped = false

/-- The state at the instant at which a command of local time `now` takes effect: time never runs back. -/
def State.tick (s : State) (now : Nat) : State := { s with now := max s.now now }

/-- A command completes in a state that meets `P`: it neither faults nor is refused. -/
def Completes (i : Instr) (s : State) (P : State → Prop) : Prop := ∃ t, exec i s = .next t ∧ P t

/-- The canonical form of the bytes of the DRAM window: addresses strictly rising, no byte listed that an unlisted address
reads as. -/
def Memory.wf (m : List Host.Cell) : Bool := Tbl.wf (fun _ => 0) m

/-- The last entry of the event log, and whether it has the given code and entity. -/
def State.newestEntry (s : State) : LogEntry := Tbl.get {} s.log ((s.get R.LOG_HEAD.SEQ + 2 ^ 32 - 1) % 2 ^ 32 % 8192)

/-- Entries of a severity are stored, not only counted (R410). -/
abbrev State.stores (s : State) (code : Nat) : Prop :=
  s.get R.LOG_CFG.MINSEV ≤ L.severity code ∨ L.severity code = 3 ∨ code / 256 = 9

/-- Between `s` and `t` an event has been logged: where entries of its severity are stored, the newest entry of `t` has its
code and entity. -/
abbrev State.Logs (s : State) (code kind index : Nat) (t : State) : Prop :=
  s.stores code → t.newestEntry.code = code ∧ t.newestEntry.kind = kind ∧ t.newestEntry.index = index

/-- The last answer to requester `q` is `v`, without error. -/
abbrev State.Answered (s : State) (q : Requester) (v : Nat) : Prop := Tbl.get {} s.resp q.no = { err := false, data := v }

/-- A write by `q` at `a` is permitted (R361) and not ignored by a follow (R333). -/
abbrev State.Accepts (s : State) (q : Requester) (a : Nat) : Prop := s.permits q a 4 true = true ∧ s.ignoresWrite a = false

/-- Registers whose reads latch, or read what is latched (R107, R158, R163, R176, R224, R248, R409). -/
def latching : List Nat :=
  [RID.RES_LO, RID.RES_HI, RID.TIM_WB_NS, RID.TIM_WB_FRAC, RID.TIM_WB_SECL, RID.TIM_WB_SECH, RID.TIM_NB_NS, RID.TIM_NB_EP,
    RID.TIM_TMP_POSL, RID.QUE_S_LEDGER, RID.QUE_S_QUEUED, RID.CMP_INBYTESL, RID.LOG_ENTRY]

/-- The slice corrections that the next whole block of tile `t` yields (R115, R116). -/
def State.blockSlices (s : State) (t : Nat) : List (Int × Nat) :=
  newSlices ((List.range 8).map fun i => (sgn 32 (s.get (R.CAL_SOFS.SOFS t i)), s.get (R.CAL_SGAIN.SGAIN t i)))
    (s.get R.CAL_SLCCFG.SW) ((s.tile t).block.take (2 ^ s.get R.CAL_SLCCFG.SBLK))

/-- The state after the checks of a received frame, and whether this chip then consumes it (R257, R268). -/
def State.gated (s : State) (rx : Rx) : State := (s.rxGate rx).1
def State.consumes (s : State) (rx : Rx) : Bool :=
  (s.rxGate rx).2 && match (s.gated rx).fate rx with
    | .consume => true
    | .both _ => true
    | _ => false

/-- The entry that a write of `v` to IOT_DOQ_CTL appends to a queue (R189). -/
def State.newEntry (s : State) (v : Nat) : DoEntry :=
  { order := s.dio.order, level := hasBit v 5, byPos := hasBit v 6, tempo := v / 128 % 4, dir := bit v 9,
    target := if hasBit v 6 then sgn 64 (s.get R.IOT_DOQ_P1.P * 2 ^ 32 + s.get R.IOT_DOQ_P0.P)
      else ((s.get R.IOT_DOQ_P1.P * secU + s.get R.IOT_DOQ_P0.P * nsU : Nat) : Int) }

/-- A write by `q` of the mediated register at `a` is taken: a core's windows allow it, for the host and the MGMT engine the
role rule `ok` does (R405). -/
def State.mayWrite (s : State) (q : Requester) (a : Nat) (ok : Bool) : Bool :=
  match q with
  | .core0 _ => s.permits q a 4 true && !s.ignoresWrite a
  | .core1 _ => s.permits q a 4 true && !s.ignoresWrite a
  | _ => ok

/-- A write of `data` to SYS_SPMB_CTL by `q` submits the request (R316). -/
abbrev State.Submits (s : State) (q : Requester) (data : Word) : Prop :=
  s.mayWrite q R.SYS_SPMB_CTL.addr (decide (q = .host) || q.isEngineer) = true ∧ hasBit data.toNat 0 = true ∧
    s.on R.SYS_SPMB_ST.BUSY = false

/-- The SAFETY section that a LOAD_SAFETY request names, and the part of it that its signature covers (R320, Table 14.6). -/
def State.section_ (s : State) : List Byte := s.dramRead (s.reqWord 17) (min (s.reqWord 18) 65536)
def State.sectionBody (s : State) : List Byte := s.section_.take (128 + 8 * fieldAt s.section_ 6 2)

/-- A SAFETY section is bound to this hub: its line, its address, and its units if it names any (R320). -/
def State.sectionBound (s : State) (b : List Byte) : Bool :=
  fieldAt b 8 1 == s.lineId && fieldAt b 10 2 == s.hubAddr &&
    (decide ([fieldAt b 16 8, fieldAt b 24 8] = [0, 0]) || [fieldAt b 16 8, fieldAt b 24 8].contains s.unitId)

/-- The addresses of the words that a host frame names (Table 15.3). -/
def hostAddrs (header addr : Word) : List Nat :=
  wordAddrs (fget header 14 4 * 2 ^ 32 + addr.toNat) (fget header 18 8) (fget header 26 1 == 1)

/-- A host frame with operation `op` whose CRC holds and whose header is in order (R395, R397). -/
abbrev hostWhole (op : Nat) (header addr : Word) (data : List Word) (crc : Word) : Prop :=
  fget crc 16 16 = crc16 (spiBytes (header :: addr :: data)) ∧ fget header 27 2 = op ∧
    headerFault header addr crc op (fget header 18 8) = false

/-- No host frame that ended early waits for the firmware (R398). -/
abbrev State.noEarly (s : State) : Prop := s.host.meds.any (fun m => m.req == .host && !m.legacy) = false

/-- A framed management request of a type is consumed here and passes the checks of R403. -/
abbrev State.AcceptsRequest (s : State) (rx : Rx) (type : Nat) : Prop :=
  (s.rxGate rx).2 = true ∧ (s.gated rx).fate rx = .consume ∧ rx.frame.flow = 3 ∧ rx.frame.type = type ∧
    (s.gated rx).belongs rx.frame = true ∧ ((s.gated rx).host.meds.filter fun m => m.rx.isSome).length < 16 ∧
    (s.gated rx).mgmtCode rx.frame = 0

/-- The state in which the words of an accepted request are performed, its requester, and the words of a write (R403, R405). -/
def State.accepted (s : State) (rx : Rx) : State :=
  ((s.gated rx).bump R.SYS_MGMTCNT.ACCEPTED).put (R.SYS_MGMTLAST.COUNTER (rx.frame.body.getD 0 0).toNat)
    (beNat (slice rx.frame.body 8 4))
def mgmtBy (f : Frame) : Requester := .mgmt (Fin.ofNat 4 (f.body.getD 0 0).toNat)
def mgmtWords (f : Frame) : List (Nat × Word) :=
  (mgmtAddrs f).zip ((List.range (mgmtAddrs f).length).map fun k => BitVec.ofNat 32 (beNat (slice f.body (32 + 4 * k) 4)))

/-- The state without the oldest write that waits for the firmware (R405). -/
def State.withoutFirst (s : State) : State := s.modHost fun x => { x with meds := x.meds.tail }

/-- A write of `data` to SEC_CMD by `q` starts operation `op` of the SEC engine (Table 13.12). -/
abbrev State.StartsSec (s : State) (q : Requester) (data : Word) (op : Nat) : Prop :=
  s.mayWrite q R.SEC_CMD.addr (q.isOwner || op < 2 || 4 < op) = true ∧ data.toNat % 16 = op ∧ hasBit data.toNat 6 = true ∧
    s.on R.SEC_ST.BUSY = false

/-- The state in which a permitted write of `data` takes effect: a core's write of reserved bits has been counted (R4). -/
def State.atWrite (s : State) (q : Requester) (mask data : Word) : State :=
  match q with
  | .core0 _ => if data &&& ~~~ mask ≠ 0 then s.bump (R.SYS_REQERR2.RSVD q.no) else s
  | .core1 _ => if data &&& ~~~ mask ≠ 0 then s.bump (R.SYS_REQERR2.RSVD q.no) else s
  | _ => s

/-- Window `w` is enabled and its range holds byte `a` (R361). -/
abbrev State.holds (s : State) (w a : Nat) : Prop :=
  s.on (R.PROT_LIMIT.EN w) = true ∧ s.get (R.PROT_BASE.BASE w) ≤ a / 4096 ∧ a / 4096 ≤ s.get (R.PROT_LIMIT.LIMIT w)

/-- A running reset source of class warm has just left the hub as Table 2.9 says: in reset with its cause, nothing in use, the DRAM
window kept. -/
abbrev State.WarmFrom (s : State) (cause : Nat) (t : State) : Prop :=
  t.sys.stage = .reset ∧ (t.word R.SYS_RSTCAUSE).getLsbD cause = true ∧ t.live = [] ∧ t.dram = s.dram

/-- A write of `data` to SYS_CHOR_CTL by `q` asks for action `n` with its KEY, while no apply is in progress (R392, R393). -/
abbrev State.AsksChor (s : State) (q : Requester) (data : Word) (n : Nat) : Prop :=
  s.mayWrite q R.SYS_CHOR_CTL.addr (decide (q = .host) || q.isEngineer) = true ∧ data.toNat % 65536 = 0x4C9D ∧
    data.toNat / 65536 % 8 = n ∧ s.applying = false

end Sys2Proof.Machine

namespace Sys2Proof

open Sys2Proof.Machine

/-! What commands may change -/

/-- Commands that may write registers of any kind, and those that reset the hub, start it, or share a register with one that does. -/
def Instr.wide (i : Instr) : Bool :=
  match i with
  | .registerWrite .. | .powerOnReset .. | .logicSupplyFall .. | .thermalReset .. | .refclkLoss .. | .resetNAssert ..
  | .watchdogReset .. | .softReset .. | .bootStageStart .. | .bootWatchdog .. | .firmwareStart .. | .mgmtWriteReq ..
  | .mediatedWriteDone .. | .hostWrite .. | .hostFrameAbort .. | .hostLegacyWrite .. | .updBlockStored .. | .updActivate ..
  | .updConfirm .. | .updRollback .. | .updAbort .. | .updClrconf .. | .confirmWindowExpiry .. => true
  | _ => false

/-- Commands that may change the DRAM window. -/
def Instr.mayDram (i : Instr) : Bool :=
  match i with
  | .registerWrite .. | .powerOnReset .. | .logicSupplyFall .. | .mgmtWriteReq .. | .mediatedWriteDone .. | .hostWrite ..
  | .hostFrameAbort .. | .hostLegacyWrite .. => true
  | _ => false

/-- Commands beside the wide ones that may change the fuses. -/
def Instr.mayFuse (i : Instr) : Bool :=
  match i with
  | .calBurnEnd .. | .secReport .. | .secEnrol .. | .secRevoke .. | .secSetOwnerFw .. | .secBadOp .. => true
  | _ => false

/-- Commands beside the wide ones that may change the flash. -/
def Instr.mayFlash (i : Instr) : Bool :=
  match i with
  | .resetRelease .. | .mgmtUpdPushRx .. | .sackRelease .. | .spmbLoadSafety .. | .spmbSetParam .. | .spmbSetPassword ..
  | .spmbClearLog .. | .spmbBrakeTest .. | .spmbAbortTest .. | .spmbReadLog .. | .spmbBadOp .. | .safetyConfigSwitch ..
  | .updManRx .. | .rcvFlashDone .. | .chorStore .. => true
  | _ => false

/-- Commands beside the wide ones that may change the configuration in use. -/
def Instr.mayLive (i : Instr) : Bool :=
  match i with
  | .controlCycle .. | .frameStrobe .. | .partnerMirrorRx .. | .swapTimeout .. | .swapBoundary .. | .chorApplyBoundary .. => true
  | _ => false

/-- Commands beside the wide ones that may change the keys. -/
def Instr.mayKeys (i : Instr) : Bool :=
  match i with
  | .mgmtKeyWrite .. => true
  | _ => false

/-- Commands beside the wide ones that may change the pending commits. -/
def Instr.mayCommits (i : Instr) : Bool :=
  match i with
  | .controlCycle .. | .frameStrobe .. | .calRunEnd .. | .calCommit .. | .tileCommit .. | .calConfigCommit ..
  | .fltCommit .. | .timCommit .. | .timReanchor .. | .iotCommit .. | .queCommit .. | .prtCommit .. | .parCommit ..
  | .partnerMirrorRx .. | .pairCommitMirrorRx .. | .pairCommitFail .. | .swapTimeout .. | .swapBoundary ..
  | .chorApplyBoundary .. => true
  | _ => false

/-- Commands beside the wide ones that may change the filter chains. -/
def Instr.mayChains (i : Instr) : Bool :=
  match i with
  | .fieldSupplyGood .. | .controlCycle .. | .frameStrobe .. | .tileResultTransfer .. | .excTripRetry ..
  | .heartbeatTimeout .. | .faultBeatRx .. | .partnerMirrorRx .. | .swapTimeout .. | .swapBoundary ..
  | .chorApplyBoundary .. => true
  | _ => false

/-- Commands beside the wide ones that may change the calibration unit. -/
def Instr.mayCal (i : Instr) : Bool :=
  match i with
  | .resetRelease .. | .frameStrobe .. | .tileResultTransfer .. | .excFault .. | .excTrip .. | .calRunEnd ..
  | .calTempCheck .. | .calBurn .. | .calBurnEnd .. | .sasFaultRecord .. => true
  | _ => false

/-- Commands beside the wide ones that may change the choreography. -/
def Instr.mayChor (i : Instr) : Bool :=
  match i with
  | .frameStrobe .. | .tileCommit .. | .calConfigCommit .. | .fltCommit .. | .timCommit .. | .timReanchor .. | .iotCommit ..
  | .queCommit .. | .prtCommit .. | .parCommit .. | .heartbeatTimeout .. | .faultBeatRx .. | .pairCommitMirrorRx ..
  | .pairCommitFail .. | .swapBoundary .. | .chorLoad .. | .chorApply .. | .chorDiscard .. | .chorApplyBoundary ..
  | .chorStore .. => true
  | _ => false

/-- Commands beside the wide ones that may change resets, start-up and the seal. -/
def Instr.maySys (i : Instr) : Bool :=
  match i with
  | .fieldSupplyFault .. | .fieldSupplyGood .. | .thermalRecovery .. | .refclkReturn .. | .resetNRelease ..
  | .resetRelease .. | .sealChange .. | .sealCodeAccept .. | .controlCycle .. | .frameStrobe .. | .partnerMirrorRx ..
  | .swapTimeout .. | .swapBoundary .. | .chorApplyBoundary .. => true
  | _ => false

/-- Commands beside the wide ones that may change the host port and the management engine. -/
def Instr.mayHost (i : Instr) : Bool :=
  match i with
  | .controlCycle .. | .mgmtKeyWrite .. | .hostRead .. | .hostNop .. | .hostLegacyRead .. => true
  | _ => false

/-- Commands beside the wide ones that may change the latches of requesters. -/
def Instr.mayLatch (i : Instr) : Bool :=
  match i with
  | .rocRead .. | .resLoRead .. | .resHiRead .. | .wbNsRead .. | .nbNsRead .. | .tempoPosRead .. | .ledgerRead ..
  | .logEntryRead .. | .mgmtReadReq .. | .hostRead .. | .hostNop .. | .hostLegacyRead .. => true
  | _ => false

/-- Commands beside the wide ones that may change the trust and update unit. -/
def Instr.maySec (i : Instr) : Bool :=
  match i with
  | .resetRelease .. | .mgmtUpdPushRx .. | .updOfferSend .. | .updOfferRx .. | .updFetch .. | .updManRx .. | .updBlkReqRx ..
  | .updBlkRx .. | .updRefuseRx .. | .updFragmentTimeout .. | .updHeldRequestExpiry .. | .conftmrWrite .. | .rcvErase ..
  | .rcvProgram .. | .rcvFlashDone .. => true
  | _ => false

/-- Commands beside the wide ones that may change digital inputs and outputs. -/
def Instr.mayDio (i : Instr) : Bool :=
  match i with
  | .fieldSupplyFault .. | .fieldSupplyGood .. | .logicTrafficLoss .. | .controlCycle .. | .frameStrobe ..
  | .blankPinEdge .. | .diLevelAccept .. | .diLevelSample .. | .doPush .. | .doClear .. | .doFix .. | .doEdge ..
  | .safetyTick .. | .partnerMirrorRx .. | .swapTimeout .. | .swapBoundary .. | .chorApplyBoundary .. => true
  | _ => false

/-- Commands beside the wide ones that may change the compression engines. -/
def Instr.mayCmp (i : Instr) : Bool :=
  match i with
  | .controlCycle .. | .frameStrobe .. | .queueStallResume .. | .pullRequestRx .. | .pullCancelRx .. | .pullSegment ..
  | .pullSegmentRetry .. | .cmpJobSubmit .. | .cmpJobCancel .. | .cmpJobStart .. | .cmpJobEnd .. | .phyLinkLoss ..
  | .sgmiiControlWord .. | .linkHelloRx .. | .helloMiss .. | .rootHelloMiss .. | .mkpduRx .. | .mkaRekey ..
  | .macsecInstall .. | .partnerMirrorRx .. | .swapTimeout .. | .swapBoundary .. | .chorApplyBoundary ..
  | .mkaLifeTimeExpiry .. => true
  | _ => false

/-- Commands beside the wide ones that may change the tiles. -/
def Instr.mayTiles (i : Instr) : Bool :=
  match i with
  | .fieldSupplyGood .. | .controlCycle .. | .frameStrobe .. | .tempoStrobeFix .. | .tileResultTransfer .. | .excFault ..
  | .excTrip .. | .excTripRetry .. | .excClear .. | .openInputTest .. | .blankPinEdge .. | .bcnClear .. | .sliceBlockEnd ..
  | .calRunEnd .. | .calStart .. | .calTempCheck .. | .heartbeatTimeout .. | .faultBeatRx .. | .partnerMirrorRx ..
  | .swapTimeout .. | .swapBoundary .. | .chorApplyBoundary .. => true
  | _ => false

/-- Commands beside the wide ones that may change the time and tempo bases. -/
def Instr.mayTime (i : Instr) : Bool :=
  match i with
  | .resetRelease .. | .controlCycle .. | .frameStrobe .. | .ptpRx .. | .ptpDelayReqSend .. | .ptpSyncLoss ..
  | .holdLimitExceeded .. | .timOffsetLarge .. | .nbWrap .. | .ppsOutPulse .. | .ppsInEdge .. | .ppsInLoss .. | .wb1Set ..
  | .encoderEdge .. | .mainsEdge .. | .mainsHoldover .. | .mainsLost .. | .tempoRx .. | .tempoHoldover .. | .tempoLost ..
  | .tempoRecordWrite .. | .phyLinkLoss .. | .sgmiiControlWord .. | .linkHelloRx .. | .helloMiss .. | .rootHelloMiss ..
  | .frameTransmit .. | .mkpduRx .. | .mkaRekey .. | .macsecInstall .. | .partnerMirrorRx .. | .stateCopyRx ..
  | .swapTimeout .. | .swapBoundary .. | .chorApplyBoundary .. | .mkaLifeTimeExpiry .. => true
  | _ => false

/-- Commands beside the wide ones that may change the answers to requesters. -/
def Instr.mayResp (i : Instr) : Bool :=
  match i with
  | .rocRead .. | .calStart .. | .calCommit .. | .calBurn .. | .tileCommit .. | .calConfigCommit .. | .fltCommit ..
  | .timCommit .. | .timReanchor .. | .iotCommit .. | .queCommit .. | .prtCommit .. | .parCommit .. | .resLoRead ..
  | .resHiRead .. | .wbNsRead .. | .nbNsRead .. | .tempoPosRead .. | .ledgerRead .. | .cmpInbytesRead .. | .logEntryRead ..
  | .wb1Set .. | .doPush .. | .doClear .. | .cmpJobSubmit .. | .cmpJobCancel .. | .macsecInstall .. | .mgmtReadReq ..
  | .mgmtKeyWrite .. | .hostRead .. | .hostNop .. | .hostLegacyRead .. | .spmbLoadSafety .. | .spmbSetParam ..
  | .spmbSetPassword .. | .spmbClearLog .. | .spmbBrakeTest .. | .spmbAbortTest .. | .spmbReadLog .. | .spmbBadOp ..
  | .parSwap .. | .secReport .. | .secEnrol .. | .secRevoke .. | .secSetOwnerFw .. | .secBadOp .. | .dmExtend ..
  | .dmLock .. | .protWrite .. | .updFetch .. | .conftmrWrite .. | .rcvErase .. | .rcvProgram .. | .chorLoad ..
  | .chorApply .. | .chorDiscard .. => true
  | _ => false

/-- Commands beside the wide ones that may change the safety functions. -/
def Instr.maySafe (i : Instr) : Bool :=
  match i with
  | .fieldSupplyFault .. | .fieldSupplyGood .. | .logicTrafficLoss .. | .frameStrobe .. | .safetyTick ..
  | .keeperMarkerTimeout .. | .crossLatch .. | .spWatchdog .. | .safeInputFilter .. | .sitGapCheck .. | .sitOvl ..
  | .siDiscrepancy .. | .sackRelease .. | .sackStuck .. | .sackStuckClear .. | .brakeReadbackFault .. | .brakeOvercurrent ..
  | .brakeSwitchTest .. | .brakeSwitchConfirm .. | .brakeSwitchTimeout .. | .sasFaultRecord .. | .brakeTestEngage ..
  | .brakeTestTorque .. | .brakeTestNoTorque .. | .brakeTestHoldEnd .. | .brakeTestRestore .. | .testDue ..
  | .testGraceExpiry .. | .zhocyRx .. | .zhocyWd .. | .zhocySend .. | .pairSafeMismatch .. | .spmbLoadSafety ..
  | .spmbSetParam .. | .spmbSetPassword .. | .spmbClearLog .. | .spmbBrakeTest .. | .spmbAbortTest .. | .spmbReadLog ..
  | .spmbBadOp .. | .safetyConfigSwitch .. | .safeLockoutEnd .. | .heartbeatTimeout .. | .faultBeatRx ..
  | .partnerMirrorRx .. | .swapBoundary .. | .chorApplyBoundary .. => true
  | _ => false

/-- Commands beside the wide ones that may change the pair link. -/
def Instr.mayPair (i : Instr) : Bool :=
  match i with
  | .fieldSupplyFault .. | .tjHigh .. | .roleResolve .. | .controlCycle .. | .tileCommit .. | .calConfigCommit ..
  | .fltCommit .. | .timCommit .. | .timReanchor .. | .iotCommit .. | .queCommit .. | .prtCommit .. | .parCommit ..
  | .doPush .. | .doClear .. | .linkHelloRx .. | .mgmtHealthRx .. | .zhocyRx .. | .spmbLoadSafety .. | .spmbSetParam ..
  | .spmbSetPassword .. | .spmbClearLog .. | .spmbBrakeTest .. | .spmbAbortTest .. | .spmbReadLog .. | .spmbBadOp ..
  | .partnerHeartbeatSend .. | .partnerHeartbeatRx .. | .heartbeatTimeout .. | .faultBeatRx .. | .takeoverComplete ..
  | .partnerMirrorRx .. | .stateCopyRx .. | .pairCommitMirrorRx .. | .pairCommitFail .. | .followBist .. | .memoryScrub ..
  | .followDegradedClear .. | .healthReportSend .. | .parSwap .. | .swapReady .. | .swapTimeout .. | .swapBoundary ..
  | .swapRejoin .. | .chorLoad .. | .chorApply .. | .chorDiscard .. | .partnerLaneUp .. => true
  | _ => false

/-- Commands beside the wide ones that may change the monitors. -/
def Instr.mayMon (i : Instr) : Bool :=
  match i with
  | .controlCycle .. | .frameStrobe .. | .tileResultTransfer .. | .ptpRx .. | .ppsInEdge .. | .tempoRx ..
  | .diLevelAccept .. | .diLevelSample .. | .streamAckRx .. | .streamAcksRx .. | .pullRequestRx .. | .pullCancelRx ..
  | .pullSegment .. | .pullSegmentRetry .. | .cmpJobEnd .. | .phyLinkLoss .. | .frameTransmit .. | .partnerMirrorRx ..
  | .swapTimeout .. | .swapBoundary .. | .chorApplyBoundary .. | .monitorSample .. | .monitorIntervalEnd .. => true
  | _ => false

/-- Commands beside the wide ones that may change the streams, the queues and the history. -/
def Instr.mayStrm (i : Instr) : Bool :=
  match i with
  | .controlCycle .. | .frameStrobe .. | .tileResultTransfer .. | .ptpRx .. | .nbWrap .. | .ppsInEdge .. | .diLevelAccept ..
  | .diLevelSample .. | .streamFlush .. | .queueStallResume .. | .streamSkipResume .. | .historyBlockRelease ..
  | .streamAckRx .. | .streamNakRx .. | .streamAcksRx .. | .pullRequestRx .. | .pullCancelRx .. | .pullSegment ..
  | .pullSegmentRetry .. | .cmpJobEnd .. | .phyLinkLoss .. | .sgmiiControlWord .. | .linkHelloRx .. | .helloMiss ..
  | .rootHelloRx .. | .rootHelloMiss .. | .frameTransmit .. | .mkpduRx .. | .mkaRekey .. | .macsecInstall ..
  | .heartbeatTimeout .. | .faultBeatRx .. | .partnerMirrorRx .. | .stateCopyRx .. | .swapTimeout .. | .swapBoundary ..
  | .chorApplyBoundary .. | .mkaLifeTimeExpiry .. => true
  | _ => false

/-- Commands beside the wide ones that may change the ports and their links. -/
def Instr.mayPorts (i : Instr) : Bool :=
  match i with
  | .controlCycle .. | .frameStrobe .. | .tileResultTransfer .. | .ptpRx .. | .ptpDelayReqSend .. | .tempoRx ..
  | .diLevelAccept .. | .diLevelSample .. | .streamFlush .. | .streamAckRx .. | .streamNakRx .. | .streamAcksRx ..
  | .pullRequestRx .. | .pullCancelRx .. | .pullSegment .. | .pullSegmentRetry .. | .cmpJobEnd .. | .phyLinkUp ..
  | .phyLinkLoss .. | .sgmiiControlWord .. | .linkHelloSend .. | .linkHelloRx .. | .helloMiss .. | .rootHelloRx ..
  | .rootHelloMiss .. | .transitFrameRx .. | .frameRxDiscard .. | .frameTransmit .. | .arpRx .. | .mkpduRx ..
  | .mkaHelloSend .. | .mkaRekey .. | .mkaFail .. | .macsecInstall .. | .mgmtReadReq .. | .mgmtHealthRx ..
  | .mgmtUpdPushRx .. | .zhocyRx .. | .zhocySend .. | .partnerHeartbeatRx .. | .heartbeatTimeout .. | .faultBeatRx ..
  | .partnerMirrorRx .. | .healthReportSend .. | .swapTimeout .. | .swapBoundary .. | .updOfferSend .. | .updOfferRx ..
  | .updFetch .. | .updManReqRx .. | .updManRx .. | .updBlkReqRx .. | .updBlkRx .. | .updRefuseRx ..
  | .updFragmentTimeout .. | .chorApplyBoundary .. | .mkaLifeTimeExpiry .. => true
  | _ => false

/-- Commands beside the wide ones that may change the event log. -/
def Instr.mayLog (i : Instr) : Bool :=
  match i with
  | .fieldSupplyFault .. | .tjHigh .. | .resetRelease .. | .roleResolve .. | .sealCodeAccept .. | .controlCycle ..
  | .frameStrobe .. | .tileResultTransfer .. | .excFault .. | .excTrip .. | .excClear .. | .bcnClear .. | .sliceBlockEnd ..
  | .calRunEnd .. | .calTempCheck .. | .calBurn .. | .calBurnEnd .. | .tileCommit .. | .calConfigCommit .. | .fltCommit ..
  | .timCommit .. | .timReanchor .. | .iotCommit .. | .queCommit .. | .prtCommit .. | .parCommit .. | .ptpRx ..
  | .ptpSyncLoss .. | .holdLimitExceeded .. | .timOffsetLarge .. | .ppsInEdge .. | .ppsInLoss .. | .mainsEdge ..
  | .mainsHoldover .. | .mainsLost .. | .tempoRx .. | .tempoHoldover .. | .tempoLost .. | .diLevelAccept ..
  | .diLevelSample .. | .doPush .. | .doClear .. | .doFix .. | .streamAckRx .. | .streamAcksRx .. | .pullRequestRx ..
  | .pullCancelRx .. | .pullSegment .. | .pullSegmentRetry .. | .cmpJobEnd .. | .phyLinkLoss .. | .sgmiiControlWord ..
  | .linkHelloRx .. | .helloMiss .. | .rootHelloMiss .. | .frameTransmit .. | .mkpduRx .. | .mkaRekey .. | .mkaFail ..
  | .macsecInstall .. | .mgmtUpdPushRx .. | .mgmtKeyWrite .. | .hostRead .. | .hostNop .. | .safetyTick ..
  | .keeperMarkerTimeout .. | .crossLatch .. | .sitGapCheck .. | .sitOvl .. | .siDiscrepancy .. | .sackRelease ..
  | .sackStuck .. | .brakeReadbackFault .. | .brakeOvercurrent .. | .brakeSwitchTimeout .. | .sasFaultRecord ..
  | .brakeTestNoTorque .. | .brakeTestHoldEnd .. | .testDue .. | .zhocyRx .. | .zhocyWd .. | .pairSafeMismatch ..
  | .spmbLoadSafety .. | .spmbSetParam .. | .spmbSetPassword .. | .spmbClearLog .. | .spmbBrakeTest .. | .spmbAbortTest ..
  | .spmbReadLog .. | .spmbBadOp .. | .safetyConfigSwitch .. | .partnerHeartbeatRx .. | .heartbeatTimeout ..
  | .faultBeatRx .. | .takeoverComplete .. | .partnerLaneLoss .. | .partnerMirrorRx .. | .stateCopyRx ..
  | .pairCommitFail .. | .parSwap .. | .swapTimeout .. | .swapBoundary .. | .swapRejoin .. | .secReport .. | .secEnrol ..
  | .secRevoke .. | .secSetOwnerFw .. | .secBadOp .. | .protWrite .. | .updManRx .. | .conftmrWrite .. | .chorLoad ..
  | .chorApply .. | .chorDiscard .. | .chorApplyBoundary .. | .chorStore .. | .monitorSample .. | .mkaLifeTimeExpiry .. => true
  | _ => false

/-! Which registers a command may change -/

/-- The addresses of the first `n` registers of an array. -/
def addrs (n : Nat) (f : Nat → RegAt) : List Nat := (List.range n).map fun i => (f i).addr

/-- The registers that logging an event changes, and those that denying or counting an access does. -/
def logRegs : List Nat := [R.LOG_HEAD.addr, R.LOG_CNT.addr, R.SYS_HINTST.addr]
def denyRegs : List Nat := [R.PROT_LASTL.addr, R.PROT_LASTH.addr] ++ addrs 9 R.PROT_DENY ++ addrs 4 R.SYS_REQERR2

/-- Commands of the bus, of commits, of recovery and of the trust unit, and events that only log or touch no register. -/
def Instr.regsControl (i : Instr) : Option (List Nat) :=
  match i with
  | .brakeTestTorque .. | .linkHelloSend .. | .mkaHelloSend .. | .nbWrap .. | .partnerHeartbeatSend .. | .ppsOutPulse .. => some []
  | .ptpDelayReqSend .. | .refclkReturn .. | .resetNRelease .. | .safeInputFilter .. | .sealChange .. => some []
  | .streamSkipResume .. | .tempoRecordWrite .. | .testGraceExpiry .. | .thermalRecovery .. | .updHeldRequestExpiry .. => some []
  | .bcnClear .. | .calTempCheck .. | .holdLimitExceeded .. | .mkaFail .. | .monitorSample .. | .sitGapCheck .. => some logRegs
  | .sitOvl .. | .testDue .. | .timOffsetLarge .. | .tjHigh .. => some logRegs
  | .calConfigCommit .. | .fltCommit .. | .iotCommit .. | .parCommit .. | .prtCommit .. | .queCommit .. | .tileCommit .. =>
    some (logRegs ++ denyRegs ++ [R.SYS_CHOR_CNT.addr])
  | .timCommit .. | .timReanchor .. => some (logRegs ++ denyRegs ++ [R.SYS_CHOR_CNT.addr])
  | .wb1Set .. => some denyRegs
  | .rcvErase .. | .rcvProgram .. => some (R.UPD_RCVCTL.addr :: addrs 4 R.SYS_REQERR2)
  | .rcvFlashDone .. => some [R.UPD_RCVCTL.addr]
  | .dmExtend .. | .dmLock .. => some (denyRegs ++ R.SEC_DMCTL.addr :: (List.range 8).flatMap fun k => addrs 12 (R.SEC_DM k))
  | .secReport .. | .secEnrol .. | .secRevoke .. | .secSetOwnerFw .. | .secBadOp .. =>
    some (logRegs ++ denyRegs ++ [R.SEC_ARB.addr, R.SEC_OWNST.addr, R.SEC_ST.addr] ++ addrs 177 R.SEC_RSP ++ addrs 8 R.SEC_NONCE
      ++ addrs 12 (R.SEC_DM 6) ++ (List.range 4).flatMap fun k => addrs 12 (R.SEC_OWNH k))
  | .conftmrWrite .. => some (R.UPD_CONFTMR.addr :: (logRegs ++ denyRegs))
  | _ => none

/-- Reads: the register read, if reading clears it, and the latches of Table 0.3. -/
def Instr.regsReads (i : Instr) : Option (List Nat) :=
  let l := denyRegs ++ addrs 4 R.SYS_REQERR ++ [R.CMP_INBYTESL.addr, R.CMP_INBYTESH.addr] ++ addrs 4 R.TIM_TMP_POSH
    ++ addrs 4 R.TIM_TMP_VEL
  match i with
  | .rocRead _ _ addr _ => some (addr :: l)
  | .resLoRead .. | .resHiRead .. | .wbNsRead .. | .nbNsRead .. | .tempoPosRead .. | .ledgerRead .. | .logEntryRead .. => some l
  | .cmpInbytesRead .. => some l
  | _ => none

/-- Events and commands of bases, tempos, streams, digital outputs, tiles and calibration. -/
def Instr.regsField (i : Instr) : Option (List Nat) :=
  match i with
  | .encoderEdge .. => some (addrs 4 R.TIM_TMP_STAT)
  | .encoderIndex .. => some (addrs 4 R.TIM_TMP_ZPOSL ++ addrs 4 R.TIM_TMP_ZPOSH)
  | .mainsEdge .. | .mainsHoldover .. | .mainsLost .. => some (logRegs ++ addrs 4 R.TIM_TMP_STAT)
  | .tempoHoldover _ n | .tempoLost _ n => some ((R.TIM_TMP_STAT n).addr :: logRegs)
  | .ppsInLoss .. => some ((R.TIM_WB_STAT 1).addr :: logRegs)
  | .ptpSyncLoss _ k => some ((R.TIM_WB_STAT k).addr :: logRegs)
  | .ppsInEdge .. => some (logRegs ++ addrs 3 R.TIM_PPSIN ++ [(R.TIM_WB_OFS 1).addr, (R.TIM_WB_STAT 1).addr])
  | .streamFlush _ st => some [(R.QUE_Q_STAT st).addr, (R.QUE_S_PSN st).addr]
  | .historyBlockRelease .. => some [R.QUE_HFREE.addr]
  | .phyLinkUp _ p .. =>
    some [(R.PRT_P_STAT p).addr, (R.PRT_P_PHY p).addr, (R.TIM_PORT_EGR p).addr, (R.TIM_PORT_ING p).addr, (R.TIM_PORT_PCS p).addr]
  | .doEdge _ d => some [R.IOT_DOCNT.addr, (R.IOT_DOQST d).addr]
  | .doFix _ d => some ([R.IOT_DOCNT.addr, (R.IOT_DOQST d).addr] ++ logRegs)
  | .doPush .. | .doClear .. => some (R.IOT_DOCNT.addr :: (addrs 32 R.IOT_DOQST ++ logRegs ++ denyRegs))
  | .blankPinEdge .. => some [R.IOT_BLANKST.addr]
  | .tempoStrobeFix _ t => some [(R.TILE_STRBCNT t).addr]
  | .openInputTest _ t _ => some ((R.TILE_CNT1 t).addr :: addrs 96 (R.TILE_CHST t))
  | .excClear _ t _ | .excFault _ t .. => some (addrs 24 (R.TILE_GRPST t) ++ addrs 96 (R.TILE_CHST t) ++ logRegs)
  | .excTrip _ t _ => some ((R.TILE_CNT1 t).addr :: (addrs 24 (R.TILE_GRPST t) ++ addrs 96 (R.TILE_CHST t) ++ logRegs))
  | .calRefRecover _ t => some [(R.CAL_STAT t).addr]
  | .sliceBlockEnd _ t => some ((R.CAL_STAT t).addr :: logRegs)
  | .calStart .. => some (denyRegs ++ addrs 4 R.CAL_STAT)
  | .calCommit .. => some (denyRegs ++ addrs 4 R.CAL_STAT ++ addrs 4 R.CAL_CNT2)
  | .calBurn .. => some (R.CAL_BURNST.addr :: (logRegs ++ denyRegs))
  | .calBurnEnd .. => some ([R.CAL_BURNST.addr, R.CAL_FUSEST.addr] ++ logRegs)
  | _ => none

/-- Events of the safety functions and of the pair link. -/
def Instr.regsSafety (i : Instr) : Option (List Nat) :=
  match i with
  | .logicTrafficLoss .. => some (addrs 8 R.SAFV_BK)
  | .brakeSwitchTest _ n _ => some [(R.SAFV_BK n).addr]
  | .brakeOvercurrent _ n _ | .brakeReadbackFault _ n => some ((R.SAFV_BK n).addr :: logRegs)
  | .sasFaultRecord .. => some (addrs 8 R.SAFV_BK ++ logRegs)
  | .brakeSwitchConfirm _ n .. => some [(R.SAFV_BK n).addr, R.SAFV_CNT.addr]
  | .brakeSwitchTimeout _ n => some ([(R.SAFV_BK n).addr, R.SAFV_CNT.addr] ++ logRegs)
  | .crossLatch .. | .keeperMarkerTimeout .. | .pairSafeMismatch .. => some (R.SAFV_STATE.addr :: (addrs 8 R.SAFV_BK ++ logRegs))
  | .sackStuck .. => some (R.SAFV_STATE.addr :: logRegs)
  | .sackStuckClear .. | .safeLockoutEnd .. => some [R.SAFV_STATE.addr, R.SYS_HINTST.addr]
  | .siDiscrepancy .. => some (addrs 16 R.SAFV_SI ++ logRegs)
  | .zhocyWd _ c => some ([(R.SAFV_ZC_ST c).addr, (R.SAFV_ZC_C2 c).addr] ++ addrs 8 R.SAFV_BK ++ logRegs)
  | .sealCodeAccept .. => some ([R.SAFV_STATE.addr, R.SYS_STRAP.addr] ++ logRegs)
  | .fieldSupplyFault .. => some (R.SYS_PWRSTAT.addr :: (addrs 8 R.SAFV_BK ++ logRegs))
  | .followBist .. | .followDegradedClear .. | .memoryScrub .. | .partnerLaneUp .. => some [R.PAR_STAT.addr]
  | .takeoverComplete .. => some (R.PAR_STAT.addr :: logRegs)
  | .partnerLaneLoss .. => some ([R.PAR_STAT.addr, R.PAR_CNT1.addr] ++ logRegs)
  | .roleResolve .. => some ([R.PAR_STAT.addr, R.SYS_CHAINPOS.addr] ++ logRegs)
  | .swapReady .. => some [R.PAR_SWAPST.addr]
  | .swapRejoin .. => some ([R.PAR_STAT.addr, R.PAR_SWAPST.addr] ++ logRegs)
  | .parSwap .. => some ([R.PAR_STAT.addr, R.PAR_SWAPST.addr] ++ logRegs ++ denyRegs)
  | .pairCommitFail .. =>
    some ([R.SYS_CHOR_ST.addr, R.SYS_CHOR_PSERIAL.addr] ++ addrs 12 R.SYS_CHOR_PDIG ++ logRegs)
  | _ => none

/-- The counters of the ports. -/
def portCounts : List Nat :=
  [R.PRT_P_CNT0, R.PRT_P_CNT2, R.PRT_P_CNT3, R.PRT_P_CNT4, R.PRT_P_CNT5, R.PRT_P_SECCNT0, R.PRT_P_SECCNT1, R.PRT_P_SECCNT2].flatMap
    (addrs 4)

/-- Frames received and sent, the monitors and the jobs of the compression engines. -/
def Instr.regsLink (i : Instr) : Option (List Nat) :=
  match i with
  | .arpRx .. | .frameRxDiscard .. | .transitFrameRx .. | .mgmtHealthRx .. | .healthReportSend .. | .updOfferSend .. => some portCounts
  | .updManReqRx .. | .updBlkReqRx .. => some (R.UPD_CNT1.addr :: portCounts)
  | .tempoRx .. => some (portCounts ++ addrs 4 R.TIM_TMP_ERR ++ addrs 4 R.TIM_TMP_STAT ++ logRegs)
  | .rootHelloRx .. => some (R.SYS_CHAINPOS.addr :: R.SYS_RRCNT.addr :: portCounts)
  | .zhocySend _ c => some ((R.SAFV_ZC_SEQ c).addr :: addrs 2 R.PRT_P_CNT3)
  | .monitorIntervalEnd _ u =>
    some ([R.MON_COUNT, R.MON_MIN, R.MON_MAX, R.MON_SUML, R.MON_SUMH, R.MON_MEAN, R.MON_INT].map (fun r => (r u).addr)
      ++ addrs 64 (R.MON_BIN u))
  | .cmpJobSubmit _ _ j _ | .cmpJobCancel _ _ j _ =>
    some (denyRegs ++ [R.CMP_CNT0.addr, R.CMP_CNT1.addr, R.CMP_DONE.addr, R.CMP_STAT.addr, R.SYS_HINTST.addr]
      ++ [R.CMP_J_ST, R.CMP_J_OUT, R.CMP_J_USED, R.CMP_J_AUX].map (fun r => (r j).addr))
  | _ => none

/-- Two states agree on every register but those at the addresses of a list. -/
def agreeBut (l : List Nat) (s t : State) : Prop := ∀ a, a ∉ l → Tbl.get 0 t.regs a = Tbl.get 0 s.regs a

end Sys2Proof
end

