-- ==== Sys2Proof/Certificates/Slice0/Obligations.lean ====
section
/-! DEFINITION. The statements for the provers: what each command completes with, what it leaves alone, and the invariants
that every step keeps. -/

open Sys2Proof Sys2Proof.Machine

/-- A running hub completes REGISTER_WRITE of permitted bytes of the DRAM window with exactly those bytes stored,
REGISTER_WRITE of LOG_CFG with its three fields written when PUSHSEV is in its range, ROC_READ of a permitted
register that no read latches with its word as answer and its ROC fields cleared, PROT_WRITE of a window base at PL0
with the base written, MGMT_KEY_WRITE by a permitted core with the key of the role put in force from its eight
words, and WB1_SET with the seconds staged; each is answered without error. -/
def Obligations.RegisterAccessCompletes : Prop :=
  (∀ (now : Nat) (req : Requester) (o size data : Nat) (ph : Phys) (s : State), s.Running → o + size ≤ dramBytes →
    s.permits req (0x40000000 + o) size true = true → Completes (.registerWrite now req (0x40000000 + o) size data ph)
    s fun t => t.Answered req 0 ∧ ∀ x, t.dramByte x = if o ≤ x ∧ x < o + size then BitVec.ofNat 8 (data / 256 ^ (x -
    o)) else s.dramByte x) ∧
  (∀ (now : Nat) (req : Requester) (data : Nat) (ph : Phys) (s : State), s.Running → data / 16 % 8 ≤ 4 → s.permits req
    R.LOG_CFG.addr 4 true = true → Completes (.registerWrite now req R.LOG_CFG.addr 4 data ph) s fun t => t.Answered
    req 0 ∧ t.get R.LOG_CFG.MINSEV = data % 4 ∧ t.get R.LOG_CFG.HINTSEV = data / 4 % 4 ∧ t.get R.LOG_CFG.PUSHSEV =
    data / 16 % 8) ∧
  (∀ (now : Nat) (req : Requester) (a : Nat) (h : RegHit) (s : State), s.Running → a % 4 = 0 → regAt? a = some h →
    isRecovery h = false → latching.contains h.info.id = false → s.permits req a 4 false = true → Completes (.rocRead
    now req a 4) s fun t => t.Answered req ((s.tick now).readNow h a) ∧ ∀ f ∈ h.info.fields, f.ty = .roc → fget
    (Tbl.get h.info.reset t.regs a) f.lo f.w = 0) ∧
  (∀ (now : Nat) (req : Requester) (n : Fin 32) (data : Word) (s : State), s.Running → req.isPl0 = true → Completes
    (.protWrite now req ⟨4 * n, by omega⟩ data) s fun t => t.Answered req 0 ∧ t.get (R.PROT_BASE.BASE n) = data.toNat
    % 2 ^ 24) ∧
  (∀ (now : Nat) (pl role : Fin 4) (data : Word) (s : State), s.Running → s.permits (.core0 pl) (R.SYS_MGMTKEY role
    7).addr 4 true = true → Completes (.mgmtKeyWrite now (.core0 pl) role data) s fun t => t.Answered (.core0 pl) 0 ∧
    Tbl.get none t.host.keys role = some (beBytes 32 (s.keyWords (R.SYS_MGMTKEY role) 7 * 2 ^ 32 + data.toNat))) ∧
  (∀ (now : Nat) (req : Requester) (data : Word) (s : State), s.Running → s.Accepts req R.TIM_WB1_SETH.addr →
    Completes (.wb1Set now req data) s fun t => t.Answered req 0 ∧ t.time.set1 = some (data.toNat % 2 ^ 16 * 2 ^ 32 +
    s.time.setLo))

/-- A running hub completes a permitted RES_LO_READ, RES_HI_READ, WB_NS_READ, NB_NS_READ, TEMPO_POS_READ, LEDGER_READ,
CMP_INBYTES_READ and LOG_ENTRY_READ with the value of that instant as answer and the rest of the same value kept:
latched for the requester, or in the high word's register; RES_HI_READ answers what RES_LO_READ of its endpoint
latched, with SNAP set, and consumes it. -/
def Obligations.LatchedReadsComplete : Prop :=
  (∀ (now : Nat) (req : Requester) (e : Fin 512) (s : State), s.Running → s.permits req (R.RES_LO e).addr 4 false =
    true → Completes (.resLoRead now req e) s fun t => t.Answered req (Tbl.get resNone s.strm.latest e).1 ∧ t.latched
    req 0 = [e.val, (Tbl.get resNone s.strm.latest e).2]) ∧
  (∀ (now : Nat) (req : Requester) (e : Fin 512) (v : Nat) (s : State), s.Running → s.permits req (R.RES_HI e).addr 4
    false = true → s.latched req 0 = [e.val, v] → Completes (.resHiRead now req e) s fun t => t.Answered req (v + 2 ^
    31) ∧ t.latched req 0 = []) ∧
  (∀ (now : Nat) (req : Requester) (k : Fin 2) (s : State), s.Running → s.permits req (R.TIM_WB_NS k).addr 4 false =
    true → Completes (.wbNsRead now req k) s fun t => t.Answered req (nsOf (s.wbAt k t.now)) ∧ t.latched req (1 + k) =
    [k.val, fracOf (s.wbAt k t.now) + 2 ^ 16, secOf (s.wbAt k t.now) % 2 ^ 32, secOf (s.wbAt k t.now) / 2 ^ 32 % 2 ^
    16]) ∧
  (∀ (now : Nat) (req : Requester) (n : Fin 6) (s : State), s.Running → s.permits req (R.TIM_NB_NS n).addr 4 false =
    true → Completes (.nbNsRead now req n) s fun t => t.Answered req (nbNs (s.wbAt (s.nbSrc n) t.now)) ∧ t.latched req
    3 = [n.val, nbEpoch (s.wbAt (s.nbSrc n) t.now)]) ∧
  (∀ (now : Nat) (req : Requester) (n : Fin 4) (s : State), s.Running → s.permits req (R.TIM_TMP_POSL n).addr 4 false
    = true → Completes (.tempoPosRead now req n) s fun t => t.Answered req (lowWord ((s.tick now).tempoPos n t.now)) ∧
    t.get (R.TIM_TMP_POSH.POS n) = lowWord ((s.tick now).tempoPos n t.now / 2 ^ 32)) ∧
  (∀ (now : Nat) (req : Requester) (st : Fin 64) (s : State), s.Running → s.permits req (R.QUE_S_LEDGER st 0).addr 4
    false = true → Completes (.ledgerRead now req st) s fun t => t.Answered req ((s.strmSt st).produced % 2 ^ 32) ∧
    t.latched req 4 = st.val :: (s.tick now).ledger st) ∧
  (∀ (now : Nat) (req : Requester) (s : State), s.Running → s.permits req R.CMP_INBYTESL.addr 4 false = true →
    Completes (.cmpInbytesRead now req) s fun t => t.Answered req (s.cmp.inBytes % 2 ^ 32) ∧ t.get
    R.CMP_INBYTESH.INBYTES = s.cmp.inBytes / 2 ^ 32 % 2 ^ 32) ∧
  (∀ (now : Nat) (req : Requester) (slot : Fin 8192) (s : State), s.Running → s.permits req (R.LOG_ENTRY slot 0).addr
    4 false = true → Completes (.logEntryRead now req slot) s fun t => t.Answered req (s.logWord slot 0) ∧ t.latched
    req 5 = slot.val :: (List.range 8).map (s.logWord slot))

/-- On a running hub that is not one of a pair and applies no image, a permitted write with GO to a commit register
(TIM_COMMIT, TIM_REANCHOR, IOT_COMMIT, QUE_COMMIT, PRT_COMMIT, PAR_COMMIT, FLT_COMMIT), or of SYS_TCOMMIT
(TILE_COMMIT, CAL_CONFIG_COMMIT), completes without error and adds exactly its blocks to the pending commits. -/
def Obligations.CommitCommandsComplete : Prop :=
  (∀ (now : Nat) (req : Requester) (data : Word) (s : State), s.Running → s.Accepts req R.TIM_COMMIT.addr → hasBit
    data.toNat 0 = true → s.applying = false → s.isPaired = false → Completes (.timCommit now req data) s fun t =>
    t.Answered req 0 ∧ t.commits = s.commits.plus { tim := true, reanchor := hasBit data.toNat 1 }) ∧
  (∀ (now : Nat) (req : Requester) (data : Word) (s : State), s.Running → s.Accepts req R.TIM_COMMIT.addr → data.toNat
    % 4 = 3 → s.applying = false → s.isPaired = false → Completes (.timReanchor now req data) s fun t => t.Answered
    req 0 ∧ t.commits = s.commits.plus { tim := true, reanchor := true }) ∧
  (∀ (now : Nat) (req : Requester) (data : Word) (s : State), s.Running → s.Accepts req R.IOT_COMMIT.addr → hasBit
    data.toNat 0 = true → s.applying = false → s.isPaired = false → Completes (.iotCommit now req data) s fun t =>
    t.Answered req 0 ∧ t.commits = s.commits.plus { iot := true }) ∧
  (∀ (now : Nat) (req : Requester) (data : Word) (s : State), s.Running → s.Accepts req R.QUE_COMMIT.addr → hasBit
    data.toNat 0 = true → s.applying = false → s.isPaired = false → Completes (.queCommit now req data) s fun t =>
    t.Answered req 0 ∧ t.commits = s.commits.plus { que := true }) ∧
  (∀ (now : Nat) (req : Requester) (data : Word) (s : State), s.Running → s.Accepts req R.PRT_COMMIT.addr → hasBit
    data.toNat 0 = true → s.applying = false → s.isPaired = false → Completes (.prtCommit now req data) s fun t =>
    t.Answered req 0 ∧ t.commits = s.commits.plus { prt := true }) ∧
  (∀ (now : Nat) (req : Requester) (data : Word) (s : State), s.Running → s.Accepts req R.PAR_COMMIT.addr → hasBit
    data.toNat 0 = true → s.applying = false → s.isPaired = false → Completes (.parCommit now req data) s fun t =>
    t.Answered req 0 ∧ t.commits = s.commits.plus { par := true }) ∧
  (∀ (now : Nat) (req : Requester) (data : Word) (s : State), s.Running → s.Accepts req R.FLT_COMMIT.addr → hasBit
    data.toNat 0 = true → s.applying = false → s.isPaired = false → Completes (.fltCommit now req data) s fun t =>
    t.Answered req 0 ∧ t.commits = s.commits.plus { flt := 15 }) ∧
  (∀ (now : Nat) (req : Requester) (data : Word) (s : State), s.Running → s.Accepts req R.SYS_TCOMMIT.addr →
    s.applying = false → s.isPaired = false → Completes (.tileCommit now req data) s fun t => t.Answered req 0 ∧
    t.commits = s.commits.plus { tile := data.toNat % 16, calcfg := data.toNat / 16 % 16 }) ∧
  (∀ (now : Nat) (req : Requester) (data : Word) (s : State), s.Running → s.Accepts req R.SYS_TCOMMIT.addr →
    s.applying = false → s.isPaired = false → Completes (.calConfigCommit now req data) s fun t => t.Answered req 0 ∧
    t.commits = s.commits.plus { tile := data.toNat % 16, calcfg := data.toNat / 16 % 16 })

/-- On a running hub CONTROL_CYCLE at an instant in a control cycle other than the present one, with no commit
pending, enters that cycle and counts it; MONITOR_SAMPLE of an enabled unit on a supply or a junction adds the value
to the unit's count and sum; MONITOR_INTERVAL_END of a unit whose interval has run publishes its count and starts a
new interval. -/
def Obligations.CycleAndMonitorEventsComplete : Prop :=
  (∀ (now : Nat) (s : State), s.Running → s.cycleU ≠ 0 → s.time.cycleNo = 0 ∨ (s.wbAt 0 (max s.now now) / (s.cycleU :
    Int)).toNat ≠ s.time.cycleIdx → s.commits.blocks.noBlock = true → Completes (.controlCycle now) s fun t =>
    t.time.cycleIdx = (s.wbAt 0 t.now / (s.cycleU : Int)).toNat ∧ t.time.cycleNo = s.time.cycleNo + 1) ∧
  (∀ (now : Nat) (u : Fin 32) (v : Int) (s : State), s.Running → s.get (R.MON_CFG.QTY u) = 6 ∨ s.get (R.MON_CFG.QTY u)
    = 7 → s.get (R.MON_INT.INTERVAL u) ≠ 0 → Completes (.monitorSample now u v) s fun t => (t.monSt u).count = satAdd
    32 (s.monSt u).count 1 ∧ (t.monSt u).sum = (s.monSt u).sum + v) ∧
  (∀ (now : Nat) (u : Fin 32) (s : State), s.Running → s.get (R.MON_INT.INTERVAL u) ≠ 0 → s.get (R.MON_INT.INTERVAL u)
    ≤ (s.monSt u).ran → Completes (.monitorIntervalEnd now u) s fun t => t.get (R.MON_COUNT.COUNT u) = (s.monSt
    u).count % 2 ^ 32 ∧ t.monSt u = {})

/-- On a running hub HOLD_LIMIT_EXCEEDED is logged when the bound exceeds HOLIM; TIM_OFFSET_LARGE is logged, at most
once a minute, while the offset of WB0 exceeds STEPLIM after the first strobe; NB_WRAP takes the epoch;
PPS_OUT_PULSE raises PPS_OUT for WIDTH when its base is not FREERUN; PPS_IN_EDGE captures both bases; PPS_IN_LOSS
after 3 s puts WB1 into HOLDOVER. -/
def Obligations.BaseEventsComplete : Prop :=
  (∀ (now : Nat) (k : Fin 2) (s : State), s.Running → s.inUse (R.TIM_WB_HOCFG.HOLIM k) ≠ 0 → (s.wbSt k).holdLogged =
    false → s.inUse (R.TIM_WB_HOCFG.HOLIM k) < s.hoErr k (max s.now now) → Completes (.holdLimitExceeded now k) s fun
    t => (t.wbSt k).holdLogged = true ∧ s.Logs L.TIM_HOLD_LIMIT 7 k t) ∧
  (∀ (now : Nat) (s : State), s.Running → s.time.strobed = true → s.inUse (R.TIM_WB_STEPLIM.STEPLIM 0) * usU < (s.wbSt
    0).left.natAbs → (∀ x ∈ (s.wbSt 0).largeAt, x + 60 * secU ≤ max s.now now) → Completes (.timOffsetLarge now) s fun
    t => (t.wbSt 0).largeAt = some t.now ∧ s.Logs L.TIM_OFFSET_LARGE 7 0 t) ∧
  (∀ (now : Nat) (n : Fin 6) (s : State), s.Running → Completes (.nbWrap now n) s fun t => Tbl.get 0 t.time.epochs n =
    wholeNs (s.wbAt (s.nbSrc n) t.now) / 2 ^ 32) ∧
  (∀ (now : Nat) (s : State), s.Running → s.wbState (s.get R.TIM_PPS.PPS_SRC) ≠ 0 → s.get R.TIM_PPS.WIDTH ≠ 0 →
    s.time.ppsSec ≠ some (secOf (s.wbAt (s.get R.TIM_PPS.PPS_SRC) (max s.now now))) → Completes (.ppsOutPulse now) s
    fun t => t.time.ppsHigh = some (t.now + s.get R.TIM_PPS.WIDTH * 10 * usU)) ∧
  (∀ (now : Nat) (s : State), s.Running → s.inUse (R.TIM_WB_CFG.SRC 1) ≠ 1 → Completes (.ppsInEdge now) s fun t =>
    t.time.ppsIn = some t.now ∧ t.get (R.TIM_PPSIN.CAP 0) = nsOf (s.wbAt 0 t.now) ∧ t.get (R.TIM_PPSIN.CAP 1) = nsOf
    (s.wbAt 1 t.now) ∧ t.get (R.TIM_PPSIN.CAP 2) = secOf (s.wbAt 0 t.now) % 2 ^ 16) ∧
  (∀ (now : Nat) (x : Nat) (s : State), s.Running → s.time.ppsIn = some x → s.inUse (R.TIM_WB_CFG.SRC 1) = 1 → x + 3 *
    secU ≤ max s.now now → s.wbState 1 ≠ 0 → Completes (.ppsInLoss now) s fun t => t.wbState 1 = 3)

/-- On a running hub FRAME_STROBE of a tile whose strobe has come, and whose last frame has its results, opens the
frame of that strobe; TEMPO_STROBE_FIX fixes the request of the next grid point 4 µs before it falls due;
OPEN_INPUT_TEST after a frame with the test ends it and shows each failed channel as open; TILE_RESULT_TRANSFER of a
tile that is compared with no other closes its frame; BCN_CLEAR after 100 passing frames clears the failure and logs
it. -/
def Obligations.FrameEventsComplete : Prop :=
  (∀ (now : Nat) (tile : Fin 4) (a : Int) (f : Nat) (s : State), s.Running → (s.tile tile).cur = none → s.nextStrobe
    tile = some (a, f) → a ≤ s.wbAt 0 (max s.now now) → Completes (.frameStrobe now tile) s fun t => t.time.strobed =
    true ∧ (t.tile tile).last = some a ∧ (t.tile tile).f = f) ∧
  (∀ (now : Nat) (tile : Fin 4) (st a g : Int) (s : State), s.Running → (s.tile tile).start = some st → (s.tick
    now).nextRequest tile = some (g, a) → s.inUse (R.TIM_SCH_CFG.KIND (schedOf s.inUse tile)) = 2 → a ≤ s.wbAt 0 (max
    s.now now) + ((4 * usU : Nat) : Int) → st < a → (s.tile tile).reqs = [] → (∀ p ∈ (s.tile tile).last, p +
    ((frameLen s.inUse tile * slotU : Nat) : Int) ≤ a) → Completes (.tempoStrobeFix now tile) s fun t => (t.tile
    tile).reqs = [⟨a, a⟩] ∧ (t.tile tile).far = some g) ∧
  (∀ (now : Nat) (tile : Fin 4) (failed : List Nat) (s : State), s.Running → (s.tile tile).opnTest = true → Completes
    (.openInputTest now tile failed) s fun t => (t.tile tile).opnTest = false ∧ ∀ c : Fin 96, opnEligible s.inUse tile
    c = true → s.inUse (R.TILE_CHCFG.OPN_EN tile c) = 1 → failed.contains c.val = true → t.get (R.TILE_CHST.OPEN tile
    c) = 1) ∧
  (∀ (now : Nat) (tile : Fin 4) (res : TileRes) (fr : FrameRec) (s : State), s.Running → (s.tile tile).cur = some fr →
    (s.tile tile).res = none → s.beaconGroup tile = [tile.val] → Completes (.tileResultTransfer now tile res) s fun t
    => (t.tile tile).cur = none ∧ (t.tile tile).res = none) ∧
  (∀ (now : Nat) (tile : Fin 4) (s : State), s.Running → (s.tile tile).bcnBad = true → 100 ≤ (s.tile tile).bcnRun →
    Completes (.bcnClear now tile) s fun t => (t.tile tile).bcnBad = false ∧ s.Logs L.BCN_CLEAR 2 tile t)

/-- On a running hub EXC_FAULT of a class that applies to its source and has lasted 32 slots is recorded with its
onset and shown as SEEN; EXC_TRIP of a group whose EXC_LIMIT has lasted 1 ms switches the group off, counts it and
records class 9; EXC_TRIP_RETRY 100 ms after a trip keeps the group off when the limit occurs again and switches it
on otherwise; EXC_CLEAR drops exactly the classes that have been absent for 100 windows. -/
def Obligations.ExcitationEventsComplete : Prop :=
  (∀ (now : Nat) (tile : Fin 4) (src : Fin 120) (cls : Fin 9) (onset : Nat) (s : State), s.Running → classApplies
    s.inUse tile src cls = true → onset + 32 * slotU ≤ max s.now now → Completes (.excFault now tile src cls onset) s
    fun t => ⟨cls.val, onset, 0⟩ ∈ (t.excSt tile src).classes ∧ (if src.val < 24 then t.get (R.TILE_GRPST.SEEN tile
    src) else t.get (R.TILE_CHST.SEEN tile (src - 24))) = 1) ∧
  (∀ (now : Nat) (tile : Fin 4) (group : Fin 24) (c : ExcClass) (s : State), s.Running → c ∈ (s.excSt tile
    group).classes → c.cls = 3 → c.absent = 0 → c.onset + msU ≤ max s.now now → (s.excSt tile group).tripAt = none →
    Completes (.excTrip now tile group) s fun t => (t.excSt tile group).tripAt = some t.now ∧ ⟨9, t.now, 0⟩ ∈ (t.excSt
    tile group).classes ∧ t.get (R.TILE_CNT1.TRIPS tile) = satAdd 16 (s.get (R.TILE_CNT1.TRIPS tile)) 1) ∧
  (∀ (now : Nat) (tile : Fin 4) (group : Fin 24) (a : Nat) (s : State), s.Running → (s.excSt tile group).tripAt = some
    a → a + 100 * msU ≤ max s.now now → Completes (.excTripRetry now tile group true) s fun t => (t.excSt tile
    group).tripAt = some t.now) ∧
  (∀ (now : Nat) (tile : Fin 4) (group : Fin 24) (a : Nat) (s : State), s.Running → (s.excSt tile group).tripAt = some
    a → a + 100 * msU ≤ max s.now now → Completes (.excTripRetry now tile group false) s fun t => (t.excSt tile
    group).tripAt = none) ∧
  (∀ (now : Nat) (tile : Fin 4) (src : Fin 120) (s : State), s.Running → Completes (.excClear now tile src) s fun t =>
    (t.excSt tile src).classes = (s.excSt tile src).classes.filter fun c => decide (c.absent < 100))

/-- On a running hub SLICE_BLOCK_END with a whole block puts the new slice corrections of that block in force, or
freezes the slices under HOLD; CAL_REF_RECOVER after 100 good readings clears REF_BAD; CAL_RUN_END of a finished
batch ends the run and the sweep flag; a permitted CAL_START of a tile in REQUEST mode starts a pass over the
requested channels, and a permitted CAL_COMMIT of a tile in OFF mode makes its pairs pending; CAL_TEMP_CHECK once a
second notes which tiles have drifted more than 10 °C. -/
def Obligations.CalibrationEventsComplete : Prop :=
  (∀ (now : Nat) (tile : Fin 4) (s : State), s.Running → 2 ^ s.get R.CAL_SLCCFG.SBLK ≤ (s.tile tile).block.length →
    s.on R.CAL_SLCCFG.HOLD = false → s.slicesOk tile (s.blockSlices tile) = true → (s.tile tile).frozen = false →
    Completes (.sliceBlockEnd now tile) s fun t => (t.tile tile).slices = some (s.blockSlices tile) ∧ (t.tile
    tile).frozen = false ∧ t.get (R.CAL_STAT.SLC_FROZEN tile) = 0) ∧
  (∀ (now : Nat) (tile : Fin 4) (s : State), s.Running → 2 ^ s.get R.CAL_SLCCFG.SBLK ≤ (s.tile tile).block.length →
    s.on R.CAL_SLCCFG.HOLD = true → Completes (.sliceBlockEnd now tile) s fun t => (t.tile tile).frozen = true ∧
    (t.tile tile).slices = (s.tile tile).slices ∧ t.get (R.CAL_STAT.SLC_FROZEN tile) = 1) ∧
  (∀ (now : Nat) (tile : Fin 4) (s : State), s.Running → s.on (R.CAL_STAT.REF_BAD tile) = true → 100 ≤ (s.tile
    tile).refGood → Completes (.calRefRecover now tile) s fun t => t.get (R.CAL_STAT.REF_BAD tile) = 0) ∧
  (∀ (now : Nat) (tile : Fin 4) (r : CalRun) (s : State), s.Running → (s.tile tile).run = some r → r.ended = true →
    Completes (.calRunEnd now tile) s fun t => (t.tile tile).run = none ∧ t.get (R.CAL_STAT.SWEEPING tile) = 0) ∧
  (∀ (now : Nat) (req : Requester) (tile : Fin 4) (data : Word) (s : State), s.Running → s.permits req
    R.CAL_START.addr 4 true = true → data.toNat = 2 ^ tile.val → s.inUse (R.CAL_CFG.MODE tile) = 2 → calPass s.inUse
    tile (s.reqChans tile) ≠ [] → Completes (.calStart now req data) s fun t => t.Answered req 0 ∧ (t.tile tile).todo
    = calPass s.inUse tile (s.reqChans tile) ∧ (t.tile tile).pass = true) ∧
  (∀ (now : Nat) (req : Requester) (tile : Fin 4) (data : Word) (s : State), s.Running → s.permits req
    R.CAL_COMMIT.addr 4 true = true → data.toNat = 2 ^ tile.val → s.inUse (R.CAL_CFG.MODE tile) = 0 → Completes
    (.calCommit now req data) s fun t => t.Answered req 0 ∧ t.commits.cal = s.commits.cal ||| 2 ^ tile.val ∧ t.get
    (R.CAL_STAT.PENDING tile) = 1) ∧
  (∀ (now : Nat) (s : State), s.Running → s.cal.tempAt + secU ≤ max s.now now → Completes (.calTempCheck now) s fun t
    => t.cal.tempAt = t.now ∧ ∀ u : Fin 4, (t.tile u).drifted = decide (1000 < ((s.tile u).tj - sgn 16 (s.get
    (R.CAL_TJ.TJ u))).natAbs))

/-- On a running hub a permitted CAL_BURN by a core, with the key and GO, no burn in progress, a free generation,
VDD18 at 1.75 V or more, no pairs pending and every junction between 0 and 85 °C, starts the burn of the first free
generation; CAL_BURN_END, once every tile has given its pairs, ends it with the result burned or failed. -/
def Obligations.FuseBurnsComplete : Prop :=
  (∀ (now : Nat) (pl : Fin 4) (data : Word) (vdd18 k : Nat) (s : State), s.Running → s.permits (.core0 pl)
    R.CAL_BURN.addr 4 true = true → data.toNat = 0x16E5D → s.on R.CAL_BURNST.BUSY = false → ([1, 2, 3].find? fun k =>
    s.genState k == 0) = some k → 1750 ≤ vdd18 → s.commits.cal = 0 → (∀ u : Fin 4, 0 ≤ (s.tile u).tj ∧ (s.tile u).tj ≤
    8500) → Completes (.calBurn now (.core0 pl) data vdd18) s fun t => t.Answered (.core0 pl) 0 ∧ t.cal.burn = some
    (k, t.now) ∧ t.get R.CAL_BURNST.BUSY = 1 ∧ t.get R.CAL_BURNST.GEN = k) ∧
  (∀ (now : Nat) (k a : Nat) (missed : List (Nat × Nat)) (s : State), s.Running → s.cal.burn = some (k, a) →
    s.cal.burnTiles = 0 → Completes (.calBurnEnd now missed) s fun t => t.cal.burn = none ∧ t.get R.CAL_BURNST.BUSY =
    0 ∧ (t.get R.CAL_BURNST.RESULT = 1 ∨ t.get R.CAL_BURNST.RESULT = 4))

/-- On a running hub ENCODER_EDGE moves every base on that encoder by SCALE, up or down, and counts an illegal edge;
ENCODER_INDEX captures the position; MAINS_EDGE counts and times the first edge, and an edge one whole period after
the last one puts the base into TRACKING; MAINS_HOLDOVER after three missing cycles puts it into HOLDOVER;
MAINS_LOST after 1 s without edges puts it into LOST. -/
def Obligations.EncoderAndMainsEventsComplete : Prop :=
  (∀ (now : Nat) (enc n : Fin 4) (edge : QuadEdge) (s : State), s.Running → s.tempoSrc n = 1 → s.inUse
    (R.TIM_TMP_CFG.ENC n) = enc.val → edge ≠ .illegal → Completes (.encoderEdge now enc edge) s fun t => (t.tempo
    n).pos = (s.tempo n).pos + (if edge = .up then sgn 32 (s.inUse (R.TIM_TMP_SCALE.SCALE n)) else -sgn 32 (s.inUse
    (R.TIM_TMP_SCALE.SCALE n)))) ∧
  (∀ (now : Nat) (enc n : Fin 4) (s : State), s.Running → s.tempoSrc n = 1 → s.inUse (R.TIM_TMP_CFG.ENC n) = enc.val →
    Completes (.encoderEdge now enc .illegal) s fun t => (t.tempo n).pos = (s.tempo n).pos ∧ t.get
    (R.TIM_TMP_STAT.ENCERR n) = satAdd 8 (s.get (R.TIM_TMP_STAT.ENCERR n)) 1) ∧
  (∀ (now : Nat) (enc n : Fin 4) (s : State), s.Running → s.tempoSrc n = 1 → s.inUse (R.TIM_TMP_CFG.ENC n) = enc.val →
    Completes (.encoderIndex now enc) s fun t => t.get (R.TIM_TMP_ZPOSL.ZPOS n) = unsgn 64 ((s.tick now).tempoPos n
    t.now) % 2 ^ 32 ∧ t.get (R.TIM_TMP_ZPOSH.ZPOS n) = unsgn 64 ((s.tick now).tempoPos n t.now) / 2 ^ 32 % 2 ^ 32) ∧
  (∀ (now : Nat) (n : Fin 4) (s : State), s.Running → s.tempoSrc n = 3 → (s.tempo n).mainsAt = none → Completes
    (.mainsEdge now) s fun t => (t.tempo n).cnt = (s.tempo n).cnt + 1 ∧ (t.tempo n).mainsAt = some t.now) ∧
  (∀ (now : Nat) (n : Fin 4) (x : Nat) (s : State), s.Running → s.tempoSrc n = 3 → (s.tempo n).mainsAt = some x →
    (s.tempo n).mainsPer ≠ 0 → max s.now now = x + (s.tempo n).mainsPer → Completes (.mainsEdge now) s fun t =>
    (t.tempo n).cnt = (s.tempo n).cnt + 1 ∧ (t.tempo n).mainsAt = some t.now ∧ t.tempoState n = 1) ∧
  (∀ (now : Nat) (n : Fin 4) (x : Nat) (s : State), s.Running → s.tempoSrc n = 3 → (s.tempo n).mainsAt = some x →
    s.tempoState n = 1 → (s.tempo n).mainsPer ≠ 0 → x + 3 * (s.tempo n).mainsPer ≤ max s.now now → Completes
    (.mainsHoldover now) s fun t => t.tempoState n = 2) ∧
  (∀ (now : Nat) (n : Fin 4) (x : Nat) (s : State), s.Running → s.tempoSrc n = 3 → (s.tempo n).mainsAt = some x →
    s.tempoState n = 1 ∨ s.tempoState n = 2 → x + secU ≤ max s.now now → Completes (.mainsLost now) s fun t =>
    t.tempoState n = 3 ∧ (t.tempo n).mainsPer = 0 ∧ (t.tempo n).mainsAt = none)

/-- On a running hub TEMPO_RX of a consumed message that a network base accepts takes its time, position and sequence
number; TEMPO_HOLDOVER after HOLDT without a message puts the base into HOLDOVER with its acceleration 0, and logs
it; TEMPO_LOST after LOSST puts it into LOST at rest, and logs it; TEMPO_RECORD_WRITE enters the position at the
newest multiple of 2^TRSH µs. -/
def Obligations.NetworkTempoEventsComplete : Prop :=
  (∀ (now : Nat) (rx : Rx) (n : Fin 4) (s : State), s.Running → (s.tick now).consumes rx = true → rx.frame.flow = 5 →
    rx.frame.type = 0 → 40 ≤ rx.frame.length → s.tempoSrc n = 2 → s.inUse (R.TIM_TMP_CFG.TID n) = (tempoMsg
    rx.frame.body).tid → (s.tempo n).accepts (tempoMsg rx.frame.body) = true → Completes (.tempoRx now rx) s fun t =>
    (t.tempo n).seq = some (tempoMsg rx.frame.body).seq ∧ (t.tempo n).lastT = some (tempoMsg rx.frame.body).t ∧
    (t.tempo n).p0 = (tempoMsg rx.frame.body).pos ∧ (t.tempo n).trx = t.now) ∧
  (∀ (now : Nat) (n : Fin 4) (s : State), s.Running → s.tempoSrc n = 2 → s.tempoState n = 1 → (s.tempo n).trx +
    s.inUse (R.TIM_TMP_HOLD.HOLDT n) * usU ≤ max s.now now → Completes (.tempoHoldover now n) s fun t => t.tempoState
    n = 2 ∧ (t.tempo n).a = 0 ∧ s.Logs L.TEMPO_HOLD 7 n t) ∧
  (∀ (now : Nat) (n : Fin 4) (s : State), s.Running → s.tempoSrc n = 2 → s.tempoState n ≠ 3 → (s.tempo n).trx +
    s.inUse (R.TIM_TMP_HOLD.LOSST n) * msU ≤ max s.now now → Completes (.tempoLost now n) s fun t => t.tempoState n =
    3 ∧ (t.tempo n).v0 = 0 ∧ (t.tempo n).a = 0 ∧ s.Logs L.TEMPO_LOST 7 n t) ∧
  (∀ (now : Nat) (n : Fin 4) (s : State), s.Running → s.tempoSrc n ≠ 0 → Completes (.tempoRecordWrite now n) s fun t
    => Tbl.get (0, 0) (Tbl.get [] t.time.tmpRec n) ((s.wbAt 0 t.now).toNat / s.recEvery n % 65536) = ((s.wbAt 0
    t.now).toNat / s.recEvery n, (s.tick now).tempoPos n (s.localOf 0 (((s.wbAt 0 t.now).toNat / s.recEvery n *
    s.recEvery n : Nat) : Int)).toNat))

/-- On a running hub with its field supplies good DI_LEVEL_ACCEPT of another level that has been held for 2^FILT µs
accepts it, and shows it at once on an input that is off; DI_LEVEL_SAMPLE of an enabled input whose sample is due
takes that instant; BLANK_PIN_EDGE takes the level of the pin and its time, and the end of a level arms the tail of
every tile that selects the pin. -/
def Obligations.InputEventsComplete : Prop :=
  (∀ (now : Nat) (i : Fin 128) (level : Bool) (since : Nat) (s : State), s.Running → s.sys.fieldFault = false →
    s.dio.goodAt = none → level ≠ (s.diSt i).level → since + 2 ^ s.inUse (R.IOT_DICFG.FILT i) * usU ≤ max s.now now →
    Completes (.diLevelAccept now i level since) s fun t => (t.diSt i).level = level ∧ (s.inUse (R.IOT_DICFG.EN i) = 0
    → (t.diSt i).shown = level ∧ (t.diSt i).reported = level)) ∧
  (∀ (now : Nat) (i : Fin 128) (failed : Bool) (s : State), s.Running → s.inUse (R.IOT_DICFG.EN i) ≠ 0 → s.inUse
    (R.IOT_DIPER.P i) ≠ 0 → s.nextLevel i + (((2 ^ s.inUse (R.IOT_DICFG.FILT i) + 2) * usU : Nat) : Int) ≤ s.wbAt 0
    (max s.now now) → Completes (.diLevelSample now i failed) s fun t => (t.diSt i).last = some (s.nextLevel i)) ∧
  (∀ (now : Nat) (pin : Fin 4) (on : Bool) (s : State), s.Running → hasBit s.dio.pins pin ≠ on → Completes
    (.blankPinEdge now pin on) s fun t => hasBit t.dio.pins pin = on ∧ Tbl.get 0 t.dio.pinAt pin = t.now ∧ (on = false
    → ∀ u : Fin 4, hasBit (s.inUse (R.TILE_BLANK.PINMASK u)) pin = true → (t.tile u).armed = true))

/-- On a running hub a permitted DO_PUSH to a queue with room appends its entry, and a permitted DO_CLEAR takes every
entry that is not fixed out of the queue; DO_FIX of the only entry of a queue, when it is due and not late, fixes it
at its edge time; DO_EDGE of the only entry, fixed at a time that has come on outputs that are not held off,
executes it: the entry leaves and the output has its level. -/
def Obligations.OutputCommandsComplete : Prop :=
  (∀ (now : Nat) (req : Requester) (data : Word) (s : State), s.Running → s.Accepts req R.IOT_DOQ_CTL.addr → hasBit
    data.toNat 10 = false → (s.doSt (data.toNat % 32)).queue.length < 16 → Completes (.doPush now req data) s fun t =>
    t.Answered req 0 ∧ (t.doSt (data.toNat % 32)).queue = (s.doSt (data.toNat % 32)).queue ++ [s.newEntry data.toNat])
    ∧
  (∀ (now : Nat) (req : Requester) (data : Word) (s : State), s.Running → s.Accepts req R.IOT_DOQ_CTL.addr → hasBit
    data.toNat 10 = true → Completes (.doClear now req data) s fun t => t.Answered req 0 ∧ (t.doSt (data.toNat %
    32)).queue = (s.doSt (data.toNat % 32)).queue.filter (·.fixed.isSome)) ∧
  (∀ (now : Nat) (d : Fin 32) (e : DoEntry) (x : Int) (s : State), s.Running → (s.doSt d).queue = [e] → (s.tick
    now).fixDue d e = some x → s.wbAt 0 (max s.now now) ≤ x → Completes (.doFix now d) s fun t => (t.doSt d).queue.map
    (·.fixed) = [some x]) ∧
  (∀ (now : Nat) (d : Fin 32) (e : DoEntry) (x : Int) (s : State), s.Running → (s.doSt d).queue = [e] → e.fixed = some
    x → x ≤ s.wbAt 0 (max s.now now) → s.doHeld = false → Completes (.doEdge now d) s fun t => (t.doSt d).queue = [] ∧
    (t.doSt d).level = e.level)

/-- POWER_ON_RESET and LOGIC_SUPPLY_FALL leave the hub in reset with only their own cause bit, an empty event log and
an empty DRAM window; THERMAL_RESET, REFCLK_LOSS and RESET_N_ASSERT of 10 µs or more, where the source is not active
yet, start a warm reset that the source holds, with its cause bit set; THERMAL_RECOVERY, REFCLK_RETURN and
RESET_N_RELEASE release the source; WATCHDOG_RESET, and SOFT_RESET by a permitted core with the key and WARM, on a
running hub start a warm reset with their cause bit. That an unwritten byte of DRAM reads as 0 after power-on is the
model's choice (log entry 4). -/
def Obligations.ResetSourcesComplete : Prop :=
  (∀ (now : Nat) (s : State), Completes (.powerOnReset now) s fun t => t.sys.porHold = true ∧ t.sys.stage = .reset ∧
    t.word R.SYS_RSTCAUSE = 1 ∧ t.log = [] ∧ t.dram = []) ∧
  (∀ (now : Nat) (supply : Fin 3) (s : State), Completes (.logicSupplyFall now supply) s fun t => t.sys.porHold = true
    ∧ t.sys.stage = .reset ∧ t.word R.SYS_RSTCAUSE = 2 ∧ t.log = [] ∧ t.dram = []) ∧
  (∀ (now : Nat) (s : State), s.sys.thermal = false → Completes (.thermalReset now) s fun t => t.sys.thermal = true ∧
    t.sys.stage = .reset ∧ hasBit (t.word R.SYS_RSTCAUSE).toNat 7 = true) ∧
  (∀ (now : Nat) (s : State), s.sys.thermal = true → Completes (.thermalRecovery now) s fun t => t.sys = { s.sys with
    thermal := false, pulse := true }) ∧
  (∀ (now : Nat) (s : State), s.sys.refLost = false → Completes (.refclkLoss now) s fun t => t.sys.refLost = true ∧
    t.sys.stage = .reset ∧ hasBit (t.word R.SYS_RSTCAUSE).toNat 6 = true) ∧
  (∀ (now : Nat) (s : State), s.sys.refLost = true → Completes (.refclkReturn now) s fun t => t.sys = { s.sys with
    refLost := false, pulse := true }) ∧
  (∀ (now : Nat) (ns : Nat) (s : State), 10000 ≤ ns → s.sys.pinLow = false → Completes (.resetNAssert now ns) s fun t
    => t.sys.pinLow = true ∧ t.sys.stage = .reset ∧ hasBit (t.word R.SYS_RSTCAUSE).toNat 2 = true) ∧
  (∀ (now : Nat) (s : State), s.sys.pinLow = true → Completes (.resetNRelease now) s fun t => t.sys = { s.sys with
    pinLow := false, pulse := true }) ∧
  (∀ (now : Nat) (s : State), s.Running → Completes (.watchdogReset now) s fun t => t.sys.pulse = true ∧ t.sys.stage =
    .reset ∧ hasBit (t.word R.SYS_RSTCAUSE).toNat 3 = true) ∧
  (∀ (now : Nat) (pl : Fin 4) (data : Word) (s : State), s.Running → s.permits (.core0 pl) R.SYS_RSTCTL.addr 4 true =
    true → data.toNat = 0x15A17 → Completes (.softReset now (.core0 pl) data) s fun t => t.sys.pulse = true ∧
    t.sys.stage = .reset ∧ hasBit (t.word R.SYS_RSTCAUSE).toNat 4 = true)

/-- RESET_RELEASE with every source released starts the boot stage or recovery with the bases at 0 from that instant;
on a running hub BOOT_STAGE_START of an acceptable ACTIVE image starts its firmware with DM0 to DM2 locked, and
BOOT_WATCHDOG after 1 s in the boot stage resets and remembers the BOOT copy; FIRMWARE_START with settings that
write no register and with both image slots erased leaves the hub without an image, logged; ROLE_RESOLVE makes the
chip a follow when the partner acts as lead; SEAL_CHANGE starts the 20 ms of a new code, and SEAL_CODE_ACCEPT after
them shows it with OPEN, CLOSED and INVALID. -/
def Obligations.StartSequenceCompletes : Prop :=
  (∀ (now : Nat) (refEdges : Nat) (role : Bool) (s : State), s.sys.stage = .reset → s.sys.pinLow = false →
    s.sys.thermal = false → s.sys.refLost = false → Completes (.resetRelease now refEdges role) s fun t =>
    (t.sys.stage = .boot ∨ t.sys.stage = .recovery) ∧ t.sys.releasedAt = t.now ∧ t.sys.porHold = false ∧ t.sys.pulse =
    false) ∧
  (∀ (now : Nat) (k : Nat) (m : Manifest) (s : State), s.Running → s.sys.stage = .boot → s.sec.act = some k →
    s.fullGood 0 (flImage k) = some m → Completes (.bootStageStart now) s fun t => t.sys.stage = .firmware ∧ t.get
    R.SEC_DMCTL.LOCKED = 1 ∧ t.get R.SYS_FWVER.VERSION = m.version % 2 ^ 32) ∧
  (∀ (now : Nat) (s : State), s.Running → s.sys.stage = .boot → s.sys.releasedAt + secU ≤ max s.now now → Completes
    (.bootWatchdog now) s fun t => t.sys.pulse = true ∧ t.sys.stage = .reset ∧ t.sec.bootWd = some (s.get
    R.SEC_BOOTST.COPY)) ∧
  (∀ (now : Nat) (settings : Settings) (s : State), s.Running → s.sys.stage = .firmware → s.chor.bare = false →
    s.chor.force = none → settings.slot = none → settings.words = [] → settings.unreadable = false → Tbl.get 0xFF
    s.flash (flChor 0) = 0xFF → Tbl.get 0xFF s.flash (flChor 1) = 0xFF → Completes (.firmwareStart now settings) s fun
    t => t.chor.bare = true ∧ t.chor.force = none) ∧
  (∀ (now : Nat) (unit : Nat) (pin : Bool) (s : State), s.Running → s.sys.stage = .firmware → Completes (.roleResolve
    now true unit pin) s fun t => t.isFollow = true ∧ t.pair.beatAt = some t.now ∧ t.pair.partnerUnit = unit) ∧
  (∀ (now : Nat) (code : Fin 16) (s : State), s.sys.sealCand ≠ code.val → Completes (.sealChange now code) s fun t =>
    t.sys.sealCand = code.val ∧ t.sys.sealSince = t.now ∧ t.sys.sealNew = true) ∧
  (∀ (now : Nat) (s : State), s.Running → s.sys.sealNew = true → s.sys.sealSince + 20 * msU ≤ max s.now now →
    s.sys.sealCand < 16 → s.get R.SYS_STRAP.SEAL ≠ s.sys.sealCand → Completes (.sealCodeAccept now) s fun t =>
    t.sys.sealNew = false ∧ t.get R.SYS_STRAP.SEAL = s.sys.sealCand ∧ t.get R.SYS_STRAP.SEAL_OPEN = (if s.sys.sealCand
    = 0b1010 then 1 else 0) ∧ t.get R.SYS_STRAP.SEAL_CLOSED = (if s.sys.sealCand = 0b0101 then 1 else 0))

/-- FIELD_SUPPLY_FAULT marks the supplies as not good and holds the outputs off; FIELD_SUPPLY_GOOD after a fault marks
them good again with that instant, and both safety units start together; LOGIC_TRAFFIC_LOSS holds the outputs off;
TJ_HIGH on a running hub is logged, and the lead of a pair sends its FAULT beat. -/
def Obligations.FieldSupplyEventsComplete : Prop :=
  (∀ (now : Nat) (which : Fin 4) (s : State), s.sys.fieldFault = false → Completes (.fieldSupplyFault now which) s fun
    t => t.sys.fieldFault = true ∧ t.dio.off = true) ∧
  (∀ (now : Nat) (s : State), s.sys.fieldFault = true → Completes (.fieldSupplyGood now) s fun t => t.sys.fieldFault =
    false ∧ t.dio.goodAt = some t.now ∧ t.get R.SYS_PWRSTAT.FLD_GOOD = 1) ∧
  (∀ (now : Nat) (s : State), Completes (.logicTrafficLoss now) s fun t => t.dio.lost = true ∧ t.dio.off = true) ∧
  (∀ (now : Nat) (s : State), s.Running → s.isPaired = true → s.isFollow = false → Completes (.tjHigh now) s fun t =>
    t.pair.faultTx = some t.now ∧ s.Logs L.TJ_HIGH 0 0 t)

/-- On a running hub HISTORY_BLOCK_RELEASE of an expired closed block above the allocation returns it to the free
pool; STREAM_FLUSH of an open packet whose FLUSH time has passed commits it under the next PSN; STREAM_SKIP_RESUME
with room for a whole packet ends the skipping and owes the record packet; a consumed STREAM_ACK_RX of a sent packet
under the current RUNID removes every packet up to it from the stream's queue, as does a STREAM_ACKS_RX of one
entry; a consumed STREAM_NAK_RX moves the send point back to the packet it names. -/
def Obligations.StreamEventsComplete : Prop :=
  (∀ (now : Nat) (e : Fin 512) (b : HBlock) (bs : List HBlock) (s : State), s.Running → (s.histEp e).blocks = b :: bs
    → (s.histEp e).alloc ≤ bs.length → b.isOpen = false → (s.tick now).expired e b = true → Completes
    (.historyBlockRelease now e) s fun t => (t.histEp e).blocks = bs ∧ t.strm.free = s.strm.free + 1) ∧
  (∀ (now : Nat) (st : Fin 64) (s : State), s.Running → (s.strmSt st).rows ≠ [] → (s.strmSt st).openAt + s.inUse
    (R.QUE_S_FLUSH.FLUSH st) * usU ≤ max s.now now → Completes (.streamFlush now st) s fun t => (t.strmSt st).rows =
    [] ∧ (t.queue st).pkts.length = (s.queue st).pkts.length + 1 ∧ t.get (R.QUE_S_PSN.PSN st) = (s.get
    (R.QUE_S_PSN.PSN st) + 1) % 2 ^ 32) ∧
  (∀ (now : Nat) (st : Fin 64) (s : State), s.Running → (s.strmSt st).skipping = true → s.fits st (s.strmRows st *
    rowWords (s.strmClass st) (s.inUse (R.QUE_S_CFG.WIDTH st)) + 1) 0 = true → Completes (.streamSkipResume now st) s
    fun t => (t.strmSt st).skipping = false ∧ (t.strmSt st).owed = oweMore (s.strmSt st).owed 3 2) ∧
  (∀ (now : Nat) (rx : Rx) (s : State), s.Running → s.consumes rx = true → rx.frame.flow = 1 → rx.frame.type = 2 →
    rx.frame.b / 2 ^ 16 = s.get R.QUE_RUNID.RUNID → serialLt rx.frame.a (s.strmSt rx.frame.ch).sentTop = true →
    Completes (.streamAckRx now rx) s fun t => (t.queue rx.frame.ch).pkts = (s.queue rx.frame.ch).pkts.filter fun p =>
    !serialLe p.psn rx.frame.a) ∧
  (∀ (now : Nat) (rx : Rx) (s : State), s.Running → s.consumes rx = true → rx.frame.flow = 1 → rx.frame.type = 3 →
    rx.frame.b / 2 ^ 16 = s.get R.QUE_RUNID.RUNID → (s.queue rx.frame.ch).pkts.any (fun p => p.psn == rx.frame.a) =
    true → serialLt rx.frame.a (s.strmSt rx.frame.ch).sendPsn = true → Completes (.streamNakRx now rx) s fun t =>
    (t.strmSt rx.frame.ch).sendPsn = rx.frame.a) ∧
  (∀ (now : Nat) (rx : Rx) (n psn : Nat) (s : State), s.Running → s.consumes rx = true → rx.frame.flow = 1 →
    rx.frame.type = 4 → rx.frame.length = 8 → n < 64 → rx.frame.payload.take 8 = [BitVec.ofNat 8 n, 0, 0, 0] ++
    beBytes 4 psn → psn < 2 ^ 32 → s.strmOn n = true → rx.frame.b / 2 ^ 16 = s.get R.QUE_RUNID.RUNID → serialLt psn
    (s.strmSt n).sentTop = true → Completes (.streamAcksRx now rx) s fun t => (t.queue n).pkts = (s.queue
    n).pkts.filter fun p => !serialLe p.psn psn)

/-- On a running lead whose wires are free, a consumed PULL_REQUEST_RX that meets no reject condition puts one pull in
flight; PULL_SEGMENT of a pull with no endpoints left commits its final segment to Q64 and the pull leaves the list;
PULL_SEGMENT_RETRY of that pull, once Q64 has room, counts the retry and does the same; a consumed PULL_CANCEL_RX of
the pull in flight with its requester and TAG ends it with one final segment. -/
def Obligations.PullEventsComplete : Prop :=
  (∀ (now : Nat) (id : Nat) (p : PullSt) (s : State), s.Running → (∀ q : Fin 4, (s.portSt q).wire = none) → s.pull? id
    = some p → s.isFollow = false → p.retry = false → p.job = none → p.eps = [] → s.fits 64 9 0 = true → Completes
    (.pullSegment now id false) s fun t => t.pull? id = none ∧ (t.queue 64).pkts.length = (s.queue 64).pkts.length +
    1) ∧
  (∀ (now : Nat) (id : Nat) (p : PullSt) (s : State), s.Running → (∀ q : Fin 4, (s.portSt q).wire = none) → s.pull? id
    = some p → p.retry = true → p.job = none → s.fits 64 9 0 = true → Completes (.pullSegmentRetry now id) s fun t =>
    t.pull? id = none ∧ (t.queue 64).pkts.length = (s.queue 64).pkts.length + 1 ∧ t.get R.QUE_PULLCNT2.RETRY = satAdd
    16 (s.get R.QUE_PULLCNT2.RETRY) 1) ∧
  (∀ (now : Nat) (rx : Rx) (s : State), s.Running → (∀ q : Fin 4, (s.portSt q).wire = none) → s.consumes rx = true →
    s.isFollow = false → rx.frame.flow = 2 → rx.frame.type = 0 → rx.frame.length = 88 → hasBit (rx.frame.payload.getD
    3 0).toNat 7 = false → s.strm.pulls.any (fun q => q.code == 0 && sameKey ((s.tick now).pullOf rx) q) = false →
    (s.strm.pulls.filter fun q => q.code == 0).length < 256 → s.badRequest ((s.tick now).pullOf rx) true = false →
    Completes (.pullRequestRx now rx) s fun t => t.strm.pulls.length = s.strm.pulls.length + 1 ∧ t.strm.pullId =
    s.strm.pullId + 1 ∧ t.strm.pulls.getLast?.map (·.id) = some s.strm.pullId) ∧
  (∀ (now : Nat) (rx : Rx) (q : PullSt) (s : State), s.Running → (∀ q : Fin 4, (s.portSt q).wire = none) → s.consumes
    rx = true → s.isFollow = false → rx.frame.flow = 2 → rx.frame.type = 0 → rx.frame.length = 88 → hasBit
    (rx.frame.payload.getD 3 0).toNat 7 = true → s.strm.pulls.find? (fun q => q.code == 0 && sameKey ((s.tick
    now).pullOf rx) q) = some q → s.fits 64 9 0 = true → Completes (.pullCancelRx now rx) s fun t => t.pull? q.id =
    none ∧ (t.queue 64).pkts.length = (s.queue 64).pkts.length + 1)

/-- On a running hub a permitted CMP_JOB_SUBMIT of a valid descriptor queues its slot; CMP_JOB_START of a free engine
takes the earliest queued slot of its kind; CMP_JOB_END of a running slot whose job succeeds and whose packet fits
ends it with code 0 and frees the engine; CMP_JOB_CANCEL of a queued slot ends it with CANCELLED; QUEUE_STALL_RESUME
of a STALL queue with room completes the first push that waits there. -/
def Obligations.CompressionJobsComplete : Prop :=
  (∀ (now : Nat) (req : Requester) (j : Fin 32) (s : State), s.Running → s.permits req (R.CMP_J_CTL j).addr 4 true =
    true → s.ignoresWrite (R.CMP_J_CTL j).addr = false → s.get (R.CMP_J_ST.STATE j) ≠ 1 → s.get (R.CMP_J_ST.STATE j) ≠
    2 → s.badJob j = false → s.sourceOk req.cls j = true → Completes (.cmpJobSubmit now req j 1) s fun t => t.Answered
    req 0 ∧ t.get (R.CMP_J_ST.STATE j) = 1 ∧ t.cmp.slots = s.cmp.slots ++ [j.val]) ∧
  (∀ (now : Nat) (req : Requester) (j : Fin 32) (s : State), s.Running → s.permits req (R.CMP_J_CTL j).addr 4 true =
    true → s.ignoresWrite (R.CMP_J_CTL j).addr = false → s.get (R.CMP_J_ST.STATE j) = 1 → Completes (.cmpJobCancel now
    req j 2) s fun t => t.Answered req 0 ∧ t.get (R.CMP_J_ST.STATE j) = 3 ∧ t.get (R.CMP_J_ST.CODE j) = 11 ∧
    t.cmp.slots = s.cmp.slots.filter fun i => i != j.val) ∧
  (∀ (now : Nat) (e : Fin 6) (j : Nat) (s : State), s.Running → j < 32 → s.engine e = none → s.cmp.pulls = [] →
    s.earliest (if 4 ≤ e.val then 1 else 0) = some j → Completes (.cmpJobStart now e) s fun t => t.engine e = some
    (.slot j) ∧ t.get (R.CMP_J_ST.STATE j) = 2 ∧ t.get (R.CMP_J_ST.ENGINE j) = e.val % 4) ∧
  (∀ (now : Nat) (e : Fin 6) (j : Fin 32) (s : State), s.Running → (∀ q : Fin 4, (s.portSt q).wire = none) → s.engine
    e = some (.slot j) → s.cmp.waiting = [] → (s.slotResult j).code = 0 → s.inUse (R.QUE_Q_CFG.SIZE (s.get
    (R.CMP_J_D0.QUEUE j))) ≠ 0 → s.on (R.CMP_J_D0.WAIT j) = false → s.fits (s.get (R.CMP_J_D0.QUEUE j)) ((s.slotPacket
    j (s.slotResult j).out).length + 1) 0 = true → Completes (.cmpJobEnd now e) s fun t => t.engine e = none ∧ t.get
    (R.CMP_J_ST.STATE j) = 3 ∧ t.get (R.CMP_J_ST.CODE j) = 0 ∧ t.get (R.CMP_J_OUT.OUTLEN j) = (s.slotResult
    j).out.length % 2 ^ 15) ∧
  (∀ (now : Nat) (q : Fin 80) (w : PushWait) (s : State), s.Running → s.cmp.waiting.find? (fun w => w.queue == q.val)
    = some w → w.slot < 32 → w.eng < 6 → s.inUse (R.QUE_Q_CFG.POLICY q) = 1 → s.fits q (w.words.length + 1) 0 = true →
    Completes (.queueStallResume now q) s fun t => t.cmp.waiting = s.cmp.waiting.erase w ∧ t.engine w.eng = none ∧
    (t.queue q).pkts.length = (s.queue q).pkts.length + 1 ∧ t.get (R.CMP_J_ST.STATE w.slot) = 3 ∧ t.get
    (R.CMP_J_ST.CODE w.slot) = 0)

/-- On a running hub TRANSIT_FRAME_RX of a frame that passes the checks and goes on by Table 10.8 puts it, without its
padding, in the transit buffer of a port that is up and has room; FRAME_RX_DISCARD of a whole frame with a wrong
envelope counts it in RXFRM and DISCARD; FRAME_TRANSMIT on a free port with link whose first waiting frame is a
LINK_HELLO puts it on the wire and counts it. -/
def Obligations.PortFramesComplete : Prop :=
  (∀ (now : Nat) (rx : Rx) (q : Nat) (s : State), s.Running → (s.rxGate rx).2 = true → (s.gated rx).fate rx = .forward
    q → s.portUp q = true → (rx.frame.dtype = 1 ∨ rx.frame.dtype = 2 → s.reach q = true) → transitBytes (s.portSt q) +
    wireBytes s q rx.frame.length ≤ (if flowPrio rx.frame.flow ≤ 1 then 131072 else 114688) → Completes
    (.transitFrameRx now rx) s fun t => (t.portSt q).txq.length = (s.portSt q).txq.length + 1 ∧ (t.portSt
    q).txq.getLast?.map (·.body) = some (.peb rx.frame.trimmed)) ∧
  (∀ (now : Nat) (rx : Rx) (s : State), s.Running → s.on (R.PRT_P_STAT.LINK rx.port) = true → rx.eth.fcsOk = true →
    rx.eth.bytes ≤ 1518 → s.envelopeOk rx.port rx.eth = false → Completes (.frameRxDiscard now rx) s fun t => t.get
    (R.PRT_P_CNT0.RXFRM rx.port) = satAdd 32 (s.get (R.PRT_P_CNT0.RXFRM rx.port)) 1 ∧ t.get (R.PRT_P_CNT5.DISCARD
    rx.port) = satAdd 16 (s.get (R.PRT_P_CNT5.DISCARD rx.port)) 1) ∧
  (∀ (now : Nat) (port : Fin 4) (i : TxItem) (f : Frame) (s : State), s.Running → (∀ q : Fin 4, (s.portSt q).wire =
    none) → s.on (R.PRT_P_STAT.LINK port) = true → portRate s port ≠ 0 → firstItem ((s.portSt port).txq.filter
    ((s.tick now).mayStart port)) = some i → i.body = .peb f → f.isHello = true → f.dtype = 0 → Completes
    (.frameTransmit now port) s fun t => (t.portSt port).wire.isSome = true ∧ (t.portSt port).txq = (s.portSt
    port).txq.erase i ∧ t.get (R.PRT_P_CNT1.TXFRM port) = satAdd 32 (s.get (R.PRT_P_CNT1.TXFRM port)) 1)

/-- On a running hub PHY_LINK_UP gives a port in use its link and PHY_LINK_LOSS takes it and empties its wire; an
SGMII_CONTROL_WORD with AN = 1 sets whether the link is usable; LINK_HELLO_SEND takes the next sequence number when
its interval is over; a LINK_HELLO of 16 bytes is noted and clears the misses, HELLO_MISS counts them and its third
one declares the link down; a ROOT_HELLO sets REACH and ROOT_HELLO_MISS clears it with the third miss; an ARP_RX
from the configured peer resolves its MAC address. -/
def Obligations.LinkEventsComplete : Prop :=
  (∀ (now : Nat) (port : Fin 4) (pcs : Nat) (master : Bool) (snr : Nat) (peerOk : Bool) (s : State), s.Running →
    s.inUse (R.PRT_P_CFG.USE port) ≠ 0 → s.on (R.PRT_P_STAT.LINK port) = false → Completes (.phyLinkUp now port pcs
    master snr peerOk) s fun t => t.on (R.PRT_P_STAT.LINK port) = true ∧ (t.portSt port).linkAt = t.now ∧ (t.portSt
    port).good = 0) ∧
  (∀ (now : Nat) (port : Fin 4) (s : State), s.Running → s.on (R.PRT_P_STAT.LINK port) = true → Completes
    (.phyLinkLoss now port) s fun t => t.on (R.PRT_P_STAT.LINK port) = false ∧ t.portUp port = false ∧ (t.portSt
    port).wire = none) ∧
  (∀ (now : Nat) (port : Fin 4) (link fullDuplex : Bool) (speed : Nat) (s : State), s.Running → s.inUse
    (R.PRT_P_CFG.MODE port) = 3 → s.inUse (R.PRT_P_CFG.AN port) = 1 → s.on (R.PRT_P_STAT.LINK port) = true → Completes
    (.sgmiiControlWord now port link fullDuplex speed) s fun t => (t.portSt port).sgmiiOk = (link && fullDuplex &&
    (speed == 1000 || speed == 100)) ∧ (t.portSt port).speed = if link && fullDuplex && (speed == 1000 || speed ==
    100) then speed else 0) ∧
  (∀ (now : Nat) (port : Fin 4) (s : State), s.Running → s.on (R.PRT_P_STAT.LINK port) = true → portRate s port ≠ 0 →
    ((s.portSt port).helloAt.all fun a => decide (a + helloU ≤ max s.now now)) = true → Completes (.linkHelloSend now
    port) s fun t => (t.portSt port).helloAt = some t.now ∧ (t.portSt port).seq = ((s.portSt port).seq + 1) % 2 ^ 32)
    ∧
  (∀ (now : Nat) (rx : Rx) (s : State), s.Running → s.consumes rx = true → rx.frame.isHello = true → rx.frame.length =
    16 → Completes (.linkHelloRx now rx) s fun t => (t.portSt rx.port).lastHello = some t.now ∧ (t.portSt
    rx.port).misses = 0) ∧
  (∀ (now : Nat) (port : Fin 4) (a : Nat) (s : State), s.Running → (s.portSt port).lastHello = some a → s.on
    (R.PRT_P_STAT.LINK port) = true → (s.portSt port).misses < 2 → a + ((s.portSt port).misses + 1) * helloU ≤ max
    s.now now → Completes (.helloMiss now port) s fun t => (t.portSt port).misses = (s.portSt port).misses + 1) ∧
  (∀ (now : Nat) (port : Fin 4) (a : Nat) (s : State), s.Running → (s.portSt port).lastHello = some a → s.on
    (R.PRT_P_STAT.LINK port) = true → (s.portSt port).misses = 2 → a + 3 * helloU ≤ max s.now now → Completes
    (.helloMiss now port) s fun t => (t.portSt port).misses = 3 ∧ t.portUp port = false ∧ t.get (R.PRT_P_CNT5.DOWNS
    port) = satAdd 8 (s.get (R.PRT_P_CNT5.DOWNS port)) 1) ∧
  (∀ (now : Nat) (rx : Rx) (s : State), s.Running → s.consumes rx = true → rx.frame.flow = 0 → rx.frame.type = 1 →
    Completes (.rootHelloRx now rx) s fun t => t.reach rx.port = true ∧ (t.portSt rx.port).rootAt = some t.now ∧
    (t.portSt rx.port).rootMiss = 0) ∧
  (∀ (now : Nat) (port : Fin 4) (a : Nat) (s : State), s.Running → port.val < 2 → s.reach port = true → (s.portSt
    port).rootAt = some a → (s.portSt port).rootMiss < 2 → a + ((s.portSt port).rootMiss + 1) * helloU ≤ max s.now now
    → Completes (.rootHelloMiss now port) s fun t => (t.portSt port).rootMiss = (s.portSt port).rootMiss + 1 ∧ t.reach
    port = true) ∧
  (∀ (now : Nat) (port : Fin 4) (a : Nat) (s : State), s.Running → port.val < 2 → s.reach port = true → (s.portSt
    port).rootAt = some a → (s.portSt port).rootMiss = 2 → a + 3 * helloU ≤ max s.now now → Completes (.rootHelloMiss
    now port) s fun t => t.reach port = false ∧ (t.portSt port).rootAt = none) ∧
  (∀ (now : Nat) (port : Fin 4) (eth : Eth) (m : ArpMsg) (s : State), s.Running → s.on (R.PRT_P_STAT.LINK port) = true
    → eth.fcsOk = true → eth.bytes ≤ 1518 → eth.tagged = false → s.inUse (R.PRT_P_CFG.TRANSPORT port) = 1 →
    (s.secCheck port eth.sec).2 = true → s.portUp port = true → m.senderIp = s.inUse (R.PRT_P_IPB.IPB port) →
    Completes (.arpRx now port eth m) s fun t => (t.portSt port).arpOk = true ∧ (t.portSt port).arpMac = m.senderMac)

/-- On a running hub MKPDU_RX of a participant that lists this hub under the port's CAK makes it a live peer;
MKA_HELLO_SEND after its hello time sends an MKPDU; MKA_REKEY of a key server with live peers after REKEY seconds
puts a new SAK in use; MKA_FAIL logs 6 s without a live peer; MKA_LIFE_TIME_EXPIRY removes a silent peer;
MACSEC_INSTALL of a permitted requester with bit 2 set and a static key puts the SA written in use. -/
def Obligations.MacsecEventsComplete : Prop :=
  (∀ (now : Nat) (port : Fin 4) (m : Mkpdu) (s : State), s.Running → s.on (R.PRT_P_STAT.LINK port) = true → s.secMode
    port = 1 → m.icvOk = true → m.ckn = s.ckn port → m.listsUs = true → Completes (.mkpduRx now port m) s fun t =>
    (m.sci, m.prio, t.now) ∈ (t.portSt port).peers ∧ t.get (R.PRT_P_CNT0.RXFRM port) = satAdd 32 (s.get
    (R.PRT_P_CNT0.RXFRM port)) 1) ∧
  (∀ (now : Nat) (port : Fin 4) (s : State), s.Running → s.on (R.PRT_P_STAT.LINK port) = true → s.secMode port = 1 →
    ((s.portSt port).mkaAt.all fun a => decide (a + s.mkaHello port ≤ max s.now now)) = true → Completes
    (.mkaHelloSend now port) s fun t => (t.portSt port).mkaAt = some t.now ∧ (t.portSt port).txq.length = (s.portSt
    port).txq.length + 1) ∧
  (∀ (now : Nat) (port : Fin 4) (s : State), s.Running → s.secMode port = 1 → s.inUse (R.PRT_P_MKA.REKEY port) ≠ 0 →
    (s.portSt port).peers ≠ [] → s.keyServer port = true → (s.portSt port).rekeyAt + s.inUse (R.PRT_P_MKA.REKEY port)
    * secU ≤ max s.now now → Completes (.mkaRekey now port) s fun t => t.on (R.PRT_P_STAT.SECURED port) = true ∧
    (t.portSt port).rekeyAt = t.now) ∧
  (∀ (now : Nat) (port : Fin 4) (s : State), s.Running → s.on (R.PRT_P_STAT.LINK port) = true → s.secMode port = 1 →
    (s.portSt port).failLogged = false → (s.portSt port).peers = [] → (s.portSt port).linkAt + 6 * secU ≤ max s.now
    now → Completes (.mkaFail now port) s fun t => (t.portSt port).failLogged = true ∧ s.Logs L.PRT_MKA_FAIL 5 port t)
    ∧
  (∀ (now : Nat) (port : Fin 4) (sci : Nat) (s : State), s.Running → (s.portSt port).peers.any (fun q => q.1 == sci &&
    decide (q.2.2 + 6 * secU ≤ max s.now now)) = true → Completes (.mkaLifeTimeExpiry now port sci) s fun t =>
    (t.portSt port).peers = (s.portSt port).peers.filter fun q => q.1 != sci) ∧
  (∀ (now : Nat) (req : Requester) (port : Fin 4) (data : Word) (s : State), s.Running → s.permits req (R.PRT_P_SCTL
    port).addr 4 true = true → hasBit data.toNat 2 = true → s.secMode port = 2 → Completes (.macsecInstall now req
    port data) s fun t => t.Answered req 0 ∧ t.on (R.PRT_P_STAT.SECURED port) = true ∧ (t.portSt port).txAn =
    data.toNat % 4)

/-- On a running hub PTP_RX of a two-step Sync of a configured domain on a chain port that is up keeps its sequence,
its corrected ingress time and its correction until the Follow_Up; PTP_DELAY_REQ_SEND of an enabled instance takes
the next sequence number; PTP_SYNC_LOSS of an instance that neither chain port serves puts its base, unless it is
FREERUN or follows PPS_IN, in HOLDOVER. -/
def Obligations.PtpEventsComplete : Prop :=
  (∀ (now : Nat) (port : Fin 4) (m : PtpMsg) (k : Nat) (s : State), s.Running → port.val < 2 → s.on (R.PRT_P_STAT.LINK
    port) = true → s.portUp port = true → s.instanceOf m = some k → m.malformed = false → m.kind = .sync → m.twoStep =
    true → Completes (.ptpRx now port m) s fun t => ((t.ptp k).at_ port).pend = some (m.seq, s.ingTs k port t.now,
    m.corr + s.asym port)) ∧
  (∀ (now : Nat) (k : Fin 2) (s : State), s.Running → s.inUse (R.TIM_PTP_CFG.EN k) = 1 → Completes (.ptpDelayReqSend
    now k) s fun t => (t.ptp k).dseq = ((s.ptp k).dseq + 1) % 2 ^ 16) ∧
  (∀ (now : Nat) (k : Fin 2) (s : State), s.Running → s.inUse (R.TIM_PTP_CFG.EN k) = 1 → (s.tick now).delivers k
    (s.ptpPort k) = false → (s.tick now).delivers k (otherPort (s.ptpPort k)) = false → (k.val = 1 → s.inUse
    (R.TIM_WB_CFG.SRC 1) ≠ 1) → s.wbState k ≠ 0 → Completes (.ptpSyncLoss now k) s fun t => t.wbState k = 3)

/-- On a running hub with good field supplies SAFETY_TICK at a new 250 µs instant of WB0 is taken once, and while
CROSS or KCLK is latched it leaves both units without a permit; KEEPER_MARKER_TIMEOUT outside 4,500 to 5,500 cycles
latches KCLK, turns every low side off and logs; CROSS_LATCH and PAIR_SAFE_MISMATCH after 33 differing ticks latch
CROSS, withdraw every permit and log; SP_WATCHDOG turns every high side off and leaves Keeper's unit as it is. -/
def Obligations.SafetyUnitEventsComplete : Prop :=
  (∀ (now : Nat) (x : TickIn) (s : State), s.Running → s.sys.fieldFault = false → s.safe.tick ≠ some (s.wbAt 0 (max
    s.now now) / ((250 * usU : Nat) : Int)).toNat → Completes (.safetyTick now x) s fun t => t.safe.tick = some
    (s.wbAt 0 (max s.now now) / ((250 * usU : Nat) : Int)).toNat ∧ t.safe.vfld = x.vfld ∧ (s.safe.cross = true ∨
    s.safe.kclk = true → t.safe.sp.permits = 0 ∧ t.safe.kp.permits = 0)) ∧
  (∀ (now : Nat) (rc : Nat) (s : State), s.Running → (rc < 4500 ∨ 5500 < rc) → s.safe.kclk = false → Completes
    (.keeperMarkerTimeout now rc) s fun t => t.safe.kclk = true ∧ t.on R.SAFV_STATE.KCLK = true ∧ (∀ n : Fin 8, (t.bk
    n).ls = false) ∧ s.Logs L.KEEPER_CLK 0 0 t) ∧
  (∀ (now : Nat) (s : State), s.Running → 33 ≤ s.safe.disagree → s.safe.cross = false → Completes (.crossLatch now) s
    fun t => t.safe.cross = true ∧ t.on R.SAFV_STATE.CROSS = true ∧ t.safe.sp.permits = 0 ∧ t.safe.kp.permits = 0 ∧
    s.Logs L.CROSS_FAULT 0 0 t) ∧
  (∀ (now : Nat) (s : State), s.Running → 33 ≤ s.safe.partnerRun → s.safe.cross = false → Completes (.pairSafeMismatch
    now) s fun t => t.safe.cross = true ∧ t.on R.SAFV_STATE.CROSS = true ∧ t.safe.sp.permits = 0 ∧ t.safe.kp.permits =
    0 ∧ s.Logs L.PAIR_SAFE_MISMATCH 0 0 t) ∧
  (∀ (now : Nat) (s : State), s.Running → Completes (.spWatchdog now) s fun t => t.safe.down = true ∧ (∀ n : Fin 8,
    (t.bk n).hs = false) ∧ t.safe.kp = s.safe.kp)

/-- On a running hub SAFE_INPUT_FILTER of an enabled input whose channel has held its level for the filter time,
outside the gap of its source, gives the channel that level in the unit; SIT_GAP_CHECK in the gap marks an enabled
input that reads on from its own source; SIT_OVL sets or clears the overload of a source; SI_DISCREPANCY after DTT +
1 ticks puts the input in FAULT; SACK_RELEASE after a press that counts takes an input from WAIT_ACK to RUN;
SACK_STUCK after 20,000 ticks and SACK_STUCK_CLEAR after 4,000 ticks off set and clear the stuck mark. -/
def Obligations.SafeInputEventsComplete : Prop :=
  (∀ (now : Nat) (i : Fin 16) (ch : Fin 2) (level : Bool) (unit : Fin 2) (since : Nat) (s : State), s.Running → s.siOn
    i = true → since + s.sparam pSiFilt i * 250 * usU ≤ max s.now now → (s.sparam (pSiTsa + ch.val) i ≠ 0 → 300 * usU
    ≤ (s.tick now).gapPhase (s.sparam (pSiTsa + ch.val) i - 1)) → Completes (.safeInputFilter now i ch level unit
    since) s fun t => hasBit ((if unit.val = 0 then t.safe.sp else t.safe.kp).input i).lev ch = level) ∧
  (∀ (now : Nat) (k : Fin 4) (on : List Nat) (i : Fin 16) (ch : Fin 2) (s : State), s.Running → 150 * usU ≤ (s.tick
    now).gapPhase k → (s.tick now).gapPhase k < 200 * usU → s.sys.fieldFault = false → s.siOn i = true → s.sparam
    (pSiTsa + ch.val) i = k.val + 1 → on.contains (2 * i.val + ch.val) = true → (s.safe.sp.input i).st ≠ 3 → Completes
    (.sitGapCheck now k on) s fun t => (t.safe.sp.input i).test = true ∧ (t.safe.kp.input i).test = true) ∧
  (∀ (now : Nat) (k : Fin 4) (low : Bool) (s : State), s.Running → hasBit s.safe.sitOvl k = !low → Completes (.sitOvl
    now k low) s fun t => hasBit t.safe.sitOvl k = low ∧ (low = true → s.Logs L.SIT_OVL 4 k t)) ∧
  (∀ (now : Nat) (i : Fin 16) (s : State), s.Running → s.siOn i = true → (s.safe.sp.input i).st = 1 → s.sparam pSiDt i
    + 1 ≤ (s.safe.sp.input i).cnt → Completes (.siDiscrepancy now i) s fun t => (t.safe.sp.input i).st = 3 ∧
    (t.safe.sp.input i).fcls = 1 ∧ t.get (R.SAFV_SI.STATE i) = 3 ∧ s.Logs L.SI_DISCREPANCY 4 i t) ∧
  (∀ (now : Nat) (i : Fin 16) (s : State), s.Running → s.safe.sp.acks = true → s.siOn i = true → (s.safe.sp.input
    i).st = 2 → Completes (.sackRelease now) s fun t => (t.safe.sp.input i).st = 0 ∧ t.safe.sp.ended = none ∧
    t.safe.kp.ended = none) ∧
  (∀ (now : Nat) (s : State), s.Running → s.safe.sp.sack = true → s.safe.sp.stuck = false → 20000 ≤ s.safe.sp.press →
    Completes (.sackStuck now) s fun t => t.safe.sp.stuck = true ∧ t.on R.SAFV_STATE.SACK_STUCK = true ∧ s.Logs
    L.SACK_STUCK 0 0 t) ∧
  (∀ (now : Nat) (s : State), s.Running → 4000 ≤ s.safe.sp.offRun → Completes (.sackStuckClear now) s fun t =>
    t.safe.sp.stuck = false ∧ t.on R.SAFV_STATE.SACK_STUCK = false)

/-- On a running hub BRAKE_READBACK_FAULT of a mismatch seen at four ticks raises that fault and turns the high side
off; BRAKE_OVERCURRENT of an enabled channel above 2 × IMAX raises OVERCURRENT and turns the low side off;
BRAKE_SWITCH_TEST of an energised channel at a period not yet served starts the pulse, BRAKE_SWITCH_CONFIRM within
500 µs of the expected reading ends it as a pass, and BRAKE_SWITCH_TIMEOUT after them ends it as a failure and
raises the fault; SAS_FAULT_RECORD takes the oldest record and raises SIG_FAULT on each channel that a signal of
that endpoint names. -/
def Obligations.BrakeEventsComplete : Prop :=
  (∀ (now : Nat) (n : Fin 8) (s : State), s.Running → 4 ≤ (s.bk n).run → (s.bk n).seen ≠ 0 → hasBit (s.bk n).faults
    (s.bk n).seen = false → Completes (.brakeReadbackFault now n) s fun t => hasBit (t.bk n).faults (s.bk n).seen =
    true ∧ (t.bk n).hs = false ∧ ((s.bk n).seen ≤ 4 → s.Logs L.BRAKE_FAULT 4 n t)) ∧
  (∀ (now : Nat) (n : Fin 8) (sbi : Nat) (s : State), s.Running → s.sparam pBkEn n = 1 → 2 * (50 * s.sparam pBkImax n)
    < sbi → Completes (.brakeOvercurrent now n sbi) s fun t => hasBit (t.bk n).faults 2 = true ∧ (t.bk n).ls = false)
    ∧
  (∀ (now : Nat) (n : Fin 8) (high : Bool) (s : State), s.Running → s.tswU ≠ 0 → s.sparam pBkEn n = 1 → (s.bk n).hs =
    true → (s.bk n).ls = true → (s.testOffset n high : Int) ≤ s.wbAt 0 (max s.now now) → Tbl.get 0 (s.bk n).tested (if
    high then 0 else 1) ≠ ((s.wbAt 0 (max s.now now) - (s.testOffset n high : Int)) / (s.tswU : Int)).toNat + 1 →
    Completes (.brakeSwitchTest now n high) s fun t => (t.bk n).pulse = some ⟨high, t.now, if high then 0 else 1⟩) ∧
  (∀ (now : Nat) (n : Fin 8) (sbv sbi : Nat) (p : SwTest) (s : State), s.Running → (s.bk n).pulse = some p → (p.how =
    0 → sbv < 100) → (p.how = 1 → sbi < 5 * s.sparam pBkImin n) → (1 < p.how → 300 ≤ sbv) → max s.now now ≤ p.at_ +
    500 * usU → Completes (.brakeSwitchConfirm now n sbv sbi) s fun t => (t.bk n).pulse = none ∧ t.get
    R.SAFV_CNT.SWPASS = satAdd 16 (s.get R.SAFV_CNT.SWPASS) 1) ∧
  (∀ (now : Nat) (n : Fin 8) (p : SwTest) (s : State), s.Running → (s.bk n).pulse = some p → p.at_ + 500 * usU < max
    s.now now → Completes (.brakeSwitchTimeout now n) s fun t => (t.bk n).pulse = none ∧ t.get R.SAFV_CNT.SWFAIL =
    satAdd 16 (s.get R.SAFV_CNT.SWFAIL) 1 ∧ hasBit (t.bk n).faults (if p.high then 5 else 6) = true) ∧
  (∀ (now : Nat) (e c a : Nat) (l : List (Nat × Nat × Nat)) (s : State), s.Running → s.cal.recs = (e, c, a) :: l →
    Completes (.sasFaultRecord now) s fun t => t.cal.recs = l ∧ ∀ k : Fin 16, ∀ n : Fin 8, s.sasOn k = true → s.sparam
    pSasEp k = e → hasBit (s.sparam pSasBrkmask k) n = true → hasBit (t.bk n).faults 8 = true)

/-- On a running hub the events of a holding test act in its phase and after its time: BRAKE_TEST_ENGAGE asks for
torque and notes the count, BRAKE_TEST_TORQUE with a valid sample of at least ITEST starts the hold,
BRAKE_TEST_NO_TORQUE ends the test with NO_TORQUE, BRAKE_TEST_HOLD_END ends it as passed and clears the due marks,
and BRAKE_TEST_RESTORE below half of ITEST ends it; TEST_DUE logs TBT hours after the last pass and
TEST_GRACE_EXPIRY marks the test overdue GRACE hours later. -/
def Obligations.HoldingTestEventsComplete : Prop :=
  (∀ (now : Nat) (h : HoldTest) (s : State), s.Running → s.safe.test = some h → h.phase = 0 → h.at_ + s.sparam pBkTeng
    h.ch * msU ≤ max s.now now → Completes (.brakeTestEngage now) s fun t => t.safe.test = some ⟨h.ch, 1, t.now,
    Tbl.get 0 s.time.enc (s.sparam pBkEnc h.ch), h.creep⟩ ∧ t.get (R.SAFV_BK.TORQUE_REQ h.ch) = 1) ∧
  (∀ (now : Nat) (h : HoldTest) (v : Nat) (s : State), s.Running → s.safe.test = some h → h.phase = 1 → s.testCurrent
    h.ch = some v → s.sparam pBkItest h.ch ≤ v → max s.now now ≤ h.at_ + 5 * secU → Completes (.brakeTestTorque now) s
    fun t => t.safe.test = some ⟨h.ch, 2, t.now, h.c0, h.creep⟩) ∧
  (∀ (now : Nat) (h : HoldTest) (s : State), s.Running → s.safe.test = some h → h.phase = 1 → h.ch < 8 → h.at_ + 5 *
    secU ≤ max s.now now → Completes (.brakeTestNoTorque now) s fun t => t.safe.test.map (·.phase) = some 3 ∧ t.get
    (R.SAFV_BK.TEST h.ch) = 3 ∧ s.Logs L.BRAKE_TEST 4 h.ch t) ∧
  (∀ (now : Nat) (h : HoldTest) (s : State), s.Running → s.safe.test = some h → h.phase = 2 → h.ch < 8 → h.at_ +
    s.sparam pBkThold h.ch * msU ≤ max s.now now → Completes (.brakeTestHoldEnd now) s fun t => t.safe.test.map
    (·.phase) = some 3 ∧ t.get (R.SAFV_BK.TEST h.ch) = 1 ∧ (t.bk h.ch).passAt = t.now ∧ (t.bk h.ch).due = false ∧
    hasBit (t.bk h.ch).faults 9 = false) ∧
  (∀ (now : Nat) (h : HoldTest) (v : Nat) (s : State), s.Running → s.safe.test = some h → h.phase = 3 → h.ch < 8 →
    s.testCurrent h.ch = some v → 2 * v < s.sparam pBkItest h.ch → Completes (.brakeTestRestore now) s fun t =>
    t.safe.test = none ∧ t.get (R.SAFV_BK.TESTING h.ch) = 0) ∧
  (∀ (now : Nat) (n : Fin 8) (s : State), s.Running → s.sparam pBkTbt n ≠ 0 → (s.bk n).due = false → s.dueAt n ≤ max
    s.now now → Completes (.testDue now n) s fun t => (t.bk n).due = true ∧ s.Logs L.TEST_DUE 4 n t) ∧
  (∀ (now : Nat) (n : Fin 8) (s : State), s.Running → (s.bk n).due = true → s.dueAt n + s.sparam pBkGrace n * 3600 *
    secU ≤ max s.now now → Completes (.testGraceExpiry now n) s fun t => (t.bk n).overdue = true)

/-- On a running hub with its mailbox free, a submitted LOAD_SAFETY of a well-formed section that an owner key signed,
that is bound to this hub and meets every constraint, and a SET_PARAM that leaves the configuration within them, are
agreed on for a later tick; SET_PASSWORD and CLEAR_LOG with their seal and password end with code 0, a new password
and a log of one entry; BRAKE_TEST starts and ABORT_TEST ends a test; READ_LOG puts the entry in the response; an
undefined OP ends with code 10. SAFETY_CONFIG_SWITCH at the agreed tick, confirmed in a pair and with its entry
written, puts the configuration in force; SAFE_LOCKOUT_END after 15 minutes ends a lockout. -/
def Obligations.MailboxRequestsComplete : Prop :=
  (∀ (now : Nat) (req : Requester) (data : Word) (flashOk : Bool) (s : State), s.Running → s.Submits req data →
    s.reqOp = 1 → (s.mayChange true true true).2 = 0 → s.reqWord 18 ≠ 0 → s.reqWord 18 ≤ 65536 → safetyGood s.section_
    = true → (s.ownerSlot (slice s.section_ 32 96)).isSome = true → ecdsaVerify (slice s.section_ 32 96) s.sectionBody
    (slice s.section_ s.sectionBody.length 96) = true → s.sectionBound s.section_ = true → s.safetyOk (sectionParams
    s.section_) = true → Completes (.spmbLoadSafety now req data flashOk) s fun t => t.Answered req 0 ∧
    t.safe.newCfg.map (·.cfg) = some (sectionParams s.section_) ∧ t.on R.SYS_SPMB_ST.BUSY = true) ∧
  (∀ (now : Nat) (req : Requester) (data : Word) (flashOk : Bool) (s : State), s.Running → s.Submits req data →
    s.reqOp = 2 → (s.mayChange (!isService (s.reqWord 17 / 256)) true true).2 = 0 → s.safeMode ≠ 0 → paramIds.contains
    (s.reqWord 17) = true → s.safetyOk (Tbl.set 0 s.safe.cfg (s.reqWord 17) (s.reqWord 18)) = true → Completes
    (.spmbSetParam now req data flashOk) s fun t => t.Answered req 0 ∧ t.safe.newCfg.map (·.cfg) = some (Tbl.set 0
    s.safe.cfg (s.reqWord 17) (s.reqWord 18)) ∧ t.on R.SYS_SPMB_ST.BUSY = true) ∧
  (∀ (now : Nat) (req : Requester) (data : Word) (s : State), s.Running → s.Submits req data → s.reqOp = 3 →
    (s.mayChange true s.safe.pw.isSome true).2 = 0 → 8 ≤ s.reqWord 17 % 256 → s.reqWord 17 % 256 ≤ 64 → Completes
    (.spmbSetPassword now req data true) s fun t => t.Answered req 0 ∧ t.get R.SYS_SPMB_ST.CODE = 0 ∧ t.get
    R.SAFV_LOG.ENTRIES = s.get R.SAFV_LOG.ENTRIES + 1 ∧ t.safe.pw = some (sha384 (t.safe.salt ++ s.reqBytes 18
    (s.reqWord 17 % 256)))) ∧
  (∀ (now : Nat) (req : Requester) (data : Word) (s : State), s.Running → s.Submits req data → s.reqOp = 4 →
    (s.mayChange true true false).2 = 0 → Completes (.spmbClearLog now req data true) s fun t => t.Answered req 0 ∧
    t.get R.SYS_SPMB_ST.CODE = 0 ∧ t.get R.SAFV_LOG.ENTRIES = 1) ∧
  (∀ (now : Nat) (req : Requester) (data : Word) (flashOk : Bool) (s : State), s.Running → s.Submits req data →
    s.reqOp = 5 → s.reqRole ≤ 1 → s.reqWord 17 < 8 → s.mayTest (s.reqWord 17) = true → Completes (.spmbBrakeTest now
    req data flashOk) s fun t => t.Answered req 0 ∧ t.get R.SYS_SPMB_ST.CODE = 0 ∧ t.safe.test = some ⟨s.reqWord 17,
    0, t.now, 0, 0⟩ ∧ t.get (R.SAFV_BK.TESTING (s.reqWord 17)) = 1) ∧
  (∀ (now : Nat) (req : Requester) (data : Word) (flashOk : Bool) (h : HoldTest) (s : State), s.Running → s.Submits
    req data → s.reqOp = 6 → s.reqRole ≤ 1 → s.reqWord 17 < 8 → s.safe.test = some h → h.ch = s.reqWord 17 → h.phase ≠
    3 → Completes (.spmbAbortTest now req data flashOk) s fun t => t.Answered req 0 ∧ t.get R.SYS_SPMB_ST.CODE = 0 ∧
    t.get (R.SAFV_BK.TEST (s.reqWord 17)) = 6 ∧ s.Logs L.BRAKE_TEST 4 (s.reqWord 17) t) ∧
  (∀ (now : Nat) (req : Requester) (data : Word) (flashOk : Bool) (s : State), s.Running → s.Submits req data →
    s.reqOp = 7 → s.reqRole ≤ 1 → s.reqWord 17 ≠ 0 → s.reqWord 17 ≤ s.get R.SAFV_LOG.ENTRIES → Completes (.spmbReadLog
    now req data flashOk) s fun t => t.Answered req 0 ∧ t.get R.SYS_SPMB_ST.CODE = 0 ∧ t.getBytes R.SYS_SPMB_RSP.RSP
    64 = s.flashRead (entryAt (s.reqWord 17)) 256) ∧
  (∀ (now : Nat) (req : Requester) (data : Word) (flashOk : Bool) (s : State), s.Running → s.Submits req data →
    (s.reqOp = 0 ∨ 7 < s.reqOp) → Completes (.spmbBadOp now req data flashOk) s fun t => t.Answered req 0 ∧ t.get
    R.SYS_SPMB_ST.CODE = 10 ∧ t.on R.SYS_SPMB_ST.BUSY = false) ∧
  (∀ (now : Nat) (confirmed : Bool) (c : NewCfg) (s : State), s.Running → s.safe.newCfg = some c → c.tick ≤ (s.wbAt 0
    (max s.now now) / ((250 * usU : Nat) : Int)).toNat → (s.isPaired = true → confirmed = true) → Completes
    (.safetyConfigSwitch now confirmed true) s fun t => t.safe.cfg = c.cfg ∧ t.safe.newCfg = none ∧ (c.load = true →
    t.safeMode = 1) ∧ (s.on R.SYS_SPMB_ST.BUSY = true → t.on R.SYS_SPMB_ST.BUSY = false ∧ t.get R.SYS_SPMB_ST.CODE =
    0)) ∧
  (∀ (now : Nat) (a : Nat) (s : State), s.Running → s.safe.lockAt = some a → a + 900 * secU ≤ max s.now now →
    Completes (.safeLockoutEnd now) s fun t => t.safe.lockAt = none ∧ t.on R.SAFV_STATE.LOCKOUT = false)

/-- On a running configured hub a consumed ZHOCY_RX whose message an enabled connection accepts takes its sequence
number and sets the next deadline; ZHOCY_WD at the deadline of an enabled connection makes it FAILED, counts and
logs; ZHOCY_SEND of the lead at a new instant of the connection's grid takes the next sequence number. -/
def Obligations.ZhocyEventsComplete : Prop :=
  (∀ (now : Nat) (rx : Rx) (c : Nat) (s : State), s.Running → s.consumes rx = true → rx.frame.flow = 4 → rx.frame.type
    = 0 → s.safeMode ≠ 0 → rx.frame.body.length = 16 + (rx.frame.body.getD 10 0).toNat → (rx.frame.body.getD 10
    0).toNat ≤ 64 → chans8.find? (fun c => s.zcOn c && s.sparam pZcConnid c == beNat (slice rx.frame.body 0 4) &&
    (rx.frame.body.getD 11 0).toNat % 2 == 0) = some c → s.zcRefuses c rx.frame.body = none → Completes (.zhocyRx now
    rx) s fun t => t.get (R.SAFV_ZC_SEQ.SEQRX c) = beNat (slice rx.frame.body 6 2) ∧ t.get (R.SAFV_ZC_ST.INC_CUR c) =
    beNat (slice rx.frame.body 4 2) ∧ (t.zc c).deadline = some (t.now + (min (beNat (slice rx.frame.body 8 2))
    (s.sparam pZcWdmax c) + s.sparam pZcLatw c) * msU)) ∧
  (∀ (now : Nat) (c : Fin 8) (d : Nat) (s : State), s.Running → s.zcOn c = true → (s.zc c).deadline = some d → d ≤ max
    s.now now → Completes (.zhocyWd now c) s fun t => t.get (R.SAFV_ZC_ST.STATE c) = 2 ∧ (t.zc c).deadline = none ∧
    t.get (R.SAFV_ZC_C2.WDFAIL c) = satAdd 16 (s.get (R.SAFV_ZC_C2.WDFAIL c)) 1 ∧ s.Logs L.ZHOCY_WD 4 c t) ∧
  (∀ (now : Nat) (c : Fin 8) (s : State), s.Running → s.isFollow = false → s.zcOn c = true → s.sparam pZcTxper c ≠ 0 →
    s.safeMode ≠ 0 → (s.zc c).sentAt ≠ some (s.wbAt 0 (max s.now now) / ((s.sparam pZcTxper c * msU : Nat) :
    Int)).toNat → Completes (.zhocySend now c) s fun t => (t.zc c).sentAt = some (s.wbAt 0 (max s.now now) /
    ((s.sparam pZcTxper c * msU : Nat) : Int)).toNat ∧ t.get (R.SAFV_ZC_SEQ.SEQTX c) = (s.get (R.SAFV_ZC_SEQ.SEQTX c)
    + 1) % 2 ^ 16)

/-- On a running hub a whole HOST_READ whose words can all be read answers them with code 0; a whole HOST_WRITE whose
words are all written ends with code 0 and changes nothing beyond those words but its own counters; a whole HOST_NOP
ends with code 0; HOST_FRAME_ABORT counts in ABORTS, with or without a whole request. A legacy frame of 32 clocks
puts the result of the one before on HMISO: HOST_LEGACY_READ of a low half keeps both halves of the word read;
HOST_LEGACY_WRITE of a low half holds it, and of the high half of HOSTPAGE after its low half writes the page. -/
def Obligations.HostPortCompletes : Prop :=
  (∀ (now : Nat) (header addr crc : Word) (u : State) (ws : List Nat) (s : State), s.Running → hostWhole 0 header addr
    [] crc → s.noEarly → (s.tick now).readWords .host (hostAddrs header addr) = (u, ws, none) → Completes (.hostRead
    now header addr crc false) s fun t => t.host.code = 0 ∧ t.host.frames = u.host.frames + 1 ∧ t.host.miso =
    [s.hostStatus.2, 0, 0] ++ hostAnswer 0 0 ws) ∧
  (∀ (now : Nat) (header addr : Word) (data : List Word) (crc : Word) (u : State) (k : Nat) (s : State), s.Running →
    hostWhole 1 header addr data crc → data.length = fget header 18 8 → s.noEarly → writeWords .host ((hostAddrs
    header addr).zip data) 0 (s.tick now) = (u, k, false, []) → Completes (.hostWrite now header addr data crc) s fun
    t => t.host.code = 0 ∧ t.host.frames = u.host.frames + 1 ∧ t.dram = u.dram ∧ t.live = u.live ∧ ∀ a, a ≠
    R.SYS_HOSTCNT.addr → Tbl.get 0 t.regs a = Tbl.get 0 u.regs a) ∧
  (∀ (now : Nat) (header addr crc : Word) (s : State), s.Running → hostWhole 2 header addr [] crc → s.noEarly →
    Completes (.hostNop now header addr crc) s fun t => t.host.code = 0 ∧ t.host.frames = s.host.frames + 1 ∧
    t.host.miso = [s.hostStatus.2, 0, 0] ++ hostAnswer 0 0 []) ∧
  (∀ (now : Nat) (late : Bool) (s : State), s.Running → Completes (.hostFrameAbort now none late) s fun t => t.get
    R.SYS_HOSTCNT.ABORTS = satAdd 8 (s.get R.SYS_HOSTCNT.ABORTS) 1 ∧ t.host.frames = s.host.frames) ∧
  (∀ (now : Nat) (header addr crc : Word) (late : Bool) (s : State), s.Running → hostWhole 2 header addr [] crc →
    Completes (.hostFrameAbort now (some (header, addr, [], crc)) late) s fun t => t.get R.SYS_HOSTCNT.ABORTS = satAdd
    8 (s.get R.SYS_HOSTCNT.ABORTS) 1 ∧ t.host.frames = s.host.frames ∧ t.host.code = 0) ∧
  (∀ (now : Nat) (half : Fin 8192) (a : Nat) (s : State), s.Running → half.val % 2 = 0 → s.legacyWord half = some a →
    Completes (.hostLegacyRead now half 32) s fun t => t.host.miso = [BitVec.ofNat 32 s.host.result] ∧ t.host.result =
    (t.respOf .host).data % 2 ^ 16 ∧ t.host.kept = some (a, (t.respOf .host).data / 2 ^ 16) ∧ t.host.low = none) ∧
  (∀ (now : Nat) (half : Fin 8192) (data : BitVec 16) (a : Nat) (s : State), s.Running → half.val % 2 = 0 →
    s.legacyWord half = some a → Completes (.hostLegacyWrite now half data 32) s fun t => t.host.low = some (a,
    data.toNat) ∧ t.host.kept = none ∧ t.get R.SYS_HOSTCNT2.LEGACY = satAdd 16 (s.get R.SYS_HOSTCNT2.LEGACY) 1) ∧
  (∀ (now : Nat) (data : BitVec 16) (l : Nat) (s : State), s.Running → s.host.low = some (R.SYS_HOSTPAGE.addr, l) → l
    < 2 ^ 16 → s.permits .host R.SYS_HOSTPAGE.addr 4 true = true → Completes (.hostLegacyWrite now ⟨0x801, by decide⟩
    data 32) s fun t => t.host.low = none ∧ t.get R.SYS_HOSTPAGE.PAGE = (data.toNat * 2 ^ 16 + l) / 2 ^ 13)

/-- On a running hub a consumed MGMT_READ_REQ that passes the checks of R403 and whose words can all be read sends its
response from a port that is up and reaches its root; a consumed MGMT_WRITE_REQ that passes them has its words
written and sends its response, or with a mediated word first in what is left waits for the firmware;
MEDIATED_WRITE_DONE completes the oldest write that waits, for the line with its response and for the host with code
0. -/
def Obligations.ManagementRequestsComplete : Prop :=
  (∀ (now : Nat) (rx : Rx) (u : State) (ws : List Nat) (s : State), s.Running → (s.tick now).AcceptsRequest rx 0 →
    ((s.tick now).accepted rx).readWords (mgmtBy rx.frame) (mgmtAddrs rx.frame) = (u, ws, none) → u.portUp rx.port =
    true → (rx.frame.stype = 1 ∨ rx.frame.stype = 2 → u.reach rx.port = true) → Completes (.mgmtReadReq now rx) s fun
    t => (t.portSt rx.port).txq.length = (u.portSt rx.port).txq.length + 1 ∧ t.resp = u.resp ∧ t.host = u.host) ∧
  (∀ (now : Nat) (rx : Rx) (u : State) (k : Nat) (s : State), s.Running → (s.tick now).AcceptsRequest rx 2 →
    writeWords (mgmtBy rx.frame) (mgmtWords rx.frame) 0 ((s.tick now).accepted rx) = (u, k, false, []) → u.portUp
    rx.port = true → (rx.frame.stype = 1 ∨ rx.frame.stype = 2 → u.reach rx.port = true) → Completes (.mgmtWriteReq now
    rx) s fun t => (t.portSt rx.port).txq.length = (u.portSt rx.port).txq.length + 1 ∧ t.dram = u.dram ∧ t.live =
    u.live ∧ t.host = u.host) ∧
  (∀ (now : Nat) (rx : Rx) (u : State) (k : Nat) (left : List (Nat × Word)) (s : State), s.Running → (s.tick
    now).AcceptsRequest rx 2 → writeWords (mgmtBy rx.frame) (mgmtWords rx.frame) 0 ((s.tick now).accepted rx) = (u, k,
    false, left) → left ≠ [] → asksReport left = false → Completes (.mgmtWriteReq now rx) s fun t => t.host.meds =
    u.host.meds ++ [⟨mgmtBy rx.frame, left, k, some (rx.port.val, rx.frame), false, false⟩] ∧ t.regs = u.regs) ∧
  (∀ (now : Nat) (ph : Phys) (m : MedReq) (rest : List MedReq) (u : State) (s : State), s.Running → s.host.meds = m ::
    rest → finishWords m.req ph m.words m.index (s.tick now).withoutFirst = (u, none) → u.Running → m.rx = none →
    m.legacy = false → m.early = false → Completes (.mediatedWriteDone now ph) s fun t => t.host.meds = u.host.meds ∧
    t.host.code = 0 ∧ t.host.frames = u.host.frames + 1) ∧
  (∀ (now : Nat) (ph : Phys) (m : MedReq) (rest : List MedReq) (u : State) (p : Nat) (f : Frame) (s : State),
    s.Running → s.host.meds = m :: rest → finishWords m.req ph m.words m.index (s.tick now).withoutFirst = (u, none) →
    u.Running → m.rx = some (p, f) → u.portUp p = true → (f.stype = 1 ∨ f.stype = 2 → u.reach p = true) → Completes
    (.mediatedWriteDone now ph) s fun t => t.host = u.host ∧ (t.portSt p).txq.length = (u.portSt p).txq.length + 1)

/-- On a running hub PARTNER_HEARTBEAT_SEND is sent every 50 µs and PARTNER_HEARTBEAT_RX notes what it says;
HEARTBEAT_TIMEOUT after 200 µs makes a follow lead with cause 1, and a lead ALONE; FAULT_BEAT_RX makes a follow lead
with cause 2; TAKEOVER_COMPLETE one control cycle later ends the declaration and logs; PARTNER_LANE_LOSS and
PARTNER_LANE_UP clear and set the lane; on a follow that tests itself FOLLOW_BIST and MEMORY_SCRUB note faults,
FOLLOW_DEGRADED_CLEAR after 60 s makes it READY, and HEALTH_REPORT_SEND once a second clears the counts;
MGMT_HEALTH_RX keeps a consumed report. -/
def Obligations.PairLinkEventsComplete : Prop :=
  (∀ (now : Nat) (s : State), s.Running → s.linkRuns = true → (s.pair.beatTx.all fun a => decide (a + 50 * usU ≤ max
    s.now now)) = true → Completes (.partnerHeartbeatSend now) s fun t => t.pair.beatTx = some t.now) ∧
  (∀ (now : Nat) (follow : Bool) (unit cycle : Nat) (state : Fin 4) (s : State), s.Running → s.linkRuns = true →
    Completes (.partnerHeartbeatRx now follow unit cycle state) s fun t => t.pair.beatAt = some t.now ∧
    t.pair.partnerFollow = follow ∧ t.pair.partnerUnit = unit ∧ t.pair.partnerCycle = cycle ∧ t.pair.partnerState =
    state) ∧
  (∀ (now : Nat) (cut : List Nat) (a : Nat) (s : State), s.Running → s.isPaired = true → s.isFollow = true →
    s.pair.beatAt = some a → a + 200 * usU ≤ max s.now now → Completes (.heartbeatTimeout now cut) s fun t =>
    t.isFollow = false ∧ t.get R.PAR_LAST.CAUSE = 1 ∧ t.pair.beatAt = none ∧ t.get R.PAR_CNT0.TAKEOVERS = satAdd 8
    (s.get R.PAR_CNT0.TAKEOVERS) 1) ∧
  (∀ (now : Nat) (cut : List Nat) (a : Nat) (s : State), s.Running → s.isPaired = true → s.isFollow = false → s.get
    R.PAR_STAT.STATE ≠ 0 → s.pair.beatAt = some a → a + 200 * usU ≤ max s.now now → Completes (.heartbeatTimeout now
    cut) s fun t => t.isFollow = false ∧ t.get R.PAR_STAT.STATE = 0 ∧ t.pair.beatAt = none) ∧
  (∀ (now : Nat) (cut : List Nat) (s : State), s.Running → s.isPaired = true → s.isFollow = true → s.linkRuns = true →
    Completes (.faultBeatRx now cut) s fun t => t.isFollow = false ∧ t.get R.PAR_LAST.CAUSE = 2) ∧
  (∀ (now : Nat) (a c d : Nat) (s : State), s.Running → s.pair.declared = some (a, c, d) → a + s.cycleU ≤ max s.now
    now → Completes (.takeoverComplete now) s fun t => t.pair.declared = none ∧ t.get R.PAR_STAT.STATE = 0 ∧ s.Logs
    L.PAIR_TAKEOVER 0 0 t) ∧
  (∀ (now : Nat) (lane : Fin 2) (s : State), s.Running → hasBit (s.get R.PAR_STAT.LANES) lane = true → Completes
    (.partnerLaneLoss now lane) s fun t => hasBit (t.get R.PAR_STAT.LANES) lane = false ∧ t.get R.PAR_CNT1.LANEDOWN =
    satAdd 8 (s.get R.PAR_CNT1.LANEDOWN) 1 ∧ s.Logs L.PAIR_LANE 0 0 t) ∧
  (∀ (now : Nat) (lane : Fin 2) (s : State), s.Running → s.linkRuns = true → hasBit (s.get R.PAR_STAT.LANES) lane =
    false → Completes (.partnerLaneUp now lane) s fun t => hasBit (t.get R.PAR_STAT.LANES) lane = true) ∧
  (∀ (now : Nat) (engine : Fin 7) (s : State), s.Running → s.selfTests = true → Completes (.followBist now engine
    false) s fun t => hasBit t.pair.bist engine = true ∧ t.pair.faultAt = some t.now) ∧
  (∀ (now : Nat) (corrected uncorrected : Nat) (s : State), s.Running → s.selfTests = true → Completes (.memoryScrub
    now corrected uncorrected) s fun t => t.pair.scrubC = satAdd 16 s.pair.scrubC corrected ∧ t.pair.scrubU = satAdd
    16 s.pair.scrubU uncorrected) ∧
  (∀ (now : Nat) (a : Nat) (s : State), s.Running → s.pair.faultAt = some a → s.get R.PAR_STAT.STATE = 3 → s.isFollow
    = true → a + 60 * secU ≤ max s.now now → Completes (.followDegradedClear now) s fun t => t.pair.faultAt = none ∧
    t.get R.PAR_STAT.STATE = 2) ∧
  (∀ (now : Nat) (tjMax : Int) (s : State), s.Running → s.selfTests = true → (s.pair.healthTx.all fun a => decide (a +
    secU ≤ max s.now now)) = true → Completes (.healthReportSend now tjMax) s fun t => t.pair.healthTx = some t.now ∧
    t.pair.bist = 0 ∧ t.pair.scrubC = 0) ∧
  (∀ (now : Nat) (rx : Rx) (s : State), s.Running → s.consumes rx = true → rx.frame.flow = 3 → rx.frame.type = 4 →
    Completes (.mgmtHealthRx now rx) s fun t => t.pair.health = some rx.frame.body)

/-- On a running follow a STATE_COPY_RX that is whole becomes the copy in use with its RUNID, and one that is not
counts as incomplete; PAIR_COMMIT_MIRROR_RX of a commit makes it pending for the boundary that the lead names;
PARTNER_MIRROR_RX of an IOT_BRKREQ write, and of a change of the safety configuration, does the same here.
PAIR_COMMIT_FAIL on a paired chip with an unconfirmed commit due within a cycle logs and forgets it. -/
def Obligations.PairCopiesComplete : Prop :=
  (∀ (now : Nat) (c : StateCopy) (s : State), s.Running → s.isPaired = true → s.isFollow = true → s.linkRuns = true →
    Completes (.stateCopyRx now c true) s fun t => t.pair.copy = some c ∧ t.pair.copyAt = t.now ∧ t.pair.copies =
    s.pair.copies + 1 ∧ t.get R.QUE_RUNID.RUNID = c.runid % 2 ^ 16) ∧
  (∀ (now : Nat) (c : StateCopy) (s : State), s.Running → s.isPaired = true → s.isFollow = true → s.linkRuns = true →
    Completes (.stateCopyRx now c false) s fun t => t.pair.copy = s.pair.copy ∧ t.pair.copies = 0 ∧ t.get
    R.PAR_CNT1.COPYINC = satAdd 16 (s.get R.PAR_CNT1.COPYINC) 1) ∧
  (∀ (now : Nat) (m : CommitMsg) (s : State), s.Running → s.isPaired = true → s.isFollow = true → s.linkRuns = true →
    m.image = none → Completes (.pairCommitMirrorRx now m) s fun t => t.commits.notBefore = m.at_ ∧ t.commits.tim =
    (s.commits.tim || hasBit m.kinds 0) ∧ t.commits.iot = (s.commits.iot || hasBit m.kinds 1) ∧ t.commits.que =
    (s.commits.que || hasBit m.kinds 2) ∧ t.commits.tile = s.commits.tile ||| (m.kinds / 16 % 16)) ∧
  (∀ (now : Nat) (v : Word) (s : State), s.Running → s.isPaired = true → s.isFollow = true → s.linkRuns = true →
    Completes (.partnerMirrorRx now (.brkReq v)) s fun t => t.word R.IOT_BRKREQ = v) ∧
  (∀ (now : Nat) (n : NewCfg) (s : State), s.Running → s.isPaired = true → s.isFollow = true → s.linkRuns = true →
    Completes (.partnerMirrorRx now (.safety n)) s fun t => t.safe.newCfg = some n) ∧
  (∀ (now : Nat) (s : State), s.Running → s.isPaired = true → s.commits.kinds ≠ 0 → s.commits.notBefore ≤
    s.time.cycleIdx + 1 → Completes (.pairCommitFail now) s fun t => t.pair.commitTx = none ∧ t.pair.confirmed = false
    ∧ t.commits.tim = false ∧ s.Logs L.PAIR_COMMIT_FAIL 0 0 t)

/-- On a running hub a PAR_SWAP with the key and GO, on a lead whose follow is READY, starts a swap; SWAP_READY takes
the lead to step 4 with B named, and a follow that has settled to step 3; SWAP_TIMEOUT of a lead after 10 s ends it
with TIMEOUT and logs; SWAP_BOUNDARY at B without an image makes the lead follow with its queues handed over, and
the follow lead; SWAP_REJOIN ends it with OK and logs, on the lead once its follow is READY and on the follow once
it has settled with 16 copies. -/
def Obligations.SwapEventsComplete : Prop :=
  (∀ (now : Nat) (req : Requester) (data : Word) (peer : Option (List Byte)) (s : State), s.Running → s.mayWrite req
    R.PAR_SWAP.addr req.isEngineer = true → data.toNat % 2 ^ 16 = 0x5A3C → hasBit data.toNat 16 = true → hasBit
    data.toNat 17 = false → s.isPaired = true → s.isFollow = false → s.pair.swap = none → s.pair.partnerState = 2 →
    s.hasPartner = true → Completes (.parSwap now req data peer) s fun t => t.Answered req 0 ∧ t.pair.swap = some ⟨2,
    false, t.now, none⟩ ∧ t.get R.PAR_SWAPST.STEP = 2 ∧ t.on R.PAR_STAT.SWAPPING = true) ∧
  (∀ (now : Nat) (w : SwapSt) (s : State), s.Running → s.pair.swap = some w → w.step ≤ 3 → s.isFollow = false →
    Completes (.swapReady now) s fun t => t.get R.PAR_SWAPST.STEP = 4 ∧ t.pair.swap = some ⟨4, w.image, t.now, some
    (s.tick now).twoAhead⟩) ∧
  (∀ (now : Nat) (w : SwapSt) (s : State), s.Running → s.pair.swap = some w → w.step ≤ 3 → s.isFollow = true →
    s.rehearsed = true → Completes (.swapReady now) s fun t => t.get R.PAR_SWAPST.STEP = 3 ∧ t.pair.swap = some ⟨3,
    w.image, t.now, w.b⟩) ∧
  (∀ (now : Nat) (w : SwapSt) (s : State), s.Running → s.pair.swap = some w → w.step ≤ 3 → w.at_ + 10 * secU ≤ max
    s.now now → s.isFollow = false → Completes (.swapTimeout now) s fun t => t.pair.swap = none ∧ t.get
    R.PAR_SWAPST.RESULT = 4 ∧ t.on R.PAR_STAT.SWAPPING = false ∧ s.Logs L.PAIR_SWAP_FAIL 0 0 t) ∧
  (∀ (now : Nat) (h : Handover) (w : SwapSt) (b : Nat) (s : State), s.Running → s.pair.swap = some w → w.step = 4 →
    w.b = some b → w.image = false → b ≤ s.time.cycleIdx → s.isFollow = false → Completes (.swapBoundary now h) s fun
    t => t.isFollow = true ∧ t.pair.handover.isSome = true ∧ t.get R.PAR_SWAPST.STEP = 6 ∧ t.get R.PAR_LAST.CAUSE = 3)
    ∧
  (∀ (now : Nat) (h : Handover) (w : SwapSt) (b : Nat) (s : State), s.Running → s.pair.swap = some w → w.step = 4 →
    w.b = some b → w.image = false → b ≤ s.time.cycleIdx → s.isFollow = true → Completes (.swapBoundary now h) s fun t
    => t.isFollow = false ∧ t.get R.PAR_SWAPST.STEP = 6 ∧ t.get R.PAR_LAST.CAUSE = 3) ∧
  (∀ (now : Nat) (w : SwapSt) (s : State), s.Running → s.pair.swap = some w → w.step = 6 → s.isFollow = false →
    s.pair.partnerState = 2 → Completes (.swapRejoin now) s fun t => t.pair.swap = none ∧ t.get R.PAR_SWAPST.RESULT =
    1 ∧ s.Logs L.PAIR_SWAP 0 0 t) ∧
  (∀ (now : Nat) (w : SwapSt) (s : State), s.Running → s.pair.swap = some w → w.step = 6 → s.isFollow = true → 16 ≤
    s.pair.copies → s.settled = true → Completes (.swapRejoin now) s fun t => t.pair.swap = none ∧ t.get
    R.PAR_SWAPST.RESULT = 1 ∧ t.get R.PAR_STAT.STATE = 2 ∧ s.Logs L.PAIR_SWAP 0 0 t)

/-- On a running hub a permitted write to SEC_CMD with GO while the engine is idle ends with code 0 and leaves a
report in SEC_RSP for REPORT; with the seal open, a good request and no fuse that fails it enrols the key in the
lowest slot without one, revokes a slot by the signature of another key unless it is the last, or sets OWNER_FW; an
undefined operation ends with code 6. A permitted write to SEC_DMCTL by PL0 extends a daymark register that is not
locked with SHA-384 of the old value and SEC_DMEXT, and with LOCK locks. The places of keys and signatures in
SEC_REQ are the model's choice (DEDUCED, log entry 158). -/
def Obligations.KeyOperationsComplete : Prop :=
  (∀ (now : Nat) (req : Requester) (data : Word) (missed : List (Nat × Nat)) (s : State), s.Running → s.StartsSec req
    data 1 → Completes (.secReport now req data missed) s fun t => t.get R.SEC_ST.CODE = 0 ∧ t.get R.SEC_ST.BUSY = 0 ∧
    t.get (R.SEC_RSP.RSP 0) = 0x444D524B ∧ t.fuse = s.fuse) ∧
  (∀ (now : Nat) (req : Requester) (data : Word) (k : Nat) (s : State), s.Running → s.StartsSec req data 2 → s.on
    R.SYS_STRAP.SEAL_OPEN = true → [0, 1, 2, 3].find? (fun j => !s.ownerSpent j) = some k → ecdsaVerify (s.reqPart 0)
    (s.keyMsg (s.reqPart 0)) (s.reqPart 24) = true → ([0, 1, 2, 3].all (fun j => !s.enrolled j) = true ∨ (s.keySigner
    (s.reqPart 0)).isSome = true) → Completes (.secEnrol now req data []) s fun t => t.get R.SEC_ST.CODE = 0 ∧
    t.enrolled k = true ∧ t.ownerHash k = keyHash (s.reqPart 0)) ∧
  (∀ (now : Nat) (req : Requester) (data : Word) (j : Nat) (s : State), s.Running → s.StartsSec req data 3 → s.on
    R.SYS_STRAP.SEAL_OPEN = true → s.liveKeys ≠ [data.toNat / 16 % 4] → s.keySigner (beBytes 1 (data.toNat / 16 % 4))
    = some j → j ≠ data.toNat / 16 % 4 → Completes (.secRevoke now req data []) s fun t => t.get R.SEC_ST.CODE = 0 ∧
    t.revoked (data.toNat / 16 % 4) = true) ∧
  (∀ (now : Nat) (req : Requester) (data : Word) (s : State), s.Running → s.StartsSec req data 4 → s.on
    R.SYS_STRAP.SEAL_OPEN = true → (s.keySigner []).isSome = true → Completes (.secSetOwnerFw now req data []) s fun t
    => t.get R.SEC_ST.CODE = 0 ∧ t.ownerFw = true) ∧
  (∀ (now : Nat) (req : Requester) (data : Word) (op : Nat) (missed : List (Nat × Nat)) (s : State), s.Running → (op =
    0 ∨ 4 < op) → s.StartsSec req data op → Completes (.secBadOp now req data missed) s fun t => t.get R.SEC_ST.CODE =
    6 ∧ t.get R.SEC_ST.BUSY = 0 ∧ t.fuse = s.fuse) ∧
  (∀ (now : Nat) (req : Requester) (data : Word) (s : State), s.Running → req.isPl0 = true → s.Accepts req
    R.SEC_DMCTL.addr → hasBit data.toNat 3 = true → (s.on R.SEC_DMCTL.LOCKED && decide (data.toNat % 8 < 3)) = false →
    Completes (.dmExtend now req data) s fun t => t.getBytes (R.SEC_DM.DM (data.toNat % 8)) 12 = sha384 (s.getBytes
    (R.SEC_DM.DM (data.toNat % 8)) 12 ++ s.getBytes R.SEC_DMEXT.VALUE 12)) ∧
  (∀ (now : Nat) (req : Requester) (data : Word) (s : State), s.Running → req.isPl0 = true → s.Accepts req
    R.SEC_DMCTL.addr → hasBit data.toNat 4 = true → Completes (.dmLock now req data) s fun t => t.get
    R.SEC_DMCTL.LOCKED = 1)

/-- On a running hub UPD_OFFER_SEND of a lead with a session is sent once a second; a consumed UPD_OFFER_RX makes its
sender a holder; UPD_FETCH by the OWNER starts the fetch of the manifest it names; a consumed UPD_MAN_REQ_RX for the
session's image sends the manifest's fragments, and UPD_BLK_REQ_RX for a verified block is counted in SERVED;
UPD_HELD_REQUEST_EXPIRY drops requests held for 2 s. -/
def Obligations.FarandoleRequestsComplete : Prop :=
  (∀ (now : Nat) (s : State), s.Running → s.isFollow = false → s.sessNo ≠ 0 → (s.sec.offerAt.all fun a => decide (a +
    secU ≤ max s.now now)) = true → Completes (.updOfferSend now) s fun t => t.sec.offerAt = some t.now ∧ t.sec.sess =
    s.sec.sess) ∧
  (∀ (now : Nat) (rx : Rx) (s : State), s.Running → s.consumes rx = true → rx.frame.flow = 6 → rx.frame.type = 0 →
    rx.frame.length = 60 → s.isFollow = false → Completes (.updOfferRx now rx) s fun t => ∃ h : Holder, Tbl.get {}
    t.sec.holders (senderKey rx.frame) = h ∧ h.img = rx.frame.a ∧ h.at_ = t.now ∧ h.rank = beNat (slice rx.frame.body
    0 8)) ∧
  (∀ (now : Nat) (req : Requester) (digest : List Byte) (s : State), s.Running → req.isOwner = true → digest.length =
    48 → s.isFollow = false → s.inConflict (digestImg (beNat digest)) = false → s.sessMan.map (·.digest) ≠ some digest
    → Completes (.updFetch now req digest) s fun t => t.Answered req 0 ∧ t.sec.mfetch.map (fun m => (m.img, m.named))
    = some (digestImg (beNat digest), some (beNat digest))) ∧
  (∀ (now : Nat) (rx : Rx) (x : SessSt) (m : Manifest) (s : State), s.Running → s.consumes rx = true → rx.frame.flow =
    6 → rx.frame.type = 1 → s.sec.sess = some x → s.sessMan = some m → m.imgId = rx.frame.a → s.inConflict rx.frame.a
    = false → s.get R.UPD_CFG.UPDRATE ≠ 0 → s.inService rx.port < 2 → s.portUp rx.port = true → rx.frame.stype = 0 →
    rx.frame.src < 1024 → Completes (.updManReqRx now rx) s fun t => (t.portSt rx.port).txq.length = (s.portSt
    rx.port).txq.length + (fragments x.man).length ∧ t.sec = s.sec) ∧
  (∀ (now : Nat) (rx : Rx) (x : SessSt) (m : Manifest) (s : State), s.Running → s.consumes rx = true → rx.frame.flow =
    6 → rx.frame.type = 3 → (rx.frame.length = 0 ∨ rx.frame.length = 8) → s.sec.sess = some x → s.sessMan = some m →
    m.imgId = rx.frame.a → s.inConflict rx.frame.a = false → s.get R.UPD_CFG.UPDRATE ≠ 0 → s.inService rx.port < 2 →
    x.blocks.any (fun e => e.1 == rx.frame.b / 2 ^ 16) = true → Completes (.updBlkReqRx now rx) s fun t => t.get
    R.UPD_CNT1.SERVED = satAdd 16 (s.get R.UPD_CNT1.SERVED) 1 ∧ t.sec = s.sec) ∧
  (∀ (now : Nat) (s : State), s.Running → Completes (.updHeldRequestExpiry now) s fun t => t.sec.held =
    s.sec.held.filter (fun h => decide (t.now < h.at_ + 2 * secU)) ∧ t.regs = s.regs)

/-- On a running hub a consumed UPD_MAN_RX from the holder that was asked keeps its fragment, and with the last one a
good manifest starts the session where no image runs; UPD_BLK_RX with the last fragment of the block asked for, of
the right hash, holds the block; UPD_REFUSE_RX and UPD_FRAGMENT_TIMEOUT after 200 ms count in RETRIES and ask again;
UPD_BLOCK_STORED writes a verified block of a firmware image to its sector of STAGING, and with the last block
completes the session; MGMT_UPD_PUSH_RX on a follow keeps a first fragment of the manifest from its lead. -/
def Obligations.FarandoleTransfersComplete : Prop :=
  (∀ (now : Nat) (rx : Rx) (m : ManFetch) (s : State), s.Running → s.consumes rx = true → rx.frame.flow = 6 →
    rx.frame.type = 2 → s.sec.mfetch = some m → m.src = some (senderKey rx.frame) → m.img = rx.frame.a → hasBit
    rx.frame.b 7 = false → m.count = none → Completes (.updManRx now rx) s fun t => t.sec.mfetch.map (fun y =>
    (y.frags, y.at_)) = some (Tbl.set [] m.frags (rx.frame.b / 256 % 256) rx.frame.body, t.now)) ∧
  (∀ (now : Nat) (rx : Rx) (f : ManFetch) (m : Manifest) (s : State), s.Running → s.consumes rx = true → rx.frame.flow
    = 6 → rx.frame.type = 2 → s.sec.mfetch = some f → f.src = some (senderKey rx.frame) → f.img = rx.frame.a → f.frags
    = [] → hasBit rx.frame.b 7 = true → rx.frame.b / 256 % 256 = 0 → parseManifest rx.frame.body = some m → m.bytes =
    rx.frame.body → beNat ((sha384 rx.frame.body).take 4) = f.img → (f.named.all fun n => n == beNat (sha384
    rx.frame.body)) = true → (s.acceptable 0 m || s.acceptable 1 m) = true → s.sec.confl = [] → s.sessMan = none →
    s.activeMan = none → Completes (.updManRx now rx) s fun t => t.sec.sess.map (·.man) = some rx.frame.body ∧
    t.sec.mfetch = none ∧ t.flashRead (flImage 2) rx.frame.body.length = rx.frame.body) ∧
  (∀ (now : Nat) (rx : Rx) (x : SessSt) (m : Manifest) (p : Nat) (o : FetchSt) (bytes : List Byte) (s : State),
    s.Running → s.consumes rx = true → rx.frame.flow = 6 → rx.frame.type = 4 → s.sec.sess = some x → s.sessMan = some
    m → m.imgId = rx.frame.a → [0, 1].find? (fun q => ((x.out q).map fun o => o.src == senderKey rx.frame && o.block
    == rx.frame.b / 2 ^ 16 && o.rid == rx.frame.b % 256).getD false) = some p → x.out p = some o → rx.frame.b / 1024 %
    64 < (m.blockLen o.block + 1439) / 1440 → joined (Tbl.set [] o.frags (rx.frame.b / 1024 % 64) rx.frame.body)
    ((m.blockLen o.block + 1439) / 1440) = some bytes → sha384 bytes = m.hash o.block → Completes (.updBlkRx now rx) s
    fun t => t.sec.sess.any (fun y => y.holds o.block) = true) ∧
  (∀ (now : Nat) (rx : Rx) (m : ManFetch) (s : State), s.Running → s.consumes rx = true → rx.frame.flow = 6 →
    rx.frame.type = 5 → s.sec.mfetch = some m → m.src = some (senderKey rx.frame) → m.img = rx.frame.a → Completes
    (.updRefuseRx now rx) s fun t => t.get R.UPD_CNT2.RETRIES = satAdd 16 (s.get R.UPD_CNT2.RETRIES) 1) ∧
  (∀ (now : Nat) (rx : Rx) (x : SessSt) (m : Manifest) (p : Nat) (s : State), s.Running → s.consumes rx = true →
    rx.frame.flow = 6 → rx.frame.type = 5 → s.sec.mfetch = none → s.sec.sess = some x → s.sessMan = some m → m.imgId =
    rx.frame.a → [0, 1].find? (fun q => (x.out q).map (·.src) == some (senderKey rx.frame)) = some p → Completes
    (.updRefuseRx now rx) s fun t => t.get R.UPD_CNT2.RETRIES = satAdd 16 (s.get R.UPD_CNT2.RETRIES) 1) ∧
  (∀ (now : Nat) (m : ManFetch) (k : Nat) (s : State), s.Running → s.sec.mfetch = some m → m.src = some k → s.portUp
    (Tbl.get ({} : Holder) s.sec.holders k).port = true → m.at_ + 200 * msU ≤ max s.now now → m.tries < 3 → Completes
    (.updFragmentTimeout now 2) s fun t => t.sec.mfetch.map (fun y => (y.tries, y.at_)) = some (m.tries + 1, t.now) ∧
    t.get R.UPD_CNT2.RETRIES = satAdd 16 (s.get R.UPD_CNT2.RETRIES) 1) ∧
  (∀ (now : Nat) (which : Fin 3) (x : SessSt) (m : Manifest) (o : FetchSt) (s : State), s.Running → which.val < 2 →
    s.sec.sess = some x → s.sessMan = some m → x.out which = some o → s.portUp which = true → o.at_ + 200 * msU ≤ max
    s.now now → o.tries < 3 → Completes (.updFragmentTimeout now which) s fun t => (t.sec.sess.bind fun y => y.out
    which).map (fun y => (y.tries, y.at_)) = some (o.tries + 1, t.now) ∧ t.get R.UPD_CNT2.RETRIES = satAdd 16 (s.get
    R.UPD_CNT2.RETRIES) 1) ∧
  (∀ (now : Nat) (block : Nat) (x : SessSt) (m : Manifest) (e : Nat × List Byte) (s : State), s.Running → s.sec.sess =
    some x → s.sessMan = some m → m.kind = 0 → x.complete = false → x.stored.contains block = false → x.blocks.find?
    (fun y => y.1 == block) = some e → block < 384 → e.2.length ≤ 65536 → Completes (.updBlockStored now block true) s
    fun t => t.sec.sess.map (·.stored) = some (block :: x.stored) ∧ t.flashRead (flImage 2 + 65536 * (block + 1))
    e.2.length = e.2 ∧ t.sec.sess.map (·.complete) = some (decide (m.blocks ≤ x.stored.length + 1))) ∧
  (∀ (now : Nat) (rx : Rx) (s : State), s.Running → s.consumes rx = true → rx.frame.flow = 3 → rx.frame.type = 5 →
    s.isFollow = true → hasBit rx.frame.b 8 = true → hasBit rx.frame.b 9 = false → s.sec.pushMan = none → Completes
    (.mgmtUpdPushRx now rx) s fun t => t.sec.pushMan = some (rx.frame.a, Tbl.set [] [] (rx.frame.b / 1024 % 64)
    rx.frame.body, none))

/-- On a running hub a permitted write to UPD_CTL with its KEY and one action acts: ACTIVATE with a complete session
of a firmware image programs the activation request and resets; CONFIRM of an unconfirmed ACTIVE programs CONFIRMED,
stops the confirm timer and ends the trial; ROLLBACK of an unconfirmed ACTIVE with a FALLBACK resets; ABORT ends the
session; CLRCONF empties the conflict list. PL0 sets UPD_CONFTMR to 60 to 3600 s once per start, counted from reset
release, and when the window passes the hub resets. -/
def Obligations.ActivationCommandsComplete : Prop :=
  (∀ (now : Nat) (req : Requester) (data : Word) (x : SessSt) (m : Manifest) (s : State), s.Running → s.mayWrite req
    R.UPD_CTL.addr req.isEngineer = true → data.toNat % 2 ^ 16 = 0x7E2B → data.toNat / 2 ^ 16 % 32 = 1 → s.sec.sess =
    some x → x.complete = true → s.sessMan = some m → m.kind = 0 → Completes (.updActivate now req data) s fun t =>
    t.sys.stage = .reset ∧ t.sys.pulse = true ∧ t.stateWord (flImage 2) swActivate = 0 ∧ t.fuse = s.fuse) ∧
  (∀ (now : Nat) (req : Requester) (data : Word) (k : Nat) (s : State), s.Running → s.mayWrite req R.UPD_CTL.addr
    false = true → data.toNat % 2 ^ 16 = 0x7E2B → data.toNat / 2 ^ 16 % 32 = 2 → s.sec.act = some k → s.confirmedSlot
    k = false → Completes (.updConfirm now req data) s fun t => t.confirmedSlot k = true ∧ t.sec.deadline = none ∧
    t.get R.SEC_BOOTST.TRIAL = 0 ∧ t.get R.UPD_CONFTMR.WINDOW = 0) ∧
  (∀ (now : Nat) (req : Requester) (data : Word) (k : Nat) (m : Manifest) (s : State), s.Running → s.mayWrite req
    R.UPD_CTL.addr req.isOwner = true → data.toNat % 2 ^ 16 = 0x7E2B → data.toNat / 2 ^ 16 % 32 = 4 → s.sec.act = some
    k → s.confirmedSlot k = false → s.fallback = some m → Completes (.updRollback now req data) s fun t => t.sys.stage
    = .reset ∧ t.sys.pulse = true ∧ t.sec.why = 2 ∧ t.flash = s.flash) ∧
  (∀ (now : Nat) (req : Requester) (data : Word) (s : State), s.Running → s.mayWrite req R.UPD_CTL.addr req.isEngineer
    = true → data.toNat % 2 ^ 16 = 0x7E2B → data.toNat / 2 ^ 16 % 32 = 8 → Completes (.updAbort now req data) s fun t
    => t.sec.sess = none ∧ t.sec.mfetch = none ∧ t.flash = s.flash) ∧
  (∀ (now : Nat) (req : Requester) (data : Word) (s : State), s.Running → s.mayWrite req R.UPD_CTL.addr req.isOwner =
    true → data.toNat % 2 ^ 16 = 0x7E2B → data.toNat / 2 ^ 16 % 32 = 16 → Completes (.updClrconf now req data) s fun t
    => t.sec.confl = [] ∧ t.get R.UPD_STAT.CONFLICT = 0 ∧ t.sec.sess = s.sec.sess) ∧
  (∀ (now : Nat) (req : Requester) (data : Word) (s : State), s.Running → req.isPl0 = true → s.Accepts req
    R.UPD_CONFTMR.addr → 60 ≤ data.toNat % 2 ^ 12 → data.toNat % 2 ^ 12 ≤ 3600 → s.sec.deadline.isSome = true →
    s.sec.rewritten = false → Completes (.conftmrWrite now req data) s fun t => t.get R.UPD_CONFTMR.WINDOW =
    data.toNat % 2 ^ 12 ∧ t.sec.deadline = some (s.sys.releasedAt + data.toNat % 2 ^ 12 * secU) ∧ t.sec.rewritten =
    true) ∧
  (∀ (now : Nat) (d : Nat) (s : State), s.Running → s.sec.deadline = some d → d ≤ max s.now now → Completes
    (.confirmWindowExpiry now) s fun t => t.sys.stage = .reset ∧ t.sys.pulse = true ∧ t.sec.why = 1)

/-- In recovery with the seal open the host's write to UPD_RCVCTL with ERASE or PROGRAM set, while none is in
progress, takes UPD_RCVADDR and shows BUSY; RCV_FLASH_DONE ends the operation with BUSY clear, the sector erased by
ERASE alone, and after ERASE with PROGRAM the page holding UPD_RCVDATA. -/
def Obligations.RecoveryCommandsComplete : Prop :=
  (∀ (now : Nat) (req : Requester) (data : Word) (s : State), s.rcvOpen req = true → s.sec.rcv = none → data.toNat % 4
    ≠ 0 → Completes (.rcvErase now req data) s fun t => t.sec.rcv = some (data.toNat % 4, s.get R.UPD_RCVADDR.ADDR) ∧
    t.get R.UPD_RCVCTL.BUSY = 1 ∧ t.flash = s.flash) ∧
  (∀ (now : Nat) (req : Requester) (data : Word) (s : State), s.rcvOpen req = true → s.sec.rcv = none → data.toNat % 4
    ≠ 0 → Completes (.rcvProgram now req data) s fun t => t.sec.rcv = some (data.toNat % 4, s.get R.UPD_RCVADDR.ADDR)
    ∧ t.get R.UPD_RCVCTL.BUSY = 1 ∧ t.flash = s.flash) ∧
  (∀ (now : Nat) (ok : Bool) (ops addr : Nat) (s : State), s.sec.rcv = some (ops, addr) → Completes (.rcvFlashDone now
    ok) s fun t => t.sec.rcv = none ∧ t.get R.UPD_RCVCTL.BUSY = 0) ∧
  (∀ (now : Nat) (addr a : Nat) (s : State), s.sec.rcv = some (1, addr) → addr / 65536 = a / 65536 → Completes
    (.rcvFlashDone now true) s fun t => Tbl.get 0xFF t.flash a = 0xFF) ∧
  (∀ (now : Nat) (addr : Nat) (s : State), s.sec.rcv = some (3, addr) → Completes (.rcvFlashDone now true) s fun t =>
    t.flashRead (addr / 256 * 256) 256 = s.getBytes R.UPD_RCVDATA.DATA 64)

/-- On a running hub a permitted write to SYS_CHOR_CTL with its KEY and one action acts while no apply is in progress:
LOAD of an image that passes the checks makes it pending; APPLY of a pending image that changes something, is newer
and need not be swapped in names the boundary two cycles ahead and changes nothing in use; DISCARD drops the pending
image. At the boundary an image that still passes comes into force, a structural one with a restart, a live one at
once where no tile has a frame boundary. CHOR_STORE programs the image in force into its slot. -/
def Obligations.ChoreographyCommandsComplete : Prop :=
  (∀ (now : Nat) (req : Requester) (data : Word) (i : Img) (s : State), s.Running → s.AsksChor req data 1 →
    (s.chor.bare = true → req = .host) → s.checkImage (s.dramRead (4 * s.get R.SYS_CHOR_SRC.SRC) (s.get
    R.SYS_CHOR_LEN.LEN)) = .ok i → ((s.tick now).atWrite req 0x7FFFF data).candidateRej i = none → Completes
    (.chorLoad now req data) s fun t => t.chor.pend = some i.bytes ∧ t.get R.SYS_CHOR_ST.STATE = 2 ∧ t.get
    R.SYS_CHOR_ST.CODE = 0 ∧ t.live = s.live ∧ s.Logs L.CHOR_LOADED 0 0 t) ∧
  (∀ (now : Nat) (req : Requester) (data : Word) (bytes : List Byte) (i : Img) (s : State), s.Running → s.AsksChor req
    data 2 → (s.chor.bare = true → req = .host) → (s.isPaired && s.isFollow) = false → s.chor.pend = some bytes →
    s.checkImage bytes = .ok i → s.get R.SYS_CHOR_ST.CLASS ≠ 0 → (s.chor.force = none ∨ s.get R.SYS_CHOR_SERIAL.SERIAL
    < i.serial) → (s.get R.SYS_CHOR_ST.CLASS = 2 → s.isPaired = false) → Completes (.chorApply now req data) s fun t
    => t.get R.SYS_CHOR_ST.STATE = 3 ∧ t.get R.SYS_CHOR_ST.CODE = 0 ∧ t.chor.b = some (((s.tick now).twoAhead *
    s.cycleU : Nat) : Int) ∧ t.live = s.live) ∧
  (∀ (now : Nat) (req : Requester) (data : Word) (s : State), s.Running → s.AsksChor req data 4 → s.chor.pend.isSome =
    true → Completes (.chorDiscard now req data) s fun t => t.chor.pend = none ∧ t.get R.SYS_CHOR_ST.STATE = 0 ∧ t.get
    R.SYS_CHOR_ST.CODE = 0 ∧ t.live = s.live) ∧
  (∀ (now : Nat) (b : Int) (bytes : List Byte) (i : Img) (s : State), s.Running → s.applying = true → s.chor.b = some
    b → s.chor.pend = some bytes → s.chor.tiles = 0 → b ≤ ((s.time.cycleIdx * s.cycleU : Nat) : Int) → s.checkImage
    bytes = .ok i → ((s.tick now).candidate i).firstRej groupCommit = none → (s.get R.SYS_CHOR_ST.CLASS = 2 ∨ ∀ k :
    Fin 4, (s.tile k).framed = false) → Completes (.chorApplyBoundary now) s fun t => t.chor.force = some i.bytes ∧
    t.chor.pend = none ∧ t.get R.SYS_CHOR_ST.STATE = 0 ∧ t.get R.SYS_CHOR_ST.CODE = 0) ∧
  (∀ (now : Nat) (slot : Nat) (b : List Byte) (s : State), s.Running → s.chor.toStore = some slot → s.chor.force =
    some b → b.length ≤ 0x100000 → Completes (.chorStore now true) s fun t => t.chor.toStore = none ∧ t.get
    R.SYS_CHOR_ST.STORED = 1 ∧ t.flashRead (flChor slot) b.length = b)

/-- With a command at the front of its queue, one step of the hub is exec of that command on the state with the
queue's rest; with an empty queue the hub idles and the state stays (log entry 1, the model's choice). -/
def Obligations.StepTakesFront : Prop :=
  (∀ (c : Instr) (rest : List Instr) (s : State), s.pending = c :: rest → step s = exec c { s with pending := rest }) ∧
  (∀ s : State, s.pending = [] → step s = .next s)

/-- Right after reset no reset source is active and the hub runs, in stage reset with an empty queue of commands; the
DRAM window lists nothing, is in its canonical form and reads as 0 (log entry 4, the model's choice); window 0
covers the whole address space for PL0 read and write alone and windows 1 to 31 are off; the daymark registers are
0; nothing is pending, in use or in the event log. -/
def Obligations.ResetState : Prop :=
  State.reset.Running ∧ State.reset.sys.stage = .reset ∧ State.reset.pending = [] ∧
  Memory.wf State.reset.dram = true ∧ (∀ a, State.reset.dramByte a = 0) ∧
  (∀ (q : Requester) (a n : Nat) (wr : Bool), a + n ≤ 2 ^ 36 → 0 < n → State.reset.permits q a n wr = q.isPl0) ∧
  (∀ w : Fin 32, State.reset.on (R.PROT_LIMIT.EN w) = decide (w = 0)) ∧
  (∀ k : Fin 8, State.reset.getBytes (R.SEC_DM.DM k) 12 = List.replicate 48 0) ∧
  State.reset.commits = {} ∧ State.reset.live = [] ∧ State.reset.log = []

/-- If the bytes of the DRAM window are in canonical form (addresses strictly rising, no byte listed that an unlisted
address reads as) and lie within the 8 GiB of DRAM, they do so after every step, whatever the command; right after
reset they do. -/
def Obligations.DramStaysCanonical : Prop :=
  (∀ s t : State, Memory.wf s.dram = true → (∀ e ∈ s.dram, e.1 < dramBytes) → step s = .next t →
    Memory.wf t.dram = true ∧ ∀ e ∈ t.dram, e.1 < dramBytes) ∧
  (Memory.wf State.reset.dram = true ∧ ∀ e ∈ State.reset.dram, e.1 < dramBytes)

/-- In every state, one step of the hub answers a next state: the rules give every command an effect in every state,
so no step faults or is refused. The step takes exactly the front command from the queue, and local time never runs
back. -/
def Obligations.StepsComplete : Prop :=
  ∀ s : State, ∃ t, step s = .next t ∧ t.pending = s.pending.tail ∧ s.now ≤ t.now

/-- Whatever the command and the state, every bit of the fuse array that is 1 before a step is 1 after it: the fuses
are changed by burning alone. -/
def Obligations.FusesOnlyBurn : Prop :=
  ∀ s t : State, step s = .next t → ∀ a, Tbl.get 0 s.fuse a &&& Tbl.get 0 t.fuse a = Tbl.get 0 s.fuse a

/-- Every command outside the list mayDram leaves every byte of the DRAM window as it was, and so does a
REGISTER_WRITE of a register; every command that is neither wide nor in the list mayFuse leaves the fuse array, and
every one neither wide nor in mayFlash the boot flash. -/
def Obligations.MemoriesKept : Prop :=
  (∀ (i : Instr) (s t : State), i.mayDram = false → exec i s = .next t → t.dram = s.dram) ∧
  (∀ (now : Nat) (q : Requester) (a data : Nat) (ph : Phys) (h : RegHit) (s t : State), a % 4 = 0 → regAt? a = some h →
    exec (.registerWrite now q a 4 data ph) s = .next t → t.dram = s.dram) ∧
  (∀ (i : Instr) (s t : State), i.wide = false → i.mayFuse = false → exec i s = .next t → t.fuse = s.fuse) ∧
  (∀ (i : Instr) (s t : State), i.wide = false → i.mayFlash = false → exec i s = .next t → t.flash = s.flash)

/-- Every command that is not wide leaves the configuration in use (the words in use of RWS fields), the write-only
keys, the pending commits, the filter chains, the calibration unit and the choreography as they were, unless it
stands in the list of commands that may change that part. -/
def Obligations.ConfigurationKept : Prop :=
  ∀ (i : Instr) (s t : State), i.wide = false → exec i s = .next t →
    (i.mayLive = false → t.live = s.live) ∧ (i.mayKeys = false → t.wo = s.wo) ∧ (i.mayCommits = false → t.commits = s.commits) ∧
    (i.mayChains = false → t.chains = s.chains) ∧ (i.mayCal = false → t.cal = s.cal) ∧ (i.mayChor = false → t.chor = s.chor)

/-- Every command that is not wide leaves the reset and start-up state, the host port and management engine, the
latches of requesters, the trust and update unit, the digital inputs and outputs, the compression engines, the
tiles, and the time and tempo bases as they were, unless it stands in the list of commands that may change that
part. -/
def Obligations.UnitsKept : Prop :=
  ∀ (i : Instr) (s t : State), i.wide = false → exec i s = .next t →
    (i.maySys = false → t.sys = s.sys) ∧ (i.mayHost = false → t.host = s.host) ∧ (i.mayLatch = false → t.latch = s.latch) ∧
    (i.maySec = false → t.sec = s.sec) ∧ (i.mayDio = false → t.dio = s.dio) ∧ (i.mayCmp = false → t.cmp = s.cmp) ∧
    (i.mayTiles = false → t.tiles = s.tiles) ∧ (i.mayTime = false → t.time = s.time)

/-- Every command that is not wide leaves the answers to requesters, the safety functions, the pair link, the
monitors, the streams with their queues and the history, the ports and their links, and the event log as they were,
unless it stands in the list of commands that may change that part. -/
def Obligations.OthersKept : Prop :=
  ∀ (i : Instr) (s t : State), i.wide = false → exec i s = .next t →
    (i.mayResp = false → t.resp = s.resp) ∧ (i.maySafe = false → t.safe = s.safe) ∧ (i.mayPair = false → t.pair = s.pair) ∧
    (i.mayMon = false → t.mon = s.mon) ∧ (i.mayStrm = false → t.strm = s.strm) ∧ (i.mayPorts = false → t.ports = s.ports) ∧
    (i.mayLog = false → t.log = s.log)

/-- THERMAL_RESET, the event that a junction reaches 120 °C, puts the hub in a warm reset with cause THERMAL. While
that source is active, no command but THERMAL_RECOVERY, the event that every junction is below 100 °C, ends it, and
the hub stays in reset; THERMAL_RECOVERY ends it. -/
def Obligations.ThermalResetHolds : Prop :=
  (∀ (now : Nat) (s : State), s.sys.thermal = false →
    Completes (.thermalReset now) s fun t => t.sys.thermal = true ∧ s.WarmFrom 7 t) ∧
  (∀ (i : Instr) (s t : State), s.sys.thermal = true → s.sys.stage = .reset → (∀ now, i ≠ .thermalRecovery now) →
    exec i s = .next t → t.sys.thermal = true ∧ t.sys.stage = .reset) ∧
  (∀ (now : Nat) (s : State), Completes (.thermalRecovery now) s fun t => t.sys.thermal = false ∧ t.sys.stage = s.sys.stage)

/-- RESET_N_ASSERT of a low pulse shorter than 1 µs has no effect. One of 10 µs or longer causes a warm reset with the
pin's cause. One in between either has no effect or causes the same complete warm reset as a pulse of 10 µs does,
and never resets part of the hub: it leaves what that reset leaves in everything but which source is active. -/
def Obligations.ResetPinPulses : Prop :=
  (∀ (now ns : Nat) (s : State), ns < 1000 → exec (.resetNAssert now ns) s = .next (s.tick now)) ∧
  (∀ (now ns : Nat) (s : State), 10000 ≤ ns → s.sys.pinLow = false →
    Completes (.resetNAssert now ns) s fun t => t.sys.pinLow = true ∧ s.WarmFrom 2 t) ∧
  (∀ (now ns : Nat) (s : State), 1000 ≤ ns → ns < 10000 → s.sys.pinLow = false →
    Completes (.resetNAssert now ns) s fun t =>
      t = { s.tick now with fresh := s.fresh + 1 } ∨
      t.sys.pulse = true ∧ s.WarmFrom 2 t ∧
        Completes (.resetNAssert now 10000) { s with fresh := s.fresh + 1 } fun u => { t with sys := u.sys } = u)

/-- An access is permitted exactly when PL0 reaches the PROT block with it, or the lowest-numbered enabled window
whose range holds its first byte holds its last byte too and has the PERM bit of its class and direction set. A
denied read of any register but those of recovery, which answer by a rule of their own, returns 0 with an error
response, counts in the counter of its class and keeps its address; a denied write of a core, or of anyone at an
address that no register holds, ends with an error response. A denial changes nothing but these counters, the kept
address, the note of PROT_DENY for this control cycle and the answer. -/
def Obligations.ProtectionDecides : Prop :=
  (∀ (s : State) (q : Requester) (a n : Nat) (wr : Bool), 0 < n →
    (s.permits q a n wr = true ↔
      (q.isPl0 = true ∧ inProt a = true ∧ inProt (a + n - 1) = true) ∨
      ∃ w, w < 32 ∧ s.holds w a ∧ (∀ v, v < w → ¬ s.holds v a) ∧ s.holds w (a + n - 1) ∧
        hasBit (s.get (R.PROT_PERM.PERM w)) (2 * q.cls + (if wr then 1 else 0)) = true)) ∧
  (∀ (now : Nat) (q : Requester) (a size : Nat) (s : State), s.Running → s.permits q a size false = false →
    (∀ h, regAt? a = some h → isRecovery h = false) →
    Completes (.rocRead now q a size) s fun t =>
      Tbl.get {} t.resp q.no = { err := true, data := 0 } ∧
      t.get (R.PROT_DENY.COUNT q.cls) = satAdd (R.PROT_DENY.COUNT q.cls).w (s.get (R.PROT_DENY.COUNT q.cls)) 1 ∧
      t.get R.PROT_LASTL.ADDR = a % 2 ^ 32 ∧ (Tbl.get none t.cyc L.PROT_DENY).isSome = true ∧ agreeBut denyRegs s t ∧
      { t with now := s.now, regs := s.regs, cyc := s.cyc, resp := s.resp } = s) ∧
  (∀ (now : Nat) (q : Requester) (a size data : Nat) (ph : Phys) (s : State), s.Running → s.permits q a size true = false →
    (q.cls < 4 ∨ regAt? a = none) →
    Completes (.registerWrite now q a size data ph) s fun t =>
      (Tbl.get {} t.resp q.no).err = true ∧ agreeBut denyRegs s t ∧
      { t with now := s.now, regs := s.regs, cyc := s.cyc, resp := s.resp } = s)

/-- A permitted read or write outside the DRAM window that is no naturally aligned 32-bit access completes with an
error response, is counted in ALIGN of its requester's SYS_REQERR register and changes nothing else; an aligned one
at an address that no register holds does the same with UNMAPPED. -/
def Obligations.BadAccesses : Prop :=
  ∀ (now : Nat) (q : Requester) (a size data : Nat) (ph : Phys) (wr : Bool) (f : FldAt) (s : State), s.Running →
    s.permits q a size wr = true → dramOffset? a size = none →
    ((a % 4 ≠ 0 ∨ size ≠ 4) ∧ f = R.SYS_REQERR.ALIGN q.no ∨
      a % 4 = 0 ∧ size = 4 ∧ regAt? a = none ∧ f = R.SYS_REQERR.UNMAPPED q.no) →
    Completes (if wr then .registerWrite now q a size data ph else .rocRead now q a size) s fun t =>
      Tbl.get {} t.resp q.no = { err := true, data := 0 } ∧ t.get f = satAdd f.w (s.get f) 1 ∧
      agreeBut [f.reg.addr] s t ∧ { t with now := s.now, regs := s.regs, resp := s.resp } = s

/-- Two steps whose PHASE is below their EVERY execute in a common frame exactly when their phases agree modulo the
greatest common divisor of their EVERY values, and the commit check of a tile rejects a step table that holds two
enabled steps, at different places, that name the same channel and execute in a common frame. -/
def Obligations.CommonFrame : Prop :=
  (∀ a b : Step, a.phase < a.every → b.phase < b.every →
    ((∃ f, a.runs f = true ∧ b.runs f = true) ↔ a.phase % Nat.gcd a.every b.every = b.phase % Nat.gcd a.every b.every)) ∧
  (∀ (old v : View) (t i j : Nat) (paired : Bool) (a b : Step), i < j → (stepsOf v t)[i]? = some a → (stepsOf v t)[j]? = some b →
    a.src = b.src → a.src < 96 → (∃ f, a.runs f = true ∧ b.runs f = true) → (tileRow old v t paired).isSome = true)

/-- Compressing an empty input gives, in both modes, with room for it, the member whose DEFLATE data is 03 00 and
whose CRC32 and ISIZE are 0: without a pre-shuffle 20 bytes, 1F 8B 08 and five zero bytes, XFL, FF, 03 00 and eight
zero bytes; with one of the pre-shuffles 1 to 3, 34 bytes, the extra field of Table 9.2 with ORIGCRC 0 between. -/
def Obligations.EmptyMember : Prop :=
  (∀ (dense : Bool) (stride space : Nat), 20 ≤ space →
    compress dense 0 stride [] space =
      { code := 0, consumed := 0,
        out := [0x1F, 0x8B, 8, 0, 0, 0, 0, 0, if dense then 2 else 4, 0xFF, 3, 0, 0, 0, 0, 0, 0, 0, 0, 0] }) ∧
  (∀ (dense : Bool) (shuf stride space : Nat), 1 ≤ shuf → shuf ≤ 3 → 1 ≤ stride → stride ≤ 512 → 34 ≤ space →
    compress dense shuf stride [] space =
      { code := 0, consumed := 0,
        out := [0x1F, 0x8B, 8, 4, 0, 0, 0, 0, if dense then 2 else 4, 0xFF, 12, 0, 0x47, 0x50, 8, 0, 1, BitVec.ofNat 8 shuf,
          BitVec.ofNat 8 stride, BitVec.ofNat 8 (stride / 256), 0, 0, 0, 0, 3, 0, 0, 0, 0, 0, 0, 0, 0, 0] })

/-- Logging an event whose severity is below MINSEV, that is no FAULT and not of group 0x09, only counts it in
FILTERED; every other event is stored as the newest entry with its code, severity, entity, detail and data, and
raises the log position by one. A stored entry of severity HINTSEV or above sets cause LOG in SYS_HINTST, and no
other one does. HINT_N is low exactly while SYS_HINTST AND SYS_HINTEN is not 0. -/
def Obligations.LogStores : Prop :=
  (∀ (s : State) (code kind index detail data : Nat), ¬ s.stores code →
    s.log1 code kind index detail data = s.bump R.LOG_CNT.FILTERED) ∧
  (∀ (s : State) (code kind index detail data : Nat) (e : LogEntry) (t : State), s.stores code →
    t = s.log1 code kind index detail data → e = t.newestEntry →
    e.code = code ∧ e.sev = L.severity code ∧ e.kind = kind ∧ e.index = index ∧ e.detail = detail ∧ e.data = data ∧
    e.seq = s.get R.LOG_HEAD.SEQ ∧ t.get R.LOG_HEAD.SEQ = (s.get R.LOG_HEAD.SEQ + 1) % 2 ^ 32 ∧
    hasBit (t.get R.SYS_HINTST.CAUSE) 0 =
      (hasBit (s.get R.SYS_HINTST.CAUSE) 0 || decide (s.get R.LOG_CFG.HINTSEV ≤ L.severity code)) ∧
    agreeBut logRegs s t) ∧
  (∀ s : State, s.hintLow = true ↔ s.get R.SYS_HINTST.CAUSE &&& s.get R.SYS_HINTEN.EN ≠ 0)

/-- Each command of commits, of the trust unit, of recovery, each event that only logs or touches no register (the
list regsControl) and each read command (the list regsReads: the register read if it clears, the latches of reads,
the counters of denials and errors) leaves every register but those that its list names exactly as it was, in every
state in which it answers a next state. -/
def Obligations.ControlAndReadRegisters : Prop :=
  (∀ (i : Instr) (l : List Nat) (s t : State), i.regsControl = some l → exec i s = .next t → agreeBut l s t) ∧
  (∀ (i : Instr) (l : List Nat) (s t : State), i.regsReads = some l → exec i s = .next t → agreeBut l s t)

/-- Each event and command of the bases, tempos, streams, outputs, tiles and calibration that the list names leaves
every register but those that regsField lists for it exactly as it was, when it answers a next state: their fields
of every type (Table 0.3), in every block, in every state. -/
def Obligations.FieldRegisters : Prop :=
  ∀ (i : Instr) (l : List Nat) (s t : State), i.regsField = some l → exec i s = .next t → agreeBut l s t

/-- Each frame received or sent, monitor interval and compression job command that the list names leaves every
register but those that regsLink lists for it exactly as it was, when it answers a next state: their fields of every
type (Table 0.3), in every block, in every state. -/
def Obligations.LinkRegisters : Prop :=
  ∀ (i : Instr) (l : List Nat) (s t : State), i.regsLink = some l → exec i s = .next t → agreeBut l s t

/-- Each event of the safety functions and of the pair link that the list names leaves every register but those that
regsSafety lists for it exactly as it was, when it answers a next state: their fields of every type (Table 0.3), in
every block, in every state. -/
def Obligations.SafetyRegisters : Prop :=
  ∀ (i : Instr) (l : List Nat) (s t : State), i.regsSafety = some l → exec i s = .next t → agreeBut l s t
end

