-- ==== Sys2Proof/Laws/Bits.lean ====
section
/-! SUPPORT. Laws of bit fields of a word: a field reads what was written to it, and keeps its value when a field beside
it is written. -/

namespace Sys2Proof.Machine

theorem fget_lt (w : Word) (lo n : Nat) : fget w lo n < 2 ^ n := Nat.mod_lt _ (Nat.two_pow_pos n)

theorem fget_testBit (w : Word) (lo n i : Nat) : (fget w lo n).testBit i = (decide (i < n) && w.getLsbD (lo + i)) := by
  simp [fget, Nat.testBit_mod_two_pow, Nat.testBit_div_two_pow, BitVec.getLsbD, Nat.add_comm]

theorem fieldMask_getLsbD (lo n i : Nat) :
    (fieldMask lo n).getLsbD i = (decide (i < 32) && decide (lo ≤ i) && decide (i - lo < n)) := by
  simp only [fieldMask, BitVec.getLsbD_ofNat, Nat.testBit_mul_two_pow, Nat.testBit_two_pow_sub_one]
  by_cases h : i < 32 <;> by_cases h2 : lo ≤ i <;> simp [h, h2]

theorem fset_getLsbD (w : Word) (lo n v i : Nat) : (fset w lo n v).getLsbD i =
    if i < 32 ∧ lo ≤ i ∧ i < lo + n then v.testBit (i - lo) else w.getLsbD i := by
  simp only [fset, BitVec.getLsbD_or, BitVec.getLsbD_and, BitVec.getLsbD_not, fieldMask_getLsbD, BitVec.getLsbD_ofNat,
    Nat.testBit_mul_two_pow, Nat.testBit_mod_two_pow]
  by_cases h : i < 32
  · by_cases h1 : lo ≤ i
    · by_cases h2 : i - lo < n
      · have h3 : i < lo + n := by omega
        simp [h, h1, h2, h3]
      · have h3 : ¬ i < lo + n := by omega
        simp [h, h1, h2, h3]
    · simp [h, h1]
  · simp [h, BitVec.getLsbD_of_ge w i (by omega)]

/-- A field reads the low bits of what was written to it. -/
theorem fget_fset_self (w : Word) {lo n : Nat} (v : Nat) (h : lo + n ≤ 32) : fget (fset w lo n v) lo n = v % 2 ^ n := by
  apply Nat.eq_of_testBit_eq
  intro i
  rw [fget_testBit, fset_getLsbD, Nat.testBit_mod_two_pow]
  by_cases hi : i < n
  · have : lo + i < 32 ∧ lo ≤ lo + i ∧ lo + i < lo + n := ⟨by omega, by omega, by omega⟩
    simp [hi, this]
  · simp [hi]

/-- A field keeps its value when another one of the word is written. -/
theorem fget_fset_other (w : Word) {lo n lo' n' : Nat} (v : Nat) (h : lo' + n' ≤ lo ∨ lo + n ≤ lo') :
    fget (fset w lo n v) lo' n' = fget w lo' n' := by
  apply Nat.eq_of_testBit_eq
  intro i
  rw [fget_testBit, fget_testBit, fset_getLsbD]
  by_cases hi : i < n'
  · have : ¬ (lo' + i < 32 ∧ lo ≤ lo' + i ∧ lo' + i < lo + n) := by omega
    simp [this]
  · simp [hi]

end Sys2Proof.Machine
end

