-- ==== Sys2Proof/Laws/State.lean ====
section
/-! SUPPORT. What each plain update of the state leaves as it was: one lemma for each field, true by definition. -/

namespace Sys2Proof.Machine

/-! setWord -/

@[simp] theorem State.setWord_now (s : State) (r : RegAt) (v : Word) : (s.setWord r v).now = s.now := rfl
@[simp] theorem State.setWord_fresh (s : State) (r : RegAt) (v : Word) : (s.setWord r v).fresh = s.fresh := rfl
@[simp] theorem State.setWord_pending (s : State) (r : RegAt) (v : Word) : (s.setWord r v).pending = s.pending := rfl
@[simp] theorem State.setWord_live (s : State) (r : RegAt) (v : Word) : (s.setWord r v).live = s.live := rfl
@[simp] theorem State.setWord_wo (s : State) (r : RegAt) (v : Word) : (s.setWord r v).wo = s.wo := rfl
@[simp] theorem State.setWord_log (s : State) (r : RegAt) (v : Word) : (s.setWord r v).log = s.log := rfl
@[simp] theorem State.setWord_cyc (s : State) (r : RegAt) (v : Word) : (s.setWord r v).cyc = s.cyc := rfl
@[simp] theorem State.setWord_resp (s : State) (r : RegAt) (v : Word) : (s.setWord r v).resp = s.resp := rfl
@[simp] theorem State.setWord_dram (s : State) (r : RegAt) (v : Word) : (s.setWord r v).dram = s.dram := rfl
@[simp] theorem State.setWord_sys (s : State) (r : RegAt) (v : Word) : (s.setWord r v).sys = s.sys := rfl
@[simp] theorem State.setWord_commits (s : State) (r : RegAt) (v : Word) : (s.setWord r v).commits = s.commits := rfl
@[simp] theorem State.setWord_time (s : State) (r : RegAt) (v : Word) : (s.setWord r v).time = s.time := rfl
@[simp] theorem State.setWord_dio (s : State) (r : RegAt) (v : Word) : (s.setWord r v).dio = s.dio := rfl
@[simp] theorem State.setWord_strm (s : State) (r : RegAt) (v : Word) : (s.setWord r v).strm = s.strm := rfl
@[simp] theorem State.setWord_ports (s : State) (r : RegAt) (v : Word) : (s.setWord r v).ports = s.ports := rfl
@[simp] theorem State.setWord_mon (s : State) (r : RegAt) (v : Word) : (s.setWord r v).mon = s.mon := rfl
@[simp] theorem State.setWord_cmp (s : State) (r : RegAt) (v : Word) : (s.setWord r v).cmp = s.cmp := rfl
@[simp] theorem State.setWord_latch (s : State) (r : RegAt) (v : Word) : (s.setWord r v).latch = s.latch := rfl
@[simp] theorem State.setWord_tiles (s : State) (r : RegAt) (v : Word) : (s.setWord r v).tiles = s.tiles := rfl
@[simp] theorem State.setWord_chains (s : State) (r : RegAt) (v : Word) : (s.setWord r v).chains = s.chains := rfl
@[simp] theorem State.setWord_cal (s : State) (r : RegAt) (v : Word) : (s.setWord r v).cal = s.cal := rfl
@[simp] theorem State.setWord_fuse (s : State) (r : RegAt) (v : Word) : (s.setWord r v).fuse = s.fuse := rfl
@[simp] theorem State.setWord_safe (s : State) (r : RegAt) (v : Word) : (s.setWord r v).safe = s.safe := rfl
@[simp] theorem State.setWord_pair (s : State) (r : RegAt) (v : Word) : (s.setWord r v).pair = s.pair := rfl
@[simp] theorem State.setWord_sec (s : State) (r : RegAt) (v : Word) : (s.setWord r v).sec = s.sec := rfl
@[simp] theorem State.setWord_chor (s : State) (r : RegAt) (v : Word) : (s.setWord r v).chor = s.chor := rfl
@[simp] theorem State.setWord_host (s : State) (r : RegAt) (v : Word) : (s.setWord r v).host = s.host := rfl
@[simp] theorem State.setWord_flash (s : State) (r : RegAt) (v : Word) : (s.setWord r v).flash = s.flash := rfl

/-! setLive -/

@[simp] theorem State.setLive_now (s : State) (r : RegAt) (v : Word) : (s.setLive r v).now = s.now := rfl
@[simp] theorem State.setLive_fresh (s : State) (r : RegAt) (v : Word) : (s.setLive r v).fresh = s.fresh := rfl
@[simp] theorem State.setLive_pending (s : State) (r : RegAt) (v : Word) : (s.setLive r v).pending = s.pending := rfl
@[simp] theorem State.setLive_regs (s : State) (r : RegAt) (v : Word) : (s.setLive r v).regs = s.regs := rfl
@[simp] theorem State.setLive_wo (s : State) (r : RegAt) (v : Word) : (s.setLive r v).wo = s.wo := rfl
@[simp] theorem State.setLive_log (s : State) (r : RegAt) (v : Word) : (s.setLive r v).log = s.log := rfl
@[simp] theorem State.setLive_cyc (s : State) (r : RegAt) (v : Word) : (s.setLive r v).cyc = s.cyc := rfl
@[simp] theorem State.setLive_resp (s : State) (r : RegAt) (v : Word) : (s.setLive r v).resp = s.resp := rfl
@[simp] theorem State.setLive_dram (s : State) (r : RegAt) (v : Word) : (s.setLive r v).dram = s.dram := rfl
@[simp] theorem State.setLive_sys (s : State) (r : RegAt) (v : Word) : (s.setLive r v).sys = s.sys := rfl
@[simp] theorem State.setLive_commits (s : State) (r : RegAt) (v : Word) : (s.setLive r v).commits = s.commits := rfl
@[simp] theorem State.setLive_time (s : State) (r : RegAt) (v : Word) : (s.setLive r v).time = s.time := rfl
@[simp] theorem State.setLive_dio (s : State) (r : RegAt) (v : Word) : (s.setLive r v).dio = s.dio := rfl
@[simp] theorem State.setLive_strm (s : State) (r : RegAt) (v : Word) : (s.setLive r v).strm = s.strm := rfl
@[simp] theorem State.setLive_ports (s : State) (r : RegAt) (v : Word) : (s.setLive r v).ports = s.ports := rfl
@[simp] theorem State.setLive_mon (s : State) (r : RegAt) (v : Word) : (s.setLive r v).mon = s.mon := rfl
@[simp] theorem State.setLive_cmp (s : State) (r : RegAt) (v : Word) : (s.setLive r v).cmp = s.cmp := rfl
@[simp] theorem State.setLive_latch (s : State) (r : RegAt) (v : Word) : (s.setLive r v).latch = s.latch := rfl
@[simp] theorem State.setLive_tiles (s : State) (r : RegAt) (v : Word) : (s.setLive r v).tiles = s.tiles := rfl
@[simp] theorem State.setLive_chains (s : State) (r : RegAt) (v : Word) : (s.setLive r v).chains = s.chains := rfl
@[simp] theorem State.setLive_cal (s : State) (r : RegAt) (v : Word) : (s.setLive r v).cal = s.cal := rfl
@[simp] theorem State.setLive_fuse (s : State) (r : RegAt) (v : Word) : (s.setLive r v).fuse = s.fuse := rfl
@[simp] theorem State.setLive_safe (s : State) (r : RegAt) (v : Word) : (s.setLive r v).safe = s.safe := rfl
@[simp] theorem State.setLive_pair (s : State) (r : RegAt) (v : Word) : (s.setLive r v).pair = s.pair := rfl
@[simp] theorem State.setLive_sec (s : State) (r : RegAt) (v : Word) : (s.setLive r v).sec = s.sec := rfl
@[simp] theorem State.setLive_chor (s : State) (r : RegAt) (v : Word) : (s.setLive r v).chor = s.chor := rfl
@[simp] theorem State.setLive_host (s : State) (r : RegAt) (v : Word) : (s.setLive r v).host = s.host := rfl
@[simp] theorem State.setLive_flash (s : State) (r : RegAt) (v : Word) : (s.setLive r v).flash = s.flash := rfl

/-! put -/

@[simp] theorem State.put_now (s : State) (f : FldAt) (v : Nat) : (s.put f v).now = s.now := rfl
@[simp] theorem State.put_fresh (s : State) (f : FldAt) (v : Nat) : (s.put f v).fresh = s.fresh := rfl
@[simp] theorem State.put_pending (s : State) (f : FldAt) (v : Nat) : (s.put f v).pending = s.pending := rfl
@[simp] theorem State.put_live (s : State) (f : FldAt) (v : Nat) : (s.put f v).live = s.live := rfl
@[simp] theorem State.put_wo (s : State) (f : FldAt) (v : Nat) : (s.put f v).wo = s.wo := rfl
@[simp] theorem State.put_log (s : State) (f : FldAt) (v : Nat) : (s.put f v).log = s.log := rfl
@[simp] theorem State.put_cyc (s : State) (f : FldAt) (v : Nat) : (s.put f v).cyc = s.cyc := rfl
@[simp] theorem State.put_resp (s : State) (f : FldAt) (v : Nat) : (s.put f v).resp = s.resp := rfl
@[simp] theorem State.put_dram (s : State) (f : FldAt) (v : Nat) : (s.put f v).dram = s.dram := rfl
@[simp] theorem State.put_sys (s : State) (f : FldAt) (v : Nat) : (s.put f v).sys = s.sys := rfl
@[simp] theorem State.put_commits (s : State) (f : FldAt) (v : Nat) : (s.put f v).commits = s.commits := rfl
@[simp] theorem State.put_time (s : State) (f : FldAt) (v : Nat) : (s.put f v).time = s.time := rfl
@[simp] theorem State.put_dio (s : State) (f : FldAt) (v : Nat) : (s.put f v).dio = s.dio := rfl
@[simp] theorem State.put_strm (s : State) (f : FldAt) (v : Nat) : (s.put f v).strm = s.strm := rfl
@[simp] theorem State.put_ports (s : State) (f : FldAt) (v : Nat) : (s.put f v).ports = s.ports := rfl
@[simp] theorem State.put_mon (s : State) (f : FldAt) (v : Nat) : (s.put f v).mon = s.mon := rfl
@[simp] theorem State.put_cmp (s : State) (f : FldAt) (v : Nat) : (s.put f v).cmp = s.cmp := rfl
@[simp] theorem State.put_latch (s : State) (f : FldAt) (v : Nat) : (s.put f v).latch = s.latch := rfl
@[simp] theorem State.put_tiles (s : State) (f : FldAt) (v : Nat) : (s.put f v).tiles = s.tiles := rfl
@[simp] theorem State.put_chains (s : State) (f : FldAt) (v : Nat) : (s.put f v).chains = s.chains := rfl
@[simp] theorem State.put_cal (s : State) (f : FldAt) (v : Nat) : (s.put f v).cal = s.cal := rfl
@[simp] theorem State.put_fuse (s : State) (f : FldAt) (v : Nat) : (s.put f v).fuse = s.fuse := rfl
@[simp] theorem State.put_safe (s : State) (f : FldAt) (v : Nat) : (s.put f v).safe = s.safe := rfl
@[simp] theorem State.put_pair (s : State) (f : FldAt) (v : Nat) : (s.put f v).pair = s.pair := rfl
@[simp] theorem State.put_sec (s : State) (f : FldAt) (v : Nat) : (s.put f v).sec = s.sec := rfl
@[simp] theorem State.put_chor (s : State) (f : FldAt) (v : Nat) : (s.put f v).chor = s.chor := rfl
@[simp] theorem State.put_host (s : State) (f : FldAt) (v : Nat) : (s.put f v).host = s.host := rfl
@[simp] theorem State.put_flash (s : State) (f : FldAt) (v : Nat) : (s.put f v).flash = s.flash := rfl

/-! putBoth -/

@[simp] theorem State.putBoth_now (s : State) (f : FldAt) (v : Nat) : (s.putBoth f v).now = s.now := rfl
@[simp] theorem State.putBoth_fresh (s : State) (f : FldAt) (v : Nat) : (s.putBoth f v).fresh = s.fresh := rfl
@[simp] theorem State.putBoth_pending (s : State) (f : FldAt) (v : Nat) : (s.putBoth f v).pending = s.pending := rfl
@[simp] theorem State.putBoth_wo (s : State) (f : FldAt) (v : Nat) : (s.putBoth f v).wo = s.wo := rfl
@[simp] theorem State.putBoth_log (s : State) (f : FldAt) (v : Nat) : (s.putBoth f v).log = s.log := rfl
@[simp] theorem State.putBoth_cyc (s : State) (f : FldAt) (v : Nat) : (s.putBoth f v).cyc = s.cyc := rfl
@[simp] theorem State.putBoth_resp (s : State) (f : FldAt) (v : Nat) : (s.putBoth f v).resp = s.resp := rfl
@[simp] theorem State.putBoth_dram (s : State) (f : FldAt) (v : Nat) : (s.putBoth f v).dram = s.dram := rfl
@[simp] theorem State.putBoth_sys (s : State) (f : FldAt) (v : Nat) : (s.putBoth f v).sys = s.sys := rfl
@[simp] theorem State.putBoth_commits (s : State) (f : FldAt) (v : Nat) : (s.putBoth f v).commits = s.commits := rfl
@[simp] theorem State.putBoth_time (s : State) (f : FldAt) (v : Nat) : (s.putBoth f v).time = s.time := rfl
@[simp] theorem State.putBoth_dio (s : State) (f : FldAt) (v : Nat) : (s.putBoth f v).dio = s.dio := rfl
@[simp] theorem State.putBoth_strm (s : State) (f : FldAt) (v : Nat) : (s.putBoth f v).strm = s.strm := rfl
@[simp] theorem State.putBoth_ports (s : State) (f : FldAt) (v : Nat) : (s.putBoth f v).ports = s.ports := rfl
@[simp] theorem State.putBoth_mon (s : State) (f : FldAt) (v : Nat) : (s.putBoth f v).mon = s.mon := rfl
@[simp] theorem State.putBoth_cmp (s : State) (f : FldAt) (v : Nat) : (s.putBoth f v).cmp = s.cmp := rfl
@[simp] theorem State.putBoth_latch (s : State) (f : FldAt) (v : Nat) : (s.putBoth f v).latch = s.latch := rfl
@[simp] theorem State.putBoth_tiles (s : State) (f : FldAt) (v : Nat) : (s.putBoth f v).tiles = s.tiles := rfl
@[simp] theorem State.putBoth_chains (s : State) (f : FldAt) (v : Nat) : (s.putBoth f v).chains = s.chains := rfl
@[simp] theorem State.putBoth_cal (s : State) (f : FldAt) (v : Nat) : (s.putBoth f v).cal = s.cal := rfl
@[simp] theorem State.putBoth_fuse (s : State) (f : FldAt) (v : Nat) : (s.putBoth f v).fuse = s.fuse := rfl
@[simp] theorem State.putBoth_safe (s : State) (f : FldAt) (v : Nat) : (s.putBoth f v).safe = s.safe := rfl
@[simp] theorem State.putBoth_pair (s : State) (f : FldAt) (v : Nat) : (s.putBoth f v).pair = s.pair := rfl
@[simp] theorem State.putBoth_sec (s : State) (f : FldAt) (v : Nat) : (s.putBoth f v).sec = s.sec := rfl
@[simp] theorem State.putBoth_chor (s : State) (f : FldAt) (v : Nat) : (s.putBoth f v).chor = s.chor := rfl
@[simp] theorem State.putBoth_host (s : State) (f : FldAt) (v : Nat) : (s.putBoth f v).host = s.host := rfl
@[simp] theorem State.putBoth_flash (s : State) (f : FldAt) (v : Nat) : (s.putBoth f v).flash = s.flash := rfl

/-! bump -/

@[simp] theorem State.bump_now (s : State) (f : FldAt) (n : Nat) : (s.bump f n).now = s.now := rfl
@[simp] theorem State.bump_fresh (s : State) (f : FldAt) (n : Nat) : (s.bump f n).fresh = s.fresh := rfl
@[simp] theorem State.bump_pending (s : State) (f : FldAt) (n : Nat) : (s.bump f n).pending = s.pending := rfl
@[simp] theorem State.bump_live (s : State) (f : FldAt) (n : Nat) : (s.bump f n).live = s.live := rfl
@[simp] theorem State.bump_wo (s : State) (f : FldAt) (n : Nat) : (s.bump f n).wo = s.wo := rfl
@[simp] theorem State.bump_log (s : State) (f : FldAt) (n : Nat) : (s.bump f n).log = s.log := rfl
@[simp] theorem State.bump_cyc (s : State) (f : FldAt) (n : Nat) : (s.bump f n).cyc = s.cyc := rfl
@[simp] theorem State.bump_resp (s : State) (f : FldAt) (n : Nat) : (s.bump f n).resp = s.resp := rfl
@[simp] theorem State.bump_dram (s : State) (f : FldAt) (n : Nat) : (s.bump f n).dram = s.dram := rfl
@[simp] theorem State.bump_sys (s : State) (f : FldAt) (n : Nat) : (s.bump f n).sys = s.sys := rfl
@[simp] theorem State.bump_commits (s : State) (f : FldAt) (n : Nat) : (s.bump f n).commits = s.commits := rfl
@[simp] theorem State.bump_time (s : State) (f : FldAt) (n : Nat) : (s.bump f n).time = s.time := rfl
@[simp] theorem State.bump_dio (s : State) (f : FldAt) (n : Nat) : (s.bump f n).dio = s.dio := rfl
@[simp] theorem State.bump_strm (s : State) (f : FldAt) (n : Nat) : (s.bump f n).strm = s.strm := rfl
@[simp] theorem State.bump_ports (s : State) (f : FldAt) (n : Nat) : (s.bump f n).ports = s.ports := rfl
@[simp] theorem State.bump_mon (s : State) (f : FldAt) (n : Nat) : (s.bump f n).mon = s.mon := rfl
@[simp] theorem State.bump_cmp (s : State) (f : FldAt) (n : Nat) : (s.bump f n).cmp = s.cmp := rfl
@[simp] theorem State.bump_latch (s : State) (f : FldAt) (n : Nat) : (s.bump f n).latch = s.latch := rfl
@[simp] theorem State.bump_tiles (s : State) (f : FldAt) (n : Nat) : (s.bump f n).tiles = s.tiles := rfl
@[simp] theorem State.bump_chains (s : State) (f : FldAt) (n : Nat) : (s.bump f n).chains = s.chains := rfl
@[simp] theorem State.bump_cal (s : State) (f : FldAt) (n : Nat) : (s.bump f n).cal = s.cal := rfl
@[simp] theorem State.bump_fuse (s : State) (f : FldAt) (n : Nat) : (s.bump f n).fuse = s.fuse := rfl
@[simp] theorem State.bump_safe (s : State) (f : FldAt) (n : Nat) : (s.bump f n).safe = s.safe := rfl
@[simp] theorem State.bump_pair (s : State) (f : FldAt) (n : Nat) : (s.bump f n).pair = s.pair := rfl
@[simp] theorem State.bump_sec (s : State) (f : FldAt) (n : Nat) : (s.bump f n).sec = s.sec := rfl
@[simp] theorem State.bump_chor (s : State) (f : FldAt) (n : Nat) : (s.bump f n).chor = s.chor := rfl
@[simp] theorem State.bump_host (s : State) (f : FldAt) (n : Nat) : (s.bump f n).host = s.host := rfl
@[simp] theorem State.bump_flash (s : State) (f : FldAt) (n : Nat) : (s.bump f n).flash = s.flash := rfl

/-! putBit -/

@[simp] theorem State.putBit_now (s : State) (f : FldAt) (b : Bool) : (s.putBit f b).now = s.now := rfl
@[simp] theorem State.putBit_fresh (s : State) (f : FldAt) (b : Bool) : (s.putBit f b).fresh = s.fresh := rfl
@[simp] theorem State.putBit_pending (s : State) (f : FldAt) (b : Bool) : (s.putBit f b).pending = s.pending := rfl
@[simp] theorem State.putBit_live (s : State) (f : FldAt) (b : Bool) : (s.putBit f b).live = s.live := rfl
@[simp] theorem State.putBit_wo (s : State) (f : FldAt) (b : Bool) : (s.putBit f b).wo = s.wo := rfl
@[simp] theorem State.putBit_log (s : State) (f : FldAt) (b : Bool) : (s.putBit f b).log = s.log := rfl
@[simp] theorem State.putBit_cyc (s : State) (f : FldAt) (b : Bool) : (s.putBit f b).cyc = s.cyc := rfl
@[simp] theorem State.putBit_resp (s : State) (f : FldAt) (b : Bool) : (s.putBit f b).resp = s.resp := rfl
@[simp] theorem State.putBit_dram (s : State) (f : FldAt) (b : Bool) : (s.putBit f b).dram = s.dram := rfl
@[simp] theorem State.putBit_sys (s : State) (f : FldAt) (b : Bool) : (s.putBit f b).sys = s.sys := rfl
@[simp] theorem State.putBit_commits (s : State) (f : FldAt) (b : Bool) : (s.putBit f b).commits = s.commits := rfl
@[simp] theorem State.putBit_time (s : State) (f : FldAt) (b : Bool) : (s.putBit f b).time = s.time := rfl
@[simp] theorem State.putBit_dio (s : State) (f : FldAt) (b : Bool) : (s.putBit f b).dio = s.dio := rfl
@[simp] theorem State.putBit_strm (s : State) (f : FldAt) (b : Bool) : (s.putBit f b).strm = s.strm := rfl
@[simp] theorem State.putBit_ports (s : State) (f : FldAt) (b : Bool) : (s.putBit f b).ports = s.ports := rfl
@[simp] theorem State.putBit_mon (s : State) (f : FldAt) (b : Bool) : (s.putBit f b).mon = s.mon := rfl
@[simp] theorem State.putBit_cmp (s : State) (f : FldAt) (b : Bool) : (s.putBit f b).cmp = s.cmp := rfl
@[simp] theorem State.putBit_latch (s : State) (f : FldAt) (b : Bool) : (s.putBit f b).latch = s.latch := rfl
@[simp] theorem State.putBit_tiles (s : State) (f : FldAt) (b : Bool) : (s.putBit f b).tiles = s.tiles := rfl
@[simp] theorem State.putBit_chains (s : State) (f : FldAt) (b : Bool) : (s.putBit f b).chains = s.chains := rfl
@[simp] theorem State.putBit_cal (s : State) (f : FldAt) (b : Bool) : (s.putBit f b).cal = s.cal := rfl
@[simp] theorem State.putBit_fuse (s : State) (f : FldAt) (b : Bool) : (s.putBit f b).fuse = s.fuse := rfl
@[simp] theorem State.putBit_safe (s : State) (f : FldAt) (b : Bool) : (s.putBit f b).safe = s.safe := rfl
@[simp] theorem State.putBit_pair (s : State) (f : FldAt) (b : Bool) : (s.putBit f b).pair = s.pair := rfl
@[simp] theorem State.putBit_sec (s : State) (f : FldAt) (b : Bool) : (s.putBit f b).sec = s.sec := rfl
@[simp] theorem State.putBit_chor (s : State) (f : FldAt) (b : Bool) : (s.putBit f b).chor = s.chor := rfl
@[simp] theorem State.putBit_host (s : State) (f : FldAt) (b : Bool) : (s.putBit f b).host = s.host := rfl
@[simp] theorem State.putBit_flash (s : State) (f : FldAt) (b : Bool) : (s.putBit f b).flash = s.flash := rfl

/-! setWb -/

@[simp] theorem State.setWb_now (s : State) (k : Nat) (b : WbSt) : (s.setWb k b).now = s.now := rfl
@[simp] theorem State.setWb_fresh (s : State) (k : Nat) (b : WbSt) : (s.setWb k b).fresh = s.fresh := rfl
@[simp] theorem State.setWb_pending (s : State) (k : Nat) (b : WbSt) : (s.setWb k b).pending = s.pending := rfl
@[simp] theorem State.setWb_regs (s : State) (k : Nat) (b : WbSt) : (s.setWb k b).regs = s.regs := rfl
@[simp] theorem State.setWb_live (s : State) (k : Nat) (b : WbSt) : (s.setWb k b).live = s.live := rfl
@[simp] theorem State.setWb_wo (s : State) (k : Nat) (b : WbSt) : (s.setWb k b).wo = s.wo := rfl
@[simp] theorem State.setWb_log (s : State) (k : Nat) (b : WbSt) : (s.setWb k b).log = s.log := rfl
@[simp] theorem State.setWb_cyc (s : State) (k : Nat) (b : WbSt) : (s.setWb k b).cyc = s.cyc := rfl
@[simp] theorem State.setWb_resp (s : State) (k : Nat) (b : WbSt) : (s.setWb k b).resp = s.resp := rfl
@[simp] theorem State.setWb_dram (s : State) (k : Nat) (b : WbSt) : (s.setWb k b).dram = s.dram := rfl
@[simp] theorem State.setWb_sys (s : State) (k : Nat) (b : WbSt) : (s.setWb k b).sys = s.sys := rfl
@[simp] theorem State.setWb_commits (s : State) (k : Nat) (b : WbSt) : (s.setWb k b).commits = s.commits := rfl
@[simp] theorem State.setWb_dio (s : State) (k : Nat) (b : WbSt) : (s.setWb k b).dio = s.dio := rfl
@[simp] theorem State.setWb_strm (s : State) (k : Nat) (b : WbSt) : (s.setWb k b).strm = s.strm := rfl
@[simp] theorem State.setWb_ports (s : State) (k : Nat) (b : WbSt) : (s.setWb k b).ports = s.ports := rfl
@[simp] theorem State.setWb_mon (s : State) (k : Nat) (b : WbSt) : (s.setWb k b).mon = s.mon := rfl
@[simp] theorem State.setWb_cmp (s : State) (k : Nat) (b : WbSt) : (s.setWb k b).cmp = s.cmp := rfl
@[simp] theorem State.setWb_latch (s : State) (k : Nat) (b : WbSt) : (s.setWb k b).latch = s.latch := rfl
@[simp] theorem State.setWb_tiles (s : State) (k : Nat) (b : WbSt) : (s.setWb k b).tiles = s.tiles := rfl
@[simp] theorem State.setWb_chains (s : State) (k : Nat) (b : WbSt) : (s.setWb k b).chains = s.chains := rfl
@[simp] theorem State.setWb_cal (s : State) (k : Nat) (b : WbSt) : (s.setWb k b).cal = s.cal := rfl
@[simp] theorem State.setWb_fuse (s : State) (k : Nat) (b : WbSt) : (s.setWb k b).fuse = s.fuse := rfl
@[simp] theorem State.setWb_safe (s : State) (k : Nat) (b : WbSt) : (s.setWb k b).safe = s.safe := rfl
@[simp] theorem State.setWb_pair (s : State) (k : Nat) (b : WbSt) : (s.setWb k b).pair = s.pair := rfl
@[simp] theorem State.setWb_sec (s : State) (k : Nat) (b : WbSt) : (s.setWb k b).sec = s.sec := rfl
@[simp] theorem State.setWb_chor (s : State) (k : Nat) (b : WbSt) : (s.setWb k b).chor = s.chor := rfl
@[simp] theorem State.setWb_host (s : State) (k : Nat) (b : WbSt) : (s.setWb k b).host = s.host := rfl
@[simp] theorem State.setWb_flash (s : State) (k : Nat) (b : WbSt) : (s.setWb k b).flash = s.flash := rfl

/-! tick -/

@[simp] theorem State.tick_fresh (s : State) (n : Nat) : (s.tick n).fresh = s.fresh := rfl
@[simp] theorem State.tick_pending (s : State) (n : Nat) : (s.tick n).pending = s.pending := rfl
@[simp] theorem State.tick_regs (s : State) (n : Nat) : (s.tick n).regs = s.regs := rfl
@[simp] theorem State.tick_live (s : State) (n : Nat) : (s.tick n).live = s.live := rfl
@[simp] theorem State.tick_wo (s : State) (n : Nat) : (s.tick n).wo = s.wo := rfl
@[simp] theorem State.tick_log (s : State) (n : Nat) : (s.tick n).log = s.log := rfl
@[simp] theorem State.tick_cyc (s : State) (n : Nat) : (s.tick n).cyc = s.cyc := rfl
@[simp] theorem State.tick_resp (s : State) (n : Nat) : (s.tick n).resp = s.resp := rfl
@[simp] theorem State.tick_dram (s : State) (n : Nat) : (s.tick n).dram = s.dram := rfl
@[simp] theorem State.tick_sys (s : State) (n : Nat) : (s.tick n).sys = s.sys := rfl
@[simp] theorem State.tick_commits (s : State) (n : Nat) : (s.tick n).commits = s.commits := rfl
@[simp] theorem State.tick_time (s : State) (n : Nat) : (s.tick n).time = s.time := rfl
@[simp] theorem State.tick_dio (s : State) (n : Nat) : (s.tick n).dio = s.dio := rfl
@[simp] theorem State.tick_strm (s : State) (n : Nat) : (s.tick n).strm = s.strm := rfl
@[simp] theorem State.tick_ports (s : State) (n : Nat) : (s.tick n).ports = s.ports := rfl
@[simp] theorem State.tick_mon (s : State) (n : Nat) : (s.tick n).mon = s.mon := rfl
@[simp] theorem State.tick_cmp (s : State) (n : Nat) : (s.tick n).cmp = s.cmp := rfl
@[simp] theorem State.tick_latch (s : State) (n : Nat) : (s.tick n).latch = s.latch := rfl
@[simp] theorem State.tick_tiles (s : State) (n : Nat) : (s.tick n).tiles = s.tiles := rfl
@[simp] theorem State.tick_chains (s : State) (n : Nat) : (s.tick n).chains = s.chains := rfl
@[simp] theorem State.tick_cal (s : State) (n : Nat) : (s.tick n).cal = s.cal := rfl
@[simp] theorem State.tick_fuse (s : State) (n : Nat) : (s.tick n).fuse = s.fuse := rfl
@[simp] theorem State.tick_safe (s : State) (n : Nat) : (s.tick n).safe = s.safe := rfl
@[simp] theorem State.tick_pair (s : State) (n : Nat) : (s.tick n).pair = s.pair := rfl
@[simp] theorem State.tick_sec (s : State) (n : Nat) : (s.tick n).sec = s.sec := rfl
@[simp] theorem State.tick_chor (s : State) (n : Nat) : (s.tick n).chor = s.chor := rfl
@[simp] theorem State.tick_host (s : State) (n : Nat) : (s.tick n).host = s.host := rfl
@[simp] theorem State.tick_flash (s : State) (n : Nat) : (s.tick n).flash = s.flash := rfl

/-! answer -/

@[simp] theorem State.answer_now (s : State) (q : Requester) (e : Bool) (d : Nat) : (s.answer q e d).now = s.now := rfl
@[simp] theorem State.answer_fresh (s : State) (q : Requester) (e : Bool) (d : Nat) : (s.answer q e d).fresh = s.fresh := rfl
@[simp] theorem State.answer_pending (s : State) (q : Requester) (e : Bool) (d : Nat) : (s.answer q e d).pending = s.pending := rfl
@[simp] theorem State.answer_regs (s : State) (q : Requester) (e : Bool) (d : Nat) : (s.answer q e d).regs = s.regs := rfl
@[simp] theorem State.answer_live (s : State) (q : Requester) (e : Bool) (d : Nat) : (s.answer q e d).live = s.live := rfl
@[simp] theorem State.answer_wo (s : State) (q : Requester) (e : Bool) (d : Nat) : (s.answer q e d).wo = s.wo := rfl
@[simp] theorem State.answer_log (s : State) (q : Requester) (e : Bool) (d : Nat) : (s.answer q e d).log = s.log := rfl
@[simp] theorem State.answer_cyc (s : State) (q : Requester) (e : Bool) (d : Nat) : (s.answer q e d).cyc = s.cyc := rfl
@[simp] theorem State.answer_dram (s : State) (q : Requester) (e : Bool) (d : Nat) : (s.answer q e d).dram = s.dram := rfl
@[simp] theorem State.answer_sys (s : State) (q : Requester) (e : Bool) (d : Nat) : (s.answer q e d).sys = s.sys := rfl
@[simp] theorem State.answer_commits (s : State) (q : Requester) (e : Bool) (d : Nat) : (s.answer q e d).commits = s.commits := rfl
@[simp] theorem State.answer_time (s : State) (q : Requester) (e : Bool) (d : Nat) : (s.answer q e d).time = s.time := rfl
@[simp] theorem State.answer_dio (s : State) (q : Requester) (e : Bool) (d : Nat) : (s.answer q e d).dio = s.dio := rfl
@[simp] theorem State.answer_strm (s : State) (q : Requester) (e : Bool) (d : Nat) : (s.answer q e d).strm = s.strm := rfl
@[simp] theorem State.answer_ports (s : State) (q : Requester) (e : Bool) (d : Nat) : (s.answer q e d).ports = s.ports := rfl
@[simp] theorem State.answer_mon (s : State) (q : Requester) (e : Bool) (d : Nat) : (s.answer q e d).mon = s.mon := rfl
@[simp] theorem State.answer_cmp (s : State) (q : Requester) (e : Bool) (d : Nat) : (s.answer q e d).cmp = s.cmp := rfl
@[simp] theorem State.answer_latch (s : State) (q : Requester) (e : Bool) (d : Nat) : (s.answer q e d).latch = s.latch := rfl
@[simp] theorem State.answer_tiles (s : State) (q : Requester) (e : Bool) (d : Nat) : (s.answer q e d).tiles = s.tiles := rfl
@[simp] theorem State.answer_chains (s : State) (q : Requester) (e : Bool) (d : Nat) : (s.answer q e d).chains = s.chains := rfl
@[simp] theorem State.answer_cal (s : State) (q : Requester) (e : Bool) (d : Nat) : (s.answer q e d).cal = s.cal := rfl
@[simp] theorem State.answer_fuse (s : State) (q : Requester) (e : Bool) (d : Nat) : (s.answer q e d).fuse = s.fuse := rfl
@[simp] theorem State.answer_safe (s : State) (q : Requester) (e : Bool) (d : Nat) : (s.answer q e d).safe = s.safe := rfl
@[simp] theorem State.answer_pair (s : State) (q : Requester) (e : Bool) (d : Nat) : (s.answer q e d).pair = s.pair := rfl
@[simp] theorem State.answer_sec (s : State) (q : Requester) (e : Bool) (d : Nat) : (s.answer q e d).sec = s.sec := rfl
@[simp] theorem State.answer_chor (s : State) (q : Requester) (e : Bool) (d : Nat) : (s.answer q e d).chor = s.chor := rfl
@[simp] theorem State.answer_host (s : State) (q : Requester) (e : Bool) (d : Nat) : (s.answer q e d).host = s.host := rfl
@[simp] theorem State.answer_flash (s : State) (q : Requester) (e : Bool) (d : Nat) : (s.answer q e d).flash = s.flash := rfl

/-! setTile -/

@[simp] theorem State.setTile_now (s : State) (t : Nat) (x : TileSt) : (s.setTile t x).now = s.now := rfl
@[simp] theorem State.setTile_fresh (s : State) (t : Nat) (x : TileSt) : (s.setTile t x).fresh = s.fresh := rfl
@[simp] theorem State.setTile_pending (s : State) (t : Nat) (x : TileSt) : (s.setTile t x).pending = s.pending := rfl
@[simp] theorem State.setTile_regs (s : State) (t : Nat) (x : TileSt) : (s.setTile t x).regs = s.regs := rfl
@[simp] theorem State.setTile_live (s : State) (t : Nat) (x : TileSt) : (s.setTile t x).live = s.live := rfl
@[simp] theorem State.setTile_wo (s : State) (t : Nat) (x : TileSt) : (s.setTile t x).wo = s.wo := rfl
@[simp] theorem State.setTile_log (s : State) (t : Nat) (x : TileSt) : (s.setTile t x).log = s.log := rfl
@[simp] theorem State.setTile_cyc (s : State) (t : Nat) (x : TileSt) : (s.setTile t x).cyc = s.cyc := rfl
@[simp] theorem State.setTile_resp (s : State) (t : Nat) (x : TileSt) : (s.setTile t x).resp = s.resp := rfl
@[simp] theorem State.setTile_dram (s : State) (t : Nat) (x : TileSt) : (s.setTile t x).dram = s.dram := rfl
@[simp] theorem State.setTile_sys (s : State) (t : Nat) (x : TileSt) : (s.setTile t x).sys = s.sys := rfl
@[simp] theorem State.setTile_commits (s : State) (t : Nat) (x : TileSt) : (s.setTile t x).commits = s.commits := rfl
@[simp] theorem State.setTile_time (s : State) (t : Nat) (x : TileSt) : (s.setTile t x).time = s.time := rfl
@[simp] theorem State.setTile_dio (s : State) (t : Nat) (x : TileSt) : (s.setTile t x).dio = s.dio := rfl
@[simp] theorem State.setTile_strm (s : State) (t : Nat) (x : TileSt) : (s.setTile t x).strm = s.strm := rfl
@[simp] theorem State.setTile_ports (s : State) (t : Nat) (x : TileSt) : (s.setTile t x).ports = s.ports := rfl
@[simp] theorem State.setTile_mon (s : State) (t : Nat) (x : TileSt) : (s.setTile t x).mon = s.mon := rfl
@[simp] theorem State.setTile_cmp (s : State) (t : Nat) (x : TileSt) : (s.setTile t x).cmp = s.cmp := rfl
@[simp] theorem State.setTile_latch (s : State) (t : Nat) (x : TileSt) : (s.setTile t x).latch = s.latch := rfl
@[simp] theorem State.setTile_chains (s : State) (t : Nat) (x : TileSt) : (s.setTile t x).chains = s.chains := rfl
@[simp] theorem State.setTile_cal (s : State) (t : Nat) (x : TileSt) : (s.setTile t x).cal = s.cal := rfl
@[simp] theorem State.setTile_fuse (s : State) (t : Nat) (x : TileSt) : (s.setTile t x).fuse = s.fuse := rfl
@[simp] theorem State.setTile_safe (s : State) (t : Nat) (x : TileSt) : (s.setTile t x).safe = s.safe := rfl
@[simp] theorem State.setTile_pair (s : State) (t : Nat) (x : TileSt) : (s.setTile t x).pair = s.pair := rfl
@[simp] theorem State.setTile_sec (s : State) (t : Nat) (x : TileSt) : (s.setTile t x).sec = s.sec := rfl
@[simp] theorem State.setTile_chor (s : State) (t : Nat) (x : TileSt) : (s.setTile t x).chor = s.chor := rfl
@[simp] theorem State.setTile_host (s : State) (t : Nat) (x : TileSt) : (s.setTile t x).host = s.host := rfl
@[simp] theorem State.setTile_flash (s : State) (t : Nat) (x : TileSt) : (s.setTile t x).flash = s.flash := rfl

/-! modTile -/

@[simp] theorem State.modTile_now (s : State) (t : Nat) (f : TileSt → TileSt) : (s.modTile t f).now = s.now := rfl
@[simp] theorem State.modTile_fresh (s : State) (t : Nat) (f : TileSt → TileSt) : (s.modTile t f).fresh = s.fresh := rfl
@[simp] theorem State.modTile_pending (s : State) (t : Nat) (f : TileSt → TileSt) : (s.modTile t f).pending = s.pending := rfl
@[simp] theorem State.modTile_regs (s : State) (t : Nat) (f : TileSt → TileSt) : (s.modTile t f).regs = s.regs := rfl
@[simp] theorem State.modTile_live (s : State) (t : Nat) (f : TileSt → TileSt) : (s.modTile t f).live = s.live := rfl
@[simp] theorem State.modTile_wo (s : State) (t : Nat) (f : TileSt → TileSt) : (s.modTile t f).wo = s.wo := rfl
@[simp] theorem State.modTile_log (s : State) (t : Nat) (f : TileSt → TileSt) : (s.modTile t f).log = s.log := rfl
@[simp] theorem State.modTile_cyc (s : State) (t : Nat) (f : TileSt → TileSt) : (s.modTile t f).cyc = s.cyc := rfl
@[simp] theorem State.modTile_resp (s : State) (t : Nat) (f : TileSt → TileSt) : (s.modTile t f).resp = s.resp := rfl
@[simp] theorem State.modTile_dram (s : State) (t : Nat) (f : TileSt → TileSt) : (s.modTile t f).dram = s.dram := rfl
@[simp] theorem State.modTile_sys (s : State) (t : Nat) (f : TileSt → TileSt) : (s.modTile t f).sys = s.sys := rfl
@[simp] theorem State.modTile_commits (s : State) (t : Nat) (f : TileSt → TileSt) : (s.modTile t f).commits = s.commits := rfl
@[simp] theorem State.modTile_time (s : State) (t : Nat) (f : TileSt → TileSt) : (s.modTile t f).time = s.time := rfl
@[simp] theorem State.modTile_dio (s : State) (t : Nat) (f : TileSt → TileSt) : (s.modTile t f).dio = s.dio := rfl
@[simp] theorem State.modTile_strm (s : State) (t : Nat) (f : TileSt → TileSt) : (s.modTile t f).strm = s.strm := rfl
@[simp] theorem State.modTile_ports (s : State) (t : Nat) (f : TileSt → TileSt) : (s.modTile t f).ports = s.ports := rfl
@[simp] theorem State.modTile_mon (s : State) (t : Nat) (f : TileSt → TileSt) : (s.modTile t f).mon = s.mon := rfl
@[simp] theorem State.modTile_cmp (s : State) (t : Nat) (f : TileSt → TileSt) : (s.modTile t f).cmp = s.cmp := rfl
@[simp] theorem State.modTile_latch (s : State) (t : Nat) (f : TileSt → TileSt) : (s.modTile t f).latch = s.latch := rfl
@[simp] theorem State.modTile_chains (s : State) (t : Nat) (f : TileSt → TileSt) : (s.modTile t f).chains = s.chains := rfl
@[simp] theorem State.modTile_cal (s : State) (t : Nat) (f : TileSt → TileSt) : (s.modTile t f).cal = s.cal := rfl
@[simp] theorem State.modTile_fuse (s : State) (t : Nat) (f : TileSt → TileSt) : (s.modTile t f).fuse = s.fuse := rfl
@[simp] theorem State.modTile_safe (s : State) (t : Nat) (f : TileSt → TileSt) : (s.modTile t f).safe = s.safe := rfl
@[simp] theorem State.modTile_pair (s : State) (t : Nat) (f : TileSt → TileSt) : (s.modTile t f).pair = s.pair := rfl
@[simp] theorem State.modTile_sec (s : State) (t : Nat) (f : TileSt → TileSt) : (s.modTile t f).sec = s.sec := rfl
@[simp] theorem State.modTile_chor (s : State) (t : Nat) (f : TileSt → TileSt) : (s.modTile t f).chor = s.chor := rfl
@[simp] theorem State.modTile_host (s : State) (t : Nat) (f : TileSt → TileSt) : (s.modTile t f).host = s.host := rfl
@[simp] theorem State.modTile_flash (s : State) (t : Nat) (f : TileSt → TileSt) : (s.modTile t f).flash = s.flash := rfl

/-! dropCommits -/

@[simp] theorem State.dropCommits_now (s : State) (d : CommitSt) : (s.dropCommits d).now = s.now := rfl
@[simp] theorem State.dropCommits_fresh (s : State) (d : CommitSt) : (s.dropCommits d).fresh = s.fresh := rfl
@[simp] theorem State.dropCommits_pending (s : State) (d : CommitSt) : (s.dropCommits d).pending = s.pending := rfl
@[simp] theorem State.dropCommits_regs (s : State) (d : CommitSt) : (s.dropCommits d).regs = s.regs := rfl
@[simp] theorem State.dropCommits_live (s : State) (d : CommitSt) : (s.dropCommits d).live = s.live := rfl
@[simp] theorem State.dropCommits_wo (s : State) (d : CommitSt) : (s.dropCommits d).wo = s.wo := rfl
@[simp] theorem State.dropCommits_log (s : State) (d : CommitSt) : (s.dropCommits d).log = s.log := rfl
@[simp] theorem State.dropCommits_cyc (s : State) (d : CommitSt) : (s.dropCommits d).cyc = s.cyc := rfl
@[simp] theorem State.dropCommits_resp (s : State) (d : CommitSt) : (s.dropCommits d).resp = s.resp := rfl
@[simp] theorem State.dropCommits_dram (s : State) (d : CommitSt) : (s.dropCommits d).dram = s.dram := rfl
@[simp] theorem State.dropCommits_sys (s : State) (d : CommitSt) : (s.dropCommits d).sys = s.sys := rfl
@[simp] theorem State.dropCommits_time (s : State) (d : CommitSt) : (s.dropCommits d).time = s.time := rfl
@[simp] theorem State.dropCommits_dio (s : State) (d : CommitSt) : (s.dropCommits d).dio = s.dio := rfl
@[simp] theorem State.dropCommits_strm (s : State) (d : CommitSt) : (s.dropCommits d).strm = s.strm := rfl
@[simp] theorem State.dropCommits_ports (s : State) (d : CommitSt) : (s.dropCommits d).ports = s.ports := rfl
@[simp] theorem State.dropCommits_mon (s : State) (d : CommitSt) : (s.dropCommits d).mon = s.mon := rfl
@[simp] theorem State.dropCommits_cmp (s : State) (d : CommitSt) : (s.dropCommits d).cmp = s.cmp := rfl
@[simp] theorem State.dropCommits_latch (s : State) (d : CommitSt) : (s.dropCommits d).latch = s.latch := rfl
@[simp] theorem State.dropCommits_tiles (s : State) (d : CommitSt) : (s.dropCommits d).tiles = s.tiles := rfl
@[simp] theorem State.dropCommits_chains (s : State) (d : CommitSt) : (s.dropCommits d).chains = s.chains := rfl
@[simp] theorem State.dropCommits_cal (s : State) (d : CommitSt) : (s.dropCommits d).cal = s.cal := rfl
@[simp] theorem State.dropCommits_fuse (s : State) (d : CommitSt) : (s.dropCommits d).fuse = s.fuse := rfl
@[simp] theorem State.dropCommits_safe (s : State) (d : CommitSt) : (s.dropCommits d).safe = s.safe := rfl
@[simp] theorem State.dropCommits_pair (s : State) (d : CommitSt) : (s.dropCommits d).pair = s.pair := rfl
@[simp] theorem State.dropCommits_sec (s : State) (d : CommitSt) : (s.dropCommits d).sec = s.sec := rfl
@[simp] theorem State.dropCommits_chor (s : State) (d : CommitSt) : (s.dropCommits d).chor = s.chor := rfl
@[simp] theorem State.dropCommits_host (s : State) (d : CommitSt) : (s.dropCommits d).host = s.host := rfl
@[simp] theorem State.dropCommits_flash (s : State) (d : CommitSt) : (s.dropCommits d).flash = s.flash := rfl

/-! modHost -/

@[simp] theorem State.modHost_now (s : State) (f : HostSt → HostSt) : (s.modHost f).now = s.now := rfl
@[simp] theorem State.modHost_fresh (s : State) (f : HostSt → HostSt) : (s.modHost f).fresh = s.fresh := rfl
@[simp] theorem State.modHost_pending (s : State) (f : HostSt → HostSt) : (s.modHost f).pending = s.pending := rfl
@[simp] theorem State.modHost_regs (s : State) (f : HostSt → HostSt) : (s.modHost f).regs = s.regs := rfl
@[simp] theorem State.modHost_live (s : State) (f : HostSt → HostSt) : (s.modHost f).live = s.live := rfl
@[simp] theorem State.modHost_wo (s : State) (f : HostSt → HostSt) : (s.modHost f).wo = s.wo := rfl
@[simp] theorem State.modHost_log (s : State) (f : HostSt → HostSt) : (s.modHost f).log = s.log := rfl
@[simp] theorem State.modHost_cyc (s : State) (f : HostSt → HostSt) : (s.modHost f).cyc = s.cyc := rfl
@[simp] theorem State.modHost_resp (s : State) (f : HostSt → HostSt) : (s.modHost f).resp = s.resp := rfl
@[simp] theorem State.modHost_dram (s : State) (f : HostSt → HostSt) : (s.modHost f).dram = s.dram := rfl
@[simp] theorem State.modHost_sys (s : State) (f : HostSt → HostSt) : (s.modHost f).sys = s.sys := rfl
@[simp] theorem State.modHost_commits (s : State) (f : HostSt → HostSt) : (s.modHost f).commits = s.commits := rfl
@[simp] theorem State.modHost_time (s : State) (f : HostSt → HostSt) : (s.modHost f).time = s.time := rfl
@[simp] theorem State.modHost_dio (s : State) (f : HostSt → HostSt) : (s.modHost f).dio = s.dio := rfl
@[simp] theorem State.modHost_strm (s : State) (f : HostSt → HostSt) : (s.modHost f).strm = s.strm := rfl
@[simp] theorem State.modHost_ports (s : State) (f : HostSt → HostSt) : (s.modHost f).ports = s.ports := rfl
@[simp] theorem State.modHost_mon (s : State) (f : HostSt → HostSt) : (s.modHost f).mon = s.mon := rfl
@[simp] theorem State.modHost_cmp (s : State) (f : HostSt → HostSt) : (s.modHost f).cmp = s.cmp := rfl
@[simp] theorem State.modHost_latch (s : State) (f : HostSt → HostSt) : (s.modHost f).latch = s.latch := rfl
@[simp] theorem State.modHost_tiles (s : State) (f : HostSt → HostSt) : (s.modHost f).tiles = s.tiles := rfl
@[simp] theorem State.modHost_chains (s : State) (f : HostSt → HostSt) : (s.modHost f).chains = s.chains := rfl
@[simp] theorem State.modHost_cal (s : State) (f : HostSt → HostSt) : (s.modHost f).cal = s.cal := rfl
@[simp] theorem State.modHost_fuse (s : State) (f : HostSt → HostSt) : (s.modHost f).fuse = s.fuse := rfl
@[simp] theorem State.modHost_safe (s : State) (f : HostSt → HostSt) : (s.modHost f).safe = s.safe := rfl
@[simp] theorem State.modHost_pair (s : State) (f : HostSt → HostSt) : (s.modHost f).pair = s.pair := rfl
@[simp] theorem State.modHost_sec (s : State) (f : HostSt → HostSt) : (s.modHost f).sec = s.sec := rfl
@[simp] theorem State.modHost_chor (s : State) (f : HostSt → HostSt) : (s.modHost f).chor = s.chor := rfl
@[simp] theorem State.modHost_flash (s : State) (f : HostSt → HostSt) : (s.modHost f).flash = s.flash := rfl

/-! modPair -/

@[simp] theorem State.modPair_now (s : State) (f : PairSt → PairSt) : (s.modPair f).now = s.now := rfl
@[simp] theorem State.modPair_fresh (s : State) (f : PairSt → PairSt) : (s.modPair f).fresh = s.fresh := rfl
@[simp] theorem State.modPair_pending (s : State) (f : PairSt → PairSt) : (s.modPair f).pending = s.pending := rfl
@[simp] theorem State.modPair_regs (s : State) (f : PairSt → PairSt) : (s.modPair f).regs = s.regs := rfl
@[simp] theorem State.modPair_live (s : State) (f : PairSt → PairSt) : (s.modPair f).live = s.live := rfl
@[simp] theorem State.modPair_wo (s : State) (f : PairSt → PairSt) : (s.modPair f).wo = s.wo := rfl
@[simp] theorem State.modPair_log (s : State) (f : PairSt → PairSt) : (s.modPair f).log = s.log := rfl
@[simp] theorem State.modPair_cyc (s : State) (f : PairSt → PairSt) : (s.modPair f).cyc = s.cyc := rfl
@[simp] theorem State.modPair_resp (s : State) (f : PairSt → PairSt) : (s.modPair f).resp = s.resp := rfl
@[simp] theorem State.modPair_dram (s : State) (f : PairSt → PairSt) : (s.modPair f).dram = s.dram := rfl
@[simp] theorem State.modPair_sys (s : State) (f : PairSt → PairSt) : (s.modPair f).sys = s.sys := rfl
@[simp] theorem State.modPair_commits (s : State) (f : PairSt → PairSt) : (s.modPair f).commits = s.commits := rfl
@[simp] theorem State.modPair_time (s : State) (f : PairSt → PairSt) : (s.modPair f).time = s.time := rfl
@[simp] theorem State.modPair_dio (s : State) (f : PairSt → PairSt) : (s.modPair f).dio = s.dio := rfl
@[simp] theorem State.modPair_strm (s : State) (f : PairSt → PairSt) : (s.modPair f).strm = s.strm := rfl
@[simp] theorem State.modPair_ports (s : State) (f : PairSt → PairSt) : (s.modPair f).ports = s.ports := rfl
@[simp] theorem State.modPair_mon (s : State) (f : PairSt → PairSt) : (s.modPair f).mon = s.mon := rfl
@[simp] theorem State.modPair_cmp (s : State) (f : PairSt → PairSt) : (s.modPair f).cmp = s.cmp := rfl
@[simp] theorem State.modPair_latch (s : State) (f : PairSt → PairSt) : (s.modPair f).latch = s.latch := rfl
@[simp] theorem State.modPair_tiles (s : State) (f : PairSt → PairSt) : (s.modPair f).tiles = s.tiles := rfl
@[simp] theorem State.modPair_chains (s : State) (f : PairSt → PairSt) : (s.modPair f).chains = s.chains := rfl
@[simp] theorem State.modPair_cal (s : State) (f : PairSt → PairSt) : (s.modPair f).cal = s.cal := rfl
@[simp] theorem State.modPair_fuse (s : State) (f : PairSt → PairSt) : (s.modPair f).fuse = s.fuse := rfl
@[simp] theorem State.modPair_safe (s : State) (f : PairSt → PairSt) : (s.modPair f).safe = s.safe := rfl
@[simp] theorem State.modPair_sec (s : State) (f : PairSt → PairSt) : (s.modPair f).sec = s.sec := rfl
@[simp] theorem State.modPair_chor (s : State) (f : PairSt → PairSt) : (s.modPair f).chor = s.chor := rfl
@[simp] theorem State.modPair_host (s : State) (f : PairSt → PairSt) : (s.modPair f).host = s.host := rfl
@[simp] theorem State.modPair_flash (s : State) (f : PairSt → PairSt) : (s.modPair f).flash = s.flash := rfl

/-! setSafe -/

@[simp] theorem State.setSafe_now (s : State) (x : SafeSt) : (s.setSafe x).now = s.now := rfl
@[simp] theorem State.setSafe_fresh (s : State) (x : SafeSt) : (s.setSafe x).fresh = s.fresh := rfl
@[simp] theorem State.setSafe_pending (s : State) (x : SafeSt) : (s.setSafe x).pending = s.pending := rfl
@[simp] theorem State.setSafe_regs (s : State) (x : SafeSt) : (s.setSafe x).regs = s.regs := rfl
@[simp] theorem State.setSafe_live (s : State) (x : SafeSt) : (s.setSafe x).live = s.live := rfl
@[simp] theorem State.setSafe_wo (s : State) (x : SafeSt) : (s.setSafe x).wo = s.wo := rfl
@[simp] theorem State.setSafe_log (s : State) (x : SafeSt) : (s.setSafe x).log = s.log := rfl
@[simp] theorem State.setSafe_cyc (s : State) (x : SafeSt) : (s.setSafe x).cyc = s.cyc := rfl
@[simp] theorem State.setSafe_resp (s : State) (x : SafeSt) : (s.setSafe x).resp = s.resp := rfl
@[simp] theorem State.setSafe_dram (s : State) (x : SafeSt) : (s.setSafe x).dram = s.dram := rfl
@[simp] theorem State.setSafe_sys (s : State) (x : SafeSt) : (s.setSafe x).sys = s.sys := rfl
@[simp] theorem State.setSafe_commits (s : State) (x : SafeSt) : (s.setSafe x).commits = s.commits := rfl
@[simp] theorem State.setSafe_time (s : State) (x : SafeSt) : (s.setSafe x).time = s.time := rfl
@[simp] theorem State.setSafe_dio (s : State) (x : SafeSt) : (s.setSafe x).dio = s.dio := rfl
@[simp] theorem State.setSafe_strm (s : State) (x : SafeSt) : (s.setSafe x).strm = s.strm := rfl
@[simp] theorem State.setSafe_ports (s : State) (x : SafeSt) : (s.setSafe x).ports = s.ports := rfl
@[simp] theorem State.setSafe_mon (s : State) (x : SafeSt) : (s.setSafe x).mon = s.mon := rfl
@[simp] theorem State.setSafe_cmp (s : State) (x : SafeSt) : (s.setSafe x).cmp = s.cmp := rfl
@[simp] theorem State.setSafe_latch (s : State) (x : SafeSt) : (s.setSafe x).latch = s.latch := rfl
@[simp] theorem State.setSafe_tiles (s : State) (x : SafeSt) : (s.setSafe x).tiles = s.tiles := rfl
@[simp] theorem State.setSafe_chains (s : State) (x : SafeSt) : (s.setSafe x).chains = s.chains := rfl
@[simp] theorem State.setSafe_cal (s : State) (x : SafeSt) : (s.setSafe x).cal = s.cal := rfl
@[simp] theorem State.setSafe_fuse (s : State) (x : SafeSt) : (s.setSafe x).fuse = s.fuse := rfl
@[simp] theorem State.setSafe_pair (s : State) (x : SafeSt) : (s.setSafe x).pair = s.pair := rfl
@[simp] theorem State.setSafe_sec (s : State) (x : SafeSt) : (s.setSafe x).sec = s.sec := rfl
@[simp] theorem State.setSafe_chor (s : State) (x : SafeSt) : (s.setSafe x).chor = s.chor := rfl
@[simp] theorem State.setSafe_host (s : State) (x : SafeSt) : (s.setSafe x).host = s.host := rfl
@[simp] theorem State.setSafe_flash (s : State) (x : SafeSt) : (s.setSafe x).flash = s.flash := rfl

/-! hint -/

@[simp] theorem State.hint_now (s : State) (n : Nat) : (s.hint n).now = s.now := rfl
@[simp] theorem State.hint_fresh (s : State) (n : Nat) : (s.hint n).fresh = s.fresh := rfl
@[simp] theorem State.hint_pending (s : State) (n : Nat) : (s.hint n).pending = s.pending := rfl
@[simp] theorem State.hint_live (s : State) (n : Nat) : (s.hint n).live = s.live := rfl
@[simp] theorem State.hint_wo (s : State) (n : Nat) : (s.hint n).wo = s.wo := rfl
@[simp] theorem State.hint_log (s : State) (n : Nat) : (s.hint n).log = s.log := rfl
@[simp] theorem State.hint_cyc (s : State) (n : Nat) : (s.hint n).cyc = s.cyc := rfl
@[simp] theorem State.hint_resp (s : State) (n : Nat) : (s.hint n).resp = s.resp := rfl
@[simp] theorem State.hint_dram (s : State) (n : Nat) : (s.hint n).dram = s.dram := rfl
@[simp] theorem State.hint_sys (s : State) (n : Nat) : (s.hint n).sys = s.sys := rfl
@[simp] theorem State.hint_commits (s : State) (n : Nat) : (s.hint n).commits = s.commits := rfl
@[simp] theorem State.hint_time (s : State) (n : Nat) : (s.hint n).time = s.time := rfl
@[simp] theorem State.hint_dio (s : State) (n : Nat) : (s.hint n).dio = s.dio := rfl
@[simp] theorem State.hint_strm (s : State) (n : Nat) : (s.hint n).strm = s.strm := rfl
@[simp] theorem State.hint_ports (s : State) (n : Nat) : (s.hint n).ports = s.ports := rfl
@[simp] theorem State.hint_mon (s : State) (n : Nat) : (s.hint n).mon = s.mon := rfl
@[simp] theorem State.hint_cmp (s : State) (n : Nat) : (s.hint n).cmp = s.cmp := rfl
@[simp] theorem State.hint_latch (s : State) (n : Nat) : (s.hint n).latch = s.latch := rfl
@[simp] theorem State.hint_tiles (s : State) (n : Nat) : (s.hint n).tiles = s.tiles := rfl
@[simp] theorem State.hint_chains (s : State) (n : Nat) : (s.hint n).chains = s.chains := rfl
@[simp] theorem State.hint_cal (s : State) (n : Nat) : (s.hint n).cal = s.cal := rfl
@[simp] theorem State.hint_fuse (s : State) (n : Nat) : (s.hint n).fuse = s.fuse := rfl
@[simp] theorem State.hint_safe (s : State) (n : Nat) : (s.hint n).safe = s.safe := rfl
@[simp] theorem State.hint_pair (s : State) (n : Nat) : (s.hint n).pair = s.pair := rfl
@[simp] theorem State.hint_sec (s : State) (n : Nat) : (s.hint n).sec = s.sec := rfl
@[simp] theorem State.hint_chor (s : State) (n : Nat) : (s.hint n).chor = s.chor := rfl
@[simp] theorem State.hint_host (s : State) (n : Nat) : (s.hint n).host = s.host := rfl
@[simp] theorem State.hint_flash (s : State) (n : Nat) : (s.hint n).flash = s.flash := rfl

/-! setStrm -/

@[simp] theorem State.setStrm_now (s : State) (n : Nat) (x : StreamSt) : (s.setStrm n x).now = s.now := rfl
@[simp] theorem State.setStrm_fresh (s : State) (n : Nat) (x : StreamSt) : (s.setStrm n x).fresh = s.fresh := rfl
@[simp] theorem State.setStrm_pending (s : State) (n : Nat) (x : StreamSt) : (s.setStrm n x).pending = s.pending := rfl
@[simp] theorem State.setStrm_regs (s : State) (n : Nat) (x : StreamSt) : (s.setStrm n x).regs = s.regs := rfl
@[simp] theorem State.setStrm_live (s : State) (n : Nat) (x : StreamSt) : (s.setStrm n x).live = s.live := rfl
@[simp] theorem State.setStrm_wo (s : State) (n : Nat) (x : StreamSt) : (s.setStrm n x).wo = s.wo := rfl
@[simp] theorem State.setStrm_log (s : State) (n : Nat) (x : StreamSt) : (s.setStrm n x).log = s.log := rfl
@[simp] theorem State.setStrm_cyc (s : State) (n : Nat) (x : StreamSt) : (s.setStrm n x).cyc = s.cyc := rfl
@[simp] theorem State.setStrm_resp (s : State) (n : Nat) (x : StreamSt) : (s.setStrm n x).resp = s.resp := rfl
@[simp] theorem State.setStrm_dram (s : State) (n : Nat) (x : StreamSt) : (s.setStrm n x).dram = s.dram := rfl
@[simp] theorem State.setStrm_sys (s : State) (n : Nat) (x : StreamSt) : (s.setStrm n x).sys = s.sys := rfl
@[simp] theorem State.setStrm_commits (s : State) (n : Nat) (x : StreamSt) : (s.setStrm n x).commits = s.commits := rfl
@[simp] theorem State.setStrm_time (s : State) (n : Nat) (x : StreamSt) : (s.setStrm n x).time = s.time := rfl
@[simp] theorem State.setStrm_dio (s : State) (n : Nat) (x : StreamSt) : (s.setStrm n x).dio = s.dio := rfl
@[simp] theorem State.setStrm_ports (s : State) (n : Nat) (x : StreamSt) : (s.setStrm n x).ports = s.ports := rfl
@[simp] theorem State.setStrm_mon (s : State) (n : Nat) (x : StreamSt) : (s.setStrm n x).mon = s.mon := rfl
@[simp] theorem State.setStrm_cmp (s : State) (n : Nat) (x : StreamSt) : (s.setStrm n x).cmp = s.cmp := rfl
@[simp] theorem State.setStrm_latch (s : State) (n : Nat) (x : StreamSt) : (s.setStrm n x).latch = s.latch := rfl
@[simp] theorem State.setStrm_tiles (s : State) (n : Nat) (x : StreamSt) : (s.setStrm n x).tiles = s.tiles := rfl
@[simp] theorem State.setStrm_chains (s : State) (n : Nat) (x : StreamSt) : (s.setStrm n x).chains = s.chains := rfl
@[simp] theorem State.setStrm_cal (s : State) (n : Nat) (x : StreamSt) : (s.setStrm n x).cal = s.cal := rfl
@[simp] theorem State.setStrm_fuse (s : State) (n : Nat) (x : StreamSt) : (s.setStrm n x).fuse = s.fuse := rfl
@[simp] theorem State.setStrm_safe (s : State) (n : Nat) (x : StreamSt) : (s.setStrm n x).safe = s.safe := rfl
@[simp] theorem State.setStrm_pair (s : State) (n : Nat) (x : StreamSt) : (s.setStrm n x).pair = s.pair := rfl
@[simp] theorem State.setStrm_sec (s : State) (n : Nat) (x : StreamSt) : (s.setStrm n x).sec = s.sec := rfl
@[simp] theorem State.setStrm_chor (s : State) (n : Nat) (x : StreamSt) : (s.setStrm n x).chor = s.chor := rfl
@[simp] theorem State.setStrm_host (s : State) (n : Nat) (x : StreamSt) : (s.setStrm n x).host = s.host := rfl
@[simp] theorem State.setStrm_flash (s : State) (n : Nat) (x : StreamSt) : (s.setStrm n x).flash = s.flash := rfl

/-! modStrm -/

@[simp] theorem State.modStrm_now (s : State) (n : Nat) (f : StreamSt → StreamSt) : (s.modStrm n f).now = s.now := rfl
@[simp] theorem State.modStrm_fresh (s : State) (n : Nat) (f : StreamSt → StreamSt) : (s.modStrm n f).fresh = s.fresh := rfl
@[simp] theorem State.modStrm_pending (s : State) (n : Nat) (f : StreamSt → StreamSt) : (s.modStrm n f).pending = s.pending := rfl
@[simp] theorem State.modStrm_regs (s : State) (n : Nat) (f : StreamSt → StreamSt) : (s.modStrm n f).regs = s.regs := rfl
@[simp] theorem State.modStrm_live (s : State) (n : Nat) (f : StreamSt → StreamSt) : (s.modStrm n f).live = s.live := rfl
@[simp] theorem State.modStrm_wo (s : State) (n : Nat) (f : StreamSt → StreamSt) : (s.modStrm n f).wo = s.wo := rfl
@[simp] theorem State.modStrm_log (s : State) (n : Nat) (f : StreamSt → StreamSt) : (s.modStrm n f).log = s.log := rfl
@[simp] theorem State.modStrm_cyc (s : State) (n : Nat) (f : StreamSt → StreamSt) : (s.modStrm n f).cyc = s.cyc := rfl
@[simp] theorem State.modStrm_resp (s : State) (n : Nat) (f : StreamSt → StreamSt) : (s.modStrm n f).resp = s.resp := rfl
@[simp] theorem State.modStrm_dram (s : State) (n : Nat) (f : StreamSt → StreamSt) : (s.modStrm n f).dram = s.dram := rfl
@[simp] theorem State.modStrm_sys (s : State) (n : Nat) (f : StreamSt → StreamSt) : (s.modStrm n f).sys = s.sys := rfl
@[simp] theorem State.modStrm_commits (s : State) (n : Nat) (f : StreamSt → StreamSt) : (s.modStrm n f).commits = s.commits := rfl
@[simp] theorem State.modStrm_time (s : State) (n : Nat) (f : StreamSt → StreamSt) : (s.modStrm n f).time = s.time := rfl
@[simp] theorem State.modStrm_dio (s : State) (n : Nat) (f : StreamSt → StreamSt) : (s.modStrm n f).dio = s.dio := rfl
@[simp] theorem State.modStrm_ports (s : State) (n : Nat) (f : StreamSt → StreamSt) : (s.modStrm n f).ports = s.ports := rfl
@[simp] theorem State.modStrm_mon (s : State) (n : Nat) (f : StreamSt → StreamSt) : (s.modStrm n f).mon = s.mon := rfl
@[simp] theorem State.modStrm_cmp (s : State) (n : Nat) (f : StreamSt → StreamSt) : (s.modStrm n f).cmp = s.cmp := rfl
@[simp] theorem State.modStrm_latch (s : State) (n : Nat) (f : StreamSt → StreamSt) : (s.modStrm n f).latch = s.latch := rfl
@[simp] theorem State.modStrm_tiles (s : State) (n : Nat) (f : StreamSt → StreamSt) : (s.modStrm n f).tiles = s.tiles := rfl
@[simp] theorem State.modStrm_chains (s : State) (n : Nat) (f : StreamSt → StreamSt) : (s.modStrm n f).chains = s.chains := rfl
@[simp] theorem State.modStrm_cal (s : State) (n : Nat) (f : StreamSt → StreamSt) : (s.modStrm n f).cal = s.cal := rfl
@[simp] theorem State.modStrm_fuse (s : State) (n : Nat) (f : StreamSt → StreamSt) : (s.modStrm n f).fuse = s.fuse := rfl
@[simp] theorem State.modStrm_safe (s : State) (n : Nat) (f : StreamSt → StreamSt) : (s.modStrm n f).safe = s.safe := rfl
@[simp] theorem State.modStrm_pair (s : State) (n : Nat) (f : StreamSt → StreamSt) : (s.modStrm n f).pair = s.pair := rfl
@[simp] theorem State.modStrm_sec (s : State) (n : Nat) (f : StreamSt → StreamSt) : (s.modStrm n f).sec = s.sec := rfl
@[simp] theorem State.modStrm_chor (s : State) (n : Nat) (f : StreamSt → StreamSt) : (s.modStrm n f).chor = s.chor := rfl
@[simp] theorem State.modStrm_host (s : State) (n : Nat) (f : StreamSt → StreamSt) : (s.modStrm n f).host = s.host := rfl
@[simp] theorem State.modStrm_flash (s : State) (n : Nat) (f : StreamSt → StreamSt) : (s.modStrm n f).flash = s.flash := rfl

/-! setPort -/

@[simp] theorem State.setPort_now (s : State) (p : Nat) (x : PortSt) : (s.setPort p x).now = s.now := rfl
@[simp] theorem State.setPort_fresh (s : State) (p : Nat) (x : PortSt) : (s.setPort p x).fresh = s.fresh := rfl
@[simp] theorem State.setPort_pending (s : State) (p : Nat) (x : PortSt) : (s.setPort p x).pending = s.pending := rfl
@[simp] theorem State.setPort_regs (s : State) (p : Nat) (x : PortSt) : (s.setPort p x).regs = s.regs := rfl
@[simp] theorem State.setPort_live (s : State) (p : Nat) (x : PortSt) : (s.setPort p x).live = s.live := rfl
@[simp] theorem State.setPort_wo (s : State) (p : Nat) (x : PortSt) : (s.setPort p x).wo = s.wo := rfl
@[simp] theorem State.setPort_log (s : State) (p : Nat) (x : PortSt) : (s.setPort p x).log = s.log := rfl
@[simp] theorem State.setPort_cyc (s : State) (p : Nat) (x : PortSt) : (s.setPort p x).cyc = s.cyc := rfl
@[simp] theorem State.setPort_resp (s : State) (p : Nat) (x : PortSt) : (s.setPort p x).resp = s.resp := rfl
@[simp] theorem State.setPort_dram (s : State) (p : Nat) (x : PortSt) : (s.setPort p x).dram = s.dram := rfl
@[simp] theorem State.setPort_sys (s : State) (p : Nat) (x : PortSt) : (s.setPort p x).sys = s.sys := rfl
@[simp] theorem State.setPort_commits (s : State) (p : Nat) (x : PortSt) : (s.setPort p x).commits = s.commits := rfl
@[simp] theorem State.setPort_time (s : State) (p : Nat) (x : PortSt) : (s.setPort p x).time = s.time := rfl
@[simp] theorem State.setPort_dio (s : State) (p : Nat) (x : PortSt) : (s.setPort p x).dio = s.dio := rfl
@[simp] theorem State.setPort_strm (s : State) (p : Nat) (x : PortSt) : (s.setPort p x).strm = s.strm := rfl
@[simp] theorem State.setPort_mon (s : State) (p : Nat) (x : PortSt) : (s.setPort p x).mon = s.mon := rfl
@[simp] theorem State.setPort_cmp (s : State) (p : Nat) (x : PortSt) : (s.setPort p x).cmp = s.cmp := rfl
@[simp] theorem State.setPort_latch (s : State) (p : Nat) (x : PortSt) : (s.setPort p x).latch = s.latch := rfl
@[simp] theorem State.setPort_tiles (s : State) (p : Nat) (x : PortSt) : (s.setPort p x).tiles = s.tiles := rfl
@[simp] theorem State.setPort_chains (s : State) (p : Nat) (x : PortSt) : (s.setPort p x).chains = s.chains := rfl
@[simp] theorem State.setPort_cal (s : State) (p : Nat) (x : PortSt) : (s.setPort p x).cal = s.cal := rfl
@[simp] theorem State.setPort_fuse (s : State) (p : Nat) (x : PortSt) : (s.setPort p x).fuse = s.fuse := rfl
@[simp] theorem State.setPort_safe (s : State) (p : Nat) (x : PortSt) : (s.setPort p x).safe = s.safe := rfl
@[simp] theorem State.setPort_pair (s : State) (p : Nat) (x : PortSt) : (s.setPort p x).pair = s.pair := rfl
@[simp] theorem State.setPort_sec (s : State) (p : Nat) (x : PortSt) : (s.setPort p x).sec = s.sec := rfl
@[simp] theorem State.setPort_chor (s : State) (p : Nat) (x : PortSt) : (s.setPort p x).chor = s.chor := rfl
@[simp] theorem State.setPort_host (s : State) (p : Nat) (x : PortSt) : (s.setPort p x).host = s.host := rfl
@[simp] theorem State.setPort_flash (s : State) (p : Nat) (x : PortSt) : (s.setPort p x).flash = s.flash := rfl

/-! modPort -/

@[simp] theorem State.modPort_now (s : State) (p : Nat) (f : PortSt → PortSt) : (s.modPort p f).now = s.now := rfl
@[simp] theorem State.modPort_fresh (s : State) (p : Nat) (f : PortSt → PortSt) : (s.modPort p f).fresh = s.fresh := rfl
@[simp] theorem State.modPort_pending (s : State) (p : Nat) (f : PortSt → PortSt) : (s.modPort p f).pending = s.pending := rfl
@[simp] theorem State.modPort_regs (s : State) (p : Nat) (f : PortSt → PortSt) : (s.modPort p f).regs = s.regs := rfl
@[simp] theorem State.modPort_live (s : State) (p : Nat) (f : PortSt → PortSt) : (s.modPort p f).live = s.live := rfl
@[simp] theorem State.modPort_wo (s : State) (p : Nat) (f : PortSt → PortSt) : (s.modPort p f).wo = s.wo := rfl
@[simp] theorem State.modPort_log (s : State) (p : Nat) (f : PortSt → PortSt) : (s.modPort p f).log = s.log := rfl
@[simp] theorem State.modPort_cyc (s : State) (p : Nat) (f : PortSt → PortSt) : (s.modPort p f).cyc = s.cyc := rfl
@[simp] theorem State.modPort_resp (s : State) (p : Nat) (f : PortSt → PortSt) : (s.modPort p f).resp = s.resp := rfl
@[simp] theorem State.modPort_dram (s : State) (p : Nat) (f : PortSt → PortSt) : (s.modPort p f).dram = s.dram := rfl
@[simp] theorem State.modPort_sys (s : State) (p : Nat) (f : PortSt → PortSt) : (s.modPort p f).sys = s.sys := rfl
@[simp] theorem State.modPort_commits (s : State) (p : Nat) (f : PortSt → PortSt) : (s.modPort p f).commits = s.commits := rfl
@[simp] theorem State.modPort_time (s : State) (p : Nat) (f : PortSt → PortSt) : (s.modPort p f).time = s.time := rfl
@[simp] theorem State.modPort_dio (s : State) (p : Nat) (f : PortSt → PortSt) : (s.modPort p f).dio = s.dio := rfl
@[simp] theorem State.modPort_strm (s : State) (p : Nat) (f : PortSt → PortSt) : (s.modPort p f).strm = s.strm := rfl
@[simp] theorem State.modPort_mon (s : State) (p : Nat) (f : PortSt → PortSt) : (s.modPort p f).mon = s.mon := rfl
@[simp] theorem State.modPort_cmp (s : State) (p : Nat) (f : PortSt → PortSt) : (s.modPort p f).cmp = s.cmp := rfl
@[simp] theorem State.modPort_latch (s : State) (p : Nat) (f : PortSt → PortSt) : (s.modPort p f).latch = s.latch := rfl
@[simp] theorem State.modPort_tiles (s : State) (p : Nat) (f : PortSt → PortSt) : (s.modPort p f).tiles = s.tiles := rfl
@[simp] theorem State.modPort_chains (s : State) (p : Nat) (f : PortSt → PortSt) : (s.modPort p f).chains = s.chains := rfl
@[simp] theorem State.modPort_cal (s : State) (p : Nat) (f : PortSt → PortSt) : (s.modPort p f).cal = s.cal := rfl
@[simp] theorem State.modPort_fuse (s : State) (p : Nat) (f : PortSt → PortSt) : (s.modPort p f).fuse = s.fuse := rfl
@[simp] theorem State.modPort_safe (s : State) (p : Nat) (f : PortSt → PortSt) : (s.modPort p f).safe = s.safe := rfl
@[simp] theorem State.modPort_pair (s : State) (p : Nat) (f : PortSt → PortSt) : (s.modPort p f).pair = s.pair := rfl
@[simp] theorem State.modPort_sec (s : State) (p : Nat) (f : PortSt → PortSt) : (s.modPort p f).sec = s.sec := rfl
@[simp] theorem State.modPort_chor (s : State) (p : Nat) (f : PortSt → PortSt) : (s.modPort p f).chor = s.chor := rfl
@[simp] theorem State.modPort_host (s : State) (p : Nat) (f : PortSt → PortSt) : (s.modPort p f).host = s.host := rfl
@[simp] theorem State.modPort_flash (s : State) (p : Nat) (f : PortSt → PortSt) : (s.modPort p f).flash = s.flash := rfl

/-! enqueue -/

@[simp] theorem State.enqueue_now (s : State) (p : Nat) (x : TxItem) : (s.enqueue p x).now = s.now := rfl
@[simp] theorem State.enqueue_fresh (s : State) (p : Nat) (x : TxItem) : (s.enqueue p x).fresh = s.fresh := rfl
@[simp] theorem State.enqueue_pending (s : State) (p : Nat) (x : TxItem) : (s.enqueue p x).pending = s.pending := rfl
@[simp] theorem State.enqueue_regs (s : State) (p : Nat) (x : TxItem) : (s.enqueue p x).regs = s.regs := rfl
@[simp] theorem State.enqueue_live (s : State) (p : Nat) (x : TxItem) : (s.enqueue p x).live = s.live := rfl
@[simp] theorem State.enqueue_wo (s : State) (p : Nat) (x : TxItem) : (s.enqueue p x).wo = s.wo := rfl
@[simp] theorem State.enqueue_log (s : State) (p : Nat) (x : TxItem) : (s.enqueue p x).log = s.log := rfl
@[simp] theorem State.enqueue_cyc (s : State) (p : Nat) (x : TxItem) : (s.enqueue p x).cyc = s.cyc := rfl
@[simp] theorem State.enqueue_resp (s : State) (p : Nat) (x : TxItem) : (s.enqueue p x).resp = s.resp := rfl
@[simp] theorem State.enqueue_dram (s : State) (p : Nat) (x : TxItem) : (s.enqueue p x).dram = s.dram := rfl
@[simp] theorem State.enqueue_sys (s : State) (p : Nat) (x : TxItem) : (s.enqueue p x).sys = s.sys := rfl
@[simp] theorem State.enqueue_commits (s : State) (p : Nat) (x : TxItem) : (s.enqueue p x).commits = s.commits := rfl
@[simp] theorem State.enqueue_time (s : State) (p : Nat) (x : TxItem) : (s.enqueue p x).time = s.time := rfl
@[simp] theorem State.enqueue_dio (s : State) (p : Nat) (x : TxItem) : (s.enqueue p x).dio = s.dio := rfl
@[simp] theorem State.enqueue_strm (s : State) (p : Nat) (x : TxItem) : (s.enqueue p x).strm = s.strm := rfl
@[simp] theorem State.enqueue_mon (s : State) (p : Nat) (x : TxItem) : (s.enqueue p x).mon = s.mon := rfl
@[simp] theorem State.enqueue_cmp (s : State) (p : Nat) (x : TxItem) : (s.enqueue p x).cmp = s.cmp := rfl
@[simp] theorem State.enqueue_latch (s : State) (p : Nat) (x : TxItem) : (s.enqueue p x).latch = s.latch := rfl
@[simp] theorem State.enqueue_tiles (s : State) (p : Nat) (x : TxItem) : (s.enqueue p x).tiles = s.tiles := rfl
@[simp] theorem State.enqueue_chains (s : State) (p : Nat) (x : TxItem) : (s.enqueue p x).chains = s.chains := rfl
@[simp] theorem State.enqueue_cal (s : State) (p : Nat) (x : TxItem) : (s.enqueue p x).cal = s.cal := rfl
@[simp] theorem State.enqueue_fuse (s : State) (p : Nat) (x : TxItem) : (s.enqueue p x).fuse = s.fuse := rfl
@[simp] theorem State.enqueue_safe (s : State) (p : Nat) (x : TxItem) : (s.enqueue p x).safe = s.safe := rfl
@[simp] theorem State.enqueue_pair (s : State) (p : Nat) (x : TxItem) : (s.enqueue p x).pair = s.pair := rfl
@[simp] theorem State.enqueue_sec (s : State) (p : Nat) (x : TxItem) : (s.enqueue p x).sec = s.sec := rfl
@[simp] theorem State.enqueue_chor (s : State) (p : Nat) (x : TxItem) : (s.enqueue p x).chor = s.chor := rfl
@[simp] theorem State.enqueue_host (s : State) (p : Nat) (x : TxItem) : (s.enqueue p x).host = s.host := rfl
@[simp] theorem State.enqueue_flash (s : State) (p : Nat) (x : TxItem) : (s.enqueue p x).flash = s.flash := rfl

/-! setPtp -/

@[simp] theorem State.setPtp_now (s : State) (k : Nat) (x : PtpSt) : (s.setPtp k x).now = s.now := rfl
@[simp] theorem State.setPtp_fresh (s : State) (k : Nat) (x : PtpSt) : (s.setPtp k x).fresh = s.fresh := rfl
@[simp] theorem State.setPtp_pending (s : State) (k : Nat) (x : PtpSt) : (s.setPtp k x).pending = s.pending := rfl
@[simp] theorem State.setPtp_regs (s : State) (k : Nat) (x : PtpSt) : (s.setPtp k x).regs = s.regs := rfl
@[simp] theorem State.setPtp_live (s : State) (k : Nat) (x : PtpSt) : (s.setPtp k x).live = s.live := rfl
@[simp] theorem State.setPtp_wo (s : State) (k : Nat) (x : PtpSt) : (s.setPtp k x).wo = s.wo := rfl
@[simp] theorem State.setPtp_log (s : State) (k : Nat) (x : PtpSt) : (s.setPtp k x).log = s.log := rfl
@[simp] theorem State.setPtp_cyc (s : State) (k : Nat) (x : PtpSt) : (s.setPtp k x).cyc = s.cyc := rfl
@[simp] theorem State.setPtp_resp (s : State) (k : Nat) (x : PtpSt) : (s.setPtp k x).resp = s.resp := rfl
@[simp] theorem State.setPtp_dram (s : State) (k : Nat) (x : PtpSt) : (s.setPtp k x).dram = s.dram := rfl
@[simp] theorem State.setPtp_sys (s : State) (k : Nat) (x : PtpSt) : (s.setPtp k x).sys = s.sys := rfl
@[simp] theorem State.setPtp_commits (s : State) (k : Nat) (x : PtpSt) : (s.setPtp k x).commits = s.commits := rfl
@[simp] theorem State.setPtp_dio (s : State) (k : Nat) (x : PtpSt) : (s.setPtp k x).dio = s.dio := rfl
@[simp] theorem State.setPtp_strm (s : State) (k : Nat) (x : PtpSt) : (s.setPtp k x).strm = s.strm := rfl
@[simp] theorem State.setPtp_ports (s : State) (k : Nat) (x : PtpSt) : (s.setPtp k x).ports = s.ports := rfl
@[simp] theorem State.setPtp_mon (s : State) (k : Nat) (x : PtpSt) : (s.setPtp k x).mon = s.mon := rfl
@[simp] theorem State.setPtp_cmp (s : State) (k : Nat) (x : PtpSt) : (s.setPtp k x).cmp = s.cmp := rfl
@[simp] theorem State.setPtp_latch (s : State) (k : Nat) (x : PtpSt) : (s.setPtp k x).latch = s.latch := rfl
@[simp] theorem State.setPtp_tiles (s : State) (k : Nat) (x : PtpSt) : (s.setPtp k x).tiles = s.tiles := rfl
@[simp] theorem State.setPtp_chains (s : State) (k : Nat) (x : PtpSt) : (s.setPtp k x).chains = s.chains := rfl
@[simp] theorem State.setPtp_cal (s : State) (k : Nat) (x : PtpSt) : (s.setPtp k x).cal = s.cal := rfl
@[simp] theorem State.setPtp_fuse (s : State) (k : Nat) (x : PtpSt) : (s.setPtp k x).fuse = s.fuse := rfl
@[simp] theorem State.setPtp_safe (s : State) (k : Nat) (x : PtpSt) : (s.setPtp k x).safe = s.safe := rfl
@[simp] theorem State.setPtp_pair (s : State) (k : Nat) (x : PtpSt) : (s.setPtp k x).pair = s.pair := rfl
@[simp] theorem State.setPtp_sec (s : State) (k : Nat) (x : PtpSt) : (s.setPtp k x).sec = s.sec := rfl
@[simp] theorem State.setPtp_chor (s : State) (k : Nat) (x : PtpSt) : (s.setPtp k x).chor = s.chor := rfl
@[simp] theorem State.setPtp_host (s : State) (k : Nat) (x : PtpSt) : (s.setPtp k x).host = s.host := rfl
@[simp] theorem State.setPtp_flash (s : State) (k : Nat) (x : PtpSt) : (s.setPtp k x).flash = s.flash := rfl

/-! setTempo -/

@[simp] theorem State.setTempo_now (s : State) (n : Nat) (x : TmpSt) : (s.setTempo n x).now = s.now := rfl
@[simp] theorem State.setTempo_fresh (s : State) (n : Nat) (x : TmpSt) : (s.setTempo n x).fresh = s.fresh := rfl
@[simp] theorem State.setTempo_pending (s : State) (n : Nat) (x : TmpSt) : (s.setTempo n x).pending = s.pending := rfl
@[simp] theorem State.setTempo_regs (s : State) (n : Nat) (x : TmpSt) : (s.setTempo n x).regs = s.regs := rfl
@[simp] theorem State.setTempo_live (s : State) (n : Nat) (x : TmpSt) : (s.setTempo n x).live = s.live := rfl
@[simp] theorem State.setTempo_wo (s : State) (n : Nat) (x : TmpSt) : (s.setTempo n x).wo = s.wo := rfl
@[simp] theorem State.setTempo_log (s : State) (n : Nat) (x : TmpSt) : (s.setTempo n x).log = s.log := rfl
@[simp] theorem State.setTempo_cyc (s : State) (n : Nat) (x : TmpSt) : (s.setTempo n x).cyc = s.cyc := rfl
@[simp] theorem State.setTempo_resp (s : State) (n : Nat) (x : TmpSt) : (s.setTempo n x).resp = s.resp := rfl
@[simp] theorem State.setTempo_dram (s : State) (n : Nat) (x : TmpSt) : (s.setTempo n x).dram = s.dram := rfl
@[simp] theorem State.setTempo_sys (s : State) (n : Nat) (x : TmpSt) : (s.setTempo n x).sys = s.sys := rfl
@[simp] theorem State.setTempo_commits (s : State) (n : Nat) (x : TmpSt) : (s.setTempo n x).commits = s.commits := rfl
@[simp] theorem State.setTempo_dio (s : State) (n : Nat) (x : TmpSt) : (s.setTempo n x).dio = s.dio := rfl
@[simp] theorem State.setTempo_strm (s : State) (n : Nat) (x : TmpSt) : (s.setTempo n x).strm = s.strm := rfl
@[simp] theorem State.setTempo_ports (s : State) (n : Nat) (x : TmpSt) : (s.setTempo n x).ports = s.ports := rfl
@[simp] theorem State.setTempo_mon (s : State) (n : Nat) (x : TmpSt) : (s.setTempo n x).mon = s.mon := rfl
@[simp] theorem State.setTempo_cmp (s : State) (n : Nat) (x : TmpSt) : (s.setTempo n x).cmp = s.cmp := rfl
@[simp] theorem State.setTempo_latch (s : State) (n : Nat) (x : TmpSt) : (s.setTempo n x).latch = s.latch := rfl
@[simp] theorem State.setTempo_tiles (s : State) (n : Nat) (x : TmpSt) : (s.setTempo n x).tiles = s.tiles := rfl
@[simp] theorem State.setTempo_chains (s : State) (n : Nat) (x : TmpSt) : (s.setTempo n x).chains = s.chains := rfl
@[simp] theorem State.setTempo_cal (s : State) (n : Nat) (x : TmpSt) : (s.setTempo n x).cal = s.cal := rfl
@[simp] theorem State.setTempo_fuse (s : State) (n : Nat) (x : TmpSt) : (s.setTempo n x).fuse = s.fuse := rfl
@[simp] theorem State.setTempo_safe (s : State) (n : Nat) (x : TmpSt) : (s.setTempo n x).safe = s.safe := rfl
@[simp] theorem State.setTempo_pair (s : State) (n : Nat) (x : TmpSt) : (s.setTempo n x).pair = s.pair := rfl
@[simp] theorem State.setTempo_sec (s : State) (n : Nat) (x : TmpSt) : (s.setTempo n x).sec = s.sec := rfl
@[simp] theorem State.setTempo_chor (s : State) (n : Nat) (x : TmpSt) : (s.setTempo n x).chor = s.chor := rfl
@[simp] theorem State.setTempo_host (s : State) (n : Nat) (x : TmpSt) : (s.setTempo n x).host = s.host := rfl
@[simp] theorem State.setTempo_flash (s : State) (n : Nat) (x : TmpSt) : (s.setTempo n x).flash = s.flash := rfl

/-! setChain -/

@[simp] theorem State.setChain_now (s : State) (e : Nat) (x : ChainSt) : (s.setChain e x).now = s.now := rfl
@[simp] theorem State.setChain_fresh (s : State) (e : Nat) (x : ChainSt) : (s.setChain e x).fresh = s.fresh := rfl
@[simp] theorem State.setChain_pending (s : State) (e : Nat) (x : ChainSt) : (s.setChain e x).pending = s.pending := rfl
@[simp] theorem State.setChain_regs (s : State) (e : Nat) (x : ChainSt) : (s.setChain e x).regs = s.regs := rfl
@[simp] theorem State.setChain_live (s : State) (e : Nat) (x : ChainSt) : (s.setChain e x).live = s.live := rfl
@[simp] theorem State.setChain_wo (s : State) (e : Nat) (x : ChainSt) : (s.setChain e x).wo = s.wo := rfl
@[simp] theorem State.setChain_log (s : State) (e : Nat) (x : ChainSt) : (s.setChain e x).log = s.log := rfl
@[simp] theorem State.setChain_cyc (s : State) (e : Nat) (x : ChainSt) : (s.setChain e x).cyc = s.cyc := rfl
@[simp] theorem State.setChain_resp (s : State) (e : Nat) (x : ChainSt) : (s.setChain e x).resp = s.resp := rfl
@[simp] theorem State.setChain_dram (s : State) (e : Nat) (x : ChainSt) : (s.setChain e x).dram = s.dram := rfl
@[simp] theorem State.setChain_sys (s : State) (e : Nat) (x : ChainSt) : (s.setChain e x).sys = s.sys := rfl
@[simp] theorem State.setChain_commits (s : State) (e : Nat) (x : ChainSt) : (s.setChain e x).commits = s.commits := rfl
@[simp] theorem State.setChain_time (s : State) (e : Nat) (x : ChainSt) : (s.setChain e x).time = s.time := rfl
@[simp] theorem State.setChain_dio (s : State) (e : Nat) (x : ChainSt) : (s.setChain e x).dio = s.dio := rfl
@[simp] theorem State.setChain_strm (s : State) (e : Nat) (x : ChainSt) : (s.setChain e x).strm = s.strm := rfl
@[simp] theorem State.setChain_ports (s : State) (e : Nat) (x : ChainSt) : (s.setChain e x).ports = s.ports := rfl
@[simp] theorem State.setChain_mon (s : State) (e : Nat) (x : ChainSt) : (s.setChain e x).mon = s.mon := rfl
@[simp] theorem State.setChain_cmp (s : State) (e : Nat) (x : ChainSt) : (s.setChain e x).cmp = s.cmp := rfl
@[simp] theorem State.setChain_latch (s : State) (e : Nat) (x : ChainSt) : (s.setChain e x).latch = s.latch := rfl
@[simp] theorem State.setChain_tiles (s : State) (e : Nat) (x : ChainSt) : (s.setChain e x).tiles = s.tiles := rfl
@[simp] theorem State.setChain_cal (s : State) (e : Nat) (x : ChainSt) : (s.setChain e x).cal = s.cal := rfl
@[simp] theorem State.setChain_fuse (s : State) (e : Nat) (x : ChainSt) : (s.setChain e x).fuse = s.fuse := rfl
@[simp] theorem State.setChain_safe (s : State) (e : Nat) (x : ChainSt) : (s.setChain e x).safe = s.safe := rfl
@[simp] theorem State.setChain_pair (s : State) (e : Nat) (x : ChainSt) : (s.setChain e x).pair = s.pair := rfl
@[simp] theorem State.setChain_sec (s : State) (e : Nat) (x : ChainSt) : (s.setChain e x).sec = s.sec := rfl
@[simp] theorem State.setChain_chor (s : State) (e : Nat) (x : ChainSt) : (s.setChain e x).chor = s.chor := rfl
@[simp] theorem State.setChain_host (s : State) (e : Nat) (x : ChainSt) : (s.setChain e x).host = s.host := rfl
@[simp] theorem State.setChain_flash (s : State) (e : Nat) (x : ChainSt) : (s.setChain e x).flash = s.flash := rfl

/-! setMon -/

@[simp] theorem State.setMon_now (s : State) (u : Nat) (x : MonSt) : (s.setMon u x).now = s.now := rfl
@[simp] theorem State.setMon_fresh (s : State) (u : Nat) (x : MonSt) : (s.setMon u x).fresh = s.fresh := rfl
@[simp] theorem State.setMon_pending (s : State) (u : Nat) (x : MonSt) : (s.setMon u x).pending = s.pending := rfl
@[simp] theorem State.setMon_regs (s : State) (u : Nat) (x : MonSt) : (s.setMon u x).regs = s.regs := rfl
@[simp] theorem State.setMon_live (s : State) (u : Nat) (x : MonSt) : (s.setMon u x).live = s.live := rfl
@[simp] theorem State.setMon_wo (s : State) (u : Nat) (x : MonSt) : (s.setMon u x).wo = s.wo := rfl
@[simp] theorem State.setMon_log (s : State) (u : Nat) (x : MonSt) : (s.setMon u x).log = s.log := rfl
@[simp] theorem State.setMon_cyc (s : State) (u : Nat) (x : MonSt) : (s.setMon u x).cyc = s.cyc := rfl
@[simp] theorem State.setMon_resp (s : State) (u : Nat) (x : MonSt) : (s.setMon u x).resp = s.resp := rfl
@[simp] theorem State.setMon_dram (s : State) (u : Nat) (x : MonSt) : (s.setMon u x).dram = s.dram := rfl
@[simp] theorem State.setMon_sys (s : State) (u : Nat) (x : MonSt) : (s.setMon u x).sys = s.sys := rfl
@[simp] theorem State.setMon_commits (s : State) (u : Nat) (x : MonSt) : (s.setMon u x).commits = s.commits := rfl
@[simp] theorem State.setMon_time (s : State) (u : Nat) (x : MonSt) : (s.setMon u x).time = s.time := rfl
@[simp] theorem State.setMon_dio (s : State) (u : Nat) (x : MonSt) : (s.setMon u x).dio = s.dio := rfl
@[simp] theorem State.setMon_strm (s : State) (u : Nat) (x : MonSt) : (s.setMon u x).strm = s.strm := rfl
@[simp] theorem State.setMon_ports (s : State) (u : Nat) (x : MonSt) : (s.setMon u x).ports = s.ports := rfl
@[simp] theorem State.setMon_cmp (s : State) (u : Nat) (x : MonSt) : (s.setMon u x).cmp = s.cmp := rfl
@[simp] theorem State.setMon_latch (s : State) (u : Nat) (x : MonSt) : (s.setMon u x).latch = s.latch := rfl
@[simp] theorem State.setMon_tiles (s : State) (u : Nat) (x : MonSt) : (s.setMon u x).tiles = s.tiles := rfl
@[simp] theorem State.setMon_chains (s : State) (u : Nat) (x : MonSt) : (s.setMon u x).chains = s.chains := rfl
@[simp] theorem State.setMon_cal (s : State) (u : Nat) (x : MonSt) : (s.setMon u x).cal = s.cal := rfl
@[simp] theorem State.setMon_fuse (s : State) (u : Nat) (x : MonSt) : (s.setMon u x).fuse = s.fuse := rfl
@[simp] theorem State.setMon_safe (s : State) (u : Nat) (x : MonSt) : (s.setMon u x).safe = s.safe := rfl
@[simp] theorem State.setMon_pair (s : State) (u : Nat) (x : MonSt) : (s.setMon u x).pair = s.pair := rfl
@[simp] theorem State.setMon_sec (s : State) (u : Nat) (x : MonSt) : (s.setMon u x).sec = s.sec := rfl
@[simp] theorem State.setMon_chor (s : State) (u : Nat) (x : MonSt) : (s.setMon u x).chor = s.chor := rfl
@[simp] theorem State.setMon_host (s : State) (u : Nat) (x : MonSt) : (s.setMon u x).host = s.host := rfl
@[simp] theorem State.setMon_flash (s : State) (u : Nat) (x : MonSt) : (s.setMon u x).flash = s.flash := rfl

/-! setHist -/

@[simp] theorem State.setHist_now (s : State) (e : Nat) (x : HistEp) : (s.setHist e x).now = s.now := rfl
@[simp] theorem State.setHist_fresh (s : State) (e : Nat) (x : HistEp) : (s.setHist e x).fresh = s.fresh := rfl
@[simp] theorem State.setHist_pending (s : State) (e : Nat) (x : HistEp) : (s.setHist e x).pending = s.pending := rfl
@[simp] theorem State.setHist_regs (s : State) (e : Nat) (x : HistEp) : (s.setHist e x).regs = s.regs := rfl
@[simp] theorem State.setHist_live (s : State) (e : Nat) (x : HistEp) : (s.setHist e x).live = s.live := rfl
@[simp] theorem State.setHist_wo (s : State) (e : Nat) (x : HistEp) : (s.setHist e x).wo = s.wo := rfl
@[simp] theorem State.setHist_log (s : State) (e : Nat) (x : HistEp) : (s.setHist e x).log = s.log := rfl
@[simp] theorem State.setHist_cyc (s : State) (e : Nat) (x : HistEp) : (s.setHist e x).cyc = s.cyc := rfl
@[simp] theorem State.setHist_resp (s : State) (e : Nat) (x : HistEp) : (s.setHist e x).resp = s.resp := rfl
@[simp] theorem State.setHist_dram (s : State) (e : Nat) (x : HistEp) : (s.setHist e x).dram = s.dram := rfl
@[simp] theorem State.setHist_sys (s : State) (e : Nat) (x : HistEp) : (s.setHist e x).sys = s.sys := rfl
@[simp] theorem State.setHist_commits (s : State) (e : Nat) (x : HistEp) : (s.setHist e x).commits = s.commits := rfl
@[simp] theorem State.setHist_time (s : State) (e : Nat) (x : HistEp) : (s.setHist e x).time = s.time := rfl
@[simp] theorem State.setHist_dio (s : State) (e : Nat) (x : HistEp) : (s.setHist e x).dio = s.dio := rfl
@[simp] theorem State.setHist_ports (s : State) (e : Nat) (x : HistEp) : (s.setHist e x).ports = s.ports := rfl
@[simp] theorem State.setHist_mon (s : State) (e : Nat) (x : HistEp) : (s.setHist e x).mon = s.mon := rfl
@[simp] theorem State.setHist_cmp (s : State) (e : Nat) (x : HistEp) : (s.setHist e x).cmp = s.cmp := rfl
@[simp] theorem State.setHist_latch (s : State) (e : Nat) (x : HistEp) : (s.setHist e x).latch = s.latch := rfl
@[simp] theorem State.setHist_tiles (s : State) (e : Nat) (x : HistEp) : (s.setHist e x).tiles = s.tiles := rfl
@[simp] theorem State.setHist_chains (s : State) (e : Nat) (x : HistEp) : (s.setHist e x).chains = s.chains := rfl
@[simp] theorem State.setHist_cal (s : State) (e : Nat) (x : HistEp) : (s.setHist e x).cal = s.cal := rfl
@[simp] theorem State.setHist_fuse (s : State) (e : Nat) (x : HistEp) : (s.setHist e x).fuse = s.fuse := rfl
@[simp] theorem State.setHist_safe (s : State) (e : Nat) (x : HistEp) : (s.setHist e x).safe = s.safe := rfl
@[simp] theorem State.setHist_pair (s : State) (e : Nat) (x : HistEp) : (s.setHist e x).pair = s.pair := rfl
@[simp] theorem State.setHist_sec (s : State) (e : Nat) (x : HistEp) : (s.setHist e x).sec = s.sec := rfl
@[simp] theorem State.setHist_chor (s : State) (e : Nat) (x : HistEp) : (s.setHist e x).chor = s.chor := rfl
@[simp] theorem State.setHist_host (s : State) (e : Nat) (x : HistEp) : (s.setHist e x).host = s.host := rfl
@[simp] theorem State.setHist_flash (s : State) (e : Nat) (x : HistEp) : (s.setHist e x).flash = s.flash := rfl

/-! setDi -/

@[simp] theorem State.setDi_now (s : State) (i : Nat) (x : DiSt) : (s.setDi i x).now = s.now := rfl
@[simp] theorem State.setDi_fresh (s : State) (i : Nat) (x : DiSt) : (s.setDi i x).fresh = s.fresh := rfl
@[simp] theorem State.setDi_pending (s : State) (i : Nat) (x : DiSt) : (s.setDi i x).pending = s.pending := rfl
@[simp] theorem State.setDi_regs (s : State) (i : Nat) (x : DiSt) : (s.setDi i x).regs = s.regs := rfl
@[simp] theorem State.setDi_live (s : State) (i : Nat) (x : DiSt) : (s.setDi i x).live = s.live := rfl
@[simp] theorem State.setDi_wo (s : State) (i : Nat) (x : DiSt) : (s.setDi i x).wo = s.wo := rfl
@[simp] theorem State.setDi_log (s : State) (i : Nat) (x : DiSt) : (s.setDi i x).log = s.log := rfl
@[simp] theorem State.setDi_cyc (s : State) (i : Nat) (x : DiSt) : (s.setDi i x).cyc = s.cyc := rfl
@[simp] theorem State.setDi_resp (s : State) (i : Nat) (x : DiSt) : (s.setDi i x).resp = s.resp := rfl
@[simp] theorem State.setDi_dram (s : State) (i : Nat) (x : DiSt) : (s.setDi i x).dram = s.dram := rfl
@[simp] theorem State.setDi_sys (s : State) (i : Nat) (x : DiSt) : (s.setDi i x).sys = s.sys := rfl
@[simp] theorem State.setDi_commits (s : State) (i : Nat) (x : DiSt) : (s.setDi i x).commits = s.commits := rfl
@[simp] theorem State.setDi_time (s : State) (i : Nat) (x : DiSt) : (s.setDi i x).time = s.time := rfl
@[simp] theorem State.setDi_strm (s : State) (i : Nat) (x : DiSt) : (s.setDi i x).strm = s.strm := rfl
@[simp] theorem State.setDi_ports (s : State) (i : Nat) (x : DiSt) : (s.setDi i x).ports = s.ports := rfl
@[simp] theorem State.setDi_mon (s : State) (i : Nat) (x : DiSt) : (s.setDi i x).mon = s.mon := rfl
@[simp] theorem State.setDi_cmp (s : State) (i : Nat) (x : DiSt) : (s.setDi i x).cmp = s.cmp := rfl
@[simp] theorem State.setDi_latch (s : State) (i : Nat) (x : DiSt) : (s.setDi i x).latch = s.latch := rfl
@[simp] theorem State.setDi_tiles (s : State) (i : Nat) (x : DiSt) : (s.setDi i x).tiles = s.tiles := rfl
@[simp] theorem State.setDi_chains (s : State) (i : Nat) (x : DiSt) : (s.setDi i x).chains = s.chains := rfl
@[simp] theorem State.setDi_cal (s : State) (i : Nat) (x : DiSt) : (s.setDi i x).cal = s.cal := rfl
@[simp] theorem State.setDi_fuse (s : State) (i : Nat) (x : DiSt) : (s.setDi i x).fuse = s.fuse := rfl
@[simp] theorem State.setDi_safe (s : State) (i : Nat) (x : DiSt) : (s.setDi i x).safe = s.safe := rfl
@[simp] theorem State.setDi_pair (s : State) (i : Nat) (x : DiSt) : (s.setDi i x).pair = s.pair := rfl
@[simp] theorem State.setDi_sec (s : State) (i : Nat) (x : DiSt) : (s.setDi i x).sec = s.sec := rfl
@[simp] theorem State.setDi_chor (s : State) (i : Nat) (x : DiSt) : (s.setDi i x).chor = s.chor := rfl
@[simp] theorem State.setDi_host (s : State) (i : Nat) (x : DiSt) : (s.setDi i x).host = s.host := rfl
@[simp] theorem State.setDi_flash (s : State) (i : Nat) (x : DiSt) : (s.setDi i x).flash = s.flash := rfl

/-! logCycle -/

@[simp] theorem State.logCycle_now (s : State) (c k i d x n : Nat) : (s.logCycle c k i d x n).now = s.now := rfl
@[simp] theorem State.logCycle_fresh (s : State) (c k i d x n : Nat) : (s.logCycle c k i d x n).fresh = s.fresh := rfl
@[simp] theorem State.logCycle_pending (s : State) (c k i d x n : Nat) : (s.logCycle c k i d x n).pending = s.pending := rfl
@[simp] theorem State.logCycle_regs (s : State) (c k i d x n : Nat) : (s.logCycle c k i d x n).regs = s.regs := rfl
@[simp] theorem State.logCycle_live (s : State) (c k i d x n : Nat) : (s.logCycle c k i d x n).live = s.live := rfl
@[simp] theorem State.logCycle_wo (s : State) (c k i d x n : Nat) : (s.logCycle c k i d x n).wo = s.wo := rfl
@[simp] theorem State.logCycle_log (s : State) (c k i d x n : Nat) : (s.logCycle c k i d x n).log = s.log := rfl
@[simp] theorem State.logCycle_resp (s : State) (c k i d x n : Nat) : (s.logCycle c k i d x n).resp = s.resp := rfl
@[simp] theorem State.logCycle_dram (s : State) (c k i d x n : Nat) : (s.logCycle c k i d x n).dram = s.dram := rfl
@[simp] theorem State.logCycle_sys (s : State) (c k i d x n : Nat) : (s.logCycle c k i d x n).sys = s.sys := rfl
@[simp] theorem State.logCycle_commits (s : State) (c k i d x n : Nat) : (s.logCycle c k i d x n).commits = s.commits := rfl
@[simp] theorem State.logCycle_time (s : State) (c k i d x n : Nat) : (s.logCycle c k i d x n).time = s.time := rfl
@[simp] theorem State.logCycle_dio (s : State) (c k i d x n : Nat) : (s.logCycle c k i d x n).dio = s.dio := rfl
@[simp] theorem State.logCycle_strm (s : State) (c k i d x n : Nat) : (s.logCycle c k i d x n).strm = s.strm := rfl
@[simp] theorem State.logCycle_ports (s : State) (c k i d x n : Nat) : (s.logCycle c k i d x n).ports = s.ports := rfl
@[simp] theorem State.logCycle_mon (s : State) (c k i d x n : Nat) : (s.logCycle c k i d x n).mon = s.mon := rfl
@[simp] theorem State.logCycle_cmp (s : State) (c k i d x n : Nat) : (s.logCycle c k i d x n).cmp = s.cmp := rfl
@[simp] theorem State.logCycle_latch (s : State) (c k i d x n : Nat) : (s.logCycle c k i d x n).latch = s.latch := rfl
@[simp] theorem State.logCycle_tiles (s : State) (c k i d x n : Nat) : (s.logCycle c k i d x n).tiles = s.tiles := rfl
@[simp] theorem State.logCycle_chains (s : State) (c k i d x n : Nat) : (s.logCycle c k i d x n).chains = s.chains := rfl
@[simp] theorem State.logCycle_cal (s : State) (c k i d x n : Nat) : (s.logCycle c k i d x n).cal = s.cal := rfl
@[simp] theorem State.logCycle_fuse (s : State) (c k i d x n : Nat) : (s.logCycle c k i d x n).fuse = s.fuse := rfl
@[simp] theorem State.logCycle_safe (s : State) (c k i d x n : Nat) : (s.logCycle c k i d x n).safe = s.safe := rfl
@[simp] theorem State.logCycle_pair (s : State) (c k i d x n : Nat) : (s.logCycle c k i d x n).pair = s.pair := rfl
@[simp] theorem State.logCycle_sec (s : State) (c k i d x n : Nat) : (s.logCycle c k i d x n).sec = s.sec := rfl
@[simp] theorem State.logCycle_chor (s : State) (c k i d x n : Nat) : (s.logCycle c k i d x n).chor = s.chor := rfl
@[simp] theorem State.logCycle_host (s : State) (c k i d x n : Nat) : (s.logCycle c k i d x n).host = s.host := rfl
@[simp] theorem State.logCycle_flash (s : State) (c k i d x n : Nat) : (s.logCycle c k i d x n).flash = s.flash := rfl

end Sys2Proof.Machine
end

