-- ==== Sys2Proof/Laws/Tbl.lean ====
section
/-! SUPPORT. Laws of sparse tables: what a read gives after a write, and that every operation keeps the canonical form. -/

namespace Sys2Proof.Machine

variable {α : Type}

theorem Tbl.get_del_self (d : α) (m : Tbl α) (k : Nat) : Tbl.get d (Tbl.del m k) k = d := by
  induction m with
  | nil => rfl
  | cons e m ih =>
    obtain ⟨j, v⟩ := e
    by_cases h : j = k <;> simp [Tbl.del, Tbl.get, h, ih]

theorem Tbl.get_del_ne (d : α) (m : Tbl α) {k j : Nat} (h : j ≠ k) : Tbl.get d (Tbl.del m k) j = Tbl.get d m j := by
  induction m with
  | nil => rfl
  | cons e m ih =>
    obtain ⟨i, v⟩ := e
    by_cases h1 : i = k
    · subst h1; simp [Tbl.del, Tbl.get, ih, Ne.symm h]
    · by_cases h2 : i = j
      · subst h2; simp [Tbl.del, Tbl.get, h1]
      · simp [Tbl.del, Tbl.get, h1, h2, ih]

@[simp] theorem Tbl.get_ins_self (d : α) (m : Tbl α) (k : Nat) (v : α) : Tbl.get d (Tbl.ins m k v) k = v := by
  induction m with
  | nil => simp [Tbl.ins, Tbl.get]
  | cons e m ih =>
    obtain ⟨j, u⟩ := e
    rcases lt_trichotomy k j with h | h | h
    · simp [Tbl.ins, Tbl.get, h]
    · simp [Tbl.ins, Tbl.get, h]
    · simp [Tbl.ins, Tbl.get, Nat.lt_asymm h, Nat.ne_of_gt h, Nat.ne_of_lt h, ih]

theorem Tbl.get_ins_ne (d : α) (m : Tbl α) {k j : Nat} (v : α) (h : j ≠ k) :
    Tbl.get d (Tbl.ins m k v) j = Tbl.get d m j := by
  induction m with
  | nil => simp [Tbl.ins, Tbl.get, Ne.symm h]
  | cons e m ih =>
    obtain ⟨i, u⟩ := e
    rcases lt_trichotomy k i with h1 | h1 | h1
    · simp [Tbl.ins, Tbl.get, h1, Ne.symm h]
    · subst h1; simp [Tbl.ins, Tbl.get, Ne.symm h]
    · by_cases h2 : i = j
      · subst h2; simp [Tbl.ins, Tbl.get, Nat.lt_asymm h1, Nat.ne_of_gt h1]
      · simp [Tbl.ins, Tbl.get, Nat.lt_asymm h1, Nat.ne_of_gt h1, h2, ih]

@[simp] theorem Tbl.get_set_self [DecidableEq α] (d : α) (m : Tbl α) (k : Nat) (v : α) :
    Tbl.get d (Tbl.set d m k v) k = v := by
  by_cases h : v = d
  · simp [Tbl.set, h, Tbl.get_del_self]
  · simp [Tbl.set, h]

theorem Tbl.get_set_ne [DecidableEq α] (d : α) (m : Tbl α) {k j : Nat} (v : α) (h : j ≠ k) :
    Tbl.get d (Tbl.set d m k v) j = Tbl.get d m j := by
  by_cases hv : v = d <;> simp [Tbl.set, hv, Tbl.get_del_ne, Tbl.get_ins_ne, h]

/-- A write under one default, read under another: the read agrees at every other key. -/
theorem Tbl.get_set_ne' [DecidableEq α] (d d' : α) (m : Tbl α) {k j : Nat} (v : α) (h : j ≠ k) :
    Tbl.get d' (Tbl.set d m k v) j = Tbl.get d' m j := by
  by_cases hv : v = d <;> simp [Tbl.set, hv, Tbl.get_del_ne, Tbl.get_ins_ne, h]

/-! The canonical form -/

/-- Every key of a table exceeds `k`. -/
def Tbl.above (k : Nat) (m : Tbl α) : Prop := ∀ e ∈ m, k < e.1

theorem Tbl.sorted_cons (k : Nat) (v : α) (m : Tbl α) :
    Tbl.sorted ((k, v) :: m) = true ↔ Tbl.above k m ∧ Tbl.sorted m = true := by
  induction m generalizing k v with
  | nil => simp [Tbl.sorted, Tbl.above]
  | cons e m ih =>
    obtain ⟨j, u⟩ := e
    simp only [Tbl.sorted, Bool.and_eq_true, decide_eq_true_eq]
    constructor
    · rintro ⟨h, hs⟩
      refine ⟨fun e he => ?_, hs⟩
      rcases List.mem_cons.1 he with rfl | he
      · exact h
      · exact h.trans (((ih j u).1 hs).1 e he)
    · rintro ⟨h, hs⟩
      exact ⟨h (j, u) (by simp), hs⟩

theorem Tbl.above_del {k j : Nat} {m : Tbl α} (h : Tbl.above k m) : Tbl.above k (Tbl.del m j) := by
  induction m with
  | nil => simpa [Tbl.del] using h
  | cons e m ih =>
    obtain ⟨i, v⟩ := e
    have h' : Tbl.above k m := fun e he => h e (by simp [he])
    by_cases hi : i = j
    · simpa [Tbl.del, hi] using ih h'
    · intro e he
      simp only [Tbl.del, hi, if_false] at he
      rcases List.mem_cons.1 he with rfl | he
      · exact h _ (by simp)
      · exact ih h' e he

theorem Tbl.above_ins {k j : Nat} {m : Tbl α} {v : α} (hk : k < j) (h : Tbl.above k m) : Tbl.above k (Tbl.ins m j v) := by
  induction m with
  | nil => intro e he; simp [Tbl.ins] at he; simpa [he] using hk
  | cons e m ih =>
    obtain ⟨i, u⟩ := e
    have h' : Tbl.above k m := fun e he => h e (by simp [he])
    intro e he
    rcases lt_trichotomy j i with h1 | h1 | h1
    · simp only [Tbl.ins, h1, if_true] at he
      rcases List.mem_cons.1 he with rfl | he
      · exact hk
      · exact h e he
    · simp only [Tbl.ins, h1, lt_irrefl, if_false, if_true] at he
      rcases List.mem_cons.1 he with rfl | he
      · simpa [← h1] using hk
      · exact h' e he
    · simp only [Tbl.ins, Nat.lt_asymm h1, Nat.ne_of_gt h1, if_false] at he
      rcases List.mem_cons.1 he with rfl | he
      · exact h _ (by simp)
      · exact ih h' e he

theorem Tbl.sorted_del {m : Tbl α} (k : Nat) (h : Tbl.sorted m = true) : Tbl.sorted (Tbl.del m k) = true := by
  induction m with
  | nil => simp [Tbl.del, Tbl.sorted]
  | cons e m ih =>
    obtain ⟨j, v⟩ := e
    obtain ⟨ha, hs⟩ := (Tbl.sorted_cons j v m).1 h
    by_cases hj : j = k
    · simpa [Tbl.del, hj] using ih hs
    · simpa [Tbl.del, hj, Tbl.sorted_cons] using ⟨Tbl.above_del ha, ih hs⟩

theorem Tbl.sorted_ins {m : Tbl α} (k : Nat) (v : α) (h : Tbl.sorted m = true) : Tbl.sorted (Tbl.ins m k v) = true := by
  induction m with
  | nil => simp [Tbl.ins, Tbl.sorted]
  | cons e m ih =>
    obtain ⟨j, u⟩ := e
    obtain ⟨ha, hs⟩ := (Tbl.sorted_cons j u m).1 h
    rcases lt_trichotomy k j with h1 | h1 | h1
    · simp only [Tbl.ins, h1, if_true, Tbl.sorted_cons]
      exact ⟨fun e he => by
        rcases List.mem_cons.1 he with rfl | he
        · exact h1
        · exact h1.trans (ha e he), ha, hs⟩
    · subst h1; simpa [Tbl.ins, Tbl.sorted_cons] using ⟨ha, hs⟩
    · simpa [Tbl.ins, Nat.lt_asymm h1, Nat.ne_of_gt h1, Tbl.sorted_cons] using ⟨Tbl.above_ins h1 ha, ih hs⟩

theorem Tbl.mem_del {m : Tbl α} {k : Nat} {e : Nat × α} (h : e ∈ Tbl.del m k) : e ∈ m := by
  induction m with
  | nil => simp [Tbl.del] at h
  | cons x m ih =>
    obtain ⟨j, v⟩ := x
    by_cases hj : j = k
    · exact List.mem_cons_of_mem _ (ih (by simpa [Tbl.del, hj] using h))
    · simp only [Tbl.del, hj, if_false] at h
      rcases List.mem_cons.1 h with rfl | h
      · simp
      · exact List.mem_cons_of_mem _ (ih h)

theorem Tbl.mem_ins {m : Tbl α} {k : Nat} {v : α} {e : Nat × α} (h : e ∈ Tbl.ins m k v) : e = (k, v) ∨ e ∈ m := by
  induction m with
  | nil => left; simpa [Tbl.ins] using h
  | cons x m ih =>
    obtain ⟨j, u⟩ := x
    rcases lt_trichotomy k j with h1 | h1 | h1
    · simpa [Tbl.ins, h1] using h
    · subst h1
      simp only [Tbl.ins, lt_irrefl, if_false, if_true, List.mem_cons] at h
      rcases h with h | h
      · exact Or.inl h
      · exact Or.inr (by simp [h])
    · simp only [Tbl.ins, Nat.lt_asymm h1, Nat.ne_of_gt h1, if_false, List.mem_cons] at h
      rcases h with h | h
      · exact Or.inr (by simp [h])
      · rcases ih h with h | h
        · exact Or.inl h
        · exact Or.inr (by simp [h])

/-- A write keeps the canonical form. -/
theorem Tbl.wf_set [DecidableEq α] (d : Nat → α) {m : Tbl α} (k : Nat) (v : α) (h : Tbl.wf d m = true) :
    Tbl.wf d (Tbl.set (d k) m k v) = true := by
  simp only [Tbl.wf, Bool.and_eq_true, List.all_eq_true, decide_eq_true_eq] at h ⊢
  by_cases hv : v = d k
  · simpa [Tbl.set, hv] using ⟨Tbl.sorted_del k h.1, fun a b hab => h.2 _ (Tbl.mem_del hab)⟩
  · refine ⟨by simpa [Tbl.set, hv] using Tbl.sorted_ins k v h.1, fun e he => ?_⟩
    simp only [Tbl.set, hv, if_false] at he
    rcases Tbl.mem_ins he with rfl | he
    · exact hv
    · exact h.2 e he

end Sys2Proof.Machine
end

