-- ==== Sys2Proof/Laws/Ops.lean ====
section
/-! SUPPORT. Laws of the shared operations: registers and their fields, the DRAM window, the frame of a meaning, the event
log. -/

namespace Sys2Proof.Machine

/-! Registers -/

/-- A field lies within its register's 32 bits. -/
abbrev FldAt.Fits (f : FldAt) : Prop := f.lo + f.w ≤ 32

/-- Two fields share no bit: they lie in different registers, or beside each other in one. -/
abbrev FldAt.Apart (f g : FldAt) : Prop :=
  f.reg.addr ≠ g.reg.addr ∨ f.reg = g.reg ∧ (f.lo + f.w ≤ g.lo ∨ g.lo + g.w ≤ f.lo)

@[simp] theorem State.word_setWord (s : State) (r : RegAt) (v : Word) : (s.setWord r v).word r = v := by
  simp [State.word, State.setWord]

theorem State.word_setWord_ne (s : State) {r q : RegAt} (v : Word) (h : q.addr ≠ r.addr) :
    (s.setWord r v).word q = s.word q := by
  simp [State.word, State.setWord, Tbl.get_set_ne' _ _ _ _ h]

/-- A field reads what was put into it, as far as it is wide enough. -/
theorem State.get_put (s : State) (f : FldAt) (v : Nat) (h : f.Fits) : (s.put f v).get f = v % 2 ^ f.w := by
  simp [State.put, State.get, fget_fset_self _ _ h]

/-- A field keeps its value when a field apart from it is put. -/
theorem State.get_put_ne (s : State) {f g : FldAt} (v : Nat) (h : FldAt.Apart g f) : (s.put f v).get g = s.get g := by
  rcases h with h | ⟨h, hb⟩
  · simp [State.put, State.get, State.word_setWord_ne _ _ h]
  · simp only [State.put, State.get, h, State.word_setWord]
    exact fget_fset_other _ _ hb

theorem State.get_lt (s : State) (f : FldAt) : s.get f < 2 ^ f.w := fget_lt _ _ _
theorem State.inUse_lt (s : State) (f : FldAt) : s.inUse f < 2 ^ f.w := fget_lt _ _ _

theorem satAdd_lt (w old n : Nat) : satAdd w old n < 2 ^ w := by
  have := Nat.two_pow_pos w
  simp only [satAdd, fieldMax]; omega

/-- A counter field after a count: it saturates. -/
theorem State.get_bump (s : State) (f : FldAt) (n : Nat) (h : f.Fits) : (s.bump f n).get f = satAdd f.w (s.get f) n := by
  rw [State.bump, State.get_put _ _ _ h, Nat.mod_eq_of_lt]
  have := Nat.two_pow_pos f.w
  simp only [satAdd, fieldMax]; omega

theorem State.get_bump_ne (s : State) {f g : FldAt} (n : Nat) (h : FldAt.Apart g f) : (s.bump f n).get g = s.get g :=
  s.get_put_ne _ h

theorem State.get_putBit (s : State) (f : FldAt) (b : Bool) (h : f.Fits) (hw : 0 < f.w) :
    (s.putBit f b).get f = if b then 1 else 0 := by
  rw [State.putBit, State.get_put _ _ _ h, Nat.mod_eq_of_lt]
  have : 1 < 2 ^ f.w := Nat.one_lt_two_pow (by omega)
  split <;> omega

/-- What is in use of a register depends on the words in use alone, what is stored on the stored words alone. -/
theorem State.inUse_congr {s t : State} (h : t.live = s.live) (f : FldAt) : t.inUse f = s.inUse f := by
  simp [State.inUse, State.liveWord, h]
theorem State.get_congr {s t : State} (h : t.regs = s.regs) (f : FldAt) : t.get f = s.get f := by
  simp [State.get, State.word, h]

@[simp] theorem State.inUse_put (s : State) (f g : FldAt) (v : Nat) : (s.put f v).inUse g = s.inUse g := rfl
@[simp] theorem State.inUse_bump (s : State) (f g : FldAt) (v : Nat) : (s.bump f v).inUse g = s.inUse g := rfl
@[simp] theorem State.inUse_tick (s : State) (n : Nat) (g : FldAt) : (s.tick n).inUse g = s.inUse g := rfl
@[simp] theorem State.get_tick (s : State) (n : Nat) (g : FldAt) : (s.tick n).get g = s.get g := rfl
@[simp] theorem State.tick_now (s : State) (n : Nat) : (s.tick n).now = max s.now n := rfl
@[simp] theorem State.dramByte_tick (s : State) (n a : Nat) : (s.tick n).dramByte a = s.dramByte a := rfl

/-! The DRAM window -/

/-- A store puts its bytes at its addresses and leaves every other byte. -/
theorem State.dramByte_dramWrite (s : State) (a : Nat) (l : List Byte) (x : Nat) :
    (s.dramWrite a l).dramByte x = if a ≤ x ∧ x < a + l.length then l.getD (x - a) 0 else s.dramByte x := by
  induction l generalizing s a with
  | nil => simp [State.dramWrite]
  | cons b l ih =>
    rw [State.dramWrite, ih, List.length_cons]
    by_cases h : a + 1 ≤ x ∧ x < a + 1 + l.length
    · have h1 : a ≤ x ∧ x < a + (l.length + 1) := by omega
      have h2 : x - a = (x - (a + 1)) + 1 := by omega
      rw [if_pos h, if_pos h1, h2, List.getD_cons_succ]
    · rw [if_neg h]
      by_cases hx : x = a
      · subst hx; simp [State.dramByte]
      · have h1 : ¬ (a ≤ x ∧ x < a + (l.length + 1)) := by omega
        rw [if_neg h1]
        exact Tbl.get_set_ne _ _ _ hx

/-- A store keeps the canonical form of the window. -/
theorem State.wf_dramWrite (s : State) (a : Nat) (l : List Byte) (h : Memory.wf s.dram = true) :
    Memory.wf (s.dramWrite a l).dram = true := by
  induction l generalizing s a with
  | nil => simpa [State.dramWrite] using h
  | cons b l ih => exact ih _ _ (Tbl.wf_set (fun _ => 0) a b h)

theorem State.reset_dram_wf : Memory.wf State.reset.dram = true := by decide

/-- What every step of a repeated operation keeps, the whole keeps. -/
theorem State.each_keeps {α β : Type} (g : State → β) {f : State → α → State} (h : ∀ s x, g (f s x) = g s) (s : State)
    (l : List α) : g (s.each l f) = g s := by
  unfold State.each
  induction l generalizing s with
  | nil => rfl
  | cons x l ih => rw [List.foldl_cons, ih, h]

/-- What holds before a repeated operation and is kept by each of its steps holds after it. -/
theorem State.each_inv {α : Type} (p : State → Prop) {f : State → α → State} (h : ∀ s x, p s → p (f s x)) (s : State)
    (l : List α) (hs : p s) : p (s.each l f) := by
  unfold State.each
  induction l generalizing s with
  | nil => exact hs
  | cons x l ih => exact ih _ (h _ _ hs)

/-! The frame of a meaning -/

@[simp] theorem keep_now (p : Parts) (s t : State) : (keep p s t).now = s.now := rfl
@[simp] theorem keep_pending (p : Parts) (s t : State) : (keep p s t).pending = s.pending := rfl
@[simp] theorem keep_fresh (p : Parts) (s t : State) : (keep p s t).fresh = t.fresh := rfl
@[simp] theorem keep_regs (p : Parts) (s t : State) : (keep p s t).regs = if p.regs then t.regs else s.regs := rfl
@[simp] theorem keep_live (p : Parts) (s t : State) : (keep p s t).live = if p.live then t.live else s.live := rfl
@[simp] theorem keep_wo (p : Parts) (s t : State) : (keep p s t).wo = if p.wo then t.wo else s.wo := rfl
@[simp] theorem keep_log (p : Parts) (s t : State) : (keep p s t).log = if p.log then t.log else s.log := rfl
@[simp] theorem keep_dram (p : Parts) (s t : State) : (keep p s t).dram = if p.dram then t.dram else s.dram := rfl
@[simp] theorem keep_resp (p : Parts) (s t : State) : (keep p s t).resp = if p.resp then t.resp else s.resp := rfl
@[simp] theorem keep_sys (p : Parts) (s t : State) : (keep p s t).sys = if p.sys then t.sys else s.sys := rfl
@[simp] theorem keep_commits (p : Parts) (s t : State) : (keep p s t).commits = if p.commits then t.commits else s.commits := rfl
@[simp] theorem keep_time (p : Parts) (s t : State) : (keep p s t).time = if p.time then t.time else s.time := rfl
@[simp] theorem keep_dio (p : Parts) (s t : State) : (keep p s t).dio = if p.dio then t.dio else s.dio := rfl
@[simp] theorem keep_strm (p : Parts) (s t : State) : (keep p s t).strm = if p.strm then t.strm else s.strm := rfl
@[simp] theorem keep_ports (p : Parts) (s t : State) : (keep p s t).ports = if p.ports then t.ports else s.ports := rfl
@[simp] theorem keep_mon (p : Parts) (s t : State) : (keep p s t).mon = if p.mon then t.mon else s.mon := rfl
@[simp] theorem keep_cmp (p : Parts) (s t : State) : (keep p s t).cmp = if p.cmp then t.cmp else s.cmp := rfl
@[simp] theorem keep_latch (p : Parts) (s t : State) : (keep p s t).latch = if p.latch then t.latch else s.latch := rfl
@[simp] theorem keep_tiles (p : Parts) (s t : State) : (keep p s t).tiles = if p.tiles then t.tiles else s.tiles := rfl
@[simp] theorem keep_chains (p : Parts) (s t : State) : (keep p s t).chains = if p.chains then t.chains else s.chains := rfl
@[simp] theorem keep_cal (p : Parts) (s t : State) : (keep p s t).cal = if p.cal then t.cal else s.cal := rfl
@[simp] theorem keep_fuse (p : Parts) (s t : State) : (keep p s t).fuse = if p.fuse then t.fuse else s.fuse := rfl
@[simp] theorem keep_safe (p : Parts) (s t : State) : (keep p s t).safe = if p.safe then t.safe else s.safe := rfl
@[simp] theorem keep_pair (p : Parts) (s t : State) : (keep p s t).pair = if p.pair then t.pair else s.pair := rfl
@[simp] theorem keep_sec (p : Parts) (s t : State) : (keep p s t).sec = if p.sec then t.sec else s.sec := rfl
@[simp] theorem keep_chor (p : Parts) (s t : State) : (keep p s t).chor = if p.chor then t.chor else s.chor := rfl
@[simp] theorem keep_host (p : Parts) (s t : State) : (keep p s t).host = if p.host then t.host else s.host := rfl
@[simp] theorem keep_flash (p : Parts) (s t : State) : (keep p s t).flash = if p.flash then t.flash else s.flash := rfl
@[simp] theorem keep_cyc (p : Parts) (s t : State) : (keep p s t).cyc = if p.log then t.cyc else s.cyc := rfl

/-- A meaning that no reset holds up always completes, with the parts it may write. -/
theorem always_next (p : Parts) (now : Nat) (s : State) (f : State → State) :
    always p now s f = .next (keep p (s.tick now) (f (s.tick now))) := rfl

/-- A meaning completes on a running hub with the parts it may write. -/
theorem act_running (p : Parts) (now : Nat) {s : State} (h : s.Running) (f : State → State) :
    act p now s f = .next (keep p (s.tick now) (f (s.tick now))) := by
  simp [act, always_next, show s.sys.stopped = false from h]

/-- While a reset source is active, or in recovery, a meaning leaves everything but time. -/
theorem act_stopped (p : Parts) (now : Nat) {s : State} (h : ¬ s.Running) (f : State → State) :
    act p now s f = .next (keep p (s.tick now) (s.tick now)) := by
  simp [act, always_next, show s.sys.stopped = true by simpa [State.Running] using h]

/-- Whatever it does, a meaning answers a next state that differs from the one before in its parts, time and the count of free
values only. -/
theorem act_frame {p : Parts} {now : Nat} {s t : State} {f : State → State} (h : act p now s f = .next t) :
    ∃ u, t = keep p (s.tick now) u := by
  by_cases hr : s.Running
  · rw [act_running p now hr] at h; exact ⟨_, (Host.Outcome.next.inj h).symm⟩
  · rw [act_stopped p now hr] at h; exact ⟨_, (Host.Outcome.next.inj h).symm⟩

theorem always_frame {p : Parts} {now : Nat} {s t : State} {f : State → State} (h : always p now s f = .next t) :
    ∃ u, t = keep p (s.tick now) u := ⟨_, (Host.Outcome.next.inj h).symm⟩

/-- To show what a command completes with on a running hub, show it of the state that its meaning leaves. -/
theorem completes_act {i : Instr} {s : State} {p : Parts} {now : Nat} {f : State → State} {P : State → Prop}
    (he : exec i s = act p now s f) (hr : s.Running) (h : P (keep p (s.tick now) (f (s.tick now)))) : Completes i s P :=
  ⟨_, he.trans (act_running p now hr f), h⟩

/-- The same of a command that no reset holds up. -/
theorem completes_always {i : Instr} {s : State} {p : Parts} {now : Nat} {f : State → State} {P : State → Prop}
    (he : exec i s = always p now s f) (h : P (keep p (s.tick now) (f (s.tick now)))) : Completes i s P :=
  ⟨_, he.trans (always_next p now s f), h⟩

/-! The event log -/

theorem State.hint_get_ne (s : State) (n : Nat) {g : FldAt} (h : FldAt.Apart g R.SYS_HINTST.CAUSE) :
    (s.hint n).get g = s.get g := s.get_put_ne _ h

end Sys2Proof.Machine
end

