-- ==== Sys2Proof/Laws/Bus.lean ====
section
/-! SUPPORT. What a protected write, a denial and a fuse burn can do, said once. -/

namespace Sys2Proof.Machine

theorem FldAt.apart_rsvd (q : Requester) (f : FldAt) (h : f.reg.addr = R.SYS_CHAINPOS.addr) : FldAt.Apart f (R.SYS_REQERR2.RSVD q.no) := by
  refine .inl ?_
  rw [h]
  cases q <;> simp [Requester.no, R.SYS_CHAINPOS, R.SYS_REQERR2.RSVD, R.SYS_REQERR2]

/-- Counting a reserved bit does not touch whether a follow ignores a write. -/
theorem State.ignoresWrite_rsvd (s : State) (q : Requester) (a : Nat) :
    (s.bump (R.SYS_REQERR2.RSVD q.no)).ignoresWrite a = s.ignoresWrite a := by
  unfold State.ignoresWrite State.isPaired State.isFollow State.on
  rw [State.get_bump_ne _ _ (FldAt.apart_rsvd q _ rfl), State.get_bump_ne _ _ (FldAt.apart_rsvd q _ rfl)]

/-- A permitted write that no follow ignores: its reserved bits are counted, its effect follows, and it is answered. -/
theorem State.cmdWrite_taken {s : State} {q : Requester} {a : Nat} {mask data : Word} {f : State → State} (h : s.Accepts q a) :
    s.cmdWrite q a mask data f =
      (f (if data &&& ~~~ mask ≠ 0 then s.bump (R.SYS_REQERR2.RSVD q.no) else s)).answer q false 0 := by
  unfold State.cmdWrite
  rw [if_neg (by simp [h.1])]
  split
  · simp [State.ignoresWrite_rsvd, h.2]
  · simp [h.2]

/-- A denied write has no effect beside the denial and its answer. -/
theorem State.cmdWrite_denied {s : State} {q : Requester} {a : Nat} {mask data : Word} {f : State → State}
    (h : s.permits q a 4 true = false) : s.cmdWrite q a mask data f = (s.deny q.cls a).answer q true 0 := by
  unfold State.cmdWrite
  rw [if_pos (by simp [h])]

/-- A mediated write of a core is a write by its windows; of anyone else it follows the role rule. -/
theorem State.mediated_core0 (s : State) (p : Fin 4) (a : Nat) (mask data : Word) (ok : Bool) (f : State → State) :
    s.mediated (.core0 p) a mask data ok f = s.cmdWrite (.core0 p) a mask data f := rfl
theorem State.mediated_core1 (s : State) (p : Fin 4) (a : Nat) (mask data : Word) (ok : Bool) (f : State → State) :
    s.mediated (.core1 p) a mask data ok f = s.cmdWrite (.core1 p) a mask data f := rfl
theorem State.mediated_host (s : State) (a : Nat) (mask data : Word) (ok : Bool) (f : State → State) :
    s.mediated .host a mask data ok f = if ok then (f s).answer .host false 0 else s.answer .host true 0 := rfl
theorem State.mediated_mgmt (s : State) (r : Fin 4) (a : Nat) (mask data : Word) (ok : Bool) (f : State → State) :
    s.mediated (.mgmt r) a mask data ok f = if ok then (f s).answer (.mgmt r) false 0 else s.answer (.mgmt r) true 0 := rfl

/-- A burn never turns a bit of a fuse word back, and leaves the other words alone. -/
theorem State.burnWord_keeps (s : State) (w v : Nat) (missed : List (Nat × Nat)) (a : Nat) :
    Tbl.get 0 s.fuse a &&& Tbl.get 0 (s.burnWord w v missed).fuse a = Tbl.get 0 s.fuse a := by
  unfold State.burnWord
  by_cases h : a = w
  · subst h
    simp only [Tbl.get_set_self]
    ext i hi
    simp
    intro x
    exact .inl x
  · rw [Tbl.get_set_ne _ _ _ h]
    simp
theorem State.burnWord_other (s : State) (w v : Nat) (missed : List (Nat × Nat)) {a : Nat} (h : a ≠ w) :
    Tbl.get 0 (s.burnWord w v missed).fuse a = Tbl.get 0 s.fuse a := by
  unfold State.burnWord
  exact Tbl.get_set_ne _ _ _ h

/-- Cutting a burn short, like any sequence of burns, turns no bit back. -/
theorem State.each_fuse {α : Type} {f : State → α → State}
    (h : ∀ s x a, Tbl.get 0 s.fuse a &&& Tbl.get 0 (f s x).fuse a = Tbl.get 0 s.fuse a) (s : State) (l : List α) (a : Nat) :
    Tbl.get 0 s.fuse a &&& Tbl.get 0 (s.each l f).fuse a = Tbl.get 0 s.fuse a := by
  induction l generalizing s with
  | nil => simp [State.each]
  | cons x l ih =>
    have h1 := h s x a
    have h2 := ih (f s x)
    simp only [State.each, List.foldl_cons] at *
    rw [← h1, BitVec.and_assoc, h2]

/-- The answer to an access reads back. -/
@[simp] theorem State.answer_resp (s : State) (q : Requester) (e : Bool) (d : Nat) :
    Tbl.get {} (s.answer q e d).resp q.no = { err := e, data := d } := by
  unfold State.answer
  exact Tbl.get_set_self _ _ _ _

end Sys2Proof.Machine
end

