-- ==== Sys2Proof/Laws/Log.lean ====
section
/-! SUPPORT. Laws of the event log: an entry that is stored is the newest one, one below MINSEV is only counted, and an event
leaves everything but the log and its registers. -/

namespace Sys2Proof.Machine

theorem State.logStore_only (s : State) (e : LogEntry) : ∃ r l, s.logStore e = { s with regs := r, log := l } := by
  unfold State.logStore; dsimp only
  split <;> split <;> exact ⟨_, _, rfl⟩

theorem State.logRep_only (s : State) (a c k i d x n : Nat) :
    ∃ r l, s.logRep a c k i d x n = { s with regs := r, log := l } := by
  unfold State.logRep; dsimp only
  split
  · exact ⟨_, _, rfl⟩
  · exact s.logStore_only _

@[simp] theorem State.logRep_now (s : State) (a c k i d x n : Nat) : (s.logRep a c k i d x n).now = s.now := by
  obtain ⟨r, l, h⟩ := s.logRep_only a c k i d x n; rw [h]
@[simp] theorem State.log1_now (s : State) (c k i d x : Nat) : (s.log1 c k i d x).now = s.now := s.logRep_now ..
@[simp] theorem State.logRep_fresh (s : State) (a c k i d x n : Nat) : (s.logRep a c k i d x n).fresh = s.fresh := by
  obtain ⟨r, l, h⟩ := s.logRep_only a c k i d x n; rw [h]
@[simp] theorem State.log1_fresh (s : State) (c k i d x : Nat) : (s.log1 c k i d x).fresh = s.fresh := s.logRep_fresh ..
@[simp] theorem State.logRep_pending (s : State) (a c k i d x n : Nat) : (s.logRep a c k i d x n).pending = s.pending := by
  obtain ⟨r, l, h⟩ := s.logRep_only a c k i d x n; rw [h]
@[simp] theorem State.log1_pending (s : State) (c k i d x : Nat) : (s.log1 c k i d x).pending = s.pending := s.logRep_pending ..
@[simp] theorem State.logRep_live (s : State) (a c k i d x n : Nat) : (s.logRep a c k i d x n).live = s.live := by
  obtain ⟨r, l, h⟩ := s.logRep_only a c k i d x n; rw [h]
@[simp] theorem State.log1_live (s : State) (c k i d x : Nat) : (s.log1 c k i d x).live = s.live := s.logRep_live ..
@[simp] theorem State.logRep_wo (s : State) (a c k i d x n : Nat) : (s.logRep a c k i d x n).wo = s.wo := by
  obtain ⟨r, l, h⟩ := s.logRep_only a c k i d x n; rw [h]
@[simp] theorem State.log1_wo (s : State) (c k i d x : Nat) : (s.log1 c k i d x).wo = s.wo := s.logRep_wo ..
@[simp] theorem State.logRep_cyc (s : State) (a c k i d x n : Nat) : (s.logRep a c k i d x n).cyc = s.cyc := by
  obtain ⟨r, l, h⟩ := s.logRep_only a c k i d x n; rw [h]
@[simp] theorem State.log1_cyc (s : State) (c k i d x : Nat) : (s.log1 c k i d x).cyc = s.cyc := s.logRep_cyc ..
@[simp] theorem State.logRep_resp (s : State) (a c k i d x n : Nat) : (s.logRep a c k i d x n).resp = s.resp := by
  obtain ⟨r, l, h⟩ := s.logRep_only a c k i d x n; rw [h]
@[simp] theorem State.log1_resp (s : State) (c k i d x : Nat) : (s.log1 c k i d x).resp = s.resp := s.logRep_resp ..
@[simp] theorem State.logRep_dram (s : State) (a c k i d x n : Nat) : (s.logRep a c k i d x n).dram = s.dram := by
  obtain ⟨r, l, h⟩ := s.logRep_only a c k i d x n; rw [h]
@[simp] theorem State.log1_dram (s : State) (c k i d x : Nat) : (s.log1 c k i d x).dram = s.dram := s.logRep_dram ..
@[simp] theorem State.logRep_sys (s : State) (a c k i d x n : Nat) : (s.logRep a c k i d x n).sys = s.sys := by
  obtain ⟨r, l, h⟩ := s.logRep_only a c k i d x n; rw [h]
@[simp] theorem State.log1_sys (s : State) (c k i d x : Nat) : (s.log1 c k i d x).sys = s.sys := s.logRep_sys ..
@[simp] theorem State.logRep_commits (s : State) (a c k i d x n : Nat) : (s.logRep a c k i d x n).commits = s.commits := by
  obtain ⟨r, l, h⟩ := s.logRep_only a c k i d x n; rw [h]
@[simp] theorem State.log1_commits (s : State) (c k i d x : Nat) : (s.log1 c k i d x).commits = s.commits := s.logRep_commits ..
@[simp] theorem State.logRep_time (s : State) (a c k i d x n : Nat) : (s.logRep a c k i d x n).time = s.time := by
  obtain ⟨r, l, h⟩ := s.logRep_only a c k i d x n; rw [h]
@[simp] theorem State.log1_time (s : State) (c k i d x : Nat) : (s.log1 c k i d x).time = s.time := s.logRep_time ..
@[simp] theorem State.logRep_dio (s : State) (a c k i d x n : Nat) : (s.logRep a c k i d x n).dio = s.dio := by
  obtain ⟨r, l, h⟩ := s.logRep_only a c k i d x n; rw [h]
@[simp] theorem State.log1_dio (s : State) (c k i d x : Nat) : (s.log1 c k i d x).dio = s.dio := s.logRep_dio ..
@[simp] theorem State.logRep_strm (s : State) (a c k i d x n : Nat) : (s.logRep a c k i d x n).strm = s.strm := by
  obtain ⟨r, l, h⟩ := s.logRep_only a c k i d x n; rw [h]
@[simp] theorem State.log1_strm (s : State) (c k i d x : Nat) : (s.log1 c k i d x).strm = s.strm := s.logRep_strm ..
@[simp] theorem State.logRep_ports (s : State) (a c k i d x n : Nat) : (s.logRep a c k i d x n).ports = s.ports := by
  obtain ⟨r, l, h⟩ := s.logRep_only a c k i d x n; rw [h]
@[simp] theorem State.log1_ports (s : State) (c k i d x : Nat) : (s.log1 c k i d x).ports = s.ports := s.logRep_ports ..
@[simp] theorem State.logRep_mon (s : State) (a c k i d x n : Nat) : (s.logRep a c k i d x n).mon = s.mon := by
  obtain ⟨r, l, h⟩ := s.logRep_only a c k i d x n; rw [h]
@[simp] theorem State.log1_mon (s : State) (c k i d x : Nat) : (s.log1 c k i d x).mon = s.mon := s.logRep_mon ..
@[simp] theorem State.logRep_cmp (s : State) (a c k i d x n : Nat) : (s.logRep a c k i d x n).cmp = s.cmp := by
  obtain ⟨r, l, h⟩ := s.logRep_only a c k i d x n; rw [h]
@[simp] theorem State.log1_cmp (s : State) (c k i d x : Nat) : (s.log1 c k i d x).cmp = s.cmp := s.logRep_cmp ..
@[simp] theorem State.logRep_latch (s : State) (a c k i d x n : Nat) : (s.logRep a c k i d x n).latch = s.latch := by
  obtain ⟨r, l, h⟩ := s.logRep_only a c k i d x n; rw [h]
@[simp] theorem State.log1_latch (s : State) (c k i d x : Nat) : (s.log1 c k i d x).latch = s.latch := s.logRep_latch ..
@[simp] theorem State.logRep_tiles (s : State) (a c k i d x n : Nat) : (s.logRep a c k i d x n).tiles = s.tiles := by
  obtain ⟨r, l, h⟩ := s.logRep_only a c k i d x n; rw [h]
@[simp] theorem State.log1_tiles (s : State) (c k i d x : Nat) : (s.log1 c k i d x).tiles = s.tiles := s.logRep_tiles ..
@[simp] theorem State.logRep_chains (s : State) (a c k i d x n : Nat) : (s.logRep a c k i d x n).chains = s.chains := by
  obtain ⟨r, l, h⟩ := s.logRep_only a c k i d x n; rw [h]
@[simp] theorem State.log1_chains (s : State) (c k i d x : Nat) : (s.log1 c k i d x).chains = s.chains := s.logRep_chains ..
@[simp] theorem State.logRep_cal (s : State) (a c k i d x n : Nat) : (s.logRep a c k i d x n).cal = s.cal := by
  obtain ⟨r, l, h⟩ := s.logRep_only a c k i d x n; rw [h]
@[simp] theorem State.log1_cal (s : State) (c k i d x : Nat) : (s.log1 c k i d x).cal = s.cal := s.logRep_cal ..
@[simp] theorem State.logRep_fuse (s : State) (a c k i d x n : Nat) : (s.logRep a c k i d x n).fuse = s.fuse := by
  obtain ⟨r, l, h⟩ := s.logRep_only a c k i d x n; rw [h]
@[simp] theorem State.log1_fuse (s : State) (c k i d x : Nat) : (s.log1 c k i d x).fuse = s.fuse := s.logRep_fuse ..
@[simp] theorem State.logRep_safe (s : State) (a c k i d x n : Nat) : (s.logRep a c k i d x n).safe = s.safe := by
  obtain ⟨r, l, h⟩ := s.logRep_only a c k i d x n; rw [h]
@[simp] theorem State.log1_safe (s : State) (c k i d x : Nat) : (s.log1 c k i d x).safe = s.safe := s.logRep_safe ..
@[simp] theorem State.logRep_pair (s : State) (a c k i d x n : Nat) : (s.logRep a c k i d x n).pair = s.pair := by
  obtain ⟨r, l, h⟩ := s.logRep_only a c k i d x n; rw [h]
@[simp] theorem State.log1_pair (s : State) (c k i d x : Nat) : (s.log1 c k i d x).pair = s.pair := s.logRep_pair ..
@[simp] theorem State.logRep_sec (s : State) (a c k i d x n : Nat) : (s.logRep a c k i d x n).sec = s.sec := by
  obtain ⟨r, l, h⟩ := s.logRep_only a c k i d x n; rw [h]
@[simp] theorem State.log1_sec (s : State) (c k i d x : Nat) : (s.log1 c k i d x).sec = s.sec := s.logRep_sec ..
@[simp] theorem State.logRep_chor (s : State) (a c k i d x n : Nat) : (s.logRep a c k i d x n).chor = s.chor := by
  obtain ⟨r, l, h⟩ := s.logRep_only a c k i d x n; rw [h]
@[simp] theorem State.log1_chor (s : State) (c k i d x : Nat) : (s.log1 c k i d x).chor = s.chor := s.logRep_chor ..
@[simp] theorem State.logRep_host (s : State) (a c k i d x n : Nat) : (s.logRep a c k i d x n).host = s.host := by
  obtain ⟨r, l, h⟩ := s.logRep_only a c k i d x n; rw [h]
@[simp] theorem State.log1_host (s : State) (c k i d x : Nat) : (s.log1 c k i d x).host = s.host := s.logRep_host ..
@[simp] theorem State.logRep_flash (s : State) (a c k i d x n : Nat) : (s.logRep a c k i d x n).flash = s.flash := by
  obtain ⟨r, l, h⟩ := s.logRep_only a c k i d x n; rw [h]
@[simp] theorem State.log1_flash (s : State) (c k i d x : Nat) : (s.log1 c k i d x).flash = s.flash := s.logRep_flash ..

/-- Fields that no log entry writes. -/
abbrev FldAt.OffLog (f : FldAt) : Prop :=
  f.Apart R.LOG_HEAD.SEQ ∧ f.Apart R.LOG_CNT.LOST ∧ f.Apart R.LOG_CNT.FILTERED ∧ f.Apart R.SYS_HINTST.CAUSE

/-- The registers after the entry of slot, SEQ and LOST have been written. -/
theorem State.logStore_eq (s : State) (e : LogEntry) :
    let seq := s.get R.LOG_HEAD.SEQ
    let old := Tbl.get {} s.log (seq % 8192)
    let u := if old.code ≠ 0 ∧ s.get R.LOG_RDSEQ.SEQ ≤ old.seq then s.bump R.LOG_CNT.LOST else s
    let v := { u with log := Tbl.set {} s.log (seq % 8192) { e with seq := seq } }.put R.LOG_HEAD.SEQ (seq + 1)
    s.logStore e = if v.get R.LOG_CFG.HINTSEV ≤ e.sev then v.hint 0 else v := by
  unfold State.logStore; dsimp only
  split <;> rfl

theorem State.get_logStore (s : State) (e : LogEntry) {f : FldAt} (h : f.OffLog) : (s.logStore e).get f = s.get f := by
  obtain ⟨h1, h2, _, h4⟩ := h
  rw [State.logStore_eq]
  have hv : ∀ (u : State) (l : Tbl LogEntry) (n : Nat), u.get f = s.get f →
      ({ u with log := l }.put R.LOG_HEAD.SEQ n).get f = s.get f := fun u l n hu => by
    rw [State.get_put_ne _ _ h1, ← hu]; rfl
  have hu : (if (Tbl.get {} s.log (s.get R.LOG_HEAD.SEQ % 8192)).code ≠ 0
      ∧ s.get R.LOG_RDSEQ.SEQ ≤ (Tbl.get {} s.log (s.get R.LOG_HEAD.SEQ % 8192)).seq
      then s.bump R.LOG_CNT.LOST else s).get f = s.get f := by
    split
    · exact State.get_bump_ne _ _ h2
    · rfl
  have hh : ∀ (p : Prop) [Decidable p] (v : State), (if p then v.hint 0 else v).get f = v.get f := fun p _ v => by
    split
    · exact State.hint_get_ne _ _ h4
    · rfl
  exact (hh _ _).trans (hv _ _ _ hu)

theorem State.get_logRep (s : State) (a c k i d x n : Nat) {f : FldAt} (h : f.OffLog) :
    (s.logRep a c k i d x n).get f = s.get f := by
  unfold State.logRep
  dsimp only
  split
  · exact State.get_bump_ne _ _ h.2.2.1
  · exact State.get_logStore _ _ h

theorem State.get_log1 (s : State) (c k i d x : Nat) {f : FldAt} (h : f.OffLog) : (s.log1 c k i d x).get f = s.get f :=
  s.get_logRep _ _ _ _ _ _ _ h

/-- A stored entry is the newest one, under the next SEQ. -/
theorem State.newestEntry_logStore (s : State) (e : LogEntry) :
    (s.logStore e).newestEntry = { e with seq := s.get R.LOG_HEAD.SEQ } := by
  have hseq := s.get_lt R.LOG_HEAD.SEQ
  have hw : R.LOG_HEAD.SEQ.w = 32 := rfl
  rw [hw] at hseq
  have key : ∀ (u : State), (({ u with log := Tbl.set {} s.log (s.get R.LOG_HEAD.SEQ % 8192) { e with seq := s.get R.LOG_HEAD.SEQ } } : State).put
      R.LOG_HEAD.SEQ (s.get R.LOG_HEAD.SEQ + 1)).newestEntry = { e with seq := s.get R.LOG_HEAD.SEQ } := by
    intro u
    unfold State.newestEntry
    rw [State.get_put _ _ _ (by decide), hw, State.put_log]
    have : ((s.get R.LOG_HEAD.SEQ + 1) % 2 ^ 32 + 2 ^ 32 - 1) % 2 ^ 32 % 8192 = s.get R.LOG_HEAD.SEQ % 8192 := by omega
    rw [this, Tbl.get_set_self]
  have hh : ∀ (p : Prop) [Decidable p] (v : State), (if p then v.hint 0 else v).newestEntry = v.newestEntry := fun p _ v => by
    split
    · unfold State.newestEntry; rw [State.hint_get_ne _ _ (by decide), State.hint_log]
    · rfl
  rw [State.logStore_eq]
  exact (hh _ _).trans (key _)

/-- An event whose severity is stored becomes the newest entry, with its code, entity, detail and data. -/
theorem State.newestEntry_log1 (s : State) (c k i d x : Nat) (h : s.stores c) :
    (s.log1 c k i d x).newestEntry.code = c ∧ (s.log1 c k i d x).newestEntry.kind = k
      ∧ (s.log1 c k i d x).newestEntry.index = i ∧ (s.log1 c k i d x).newestEntry.detail = d
      ∧ (s.log1 c k i d x).newestEntry.data = x := by
  have hs : ¬ (L.severity c < s.get R.LOG_CFG.MINSEV ∧ L.severity c ≠ 3 ∧ c / 256 ≠ 9) := by
    rcases h with h | h | h <;> omega
  simp only [State.log1, State.logAt, State.logRep, hs, if_false, State.newestEntry_logStore, and_self]

/-- Logging an event logs it, whatever has changed before but MINSEV. -/
theorem State.logs_log1 (s u : State) (c k i d x : Nat) (h : u.get R.LOG_CFG.MINSEV = s.get R.LOG_CFG.MINSEV) :
    s.Logs c k i (u.log1 c k i d x) := fun hs => by
  have hu : u.stores c := by simpa [State.stores, h] using hs
  exact ⟨(u.newestEntry_log1 c k i d x hu).1, (u.newestEntry_log1 c k i d x hu).2.1, (u.newestEntry_log1 c k i d x hu).2.2.1⟩

theorem State.newestEntry_congr {s t : State} (hl : t.log = s.log) (hr : t.regs = s.regs) :
    t.newestEntry = s.newestEntry := by
  unfold State.newestEntry
  rw [State.get_congr hr, hl]

theorem State.logs_keep {s t u : State} {p : Parts} {c k i : Nat} (hr : p.regs = true) (hl : p.log = true)
    (h : s.Logs c k i t) : s.Logs c k i (keep p u t) := fun hs => by
  have he : (keep p u t).newestEntry = t.newestEntry := State.newestEntry_congr (by simp [hl]) (by simp [hr])
  rw [he]; exact h hs

/-- An event below MINSEV is counted in FILTERED, and nothing else. -/
theorem State.log1_filtered (s : State) (c k i d x : Nat) (h : ¬ s.stores c) :
    s.log1 c k i d x = s.bump R.LOG_CNT.FILTERED := by
  have hs : L.severity c < s.get R.LOG_CFG.MINSEV ∧ L.severity c ≠ 3 ∧ c / 256 ≠ 9 := by
    simp only [State.stores, not_or, not_le] at h; exact h
  simp only [State.log1, State.logAt, State.logRep, if_pos hs]

end Sys2Proof.Machine
end

