-- ==== Sys2Proof/WellFormed.lean ====
section
/-! DEFINITION. Well-formed commands: the relations between operands, and the ranges, that the types do not express. A command
that is not well-formed does not exist on the hub; the meanings are total on it all the same. The instant of a command. -/

namespace Sys2Proof
open Sys2Proof.Machine

/-- A frame's header fields fit their bits (Table 10.3). -/
def frameFits (f : Frame) : Bool :=
  decide (f.ver < 16) && decide (f.flow < 16) && decide (f.ch < 64) && decide (f.line < 256) && decide (f.src < 1024)
    && decide (f.dst < 1024) && decide (f.stype < 4) && decide (f.dtype < 4) && decide (f.type < 32)
    && decide (f.length < 2048) && decide (f.a < 2 ^ 32) && decide (f.b < 2 ^ 32)

/-- A received frame of a row fits, and has the row's FLOW and TYPE (Table 10.4). -/
def rxFits (r : Rx) (flow type : Nat) : Bool := frameFits r.frame && r.frame.flow == flow && r.frame.type == type

/-- Fuse bits by word and number (Table 5.4). -/
def missedOk (l : List (Nat × Nat)) : Bool := l.all fun m => decide (m.1 < 4096) && decide (m.2 < 32)

/-- The results of a frame: conversions of 18 bits (R41), overload flags of the 96 channels. -/
def resultsFit (r : TileRes) : Bool :=
  (r.codes ++ r.resv).all (fun c => decide (-(2 ^ 17) ≤ c) && decide (c < 2 ^ 17)) && r.overload.all fun c => decide (c < 96)

/-- The operation of a host frame header (Table 15.3): 0 READ, 1 WRITE, 2 NOP, 3 undefined, which stands in the row of NOP. -/
def headerOp (h : Word) : Nat := h.toNat / 2 ^ 27 % 4

/-- A write to SEC_CMD that starts operation `n` (Table 13.12). -/
def secOp (w : Word) (n : Nat) : Bool := w.getLsbD 6 && w.toNat % 16 == n

/-- The checks of a command's operands. -/
def Instr.wf (i : Instr) : Bool :=
  match i with
  | .registerWrite _ _ a n v ph => decide (0 < n) && decide (n ≤ 8) && decide (a + n ≤ 2 ^ 36) && decide (v < 256 ^ n) && missedOk ph.missed
  | .rocRead _ _ a n => decide (0 < n) && decide (n ≤ 8) && decide (a + n ≤ 2 ^ 36)
  | .softReset _ _ w => w.getLsbD 16
  | .firmwareStart _ x => x.words.all fun e => e.1 % 4 == 0 && decide (e.1 < 2 ^ 36)
  | .tileResultTransfer _ _ r => resultsFit r
  | .excFault n _ _ _ t => decide (t ≤ n)
  | .openInputTest _ _ l => l.all fun c => decide (c < 96)
  | .calBurn _ _ w _ => w.getLsbD 16
  | .calBurnEnd _ l => missedOk l
  | .tileCommit _ _ w => w.toNat % 16 != 0
  | .calConfigCommit _ _ w => w.toNat / 16 % 16 != 0
  | .fltCommit _ _ w => w.getLsbD 0
  | .timCommit _ _ w => w.getLsbD 0
  | .timReanchor _ _ w => w.getLsbD 1
  | .iotCommit _ _ w => w.getLsbD 0
  | .queCommit _ _ w => w.getLsbD 0
  | .prtCommit _ _ w => w.getLsbD 0
  | .parCommit _ _ w => w.getLsbD 0
  | .ptpRx _ _ m => decide (m.domain < 256) && decide (m.seq < 2 ^ 16) && decide (m.ts < 2 ^ 96)
  | .tempoRx _ r => rxFits r 5 0 && r.frame.multi && r.frame.dtype == 3
  | .diLevelAccept n _ _ t => decide (t ≤ n)
  | .doPush _ _ w => !w.getLsbD 10
  | .doClear _ _ w => w.getLsbD 10
  | .streamAckRx _ r => rxFits r 1 2
  | .streamNakRx _ r => rxFits r 1 3
  | .streamAcksRx _ r => rxFits r 1 4
  | .pullRequestRx _ r => rxFits r 2 0
  | .pullCancelRx _ r => rxFits r 2 0
  | .cmpJobSubmit _ _ _ w => w.getLsbD 0
  | .cmpJobCancel _ _ _ w => w.getLsbD 1
  | .sgmiiControlWord _ _ _ _ v => decide (v < 4)
  | .linkHelloRx _ r => rxFits r 0 0
  | .rootHelloRx _ r => rxFits r 0 1
  | .transitFrameRx _ r => frameFits r.frame
  | .frameRxDiscard _ r => frameFits r.frame
  | .arpRx _ _ _ m => decide (m.senderMac < 2 ^ 48) && decide (m.senderIp < 2 ^ 32) && decide (m.targetIp < 2 ^ 32)
  | .mkpduRx _ _ m => m.ckn.length == 32 && decide (m.prio < 256) && decide (m.sci < 2 ^ 64)
  | .macsecInstall _ _ _ w => w.getLsbD 2
  | .mgmtReadReq _ r => rxFits r 3 0
  | .mgmtWriteReq _ r => rxFits r 3 2
  | .mgmtHealthRx _ r => rxFits r 3 4
  | .mgmtUpdPushRx _ r => rxFits r 3 5
  | .hostRead _ h _ _ _ => headerOp h == 0
  | .hostWrite _ h _ _ _ => headerOp h == 1
  | .hostNop _ h _ _ => decide (1 < headerOp h)
  | .safetyTick _ t => decide (t.sbv.length ≤ 8) && decide (t.sbi.length ≤ 8)
  | .safeInputFilter n _ _ _ _ t => decide (t ≤ n)
  | .sitGapCheck _ _ l => l.all fun i => decide (i < 16)
  | .zhocyRx _ r => rxFits r 4 0
  | .spmbLoadSafety _ _ w _ => w.getLsbD 0
  | .spmbSetParam _ _ w _ => w.getLsbD 0
  | .spmbSetPassword _ _ w _ => w.getLsbD 0
  | .spmbClearLog _ _ w _ => w.getLsbD 0
  | .spmbBrakeTest _ _ w _ => w.getLsbD 0
  | .spmbAbortTest _ _ w _ => w.getLsbD 0
  | .spmbReadLog _ _ w _ => w.getLsbD 0
  | .spmbBadOp _ _ w _ => w.getLsbD 0
  | .partnerHeartbeatRx _ _ u _ _ => decide (u < 2 ^ 64)
  | .heartbeatTimeout _ l => l.all fun e => decide (e < 512)
  | .faultBeatRx _ l => l.all fun e => decide (e < 512)
  | .parSwap _ _ w _ => w.getLsbD 16
  | .secReport _ _ w l => secOp w 1 && missedOk l
  | .secEnrol _ _ w l => secOp w 2 && missedOk l
  | .secRevoke _ _ w l => secOp w 3 && missedOk l
  | .secSetOwnerFw _ _ w l => secOp w 4 && missedOk l
  | .secBadOp _ _ w l => w.getLsbD 6 && (w.toNat % 16 == 0 || decide (4 < w.toNat % 16)) && missedOk l
  | .dmExtend _ _ w => w.getLsbD 3
  | .dmLock _ _ w => w.getLsbD 4
  | .updOfferRx _ r => rxFits r 6 0
  | .updFetch _ _ d => d.length == 48
  | .updManReqRx _ r => rxFits r 6 1
  | .updManRx _ r => rxFits r 6 2
  | .updBlkReqRx _ r => rxFits r 6 3
  | .updBlkRx _ r => rxFits r 6 4
  | .updRefuseRx _ r => rxFits r 6 5
  | .updBlockStored _ b _ => decide (b < 2 ^ 16)
  | .updActivate _ _ w => w.getLsbD 16
  | .updConfirm _ _ w => w.getLsbD 17
  | .updRollback _ _ w => w.getLsbD 18
  | .updAbort _ _ w => w.getLsbD 19
  | .updClrconf _ _ w => w.getLsbD 20
  | .rcvErase _ _ w => w.getLsbD 0
  | .rcvProgram _ _ w => w.getLsbD 1
  | .chorLoad _ _ w => w.toNat / 65536 % 8 == 1
  | .chorApply _ _ w => w.toNat / 65536 % 8 == 2
  | .chorDiscard _ _ w => w.toNat / 65536 % 8 == 4
  | .powerOnReset .. | .logicSupplyFall .. | .fieldSupplyFault .. | .fieldSupplyGood .. | .logicTrafficLoss .. | .tjHigh ..
  | .thermalReset .. | .thermalRecovery .. | .refclkLoss .. | .refclkReturn .. | .resetNAssert .. | .resetNRelease ..
  | .watchdogReset .. | .resetRelease .. | .bootStageStart .. | .bootWatchdog .. | .roleResolve .. | .sealChange ..
  | .sealCodeAccept .. | .controlCycle .. | .frameStrobe .. | .tempoStrobeFix .. | .excTrip .. | .excTripRetry ..
  | .excClear .. | .blankPinEdge .. | .bcnClear .. | .calRefRecover .. | .sliceBlockEnd .. | .calRunEnd .. | .calStart ..
  | .calCommit .. | .calTempCheck .. | .resLoRead .. | .resHiRead .. | .wbNsRead .. | .nbNsRead .. | .tempoPosRead ..
  | .ledgerRead .. | .cmpInbytesRead .. | .logEntryRead .. | .ptpDelayReqSend .. | .ptpSyncLoss .. | .holdLimitExceeded ..
  | .timOffsetLarge .. | .nbWrap .. | .ppsOutPulse .. | .ppsInEdge .. | .ppsInLoss .. | .wb1Set .. | .encoderEdge ..
  | .encoderIndex .. | .mainsEdge .. | .mainsHoldover .. | .mainsLost .. | .tempoHoldover .. | .tempoLost ..
  | .tempoRecordWrite .. | .diLevelSample .. | .doFix .. | .doEdge .. | .streamFlush .. | .queueStallResume ..
  | .streamSkipResume .. | .historyBlockRelease .. | .pullSegment .. | .pullSegmentRetry .. | .cmpJobStart ..
  | .cmpJobEnd .. | .phyLinkUp .. | .phyLinkLoss .. | .linkHelloSend .. | .helloMiss .. | .rootHelloMiss ..
  | .frameTransmit .. | .mkaHelloSend .. | .mkaRekey .. | .mkaFail .. | .mediatedWriteDone .. | .mgmtKeyWrite ..
  | .hostFrameAbort .. | .hostLegacyRead .. | .hostLegacyWrite .. | .keeperMarkerTimeout .. | .crossLatch ..
  | .spWatchdog .. | .sitOvl .. | .siDiscrepancy .. | .sackRelease .. | .sackStuck .. | .sackStuckClear ..
  | .brakeReadbackFault .. | .brakeOvercurrent .. | .brakeSwitchTest .. | .brakeSwitchConfirm .. | .brakeSwitchTimeout ..
  | .sasFaultRecord .. | .brakeTestEngage .. | .brakeTestTorque .. | .brakeTestNoTorque .. | .brakeTestHoldEnd ..
  | .brakeTestRestore .. | .testDue .. | .testGraceExpiry .. | .zhocyWd .. | .zhocySend .. | .pairSafeMismatch ..
  | .safetyConfigSwitch .. | .safeLockoutEnd .. | .partnerHeartbeatSend .. | .takeoverComplete .. | .partnerLaneLoss ..
  | .partnerMirrorRx .. | .stateCopyRx .. | .pairCommitMirrorRx .. | .pairCommitFail .. | .followBist .. | .memoryScrub ..
  | .followDegradedClear .. | .healthReportSend .. | .swapReady .. | .swapTimeout .. | .swapBoundary .. | .swapRejoin ..
  | .protWrite .. | .updOfferSend .. | .updFragmentTimeout .. | .updHeldRequestExpiry .. | .conftmrWrite ..
  | .confirmWindowExpiry .. | .rcvFlashDone .. | .chorApplyBoundary .. | .chorStore .. | .monitorSample ..
  | .monitorIntervalEnd .. | .partnerLaneUp .. | .mkaLifeTimeExpiry .. => true

/-- The local instant of a command. -/
def Instr.instant (i : Instr) : Nat :=
  match i with
  | .registerWrite n _ _ _ _ _ => n
  | .rocRead n _ _ _ => n
  | .powerOnReset n => n
  | .logicSupplyFall n _ => n
  | .fieldSupplyFault n _ => n
  | .fieldSupplyGood n => n
  | .logicTrafficLoss n => n
  | .tjHigh n => n
  | .thermalReset n => n
  | .thermalRecovery n => n
  | .refclkLoss n => n
  | .refclkReturn n => n
  | .resetNAssert n _ => n
  | .resetNRelease n => n
  | .watchdogReset n => n
  | .softReset n _ _ => n
  | .resetRelease n _ _ => n
  | .bootStageStart n => n
  | .bootWatchdog n => n
  | .firmwareStart n _ => n
  | .roleResolve n _ _ _ => n
  | .sealChange n _ => n
  | .sealCodeAccept n => n
  | .controlCycle n => n
  | .frameStrobe n _ => n
  | .tempoStrobeFix n _ => n
  | .tileResultTransfer n _ _ => n
  | .excFault n _ _ _ _ => n
  | .excTrip n _ _ => n
  | .excTripRetry n _ _ _ => n
  | .excClear n _ _ => n
  | .openInputTest n _ _ => n
  | .blankPinEdge n _ _ => n
  | .bcnClear n _ => n
  | .calRefRecover n _ => n
  | .sliceBlockEnd n _ => n
  | .calRunEnd n _ => n
  | .calStart n _ _ => n
  | .calCommit n _ _ => n
  | .calTempCheck n => n
  | .calBurn n _ _ _ => n
  | .calBurnEnd n _ => n
  | .tileCommit n _ _ => n
  | .calConfigCommit n _ _ => n
  | .fltCommit n _ _ => n
  | .timCommit n _ _ => n
  | .timReanchor n _ _ => n
  | .iotCommit n _ _ => n
  | .queCommit n _ _ => n
  | .prtCommit n _ _ => n
  | .parCommit n _ _ => n
  | .resLoRead n _ _ => n
  | .resHiRead n _ _ => n
  | .wbNsRead n _ _ => n
  | .nbNsRead n _ _ => n
  | .tempoPosRead n _ _ => n
  | .ledgerRead n _ _ => n
  | .cmpInbytesRead n _ => n
  | .logEntryRead n _ _ => n
  | .ptpRx n _ _ => n
  | .ptpDelayReqSend n _ => n
  | .ptpSyncLoss n _ => n
  | .holdLimitExceeded n _ => n
  | .timOffsetLarge n => n
  | .nbWrap n _ => n
  | .ppsOutPulse n => n
  | .ppsInEdge n => n
  | .ppsInLoss n => n
  | .wb1Set n _ _ => n
  | .encoderEdge n _ _ => n
  | .encoderIndex n _ => n
  | .mainsEdge n => n
  | .mainsHoldover n => n
  | .mainsLost n => n
  | .tempoRx n _ => n
  | .tempoHoldover n _ => n
  | .tempoLost n _ => n
  | .tempoRecordWrite n _ => n
  | .diLevelAccept n _ _ _ => n
  | .diLevelSample n _ _ => n
  | .doPush n _ _ => n
  | .doClear n _ _ => n
  | .doFix n _ => n
  | .doEdge n _ => n
  | .streamFlush n _ => n
  | .queueStallResume n _ => n
  | .streamSkipResume n _ => n
  | .historyBlockRelease n _ => n
  | .streamAckRx n _ => n
  | .streamNakRx n _ => n
  | .streamAcksRx n _ => n
  | .pullRequestRx n _ => n
  | .pullCancelRx n _ => n
  | .pullSegment n _ _ => n
  | .pullSegmentRetry n _ => n
  | .cmpJobSubmit n _ _ _ => n
  | .cmpJobCancel n _ _ _ => n
  | .cmpJobStart n _ => n
  | .cmpJobEnd n _ => n
  | .phyLinkUp n _ _ _ _ _ => n
  | .phyLinkLoss n _ => n
  | .sgmiiControlWord n _ _ _ _ => n
  | .linkHelloSend n _ => n
  | .linkHelloRx n _ => n
  | .helloMiss n _ => n
  | .rootHelloRx n _ => n
  | .rootHelloMiss n _ => n
  | .transitFrameRx n _ => n
  | .frameRxDiscard n _ => n
  | .frameTransmit n _ => n
  | .arpRx n _ _ _ => n
  | .mkpduRx n _ _ => n
  | .mkaHelloSend n _ => n
  | .mkaRekey n _ => n
  | .mkaFail n _ => n
  | .macsecInstall n _ _ _ => n
  | .mgmtReadReq n _ => n
  | .mgmtWriteReq n _ => n
  | .mediatedWriteDone n _ => n
  | .mgmtHealthRx n _ => n
  | .mgmtUpdPushRx n _ => n
  | .mgmtKeyWrite n _ _ _ => n
  | .hostRead n _ _ _ _ => n
  | .hostWrite n _ _ _ _ => n
  | .hostNop n _ _ _ => n
  | .hostFrameAbort n _ _ => n
  | .hostLegacyRead n _ _ => n
  | .hostLegacyWrite n _ _ _ => n
  | .safetyTick n _ => n
  | .keeperMarkerTimeout n _ => n
  | .crossLatch n => n
  | .spWatchdog n => n
  | .safeInputFilter n _ _ _ _ _ => n
  | .sitGapCheck n _ _ => n
  | .sitOvl n _ _ => n
  | .siDiscrepancy n _ => n
  | .sackRelease n => n
  | .sackStuck n => n
  | .sackStuckClear n => n
  | .brakeReadbackFault n _ => n
  | .brakeOvercurrent n _ _ => n
  | .brakeSwitchTest n _ _ => n
  | .brakeSwitchConfirm n _ _ _ => n
  | .brakeSwitchTimeout n _ => n
  | .sasFaultRecord n => n
  | .brakeTestEngage n => n
  | .brakeTestTorque n => n
  | .brakeTestNoTorque n => n
  | .brakeTestHoldEnd n => n
  | .brakeTestRestore n => n
  | .testDue n _ => n
  | .testGraceExpiry n _ => n
  | .zhocyRx n _ => n
  | .zhocyWd n _ => n
  | .zhocySend n _ => n
  | .pairSafeMismatch n => n
  | .spmbLoadSafety n _ _ _ => n
  | .spmbSetParam n _ _ _ => n
  | .spmbSetPassword n _ _ _ => n
  | .spmbClearLog n _ _ _ => n
  | .spmbBrakeTest n _ _ _ => n
  | .spmbAbortTest n _ _ _ => n
  | .spmbReadLog n _ _ _ => n
  | .spmbBadOp n _ _ _ => n
  | .safetyConfigSwitch n _ _ => n
  | .safeLockoutEnd n => n
  | .partnerHeartbeatSend n => n
  | .partnerHeartbeatRx n _ _ _ _ => n
  | .heartbeatTimeout n _ => n
  | .faultBeatRx n _ => n
  | .takeoverComplete n => n
  | .partnerLaneLoss n _ => n
  | .partnerMirrorRx n _ => n
  | .stateCopyRx n _ _ => n
  | .pairCommitMirrorRx n _ => n
  | .pairCommitFail n => n
  | .followBist n _ _ => n
  | .memoryScrub n _ _ => n
  | .followDegradedClear n => n
  | .healthReportSend n _ => n
  | .parSwap n _ _ _ => n
  | .swapReady n => n
  | .swapTimeout n => n
  | .swapBoundary n _ => n
  | .swapRejoin n => n
  | .secReport n _ _ _ => n
  | .secEnrol n _ _ _ => n
  | .secRevoke n _ _ _ => n
  | .secSetOwnerFw n _ _ _ => n
  | .secBadOp n _ _ _ => n
  | .dmExtend n _ _ => n
  | .dmLock n _ _ => n
  | .protWrite n _ _ _ => n
  | .updOfferSend n => n
  | .updOfferRx n _ => n
  | .updFetch n _ _ => n
  | .updManReqRx n _ => n
  | .updManRx n _ => n
  | .updBlkReqRx n _ => n
  | .updBlkRx n _ => n
  | .updRefuseRx n _ => n
  | .updFragmentTimeout n _ => n
  | .updHeldRequestExpiry n => n
  | .updBlockStored n _ _ => n
  | .updActivate n _ _ => n
  | .updConfirm n _ _ => n
  | .updRollback n _ _ => n
  | .updAbort n _ _ => n
  | .updClrconf n _ _ => n
  | .conftmrWrite n _ _ => n
  | .confirmWindowExpiry n => n
  | .rcvErase n _ _ => n
  | .rcvProgram n _ _ => n
  | .rcvFlashDone n _ => n
  | .chorLoad n _ _ => n
  | .chorApply n _ _ => n
  | .chorDiscard n _ _ => n
  | .chorApplyBoundary n => n
  | .chorStore n _ => n
  | .monitorSample n _ _ => n
  | .monitorIntervalEnd n _ => n
  | .partnerLaneUp n _ => n
  | .mkaLifeTimeExpiry n _ _ => n

/-- The same command at another instant. -/
def Instr.atInstant (n : Nat) (i : Instr) : Instr :=
  match i with
  | .registerWrite _ a b c d e => .registerWrite n a b c d e
  | .rocRead _ a b c => .rocRead n a b c
  | .powerOnReset _ => .powerOnReset n
  | .logicSupplyFall _ a => .logicSupplyFall n a
  | .fieldSupplyFault _ a => .fieldSupplyFault n a
  | .fieldSupplyGood _ => .fieldSupplyGood n
  | .logicTrafficLoss _ => .logicTrafficLoss n
  | .tjHigh _ => .tjHigh n
  | .thermalReset _ => .thermalReset n
  | .thermalRecovery _ => .thermalRecovery n
  | .refclkLoss _ => .refclkLoss n
  | .refclkReturn _ => .refclkReturn n
  | .resetNAssert _ a => .resetNAssert n a
  | .resetNRelease _ => .resetNRelease n
  | .watchdogReset _ => .watchdogReset n
  | .softReset _ a b => .softReset n a b
  | .resetRelease _ a b => .resetRelease n a b
  | .bootStageStart _ => .bootStageStart n
  | .bootWatchdog _ => .bootWatchdog n
  | .firmwareStart _ a => .firmwareStart n a
  | .roleResolve _ a b c => .roleResolve n a b c
  | .sealChange _ a => .sealChange n a
  | .sealCodeAccept _ => .sealCodeAccept n
  | .controlCycle _ => .controlCycle n
  | .frameStrobe _ a => .frameStrobe n a
  | .tempoStrobeFix _ a => .tempoStrobeFix n a
  | .tileResultTransfer _ a b => .tileResultTransfer n a b
  | .excFault _ a b c d => .excFault n a b c d
  | .excTrip _ a b => .excTrip n a b
  | .excTripRetry _ a b c => .excTripRetry n a b c
  | .excClear _ a b => .excClear n a b
  | .openInputTest _ a b => .openInputTest n a b
  | .blankPinEdge _ a b => .blankPinEdge n a b
  | .bcnClear _ a => .bcnClear n a
  | .calRefRecover _ a => .calRefRecover n a
  | .sliceBlockEnd _ a => .sliceBlockEnd n a
  | .calRunEnd _ a => .calRunEnd n a
  | .calStart _ a b => .calStart n a b
  | .calCommit _ a b => .calCommit n a b
  | .calTempCheck _ => .calTempCheck n
  | .calBurn _ a b c => .calBurn n a b c
  | .calBurnEnd _ a => .calBurnEnd n a
  | .tileCommit _ a b => .tileCommit n a b
  | .calConfigCommit _ a b => .calConfigCommit n a b
  | .fltCommit _ a b => .fltCommit n a b
  | .timCommit _ a b => .timCommit n a b
  | .timReanchor _ a b => .timReanchor n a b
  | .iotCommit _ a b => .iotCommit n a b
  | .queCommit _ a b => .queCommit n a b
  | .prtCommit _ a b => .prtCommit n a b
  | .parCommit _ a b => .parCommit n a b
  | .resLoRead _ a b => .resLoRead n a b
  | .resHiRead _ a b => .resHiRead n a b
  | .wbNsRead _ a b => .wbNsRead n a b
  | .nbNsRead _ a b => .nbNsRead n a b
  | .tempoPosRead _ a b => .tempoPosRead n a b
  | .ledgerRead _ a b => .ledgerRead n a b
  | .cmpInbytesRead _ a => .cmpInbytesRead n a
  | .logEntryRead _ a b => .logEntryRead n a b
  | .ptpRx _ a b => .ptpRx n a b
  | .ptpDelayReqSend _ a => .ptpDelayReqSend n a
  | .ptpSyncLoss _ a => .ptpSyncLoss n a
  | .holdLimitExceeded _ a => .holdLimitExceeded n a
  | .timOffsetLarge _ => .timOffsetLarge n
  | .nbWrap _ a => .nbWrap n a
  | .ppsOutPulse _ => .ppsOutPulse n
  | .ppsInEdge _ => .ppsInEdge n
  | .ppsInLoss _ => .ppsInLoss n
  | .wb1Set _ a b => .wb1Set n a b
  | .encoderEdge _ a b => .encoderEdge n a b
  | .encoderIndex _ a => .encoderIndex n a
  | .mainsEdge _ => .mainsEdge n
  | .mainsHoldover _ => .mainsHoldover n
  | .mainsLost _ => .mainsLost n
  | .tempoRx _ a => .tempoRx n a
  | .tempoHoldover _ a => .tempoHoldover n a
  | .tempoLost _ a => .tempoLost n a
  | .tempoRecordWrite _ a => .tempoRecordWrite n a
  | .diLevelAccept _ a b c => .diLevelAccept n a b c
  | .diLevelSample _ a b => .diLevelSample n a b
  | .doPush _ a b => .doPush n a b
  | .doClear _ a b => .doClear n a b
  | .doFix _ a => .doFix n a
  | .doEdge _ a => .doEdge n a
  | .streamFlush _ a => .streamFlush n a
  | .queueStallResume _ a => .queueStallResume n a
  | .streamSkipResume _ a => .streamSkipResume n a
  | .historyBlockRelease _ a => .historyBlockRelease n a
  | .streamAckRx _ a => .streamAckRx n a
  | .streamNakRx _ a => .streamNakRx n a
  | .streamAcksRx _ a => .streamAcksRx n a
  | .pullRequestRx _ a => .pullRequestRx n a
  | .pullCancelRx _ a => .pullCancelRx n a
  | .pullSegment _ a b => .pullSegment n a b
  | .pullSegmentRetry _ a => .pullSegmentRetry n a
  | .cmpJobSubmit _ a b c => .cmpJobSubmit n a b c
  | .cmpJobCancel _ a b c => .cmpJobCancel n a b c
  | .cmpJobStart _ a => .cmpJobStart n a
  | .cmpJobEnd _ a => .cmpJobEnd n a
  | .phyLinkUp _ a b c d e => .phyLinkUp n a b c d e
  | .phyLinkLoss _ a => .phyLinkLoss n a
  | .sgmiiControlWord _ a b c d => .sgmiiControlWord n a b c d
  | .linkHelloSend _ a => .linkHelloSend n a
  | .linkHelloRx _ a => .linkHelloRx n a
  | .helloMiss _ a => .helloMiss n a
  | .rootHelloRx _ a => .rootHelloRx n a
  | .rootHelloMiss _ a => .rootHelloMiss n a
  | .transitFrameRx _ a => .transitFrameRx n a
  | .frameRxDiscard _ a => .frameRxDiscard n a
  | .frameTransmit _ a => .frameTransmit n a
  | .arpRx _ a b c => .arpRx n a b c
  | .mkpduRx _ a b => .mkpduRx n a b
  | .mkaHelloSend _ a => .mkaHelloSend n a
  | .mkaRekey _ a => .mkaRekey n a
  | .mkaFail _ a => .mkaFail n a
  | .macsecInstall _ a b c => .macsecInstall n a b c
  | .mgmtReadReq _ a => .mgmtReadReq n a
  | .mgmtWriteReq _ a => .mgmtWriteReq n a
  | .mediatedWriteDone _ a => .mediatedWriteDone n a
  | .mgmtHealthRx _ a => .mgmtHealthRx n a
  | .mgmtUpdPushRx _ a => .mgmtUpdPushRx n a
  | .mgmtKeyWrite _ a b c => .mgmtKeyWrite n a b c
  | .hostRead _ a b c d => .hostRead n a b c d
  | .hostWrite _ a b c d => .hostWrite n a b c d
  | .hostNop _ a b c => .hostNop n a b c
  | .hostFrameAbort _ a b => .hostFrameAbort n a b
  | .hostLegacyRead _ a b => .hostLegacyRead n a b
  | .hostLegacyWrite _ a b c => .hostLegacyWrite n a b c
  | .safetyTick _ a => .safetyTick n a
  | .keeperMarkerTimeout _ a => .keeperMarkerTimeout n a
  | .crossLatch _ => .crossLatch n
  | .spWatchdog _ => .spWatchdog n
  | .safeInputFilter _ a b c d e => .safeInputFilter n a b c d e
  | .sitGapCheck _ a b => .sitGapCheck n a b
  | .sitOvl _ a b => .sitOvl n a b
  | .siDiscrepancy _ a => .siDiscrepancy n a
  | .sackRelease _ => .sackRelease n
  | .sackStuck _ => .sackStuck n
  | .sackStuckClear _ => .sackStuckClear n
  | .brakeReadbackFault _ a => .brakeReadbackFault n a
  | .brakeOvercurrent _ a b => .brakeOvercurrent n a b
  | .brakeSwitchTest _ a b => .brakeSwitchTest n a b
  | .brakeSwitchConfirm _ a b c => .brakeSwitchConfirm n a b c
  | .brakeSwitchTimeout _ a => .brakeSwitchTimeout n a
  | .sasFaultRecord _ => .sasFaultRecord n
  | .brakeTestEngage _ => .brakeTestEngage n
  | .brakeTestTorque _ => .brakeTestTorque n
  | .brakeTestNoTorque _ => .brakeTestNoTorque n
  | .brakeTestHoldEnd _ => .brakeTestHoldEnd n
  | .brakeTestRestore _ => .brakeTestRestore n
  | .testDue _ a => .testDue n a
  | .testGraceExpiry _ a => .testGraceExpiry n a
  | .zhocyRx _ a => .zhocyRx n a
  | .zhocyWd _ a => .zhocyWd n a
  | .zhocySend _ a => .zhocySend n a
  | .pairSafeMismatch _ => .pairSafeMismatch n
  | .spmbLoadSafety _ a b c => .spmbLoadSafety n a b c
  | .spmbSetParam _ a b c => .spmbSetParam n a b c
  | .spmbSetPassword _ a b c => .spmbSetPassword n a b c
  | .spmbClearLog _ a b c => .spmbClearLog n a b c
  | .spmbBrakeTest _ a b c => .spmbBrakeTest n a b c
  | .spmbAbortTest _ a b c => .spmbAbortTest n a b c
  | .spmbReadLog _ a b c => .spmbReadLog n a b c
  | .spmbBadOp _ a b c => .spmbBadOp n a b c
  | .safetyConfigSwitch _ a b => .safetyConfigSwitch n a b
  | .safeLockoutEnd _ => .safeLockoutEnd n
  | .partnerHeartbeatSend _ => .partnerHeartbeatSend n
  | .partnerHeartbeatRx _ a b c d => .partnerHeartbeatRx n a b c d
  | .heartbeatTimeout _ a => .heartbeatTimeout n a
  | .faultBeatRx _ a => .faultBeatRx n a
  | .takeoverComplete _ => .takeoverComplete n
  | .partnerLaneLoss _ a => .partnerLaneLoss n a
  | .partnerMirrorRx _ a => .partnerMirrorRx n a
  | .stateCopyRx _ a b => .stateCopyRx n a b
  | .pairCommitMirrorRx _ a => .pairCommitMirrorRx n a
  | .pairCommitFail _ => .pairCommitFail n
  | .followBist _ a b => .followBist n a b
  | .memoryScrub _ a b => .memoryScrub n a b
  | .followDegradedClear _ => .followDegradedClear n
  | .healthReportSend _ a => .healthReportSend n a
  | .parSwap _ a b c => .parSwap n a b c
  | .swapReady _ => .swapReady n
  | .swapTimeout _ => .swapTimeout n
  | .swapBoundary _ a => .swapBoundary n a
  | .swapRejoin _ => .swapRejoin n
  | .secReport _ a b c => .secReport n a b c
  | .secEnrol _ a b c => .secEnrol n a b c
  | .secRevoke _ a b c => .secRevoke n a b c
  | .secSetOwnerFw _ a b c => .secSetOwnerFw n a b c
  | .secBadOp _ a b c => .secBadOp n a b c
  | .dmExtend _ a b => .dmExtend n a b
  | .dmLock _ a b => .dmLock n a b
  | .protWrite _ a b c => .protWrite n a b c
  | .updOfferSend _ => .updOfferSend n
  | .updOfferRx _ a => .updOfferRx n a
  | .updFetch _ a b => .updFetch n a b
  | .updManReqRx _ a => .updManReqRx n a
  | .updManRx _ a => .updManRx n a
  | .updBlkReqRx _ a => .updBlkReqRx n a
  | .updBlkRx _ a => .updBlkRx n a
  | .updRefuseRx _ a => .updRefuseRx n a
  | .updFragmentTimeout _ a => .updFragmentTimeout n a
  | .updHeldRequestExpiry _ => .updHeldRequestExpiry n
  | .updBlockStored _ a b => .updBlockStored n a b
  | .updActivate _ a b => .updActivate n a b
  | .updConfirm _ a b => .updConfirm n a b
  | .updRollback _ a b => .updRollback n a b
  | .updAbort _ a b => .updAbort n a b
  | .updClrconf _ a b => .updClrconf n a b
  | .conftmrWrite _ a b => .conftmrWrite n a b
  | .confirmWindowExpiry _ => .confirmWindowExpiry n
  | .rcvErase _ a b => .rcvErase n a b
  | .rcvProgram _ a b => .rcvProgram n a b
  | .rcvFlashDone _ a => .rcvFlashDone n a
  | .chorLoad _ a b => .chorLoad n a b
  | .chorApply _ a b => .chorApply n a b
  | .chorDiscard _ a b => .chorDiscard n a b
  | .chorApplyBoundary _ => .chorApplyBoundary n
  | .chorStore _ a => .chorStore n a
  | .monitorSample _ a b => .monitorSample n a b
  | .monitorIntervalEnd _ a => .monitorIntervalEnd n a
  | .partnerLaneUp _ a => .partnerLaneUp n a
  | .mkaLifeTimeExpiry _ a b => .mkaLifeTimeExpiry n a b

end Sys2Proof
end

