-- ==== Sys2Proof/Laws/PerInstr.lean ====
section
/-! SUPPORT. One lemma per command: its instant is an operand of its own, which can be replaced without touching the others. -/

namespace Sys2Proof.Laws.Timed

open Sys2Proof.Machine

/-- Replacing a command's instant replaces that operand alone: the new instant is read back, the old one put back gives the command,
and later replacements win. -/
def Statement (i : Instr) : Prop :=
  ∀ n m : Nat, (i.atInstant n).instant = n ∧ (i.atInstant n).atInstant i.instant = i ∧ (i.atInstant n).atInstant m = i.atInstant m

theorem registerWrite (x0 : Nat) (x1 : Requester) (x2 : Nat) (x3 : Nat) (x4 : Nat) (x5 : Phys) : Statement (.registerWrite x0 x1 x2 x3 x4 x5) :=
  fun _ _ => ⟨rfl, rfl, rfl⟩

theorem rocRead (x0 : Nat) (x1 : Requester) (x2 : Nat) (x3 : Nat) : Statement (.rocRead x0 x1 x2 x3) :=
  fun _ _ => ⟨rfl, rfl, rfl⟩

theorem powerOnReset (x0 : Nat) : Statement (.powerOnReset x0) :=
  fun _ _ => ⟨rfl, rfl, rfl⟩

theorem logicSupplyFall (x0 : Nat) (x1 : Fin 3) : Statement (.logicSupplyFall x0 x1) :=
  fun _ _ => ⟨rfl, rfl, rfl⟩

theorem fieldSupplyFault (x0 : Nat) (x1 : Fin 4) : Statement (.fieldSupplyFault x0 x1) :=
  fun _ _ => ⟨rfl, rfl, rfl⟩

theorem fieldSupplyGood (x0 : Nat) : Statement (.fieldSupplyGood x0) :=
  fun _ _ => ⟨rfl, rfl, rfl⟩

theorem logicTrafficLoss (x0 : Nat) : Statement (.logicTrafficLoss x0) :=
  fun _ _ => ⟨rfl, rfl, rfl⟩

theorem tjHigh (x0 : Nat) : Statement (.tjHigh x0) :=
  fun _ _ => ⟨rfl, rfl, rfl⟩

theorem thermalReset (x0 : Nat) : Statement (.thermalReset x0) :=
  fun _ _ => ⟨rfl, rfl, rfl⟩

theorem thermalRecovery (x0 : Nat) : Statement (.thermalRecovery x0) :=
  fun _ _ => ⟨rfl, rfl, rfl⟩

theorem refclkLoss (x0 : Nat) : Statement (.refclkLoss x0) :=
  fun _ _ => ⟨rfl, rfl, rfl⟩

theorem refclkReturn (x0 : Nat) : Statement (.refclkReturn x0) :=
  fun _ _ => ⟨rfl, rfl, rfl⟩

theorem resetNAssert (x0 : Nat) (x1 : Nat) : Statement (.resetNAssert x0 x1) :=
  fun _ _ => ⟨rfl, rfl, rfl⟩

theorem resetNRelease (x0 : Nat) : Statement (.resetNRelease x0) :=
  fun _ _ => ⟨rfl, rfl, rfl⟩

theorem watchdogReset (x0 : Nat) : Statement (.watchdogReset x0) :=
  fun _ _ => ⟨rfl, rfl, rfl⟩

theorem softReset (x0 : Nat) (x1 : Requester) (x2 : Word) : Statement (.softReset x0 x1 x2) :=
  fun _ _ => ⟨rfl, rfl, rfl⟩

theorem resetRelease (x0 : Nat) (x1 : Nat) (x2 : Bool) : Statement (.resetRelease x0 x1 x2) :=
  fun _ _ => ⟨rfl, rfl, rfl⟩

theorem bootStageStart (x0 : Nat) : Statement (.bootStageStart x0) :=
  fun _ _ => ⟨rfl, rfl, rfl⟩

theorem bootWatchdog (x0 : Nat) : Statement (.bootWatchdog x0) :=
  fun _ _ => ⟨rfl, rfl, rfl⟩

theorem firmwareStart (x0 : Nat) (x1 : Settings) : Statement (.firmwareStart x0 x1) :=
  fun _ _ => ⟨rfl, rfl, rfl⟩

theorem roleResolve (x0 : Nat) (x1 : Bool) (x2 : Nat) (x3 : Bool) : Statement (.roleResolve x0 x1 x2 x3) :=
  fun _ _ => ⟨rfl, rfl, rfl⟩

theorem sealChange (x0 : Nat) (x1 : Fin 16) : Statement (.sealChange x0 x1) :=
  fun _ _ => ⟨rfl, rfl, rfl⟩

theorem sealCodeAccept (x0 : Nat) : Statement (.sealCodeAccept x0) :=
  fun _ _ => ⟨rfl, rfl, rfl⟩

theorem controlCycle (x0 : Nat) : Statement (.controlCycle x0) :=
  fun _ _ => ⟨rfl, rfl, rfl⟩

theorem frameStrobe (x0 : Nat) (x1 : Fin 4) : Statement (.frameStrobe x0 x1) :=
  fun _ _ => ⟨rfl, rfl, rfl⟩

theorem tempoStrobeFix (x0 : Nat) (x1 : Fin 4) : Statement (.tempoStrobeFix x0 x1) :=
  fun _ _ => ⟨rfl, rfl, rfl⟩

theorem tileResultTransfer (x0 : Nat) (x1 : Fin 4) (x2 : TileRes) : Statement (.tileResultTransfer x0 x1 x2) :=
  fun _ _ => ⟨rfl, rfl, rfl⟩

theorem excFault (x0 : Nat) (x1 : Fin 4) (x2 : Fin 120) (x3 : Fin 9) (x4 : Nat) : Statement (.excFault x0 x1 x2 x3 x4) :=
  fun _ _ => ⟨rfl, rfl, rfl⟩

theorem excTrip (x0 : Nat) (x1 : Fin 4) (x2 : Fin 24) : Statement (.excTrip x0 x1 x2) :=
  fun _ _ => ⟨rfl, rfl, rfl⟩

theorem excTripRetry (x0 : Nat) (x1 : Fin 4) (x2 : Fin 24) (x3 : Bool) : Statement (.excTripRetry x0 x1 x2 x3) :=
  fun _ _ => ⟨rfl, rfl, rfl⟩

theorem excClear (x0 : Nat) (x1 : Fin 4) (x2 : Fin 120) : Statement (.excClear x0 x1 x2) :=
  fun _ _ => ⟨rfl, rfl, rfl⟩

theorem openInputTest (x0 : Nat) (x1 : Fin 4) (x2 : List Nat) : Statement (.openInputTest x0 x1 x2) :=
  fun _ _ => ⟨rfl, rfl, rfl⟩

theorem blankPinEdge (x0 : Nat) (x1 : Fin 4) (x2 : Bool) : Statement (.blankPinEdge x0 x1 x2) :=
  fun _ _ => ⟨rfl, rfl, rfl⟩

theorem bcnClear (x0 : Nat) (x1 : Fin 4) : Statement (.bcnClear x0 x1) :=
  fun _ _ => ⟨rfl, rfl, rfl⟩

theorem calRefRecover (x0 : Nat) (x1 : Fin 4) : Statement (.calRefRecover x0 x1) :=
  fun _ _ => ⟨rfl, rfl, rfl⟩

theorem sliceBlockEnd (x0 : Nat) (x1 : Fin 4) : Statement (.sliceBlockEnd x0 x1) :=
  fun _ _ => ⟨rfl, rfl, rfl⟩

theorem calRunEnd (x0 : Nat) (x1 : Fin 4) : Statement (.calRunEnd x0 x1) :=
  fun _ _ => ⟨rfl, rfl, rfl⟩

theorem calStart (x0 : Nat) (x1 : Requester) (x2 : Word) : Statement (.calStart x0 x1 x2) :=
  fun _ _ => ⟨rfl, rfl, rfl⟩

theorem calCommit (x0 : Nat) (x1 : Requester) (x2 : Word) : Statement (.calCommit x0 x1 x2) :=
  fun _ _ => ⟨rfl, rfl, rfl⟩

theorem calTempCheck (x0 : Nat) : Statement (.calTempCheck x0) :=
  fun _ _ => ⟨rfl, rfl, rfl⟩

theorem calBurn (x0 : Nat) (x1 : Requester) (x2 : Word) (x3 : Nat) : Statement (.calBurn x0 x1 x2 x3) :=
  fun _ _ => ⟨rfl, rfl, rfl⟩

theorem calBurnEnd (x0 : Nat) (x1 : List (Nat × Nat)) : Statement (.calBurnEnd x0 x1) :=
  fun _ _ => ⟨rfl, rfl, rfl⟩

theorem tileCommit (x0 : Nat) (x1 : Requester) (x2 : Word) : Statement (.tileCommit x0 x1 x2) :=
  fun _ _ => ⟨rfl, rfl, rfl⟩

theorem calConfigCommit (x0 : Nat) (x1 : Requester) (x2 : Word) : Statement (.calConfigCommit x0 x1 x2) :=
  fun _ _ => ⟨rfl, rfl, rfl⟩

theorem fltCommit (x0 : Nat) (x1 : Requester) (x2 : Word) : Statement (.fltCommit x0 x1 x2) :=
  fun _ _ => ⟨rfl, rfl, rfl⟩

theorem timCommit (x0 : Nat) (x1 : Requester) (x2 : Word) : Statement (.timCommit x0 x1 x2) :=
  fun _ _ => ⟨rfl, rfl, rfl⟩

theorem timReanchor (x0 : Nat) (x1 : Requester) (x2 : Word) : Statement (.timReanchor x0 x1 x2) :=
  fun _ _ => ⟨rfl, rfl, rfl⟩

theorem iotCommit (x0 : Nat) (x1 : Requester) (x2 : Word) : Statement (.iotCommit x0 x1 x2) :=
  fun _ _ => ⟨rfl, rfl, rfl⟩

theorem queCommit (x0 : Nat) (x1 : Requester) (x2 : Word) : Statement (.queCommit x0 x1 x2) :=
  fun _ _ => ⟨rfl, rfl, rfl⟩

theorem prtCommit (x0 : Nat) (x1 : Requester) (x2 : Word) : Statement (.prtCommit x0 x1 x2) :=
  fun _ _ => ⟨rfl, rfl, rfl⟩

theorem parCommit (x0 : Nat) (x1 : Requester) (x2 : Word) : Statement (.parCommit x0 x1 x2) :=
  fun _ _ => ⟨rfl, rfl, rfl⟩

theorem resLoRead (x0 : Nat) (x1 : Requester) (x2 : Fin 512) : Statement (.resLoRead x0 x1 x2) :=
  fun _ _ => ⟨rfl, rfl, rfl⟩

theorem resHiRead (x0 : Nat) (x1 : Requester) (x2 : Fin 512) : Statement (.resHiRead x0 x1 x2) :=
  fun _ _ => ⟨rfl, rfl, rfl⟩

theorem wbNsRead (x0 : Nat) (x1 : Requester) (x2 : Fin 2) : Statement (.wbNsRead x0 x1 x2) :=
  fun _ _ => ⟨rfl, rfl, rfl⟩

theorem nbNsRead (x0 : Nat) (x1 : Requester) (x2 : Fin 6) : Statement (.nbNsRead x0 x1 x2) :=
  fun _ _ => ⟨rfl, rfl, rfl⟩

theorem tempoPosRead (x0 : Nat) (x1 : Requester) (x2 : Fin 4) : Statement (.tempoPosRead x0 x1 x2) :=
  fun _ _ => ⟨rfl, rfl, rfl⟩

theorem ledgerRead (x0 : Nat) (x1 : Requester) (x2 : Fin 64) : Statement (.ledgerRead x0 x1 x2) :=
  fun _ _ => ⟨rfl, rfl, rfl⟩

theorem cmpInbytesRead (x0 : Nat) (x1 : Requester) : Statement (.cmpInbytesRead x0 x1) :=
  fun _ _ => ⟨rfl, rfl, rfl⟩

theorem logEntryRead (x0 : Nat) (x1 : Requester) (x2 : Fin 8192) : Statement (.logEntryRead x0 x1 x2) :=
  fun _ _ => ⟨rfl, rfl, rfl⟩

theorem ptpRx (x0 : Nat) (x1 : Fin 4) (x2 : PtpMsg) : Statement (.ptpRx x0 x1 x2) :=
  fun _ _ => ⟨rfl, rfl, rfl⟩

theorem ptpDelayReqSend (x0 : Nat) (x1 : Fin 2) : Statement (.ptpDelayReqSend x0 x1) :=
  fun _ _ => ⟨rfl, rfl, rfl⟩

theorem ptpSyncLoss (x0 : Nat) (x1 : Fin 2) : Statement (.ptpSyncLoss x0 x1) :=
  fun _ _ => ⟨rfl, rfl, rfl⟩

theorem holdLimitExceeded (x0 : Nat) (x1 : Fin 2) : Statement (.holdLimitExceeded x0 x1) :=
  fun _ _ => ⟨rfl, rfl, rfl⟩

theorem timOffsetLarge (x0 : Nat) : Statement (.timOffsetLarge x0) :=
  fun _ _ => ⟨rfl, rfl, rfl⟩

theorem nbWrap (x0 : Nat) (x1 : Fin 6) : Statement (.nbWrap x0 x1) :=
  fun _ _ => ⟨rfl, rfl, rfl⟩

theorem ppsOutPulse (x0 : Nat) : Statement (.ppsOutPulse x0) :=
  fun _ _ => ⟨rfl, rfl, rfl⟩

theorem ppsInEdge (x0 : Nat) : Statement (.ppsInEdge x0) :=
  fun _ _ => ⟨rfl, rfl, rfl⟩

theorem ppsInLoss (x0 : Nat) : Statement (.ppsInLoss x0) :=
  fun _ _ => ⟨rfl, rfl, rfl⟩

theorem wb1Set (x0 : Nat) (x1 : Requester) (x2 : Word) : Statement (.wb1Set x0 x1 x2) :=
  fun _ _ => ⟨rfl, rfl, rfl⟩

theorem encoderEdge (x0 : Nat) (x1 : Fin 4) (x2 : QuadEdge) : Statement (.encoderEdge x0 x1 x2) :=
  fun _ _ => ⟨rfl, rfl, rfl⟩

theorem encoderIndex (x0 : Nat) (x1 : Fin 4) : Statement (.encoderIndex x0 x1) :=
  fun _ _ => ⟨rfl, rfl, rfl⟩

theorem mainsEdge (x0 : Nat) : Statement (.mainsEdge x0) :=
  fun _ _ => ⟨rfl, rfl, rfl⟩

theorem mainsHoldover (x0 : Nat) : Statement (.mainsHoldover x0) :=
  fun _ _ => ⟨rfl, rfl, rfl⟩

theorem mainsLost (x0 : Nat) : Statement (.mainsLost x0) :=
  fun _ _ => ⟨rfl, rfl, rfl⟩

theorem tempoRx (x0 : Nat) (x1 : Rx) : Statement (.tempoRx x0 x1) :=
  fun _ _ => ⟨rfl, rfl, rfl⟩

theorem tempoHoldover (x0 : Nat) (x1 : Fin 4) : Statement (.tempoHoldover x0 x1) :=
  fun _ _ => ⟨rfl, rfl, rfl⟩

theorem tempoLost (x0 : Nat) (x1 : Fin 4) : Statement (.tempoLost x0 x1) :=
  fun _ _ => ⟨rfl, rfl, rfl⟩

theorem tempoRecordWrite (x0 : Nat) (x1 : Fin 4) : Statement (.tempoRecordWrite x0 x1) :=
  fun _ _ => ⟨rfl, rfl, rfl⟩

theorem diLevelAccept (x0 : Nat) (x1 : Fin 128) (x2 : Bool) (x3 : Nat) : Statement (.diLevelAccept x0 x1 x2 x3) :=
  fun _ _ => ⟨rfl, rfl, rfl⟩

theorem diLevelSample (x0 : Nat) (x1 : Fin 128) (x2 : Bool) : Statement (.diLevelSample x0 x1 x2) :=
  fun _ _ => ⟨rfl, rfl, rfl⟩

theorem doPush (x0 : Nat) (x1 : Requester) (x2 : Word) : Statement (.doPush x0 x1 x2) :=
  fun _ _ => ⟨rfl, rfl, rfl⟩

theorem doClear (x0 : Nat) (x1 : Requester) (x2 : Word) : Statement (.doClear x0 x1 x2) :=
  fun _ _ => ⟨rfl, rfl, rfl⟩

theorem doFix (x0 : Nat) (x1 : Fin 32) : Statement (.doFix x0 x1) :=
  fun _ _ => ⟨rfl, rfl, rfl⟩

theorem doEdge (x0 : Nat) (x1 : Fin 32) : Statement (.doEdge x0 x1) :=
  fun _ _ => ⟨rfl, rfl, rfl⟩

theorem streamFlush (x0 : Nat) (x1 : Fin 64) : Statement (.streamFlush x0 x1) :=
  fun _ _ => ⟨rfl, rfl, rfl⟩

theorem queueStallResume (x0 : Nat) (x1 : Fin 80) : Statement (.queueStallResume x0 x1) :=
  fun _ _ => ⟨rfl, rfl, rfl⟩

theorem streamSkipResume (x0 : Nat) (x1 : Fin 64) : Statement (.streamSkipResume x0 x1) :=
  fun _ _ => ⟨rfl, rfl, rfl⟩

theorem historyBlockRelease (x0 : Nat) (x1 : Fin 512) : Statement (.historyBlockRelease x0 x1) :=
  fun _ _ => ⟨rfl, rfl, rfl⟩

theorem streamAckRx (x0 : Nat) (x1 : Rx) : Statement (.streamAckRx x0 x1) :=
  fun _ _ => ⟨rfl, rfl, rfl⟩

theorem streamNakRx (x0 : Nat) (x1 : Rx) : Statement (.streamNakRx x0 x1) :=
  fun _ _ => ⟨rfl, rfl, rfl⟩

theorem streamAcksRx (x0 : Nat) (x1 : Rx) : Statement (.streamAcksRx x0 x1) :=
  fun _ _ => ⟨rfl, rfl, rfl⟩

theorem pullRequestRx (x0 : Nat) (x1 : Rx) : Statement (.pullRequestRx x0 x1) :=
  fun _ _ => ⟨rfl, rfl, rfl⟩

theorem pullCancelRx (x0 : Nat) (x1 : Rx) : Statement (.pullCancelRx x0 x1) :=
  fun _ _ => ⟨rfl, rfl, rfl⟩

theorem pullSegment (x0 : Nat) (x1 : Nat) (x2 : Bool) : Statement (.pullSegment x0 x1 x2) :=
  fun _ _ => ⟨rfl, rfl, rfl⟩

theorem pullSegmentRetry (x0 : Nat) (x1 : Nat) : Statement (.pullSegmentRetry x0 x1) :=
  fun _ _ => ⟨rfl, rfl, rfl⟩

theorem cmpJobSubmit (x0 : Nat) (x1 : Requester) (x2 : Fin 32) (x3 : Word) : Statement (.cmpJobSubmit x0 x1 x2 x3) :=
  fun _ _ => ⟨rfl, rfl, rfl⟩

theorem cmpJobCancel (x0 : Nat) (x1 : Requester) (x2 : Fin 32) (x3 : Word) : Statement (.cmpJobCancel x0 x1 x2 x3) :=
  fun _ _ => ⟨rfl, rfl, rfl⟩

theorem cmpJobStart (x0 : Nat) (x1 : Fin 6) : Statement (.cmpJobStart x0 x1) :=
  fun _ _ => ⟨rfl, rfl, rfl⟩

theorem cmpJobEnd (x0 : Nat) (x1 : Fin 6) : Statement (.cmpJobEnd x0 x1) :=
  fun _ _ => ⟨rfl, rfl, rfl⟩

theorem phyLinkUp (x0 : Nat) (x1 : Fin 4) (x2 : Nat) (x3 : Bool) (x4 : Nat) (x5 : Bool) : Statement (.phyLinkUp x0 x1 x2 x3 x4 x5) :=
  fun _ _ => ⟨rfl, rfl, rfl⟩

theorem phyLinkLoss (x0 : Nat) (x1 : Fin 4) : Statement (.phyLinkLoss x0 x1) :=
  fun _ _ => ⟨rfl, rfl, rfl⟩

theorem sgmiiControlWord (x0 : Nat) (x1 : Fin 4) (x2 : Bool) (x3 : Bool) (x4 : Nat) : Statement (.sgmiiControlWord x0 x1 x2 x3 x4) :=
  fun _ _ => ⟨rfl, rfl, rfl⟩

theorem linkHelloSend (x0 : Nat) (x1 : Fin 4) : Statement (.linkHelloSend x0 x1) :=
  fun _ _ => ⟨rfl, rfl, rfl⟩

theorem linkHelloRx (x0 : Nat) (x1 : Rx) : Statement (.linkHelloRx x0 x1) :=
  fun _ _ => ⟨rfl, rfl, rfl⟩

theorem helloMiss (x0 : Nat) (x1 : Fin 4) : Statement (.helloMiss x0 x1) :=
  fun _ _ => ⟨rfl, rfl, rfl⟩

theorem rootHelloRx (x0 : Nat) (x1 : Rx) : Statement (.rootHelloRx x0 x1) :=
  fun _ _ => ⟨rfl, rfl, rfl⟩

theorem rootHelloMiss (x0 : Nat) (x1 : Fin 4) : Statement (.rootHelloMiss x0 x1) :=
  fun _ _ => ⟨rfl, rfl, rfl⟩

theorem transitFrameRx (x0 : Nat) (x1 : Rx) : Statement (.transitFrameRx x0 x1) :=
  fun _ _ => ⟨rfl, rfl, rfl⟩

theorem frameRxDiscard (x0 : Nat) (x1 : Rx) : Statement (.frameRxDiscard x0 x1) :=
  fun _ _ => ⟨rfl, rfl, rfl⟩

theorem frameTransmit (x0 : Nat) (x1 : Fin 4) : Statement (.frameTransmit x0 x1) :=
  fun _ _ => ⟨rfl, rfl, rfl⟩

theorem arpRx (x0 : Nat) (x1 : Fin 4) (x2 : Eth) (x3 : ArpMsg) : Statement (.arpRx x0 x1 x2 x3) :=
  fun _ _ => ⟨rfl, rfl, rfl⟩

theorem mkpduRx (x0 : Nat) (x1 : Fin 4) (x2 : Mkpdu) : Statement (.mkpduRx x0 x1 x2) :=
  fun _ _ => ⟨rfl, rfl, rfl⟩

theorem mkaHelloSend (x0 : Nat) (x1 : Fin 4) : Statement (.mkaHelloSend x0 x1) :=
  fun _ _ => ⟨rfl, rfl, rfl⟩

theorem mkaRekey (x0 : Nat) (x1 : Fin 4) : Statement (.mkaRekey x0 x1) :=
  fun _ _ => ⟨rfl, rfl, rfl⟩

theorem mkaFail (x0 : Nat) (x1 : Fin 4) : Statement (.mkaFail x0 x1) :=
  fun _ _ => ⟨rfl, rfl, rfl⟩

theorem macsecInstall (x0 : Nat) (x1 : Requester) (x2 : Fin 4) (x3 : Word) : Statement (.macsecInstall x0 x1 x2 x3) :=
  fun _ _ => ⟨rfl, rfl, rfl⟩

theorem mgmtReadReq (x0 : Nat) (x1 : Rx) : Statement (.mgmtReadReq x0 x1) :=
  fun _ _ => ⟨rfl, rfl, rfl⟩

theorem mgmtWriteReq (x0 : Nat) (x1 : Rx) : Statement (.mgmtWriteReq x0 x1) :=
  fun _ _ => ⟨rfl, rfl, rfl⟩

theorem mediatedWriteDone (x0 : Nat) (x1 : Phys) : Statement (.mediatedWriteDone x0 x1) :=
  fun _ _ => ⟨rfl, rfl, rfl⟩

theorem mgmtHealthRx (x0 : Nat) (x1 : Rx) : Statement (.mgmtHealthRx x0 x1) :=
  fun _ _ => ⟨rfl, rfl, rfl⟩

theorem mgmtUpdPushRx (x0 : Nat) (x1 : Rx) : Statement (.mgmtUpdPushRx x0 x1) :=
  fun _ _ => ⟨rfl, rfl, rfl⟩

theorem mgmtKeyWrite (x0 : Nat) (x1 : Requester) (x2 : Fin 4) (x3 : Word) : Statement (.mgmtKeyWrite x0 x1 x2 x3) :=
  fun _ _ => ⟨rfl, rfl, rfl⟩

theorem hostRead (x0 : Nat) (x1 : Word) (x2 : Word) (x3 : Word) (x4 : Bool) : Statement (.hostRead x0 x1 x2 x3 x4) :=
  fun _ _ => ⟨rfl, rfl, rfl⟩

theorem hostWrite (x0 : Nat) (x1 : Word) (x2 : Word) (x3 : List Word) (x4 : Word) : Statement (.hostWrite x0 x1 x2 x3 x4) :=
  fun _ _ => ⟨rfl, rfl, rfl⟩

theorem hostNop (x0 : Nat) (x1 : Word) (x2 : Word) (x3 : Word) : Statement (.hostNop x0 x1 x2 x3) :=
  fun _ _ => ⟨rfl, rfl, rfl⟩

theorem hostFrameAbort (x0 : Nat) (x1 : Option (Word × Word × List Word × Word)) (x2 : Bool) : Statement (.hostFrameAbort x0 x1 x2) :=
  fun _ _ => ⟨rfl, rfl, rfl⟩

theorem hostLegacyRead (x0 : Nat) (x1 : Fin 8192) (x2 : Nat) : Statement (.hostLegacyRead x0 x1 x2) :=
  fun _ _ => ⟨rfl, rfl, rfl⟩

theorem hostLegacyWrite (x0 : Nat) (x1 : Fin 8192) (x2 : BitVec 16) (x3 : Nat) : Statement (.hostLegacyWrite x0 x1 x2 x3) :=
  fun _ _ => ⟨rfl, rfl, rfl⟩

theorem safetyTick (x0 : Nat) (x1 : TickIn) : Statement (.safetyTick x0 x1) :=
  fun _ _ => ⟨rfl, rfl, rfl⟩

theorem keeperMarkerTimeout (x0 : Nat) (x1 : Nat) : Statement (.keeperMarkerTimeout x0 x1) :=
  fun _ _ => ⟨rfl, rfl, rfl⟩

theorem crossLatch (x0 : Nat) : Statement (.crossLatch x0) :=
  fun _ _ => ⟨rfl, rfl, rfl⟩

theorem spWatchdog (x0 : Nat) : Statement (.spWatchdog x0) :=
  fun _ _ => ⟨rfl, rfl, rfl⟩

theorem safeInputFilter (x0 : Nat) (x1 : Fin 16) (x2 : Fin 2) (x3 : Bool) (x4 : Fin 2) (x5 : Nat) : Statement (.safeInputFilter x0 x1 x2 x3 x4 x5) :=
  fun _ _ => ⟨rfl, rfl, rfl⟩

theorem sitGapCheck (x0 : Nat) (x1 : Fin 4) (x2 : List Nat) : Statement (.sitGapCheck x0 x1 x2) :=
  fun _ _ => ⟨rfl, rfl, rfl⟩

theorem sitOvl (x0 : Nat) (x1 : Fin 4) (x2 : Bool) : Statement (.sitOvl x0 x1 x2) :=
  fun _ _ => ⟨rfl, rfl, rfl⟩

theorem siDiscrepancy (x0 : Nat) (x1 : Fin 16) : Statement (.siDiscrepancy x0 x1) :=
  fun _ _ => ⟨rfl, rfl, rfl⟩

theorem sackRelease (x0 : Nat) : Statement (.sackRelease x0) :=
  fun _ _ => ⟨rfl, rfl, rfl⟩

theorem sackStuck (x0 : Nat) : Statement (.sackStuck x0) :=
  fun _ _ => ⟨rfl, rfl, rfl⟩

theorem sackStuckClear (x0 : Nat) : Statement (.sackStuckClear x0) :=
  fun _ _ => ⟨rfl, rfl, rfl⟩

theorem brakeReadbackFault (x0 : Nat) (x1 : Fin 8) : Statement (.brakeReadbackFault x0 x1) :=
  fun _ _ => ⟨rfl, rfl, rfl⟩

theorem brakeOvercurrent (x0 : Nat) (x1 : Fin 8) (x2 : Nat) : Statement (.brakeOvercurrent x0 x1 x2) :=
  fun _ _ => ⟨rfl, rfl, rfl⟩

theorem brakeSwitchTest (x0 : Nat) (x1 : Fin 8) (x2 : Bool) : Statement (.brakeSwitchTest x0 x1 x2) :=
  fun _ _ => ⟨rfl, rfl, rfl⟩

theorem brakeSwitchConfirm (x0 : Nat) (x1 : Fin 8) (x2 : Nat) (x3 : Nat) : Statement (.brakeSwitchConfirm x0 x1 x2 x3) :=
  fun _ _ => ⟨rfl, rfl, rfl⟩

theorem brakeSwitchTimeout (x0 : Nat) (x1 : Fin 8) : Statement (.brakeSwitchTimeout x0 x1) :=
  fun _ _ => ⟨rfl, rfl, rfl⟩

theorem sasFaultRecord (x0 : Nat) : Statement (.sasFaultRecord x0) :=
  fun _ _ => ⟨rfl, rfl, rfl⟩

theorem brakeTestEngage (x0 : Nat) : Statement (.brakeTestEngage x0) :=
  fun _ _ => ⟨rfl, rfl, rfl⟩

theorem brakeTestTorque (x0 : Nat) : Statement (.brakeTestTorque x0) :=
  fun _ _ => ⟨rfl, rfl, rfl⟩

theorem brakeTestNoTorque (x0 : Nat) : Statement (.brakeTestNoTorque x0) :=
  fun _ _ => ⟨rfl, rfl, rfl⟩

theorem brakeTestHoldEnd (x0 : Nat) : Statement (.brakeTestHoldEnd x0) :=
  fun _ _ => ⟨rfl, rfl, rfl⟩

theorem brakeTestRestore (x0 : Nat) : Statement (.brakeTestRestore x0) :=
  fun _ _ => ⟨rfl, rfl, rfl⟩

theorem testDue (x0 : Nat) (x1 : Fin 8) : Statement (.testDue x0 x1) :=
  fun _ _ => ⟨rfl, rfl, rfl⟩

theorem testGraceExpiry (x0 : Nat) (x1 : Fin 8) : Statement (.testGraceExpiry x0 x1) :=
  fun _ _ => ⟨rfl, rfl, rfl⟩

theorem zhocyRx (x0 : Nat) (x1 : Rx) : Statement (.zhocyRx x0 x1) :=
  fun _ _ => ⟨rfl, rfl, rfl⟩

theorem zhocyWd (x0 : Nat) (x1 : Fin 8) : Statement (.zhocyWd x0 x1) :=
  fun _ _ => ⟨rfl, rfl, rfl⟩

theorem zhocySend (x0 : Nat) (x1 : Fin 8) : Statement (.zhocySend x0 x1) :=
  fun _ _ => ⟨rfl, rfl, rfl⟩

theorem pairSafeMismatch (x0 : Nat) : Statement (.pairSafeMismatch x0) :=
  fun _ _ => ⟨rfl, rfl, rfl⟩

theorem spmbLoadSafety (x0 : Nat) (x1 : Requester) (x2 : Word) (x3 : Bool) : Statement (.spmbLoadSafety x0 x1 x2 x3) :=
  fun _ _ => ⟨rfl, rfl, rfl⟩

theorem spmbSetParam (x0 : Nat) (x1 : Requester) (x2 : Word) (x3 : Bool) : Statement (.spmbSetParam x0 x1 x2 x3) :=
  fun _ _ => ⟨rfl, rfl, rfl⟩

theorem spmbSetPassword (x0 : Nat) (x1 : Requester) (x2 : Word) (x3 : Bool) : Statement (.spmbSetPassword x0 x1 x2 x3) :=
  fun _ _ => ⟨rfl, rfl, rfl⟩

theorem spmbClearLog (x0 : Nat) (x1 : Requester) (x2 : Word) (x3 : Bool) : Statement (.spmbClearLog x0 x1 x2 x3) :=
  fun _ _ => ⟨rfl, rfl, rfl⟩

theorem spmbBrakeTest (x0 : Nat) (x1 : Requester) (x2 : Word) (x3 : Bool) : Statement (.spmbBrakeTest x0 x1 x2 x3) :=
  fun _ _ => ⟨rfl, rfl, rfl⟩

theorem spmbAbortTest (x0 : Nat) (x1 : Requester) (x2 : Word) (x3 : Bool) : Statement (.spmbAbortTest x0 x1 x2 x3) :=
  fun _ _ => ⟨rfl, rfl, rfl⟩

theorem spmbReadLog (x0 : Nat) (x1 : Requester) (x2 : Word) (x3 : Bool) : Statement (.spmbReadLog x0 x1 x2 x3) :=
  fun _ _ => ⟨rfl, rfl, rfl⟩

theorem spmbBadOp (x0 : Nat) (x1 : Requester) (x2 : Word) (x3 : Bool) : Statement (.spmbBadOp x0 x1 x2 x3) :=
  fun _ _ => ⟨rfl, rfl, rfl⟩

theorem safetyConfigSwitch (x0 : Nat) (x1 : Bool) (x2 : Bool) : Statement (.safetyConfigSwitch x0 x1 x2) :=
  fun _ _ => ⟨rfl, rfl, rfl⟩

theorem safeLockoutEnd (x0 : Nat) : Statement (.safeLockoutEnd x0) :=
  fun _ _ => ⟨rfl, rfl, rfl⟩

theorem partnerHeartbeatSend (x0 : Nat) : Statement (.partnerHeartbeatSend x0) :=
  fun _ _ => ⟨rfl, rfl, rfl⟩

theorem partnerHeartbeatRx (x0 : Nat) (x1 : Bool) (x2 : Nat) (x3 : Nat) (x4 : Fin 4) : Statement (.partnerHeartbeatRx x0 x1 x2 x3 x4) :=
  fun _ _ => ⟨rfl, rfl, rfl⟩

theorem heartbeatTimeout (x0 : Nat) (x1 : List Nat) : Statement (.heartbeatTimeout x0 x1) :=
  fun _ _ => ⟨rfl, rfl, rfl⟩

theorem faultBeatRx (x0 : Nat) (x1 : List Nat) : Statement (.faultBeatRx x0 x1) :=
  fun _ _ => ⟨rfl, rfl, rfl⟩

theorem takeoverComplete (x0 : Nat) : Statement (.takeoverComplete x0) :=
  fun _ _ => ⟨rfl, rfl, rfl⟩

theorem partnerLaneLoss (x0 : Nat) (x1 : Fin 2) : Statement (.partnerLaneLoss x0 x1) :=
  fun _ _ => ⟨rfl, rfl, rfl⟩

theorem partnerMirrorRx (x0 : Nat) (x1 : Mirror) : Statement (.partnerMirrorRx x0 x1) :=
  fun _ _ => ⟨rfl, rfl, rfl⟩

theorem stateCopyRx (x0 : Nat) (x1 : StateCopy) (x2 : Bool) : Statement (.stateCopyRx x0 x1 x2) :=
  fun _ _ => ⟨rfl, rfl, rfl⟩

theorem pairCommitMirrorRx (x0 : Nat) (x1 : CommitMsg) : Statement (.pairCommitMirrorRx x0 x1) :=
  fun _ _ => ⟨rfl, rfl, rfl⟩

theorem pairCommitFail (x0 : Nat) : Statement (.pairCommitFail x0) :=
  fun _ _ => ⟨rfl, rfl, rfl⟩

theorem followBist (x0 : Nat) (x1 : Fin 7) (x2 : Bool) : Statement (.followBist x0 x1 x2) :=
  fun _ _ => ⟨rfl, rfl, rfl⟩

theorem memoryScrub (x0 : Nat) (x1 : Nat) (x2 : Nat) : Statement (.memoryScrub x0 x1 x2) :=
  fun _ _ => ⟨rfl, rfl, rfl⟩

theorem followDegradedClear (x0 : Nat) : Statement (.followDegradedClear x0) :=
  fun _ _ => ⟨rfl, rfl, rfl⟩

theorem healthReportSend (x0 : Nat) (x1 : Int) : Statement (.healthReportSend x0 x1) :=
  fun _ _ => ⟨rfl, rfl, rfl⟩

theorem parSwap (x0 : Nat) (x1 : Requester) (x2 : Word) (x3 : Option (List Byte)) : Statement (.parSwap x0 x1 x2 x3) :=
  fun _ _ => ⟨rfl, rfl, rfl⟩

theorem swapReady (x0 : Nat) : Statement (.swapReady x0) :=
  fun _ _ => ⟨rfl, rfl, rfl⟩

theorem swapTimeout (x0 : Nat) : Statement (.swapTimeout x0) :=
  fun _ _ => ⟨rfl, rfl, rfl⟩

theorem swapBoundary (x0 : Nat) (x1 : Handover) : Statement (.swapBoundary x0 x1) :=
  fun _ _ => ⟨rfl, rfl, rfl⟩

theorem swapRejoin (x0 : Nat) : Statement (.swapRejoin x0) :=
  fun _ _ => ⟨rfl, rfl, rfl⟩

theorem secReport (x0 : Nat) (x1 : Requester) (x2 : Word) (x3 : List (Nat × Nat)) : Statement (.secReport x0 x1 x2 x3) :=
  fun _ _ => ⟨rfl, rfl, rfl⟩

theorem secEnrol (x0 : Nat) (x1 : Requester) (x2 : Word) (x3 : List (Nat × Nat)) : Statement (.secEnrol x0 x1 x2 x3) :=
  fun _ _ => ⟨rfl, rfl, rfl⟩

theorem secRevoke (x0 : Nat) (x1 : Requester) (x2 : Word) (x3 : List (Nat × Nat)) : Statement (.secRevoke x0 x1 x2 x3) :=
  fun _ _ => ⟨rfl, rfl, rfl⟩

theorem secSetOwnerFw (x0 : Nat) (x1 : Requester) (x2 : Word) (x3 : List (Nat × Nat)) : Statement (.secSetOwnerFw x0 x1 x2 x3) :=
  fun _ _ => ⟨rfl, rfl, rfl⟩

theorem secBadOp (x0 : Nat) (x1 : Requester) (x2 : Word) (x3 : List (Nat × Nat)) : Statement (.secBadOp x0 x1 x2 x3) :=
  fun _ _ => ⟨rfl, rfl, rfl⟩

theorem dmExtend (x0 : Nat) (x1 : Requester) (x2 : Word) : Statement (.dmExtend x0 x1 x2) :=
  fun _ _ => ⟨rfl, rfl, rfl⟩

theorem dmLock (x0 : Nat) (x1 : Requester) (x2 : Word) : Statement (.dmLock x0 x1 x2) :=
  fun _ _ => ⟨rfl, rfl, rfl⟩

theorem protWrite (x0 : Nat) (x1 : Requester) (x2 : Fin 256) (x3 : Word) : Statement (.protWrite x0 x1 x2 x3) :=
  fun _ _ => ⟨rfl, rfl, rfl⟩

theorem updOfferSend (x0 : Nat) : Statement (.updOfferSend x0) :=
  fun _ _ => ⟨rfl, rfl, rfl⟩

theorem updOfferRx (x0 : Nat) (x1 : Rx) : Statement (.updOfferRx x0 x1) :=
  fun _ _ => ⟨rfl, rfl, rfl⟩

theorem updFetch (x0 : Nat) (x1 : Requester) (x2 : List Byte) : Statement (.updFetch x0 x1 x2) :=
  fun _ _ => ⟨rfl, rfl, rfl⟩

theorem updManReqRx (x0 : Nat) (x1 : Rx) : Statement (.updManReqRx x0 x1) :=
  fun _ _ => ⟨rfl, rfl, rfl⟩

theorem updManRx (x0 : Nat) (x1 : Rx) : Statement (.updManRx x0 x1) :=
  fun _ _ => ⟨rfl, rfl, rfl⟩

theorem updBlkReqRx (x0 : Nat) (x1 : Rx) : Statement (.updBlkReqRx x0 x1) :=
  fun _ _ => ⟨rfl, rfl, rfl⟩

theorem updBlkRx (x0 : Nat) (x1 : Rx) : Statement (.updBlkRx x0 x1) :=
  fun _ _ => ⟨rfl, rfl, rfl⟩

theorem updRefuseRx (x0 : Nat) (x1 : Rx) : Statement (.updRefuseRx x0 x1) :=
  fun _ _ => ⟨rfl, rfl, rfl⟩

theorem updFragmentTimeout (x0 : Nat) (x1 : Fin 3) : Statement (.updFragmentTimeout x0 x1) :=
  fun _ _ => ⟨rfl, rfl, rfl⟩

theorem updHeldRequestExpiry (x0 : Nat) : Statement (.updHeldRequestExpiry x0) :=
  fun _ _ => ⟨rfl, rfl, rfl⟩

theorem updBlockStored (x0 : Nat) (x1 : Nat) (x2 : Bool) : Statement (.updBlockStored x0 x1 x2) :=
  fun _ _ => ⟨rfl, rfl, rfl⟩

theorem updActivate (x0 : Nat) (x1 : Requester) (x2 : Word) : Statement (.updActivate x0 x1 x2) :=
  fun _ _ => ⟨rfl, rfl, rfl⟩

theorem updConfirm (x0 : Nat) (x1 : Requester) (x2 : Word) : Statement (.updConfirm x0 x1 x2) :=
  fun _ _ => ⟨rfl, rfl, rfl⟩

theorem updRollback (x0 : Nat) (x1 : Requester) (x2 : Word) : Statement (.updRollback x0 x1 x2) :=
  fun _ _ => ⟨rfl, rfl, rfl⟩

theorem updAbort (x0 : Nat) (x1 : Requester) (x2 : Word) : Statement (.updAbort x0 x1 x2) :=
  fun _ _ => ⟨rfl, rfl, rfl⟩

theorem updClrconf (x0 : Nat) (x1 : Requester) (x2 : Word) : Statement (.updClrconf x0 x1 x2) :=
  fun _ _ => ⟨rfl, rfl, rfl⟩

theorem conftmrWrite (x0 : Nat) (x1 : Requester) (x2 : Word) : Statement (.conftmrWrite x0 x1 x2) :=
  fun _ _ => ⟨rfl, rfl, rfl⟩

theorem confirmWindowExpiry (x0 : Nat) : Statement (.confirmWindowExpiry x0) :=
  fun _ _ => ⟨rfl, rfl, rfl⟩

theorem rcvErase (x0 : Nat) (x1 : Requester) (x2 : Word) : Statement (.rcvErase x0 x1 x2) :=
  fun _ _ => ⟨rfl, rfl, rfl⟩

theorem rcvProgram (x0 : Nat) (x1 : Requester) (x2 : Word) : Statement (.rcvProgram x0 x1 x2) :=
  fun _ _ => ⟨rfl, rfl, rfl⟩

theorem rcvFlashDone (x0 : Nat) (x1 : Bool) : Statement (.rcvFlashDone x0 x1) :=
  fun _ _ => ⟨rfl, rfl, rfl⟩

theorem chorLoad (x0 : Nat) (x1 : Requester) (x2 : Word) : Statement (.chorLoad x0 x1 x2) :=
  fun _ _ => ⟨rfl, rfl, rfl⟩

theorem chorApply (x0 : Nat) (x1 : Requester) (x2 : Word) : Statement (.chorApply x0 x1 x2) :=
  fun _ _ => ⟨rfl, rfl, rfl⟩

theorem chorDiscard (x0 : Nat) (x1 : Requester) (x2 : Word) : Statement (.chorDiscard x0 x1 x2) :=
  fun _ _ => ⟨rfl, rfl, rfl⟩

theorem chorApplyBoundary (x0 : Nat) : Statement (.chorApplyBoundary x0) :=
  fun _ _ => ⟨rfl, rfl, rfl⟩

theorem chorStore (x0 : Nat) (x1 : Bool) : Statement (.chorStore x0 x1) :=
  fun _ _ => ⟨rfl, rfl, rfl⟩

theorem monitorSample (x0 : Nat) (x1 : Fin 32) (x2 : Int) : Statement (.monitorSample x0 x1 x2) :=
  fun _ _ => ⟨rfl, rfl, rfl⟩

theorem monitorIntervalEnd (x0 : Nat) (x1 : Fin 32) : Statement (.monitorIntervalEnd x0 x1) :=
  fun _ _ => ⟨rfl, rfl, rfl⟩

theorem partnerLaneUp (x0 : Nat) (x1 : Fin 2) : Statement (.partnerLaneUp x0 x1) :=
  fun _ _ => ⟨rfl, rfl, rfl⟩

theorem mkaLifeTimeExpiry (x0 : Nat) (x1 : Fin 4) (x2 : Nat) : Statement (.mkaLifeTimeExpiry x0 x1 x2) :=
  fun _ _ => ⟨rfl, rfl, rfl⟩

end Sys2Proof.Laws.Timed
end

