-- ==== Sys2Proof/Tests/Slice0.lean ====
section
/-! SUPPORT. Tests: ill-formed commands that the check refuses, worked examples of the spec, and for every statement with hypotheses
operands and states that meet them all. -/

set_option linter.unusedVariables false

open Sys2Proof Sys2Proof.Machine

namespace Sys2Proof.Tests

set_option Elab.async false

/-! Ill-formed commands -/

/-- A received frame of a flow, type and channel. -/
def rxOf (flow type ch : Nat) : Rx := { port := 1, frame := { flow := flow, type := type, ch := ch } }

theorem test_wf_register_write :
    (Instr.registerWrite 0 (.core0 0) 4 4 5 {}).wf = true ∧ (Instr.registerWrite 0 (.core0 0) 4 0 0 {}).wf = false ∧ (Instr.registerWrite 0 (.core0 0) 0 9 5 {}).wf = false ∧ (Instr.registerWrite 0 (.core0 0) (2 ^ 36 - 3) 4 5 {}).wf = false ∧ (Instr.registerWrite 0 (.core0 0) 4 1 256 {}).wf = false := by
  decide +kernel

theorem test_wf_roc_read :
    (Instr.rocRead 0 (.core0 0) 4 4).wf = true ∧ (Instr.rocRead 0 (.core0 0) 4 0).wf = false ∧ (Instr.rocRead 0 (.core0 0) 4 9).wf = false ∧ (Instr.rocRead 0 (.core0 0) (2 ^ 36) 4).wf = false := by
  decide +kernel

theorem test_wf_soft_reset :
    (Instr.softReset 0 (.core0 0) 0x15A17).wf = true ∧ (Instr.softReset 0 (.core0 0) 0x5A17).wf = false := by
  decide +kernel

theorem test_wf_tile_commit :
    (Instr.tileCommit 0 (.core0 0) 1).wf = true ∧ (Instr.tileCommit 0 (.core0 0) 16).wf = false := by
  decide +kernel

theorem test_wf_cal_config_commit :
    (Instr.calConfigCommit 0 (.core0 0) 16).wf = true ∧ (Instr.calConfigCommit 0 (.core0 0) 1).wf = false := by
  decide +kernel

theorem test_wf_flt_commit :
    (Instr.fltCommit 0 (.core0 0) 1).wf = true ∧ (Instr.fltCommit 0 (.core0 0) 0).wf = false := by
  decide +kernel

theorem test_wf_tim_commit :
    (Instr.timCommit 0 (.core0 0) 1).wf = true ∧ (Instr.timCommit 0 (.core0 0) 2).wf = false := by
  decide +kernel

theorem test_wf_tim_reanchor :
    (Instr.timReanchor 0 (.core0 0) 2).wf = true ∧ (Instr.timReanchor 0 (.core0 0) 1).wf = false := by
  decide +kernel

theorem test_wf_iot_commit :
    (Instr.iotCommit 0 (.core0 0) 1).wf = true ∧ (Instr.iotCommit 0 (.core0 0) 0).wf = false := by
  decide +kernel

theorem test_wf_que_commit :
    (Instr.queCommit 0 (.core0 0) 1).wf = true ∧ (Instr.queCommit 0 (.core0 0) 0).wf = false := by
  decide +kernel

theorem test_wf_prt_commit :
    (Instr.prtCommit 0 (.core0 0) 1).wf = true ∧ (Instr.prtCommit 0 (.core0 0) 0).wf = false := by
  decide +kernel

theorem test_wf_par_commit :
    (Instr.parCommit 0 (.core0 0) 1).wf = true ∧ (Instr.parCommit 0 (.core0 0) 0).wf = false := by
  decide +kernel

theorem test_wf_do_push :
    (Instr.doPush 0 (.core0 0) 5).wf = true ∧ (Instr.doPush 0 (.core0 0) 0x400).wf = false := by
  decide +kernel

theorem test_wf_do_clear :
    (Instr.doClear 0 (.core0 0) 0x405).wf = true ∧ (Instr.doClear 0 (.core0 0) 5).wf = false := by
  decide +kernel

theorem test_wf_dm_extend :
    (Instr.dmExtend 0 (.core0 0) 8).wf = true ∧ (Instr.dmExtend 0 (.core0 0) 16).wf = false := by
  decide +kernel

theorem test_wf_dm_lock :
    (Instr.dmLock 0 (.core0 0) 16).wf = true ∧ (Instr.dmLock 0 (.core0 0) 8).wf = false := by
  decide +kernel

theorem test_wf_upd_activate :
    (Instr.updActivate 0 (.core0 0) 0x17E2B).wf = true ∧ (Instr.updActivate 0 (.core0 0) 0x27E2B).wf = false := by
  decide +kernel

theorem test_wf_upd_confirm :
    (Instr.updConfirm 0 (.core0 0) 0x27E2B).wf = true ∧ (Instr.updConfirm 0 (.core0 0) 0x17E2B).wf = false := by
  decide +kernel

theorem test_wf_upd_rollback :
    (Instr.updRollback 0 (.core0 0) 0x47E2B).wf = true ∧ (Instr.updRollback 0 (.core0 0) 0x7E2B).wf = false := by
  decide +kernel

theorem test_wf_upd_abort :
    (Instr.updAbort 0 (.core0 0) 0x87E2B).wf = true ∧ (Instr.updAbort 0 (.core0 0) 0x7E2B).wf = false := by
  decide +kernel

theorem test_wf_upd_clrconf :
    (Instr.updClrconf 0 (.core0 0) 0x107E2B).wf = true ∧ (Instr.updClrconf 0 (.core0 0) 0x7E2B).wf = false := by
  decide +kernel

theorem test_wf_rcv_erase :
    (Instr.rcvErase 0 (.core0 0) 1).wf = true ∧ (Instr.rcvErase 0 (.core0 0) 2).wf = false := by
  decide +kernel

theorem test_wf_rcv_program :
    (Instr.rcvProgram 0 (.core0 0) 2).wf = true ∧ (Instr.rcvProgram 0 (.core0 0) 1).wf = false := by
  decide +kernel

theorem test_wf_chor_load :
    (Instr.chorLoad 0 (.core0 0) 0x14C9D).wf = true ∧ (Instr.chorLoad 0 (.core0 0) 0x24C9D).wf = false := by
  decide +kernel

theorem test_wf_chor_apply :
    (Instr.chorApply 0 (.core0 0) 0x24C9D).wf = true ∧ (Instr.chorApply 0 (.core0 0) 0x14C9D).wf = false := by
  decide +kernel

theorem test_wf_chor_discard :
    (Instr.chorDiscard 0 (.core0 0) 0x44C9D).wf = true ∧ (Instr.chorDiscard 0 (.core0 0) 0x54C9D).wf = false := by
  decide +kernel

theorem test_wf_cal_burn :
    (Instr.calBurn 0 (.core0 0) 0x16E5D 1800).wf = true ∧ (Instr.calBurn 0 (.core0 0) 0x6E5D 1800).wf = false := by
  decide +kernel

theorem test_wf_par_swap :
    (Instr.parSwap 0 (.core0 0) 0x15A3C none).wf = true ∧ (Instr.parSwap 0 (.core0 0) 0x5A3C none).wf = false := by
  decide +kernel

theorem test_wf_sec_report :
    (Instr.secReport 0 (.core0 0) 65 []).wf = true ∧ (Instr.secReport 0 (.core0 0) 1 []).wf = false ∧ (Instr.secReport 0 (.core0 0) 66 []).wf = false ∧ (Instr.secReport 0 (.core0 0) 65 [(4096, 0)]).wf = false := by
  decide +kernel

theorem test_wf_sec_enrol :
    (Instr.secEnrol 0 (.core0 0) 66 []).wf = true ∧ (Instr.secEnrol 0 (.core0 0) 2 []).wf = false ∧ (Instr.secEnrol 0 (.core0 0) 67 []).wf = false ∧ (Instr.secEnrol 0 (.core0 0) 66 [(4096, 0)]).wf = false := by
  decide +kernel

theorem test_wf_sec_revoke :
    (Instr.secRevoke 0 (.core0 0) 67 []).wf = true ∧ (Instr.secRevoke 0 (.core0 0) 3 []).wf = false ∧ (Instr.secRevoke 0 (.core0 0) 68 []).wf = false ∧ (Instr.secRevoke 0 (.core0 0) 67 [(4096, 0)]).wf = false := by
  decide +kernel

theorem test_wf_sec_set_owner_fw :
    (Instr.secSetOwnerFw 0 (.core0 0) 68 []).wf = true ∧ (Instr.secSetOwnerFw 0 (.core0 0) 4 []).wf = false ∧ (Instr.secSetOwnerFw 0 (.core0 0) 65 []).wf = false ∧ (Instr.secSetOwnerFw 0 (.core0 0) 68 [(4096, 0)]).wf = false := by
  decide +kernel

theorem test_wf_sec_bad_op :
    (Instr.secBadOp 0 (.core0 0) 64 []).wf = true ∧ (Instr.secBadOp 0 (.core0 0) 65 []).wf = false ∧ (Instr.secBadOp 0 (.core0 0) 0 []).wf = false := by
  decide +kernel

theorem test_wf_spmb_load_safety :
    (Instr.spmbLoadSafety 0 (.core0 0) 1 true).wf = true ∧ (Instr.spmbLoadSafety 0 (.core0 0) 2 true).wf = false := by
  decide +kernel

theorem test_wf_spmb_set_param :
    (Instr.spmbSetParam 0 (.core0 0) 1 true).wf = true ∧ (Instr.spmbSetParam 0 (.core0 0) 2 true).wf = false := by
  decide +kernel

theorem test_wf_spmb_set_password :
    (Instr.spmbSetPassword 0 (.core0 0) 1 true).wf = true ∧ (Instr.spmbSetPassword 0 (.core0 0) 2 true).wf = false := by
  decide +kernel

theorem test_wf_spmb_clear_log :
    (Instr.spmbClearLog 0 (.core0 0) 1 true).wf = true ∧ (Instr.spmbClearLog 0 (.core0 0) 2 true).wf = false := by
  decide +kernel

theorem test_wf_spmb_brake_test :
    (Instr.spmbBrakeTest 0 (.core0 0) 1 true).wf = true ∧ (Instr.spmbBrakeTest 0 (.core0 0) 2 true).wf = false := by
  decide +kernel

theorem test_wf_spmb_abort_test :
    (Instr.spmbAbortTest 0 (.core0 0) 1 true).wf = true ∧ (Instr.spmbAbortTest 0 (.core0 0) 2 true).wf = false := by
  decide +kernel

theorem test_wf_spmb_read_log :
    (Instr.spmbReadLog 0 (.core0 0) 1 true).wf = true ∧ (Instr.spmbReadLog 0 (.core0 0) 2 true).wf = false := by
  decide +kernel

theorem test_wf_spmb_bad_op :
    (Instr.spmbBadOp 0 (.core0 0) 1 true).wf = true ∧ (Instr.spmbBadOp 0 (.core0 0) 2 true).wf = false := by
  decide +kernel

theorem test_wf_cmp_job_submit :
    (Instr.cmpJobSubmit 0 (.core0 0) 3 1).wf = true ∧ (Instr.cmpJobSubmit 0 (.core0 0) 3 2).wf = false := by
  decide +kernel

theorem test_wf_cmp_job_cancel :
    (Instr.cmpJobCancel 0 (.core0 0) 3 2).wf = true ∧ (Instr.cmpJobCancel 0 (.core0 0) 3 1).wf = false := by
  decide +kernel

theorem test_wf_macsec_install :
    (Instr.macsecInstall 0 (.core0 0) 3 4).wf = true ∧ (Instr.macsecInstall 0 (.core0 0) 3 3).wf = false := by
  decide +kernel

theorem test_wf_upd_fetch :
    (Instr.updFetch 0 (.core0 0) (List.replicate 48 1)).wf = true ∧ (Instr.updFetch 0 (.core0 0) []).wf = false := by
  decide +kernel

theorem test_wf_stream_ack_rx :
    (Instr.streamAckRx 0 (rxOf 1 2 0)).wf = true ∧ (Instr.streamAckRx 0 (rxOf 2 2 0)).wf = false ∧ (Instr.streamAckRx 0 (rxOf 1 3 0)).wf = false ∧ (Instr.streamAckRx 0 (rxOf 1 2 64)).wf = false := by
  decide +kernel

theorem test_wf_stream_nak_rx :
    (Instr.streamNakRx 0 (rxOf 1 3 0)).wf = true ∧ (Instr.streamNakRx 0 (rxOf 2 3 0)).wf = false ∧ (Instr.streamNakRx 0 (rxOf 1 4 0)).wf = false ∧ (Instr.streamNakRx 0 (rxOf 1 3 64)).wf = false := by
  decide +kernel

theorem test_wf_stream_acks_rx :
    (Instr.streamAcksRx 0 (rxOf 1 4 0)).wf = true ∧ (Instr.streamAcksRx 0 (rxOf 2 4 0)).wf = false ∧ (Instr.streamAcksRx 0 (rxOf 1 5 0)).wf = false ∧ (Instr.streamAcksRx 0 (rxOf 1 4 64)).wf = false := by
  decide +kernel

theorem test_wf_pull_request_rx :
    (Instr.pullRequestRx 0 (rxOf 2 0 0)).wf = true ∧ (Instr.pullRequestRx 0 (rxOf 3 0 0)).wf = false ∧ (Instr.pullRequestRx 0 (rxOf 2 1 0)).wf = false ∧ (Instr.pullRequestRx 0 (rxOf 2 0 64)).wf = false := by
  decide +kernel

theorem test_wf_pull_cancel_rx :
    (Instr.pullCancelRx 0 (rxOf 2 0 0)).wf = true ∧ (Instr.pullCancelRx 0 (rxOf 3 0 0)).wf = false ∧ (Instr.pullCancelRx 0 (rxOf 2 1 0)).wf = false ∧ (Instr.pullCancelRx 0 (rxOf 2 0 64)).wf = false := by
  decide +kernel

theorem test_wf_link_hello_rx :
    (Instr.linkHelloRx 0 (rxOf 0 0 0)).wf = true ∧ (Instr.linkHelloRx 0 (rxOf 1 0 0)).wf = false ∧ (Instr.linkHelloRx 0 (rxOf 0 1 0)).wf = false ∧ (Instr.linkHelloRx 0 (rxOf 0 0 64)).wf = false := by
  decide +kernel

theorem test_wf_root_hello_rx :
    (Instr.rootHelloRx 0 (rxOf 0 1 0)).wf = true ∧ (Instr.rootHelloRx 0 (rxOf 1 1 0)).wf = false ∧ (Instr.rootHelloRx 0 (rxOf 0 2 0)).wf = false ∧ (Instr.rootHelloRx 0 (rxOf 0 1 64)).wf = false := by
  decide +kernel

theorem test_wf_mgmt_read_req :
    (Instr.mgmtReadReq 0 (rxOf 3 0 0)).wf = true ∧ (Instr.mgmtReadReq 0 (rxOf 4 0 0)).wf = false ∧ (Instr.mgmtReadReq 0 (rxOf 3 1 0)).wf = false ∧ (Instr.mgmtReadReq 0 (rxOf 3 0 64)).wf = false := by
  decide +kernel

theorem test_wf_mgmt_write_req :
    (Instr.mgmtWriteReq 0 (rxOf 3 2 0)).wf = true ∧ (Instr.mgmtWriteReq 0 (rxOf 4 2 0)).wf = false ∧ (Instr.mgmtWriteReq 0 (rxOf 3 3 0)).wf = false ∧ (Instr.mgmtWriteReq 0 (rxOf 3 2 64)).wf = false := by
  decide +kernel

theorem test_wf_mgmt_health_rx :
    (Instr.mgmtHealthRx 0 (rxOf 3 4 0)).wf = true ∧ (Instr.mgmtHealthRx 0 (rxOf 4 4 0)).wf = false ∧ (Instr.mgmtHealthRx 0 (rxOf 3 5 0)).wf = false ∧ (Instr.mgmtHealthRx 0 (rxOf 3 4 64)).wf = false := by
  decide +kernel

theorem test_wf_mgmt_upd_push_rx :
    (Instr.mgmtUpdPushRx 0 (rxOf 3 5 0)).wf = true ∧ (Instr.mgmtUpdPushRx 0 (rxOf 4 5 0)).wf = false ∧ (Instr.mgmtUpdPushRx 0 (rxOf 3 6 0)).wf = false ∧ (Instr.mgmtUpdPushRx 0 (rxOf 3 5 64)).wf = false := by
  decide +kernel

theorem test_wf_zhocy_rx :
    (Instr.zhocyRx 0 (rxOf 4 0 0)).wf = true ∧ (Instr.zhocyRx 0 (rxOf 5 0 0)).wf = false ∧ (Instr.zhocyRx 0 (rxOf 4 1 0)).wf = false ∧ (Instr.zhocyRx 0 (rxOf 4 0 64)).wf = false := by
  decide +kernel

theorem test_wf_upd_offer_rx :
    (Instr.updOfferRx 0 (rxOf 6 0 0)).wf = true ∧ (Instr.updOfferRx 0 (rxOf 7 0 0)).wf = false ∧ (Instr.updOfferRx 0 (rxOf 6 1 0)).wf = false ∧ (Instr.updOfferRx 0 (rxOf 6 0 64)).wf = false := by
  decide +kernel

theorem test_wf_upd_man_req_rx :
    (Instr.updManReqRx 0 (rxOf 6 1 0)).wf = true ∧ (Instr.updManReqRx 0 (rxOf 7 1 0)).wf = false ∧ (Instr.updManReqRx 0 (rxOf 6 2 0)).wf = false ∧ (Instr.updManReqRx 0 (rxOf 6 1 64)).wf = false := by
  decide +kernel

theorem test_wf_upd_man_rx :
    (Instr.updManRx 0 (rxOf 6 2 0)).wf = true ∧ (Instr.updManRx 0 (rxOf 7 2 0)).wf = false ∧ (Instr.updManRx 0 (rxOf 6 3 0)).wf = false ∧ (Instr.updManRx 0 (rxOf 6 2 64)).wf = false := by
  decide +kernel

theorem test_wf_upd_blk_req_rx :
    (Instr.updBlkReqRx 0 (rxOf 6 3 0)).wf = true ∧ (Instr.updBlkReqRx 0 (rxOf 7 3 0)).wf = false ∧ (Instr.updBlkReqRx 0 (rxOf 6 4 0)).wf = false ∧ (Instr.updBlkReqRx 0 (rxOf 6 3 64)).wf = false := by
  decide +kernel

theorem test_wf_upd_blk_rx :
    (Instr.updBlkRx 0 (rxOf 6 4 0)).wf = true ∧ (Instr.updBlkRx 0 (rxOf 7 4 0)).wf = false ∧ (Instr.updBlkRx 0 (rxOf 6 5 0)).wf = false ∧ (Instr.updBlkRx 0 (rxOf 6 4 64)).wf = false := by
  decide +kernel

theorem test_wf_upd_refuse_rx :
    (Instr.updRefuseRx 0 (rxOf 6 5 0)).wf = true ∧ (Instr.updRefuseRx 0 (rxOf 7 5 0)).wf = false ∧ (Instr.updRefuseRx 0 (rxOf 6 6 0)).wf = false ∧ (Instr.updRefuseRx 0 (rxOf 6 5 64)).wf = false := by
  decide +kernel

theorem test_wf_tempo_rx :
    (Instr.tempoRx 0 { port := 1, frame := { flow := 5, multi := true, dtype := 3 } }).wf = true ∧ (Instr.tempoRx 0 { port := 1, frame := { flow := 5, dtype := 3 } }).wf = false ∧ (Instr.tempoRx 0 { port := 1, frame := { flow := 5, multi := true, dtype := 2 } }).wf = false ∧ (Instr.tempoRx 0 (rxOf 4 0 0)).wf = false := by
  decide +kernel

theorem test_wf_transit_frame_rx :
    (Instr.transitFrameRx 0 (rxOf 9 9 63)).wf = true ∧ (Instr.transitFrameRx 0 (rxOf 16 0 0)).wf = false ∧ (Instr.transitFrameRx 0 (rxOf 1 32 0)).wf = false := by
  decide +kernel

theorem test_wf_frame_rx_discard :
    (Instr.frameRxDiscard 0 (rxOf 15 31 63)).wf = true ∧ (Instr.frameRxDiscard 0 (rxOf 1 0 64)).wf = false := by
  decide +kernel

theorem test_wf_firmware_start :
    (Instr.firmwareStart 0 { words := [(4, 1)] }).wf = true ∧ (Instr.firmwareStart 0 { words := [(5, 1)] }).wf = false ∧ (Instr.firmwareStart 0 { words := [(2 ^ 36, 1)] }).wf = false := by
  decide +kernel

theorem test_wf_open_input_test :
    (Instr.openInputTest 0 1 [95]).wf = true ∧ (Instr.openInputTest 0 1 [96]).wf = false := by
  decide +kernel

theorem test_wf_tile_result_transfer :
    (Instr.tileResultTransfer 0 1 { codes := [131071], overload := [95] }).wf = true ∧ (Instr.tileResultTransfer 0 1 { codes := [131072] }).wf = false ∧ (Instr.tileResultTransfer 0 1 { resv := [-131073] }).wf = false ∧ (Instr.tileResultTransfer 0 1 { overload := [96] }).wf = false := by
  decide +kernel

theorem test_wf_cal_burn_end :
    (Instr.calBurnEnd 0 [(4095, 31)]).wf = true ∧ (Instr.calBurnEnd 0 [(4096, 0)]).wf = false ∧ (Instr.calBurnEnd 0 [(0, 32)]).wf = false := by
  decide +kernel

theorem test_wf_ptp_rx :
    (Instr.ptpRx 0 1 { kind := .sync, domain := 255, seq := 65535 }).wf = true ∧ (Instr.ptpRx 0 1 { kind := .sync, domain := 256, seq := 0 }).wf = false ∧ (Instr.ptpRx 0 1 { kind := .sync, domain := 0, seq := 65536 }).wf = false ∧ (Instr.ptpRx 0 1 { kind := .sync, domain := 0, seq := 0, ts := 2 ^ 96 }).wf = false := by
  decide +kernel

theorem test_wf_di_level_accept :
    (Instr.diLevelAccept 5 127 true 5).wf = true ∧ (Instr.diLevelAccept 5 127 true 6).wf = false := by
  decide +kernel

theorem test_wf_safe_input_filter :
    (Instr.safeInputFilter 5 15 1 true 0 5).wf = true ∧ (Instr.safeInputFilter 5 15 1 true 0 6).wf = false := by
  decide +kernel

theorem test_wf_exc_fault :
    (Instr.excFault 5 3 119 8 5).wf = true ∧ (Instr.excFault 5 3 119 8 6).wf = false := by
  decide +kernel

theorem test_wf_sgmii_control_word :
    (Instr.sgmiiControlWord 0 3 true true 3).wf = true ∧ (Instr.sgmiiControlWord 0 3 true true 4).wf = false := by
  decide +kernel

theorem test_wf_arp_rx :
    (Instr.arpRx 0 1 {} { request := true, senderMac := 0, senderIp := 0, targetIp := 0 }).wf = true ∧ (Instr.arpRx 0 1 {} { request := true, senderMac := 2 ^ 48, senderIp := 0, targetIp := 0 }).wf = false ∧ (Instr.arpRx 0 1 {} { request := true, senderMac := 0, senderIp := 2 ^ 32, targetIp := 0 }).wf = false ∧ (Instr.arpRx 0 1 {} { request := true, senderMac := 0, senderIp := 0, targetIp := 2 ^ 32 }).wf = false := by
  decide +kernel

theorem test_wf_host_read :
    (Instr.hostRead 0 0xA0000000 0 0 false).wf = true ∧ (Instr.hostRead 0 0xA8000000 0 0 false).wf = false := by
  decide +kernel

theorem test_wf_host_write :
    (Instr.hostWrite 0 0xA8000000 0 [] 0).wf = true ∧ (Instr.hostWrite 0 0xA0000000 0 [] 0).wf = false := by
  decide +kernel

theorem test_wf_host_nop :
    (Instr.hostNop 0 0xB0000000 0 0).wf = true ∧ (Instr.hostNop 0 0xA8000000 0 0).wf = false := by
  decide +kernel

theorem test_wf_sit_gap_check :
    (Instr.sitGapCheck 0 3 [15]).wf = true ∧ (Instr.sitGapCheck 0 3 [16]).wf = false := by
  decide +kernel

theorem test_wf_safety_tick :
    (Instr.safetyTick 0 {}).wf = true ∧ (Instr.safetyTick 0 { sbv := [0, 0, 0, 0, 0, 0, 0, 0, 0] }).wf = false ∧ (Instr.safetyTick 0 { sbi := [0, 0, 0, 0, 0, 0, 0, 0, 0] }).wf = false := by
  decide +kernel

theorem test_wf_partner_heartbeat_rx :
    (Instr.partnerHeartbeatRx 0 true 5 0 0).wf = true ∧ (Instr.partnerHeartbeatRx 0 true (2 ^ 64) 0 0).wf = false := by
  decide +kernel

theorem test_wf_heartbeat_timeout :
    (Instr.heartbeatTimeout 0 [511]).wf = true ∧ (Instr.heartbeatTimeout 0 [512]).wf = false := by
  decide +kernel

theorem test_wf_fault_beat_rx :
    (Instr.faultBeatRx 0 [511]).wf = true ∧ (Instr.faultBeatRx 0 [512]).wf = false := by
  decide +kernel

theorem test_wf_upd_block_stored :
    (Instr.updBlockStored 0 65535 true).wf = true ∧ (Instr.updBlockStored 0 65536 true).wf = false := by
  decide +kernel

theorem test_wf_mkpdu_rx :
    (Instr.mkpduRx 0 1 { ckn := List.replicate 32 1, icvOk := true, sci := 5, prio := 255, listsUs := true, sak := none }).wf = true ∧ (Instr.mkpduRx 0 1 { ckn := [], icvOk := true, sci := 5, prio := 255, listsUs := true, sak := none }).wf = false ∧ (Instr.mkpduRx 0 1 { ckn := List.replicate 32 1, icvOk := true, sci := 2 ^ 64, prio := 255, listsUs := true, sak := none }).wf = false ∧ (Instr.mkpduRx 0 1 { ckn := List.replicate 32 1, icvOk := true, sci := 5, prio := 256, listsUs := true, sak := none }).wf = false := by
  decide +kernel

/-! Test states -/

/-- The hub after reset, with its firmware running. -/
def up : State := { State.reset with sys := { State.reset.sys with stage := .running } }

/-- Tile 2 strobes at each whole count of tempo base 1, which follows a mains of 50 Hz. -/
def tempoUp : State :=
  ((((((up.putBoth (R.TIM_TMP_CFG.SRC 1) 3).put (R.TIM_TMP_STAT.STATE 1) 1).putBoth (R.TIM_SCH_CFG.KIND 0) 2).putBoth
    (R.TIM_SCH_CFG.TEMPO 0) 1).putBoth (R.TIM_SCH_I0.INTERVAL 0) 65536).setTempo 1
      { mainsAt := some 0, mainsPer := 20 * msU }).setTile 2 { start := some 0 }

/-- A hub whose port `p` is up at link version 3. -/
def linked (p : Nat) (s : State) : State :=
  ((s.put (R.PRT_P_STAT.LINK p) 1).put (R.PRT_P_STAT.UP p) 1).put (R.PRT_P_STAT.LVER p) 3

/-- A hub in its boot stage with image slot 1 as ACTIVE, and one whose firmware starts. -/
def booting : State := { up with sys := { up.sys with stage := .boot }, sec := { up.sec with act := some 1 } }
def starting : State := { up with sys := { up.sys with stage := .firmware } }

/-! The worked examples of the spec, and values that the standards it names give. -/

/-- The check value of R396. -/
theorem test_crc16_check : crc16 [0x31, 0x32, 0x33, 0x34, 0x35, 0x36, 0x37, 0x38, 0x39] = 0x29B1 := by decide +kernel

/-- The check values of CRC-32 (RFC 1952) and CRC-32C. -/
theorem test_crc32_checks :
    crc32 [0x31, 0x32, 0x33, 0x34, 0x35, 0x36, 0x37, 0x38, 0x39] = 0xCBF43926 ∧
    crc32c [0x31, 0x32, 0x33, 0x34, 0x35, 0x36, 0x37, 0x38, 0x39] = 0xE3069283 := by decide +kernel

/-- The SHA-384 of "abc" (FIPS 180-4). -/
theorem test_sha384_abc : sha384 [0x61, 0x62, 0x63] = beBytes 48
    0xCB00753F45A35E8BB5A03D699AC65007272C32AB0EDED1631A8B605A43FF5BED8086072BA1E7CC2358BAECA134C825A7 := by
  decide +kernel

/-- The example after R231: three words of E194 with STRIDE 1. -/
theorem test_shuffle_example : shuffle 3 1 [0x0A3D7100, 0x0A3D7300, 0x0A3D6F00] =
    [0x0A, 0, 0xFF, 0x3D, 0, 0xFF, 0x71, 2, 0xFC, 0, 0, 0] := by decide +kernel

/-- A member made by zlib for sixteen bytes inflates to them (RFC 1951, RFC 1952). -/
theorem test_inflate_zlib :
    (decompress [0x1F, 0x8B, 8, 0, 0, 0, 0, 0, 2, 3, 0x4B, 0x4C, 0x4A, 0x4E, 0x44, 0x42, 0x29, 0, 0x12, 0x9F, 0xD1, 0xD7, 0x10, 0, 0, 0]
      false 100).out =
      [0x61, 0x62, 0x63, 0x61, 0x62, 0x63, 0x61, 0x62, 0x63, 0x61, 0x62, 0x63, 0x61, 0x62, 0x63, 0x64] := by decide +kernel

/-- The two headers of the example of chapter 10. -/
theorem test_frame_headers :
    Frame.header { ver := 3, flow := 1, ch := 0, line := 0x17, src := 107, dtype := 2, type := 0, length := 1344, a := 204817
                   b := 1433600 } = [0x31, 0, 0x17, 0x1A, 0xC0, 2, 5, 0x40, 0, 3, 0x20, 0x11, 0, 0x15, 0xE0, 0] ∧
    Frame.header { ver := 3, flow := 1, line := 0x17, dst := 107, stype := 2, type := 2, a := 204817, b := 0x4C2E0000 } =
      [0x31, 0, 0x17, 0, 6, 0xB8, 0x10, 0, 0, 3, 0x20, 0x11, 0x4C, 0x2E, 0, 0] := by decide +kernel

/-- The example after R113: E194 in DIFF at G = 128 takes a mean of 1,000,309 to 999,980. -/
theorem test_pair_example :
    ((((up.putBoth (R.TILE_CHCFG.MODE 2 2) 2).putBoth (R.TILE_CHCFG.GAIN 2 2) 7).put (R.CAL_UOFS.OFS 194 7) 0x13500).put
      (R.CAL_UGAIN.GAIN 194 7) 0x3FFFAB66).chanVal 2 2 (1000309 * 2 ^ 38) 1 none = (999980, false) := by decide +kernel

/-- The example after R161: 5 ns, 2 ppb and 0.5 ppb/s give 5.13 ns after 62.5 ms and 1,025 ns after 60 s. -/
theorem test_holdover_example :
    (fun s : State => s.hoErr 0 (62500 * usU) = 5 ∧ s.hoErr 0 (60 * secU) = 1025)
      (((up.putBoth (R.TIM_WB_HOCFG.DRIFT 0) 50).put (R.TIM_WB_STAT.STATE 0) 3).setWb 0 { e0 := 5 * nsU, df := 200 }) := by
  decide +kernel

/-- The example after R100: steps (4, 1) and (6, 3) meet, first in frames 9 and 21; (4, 1) and (6, 2) never do. -/
theorem test_steps_meet :
    stepsMeet ⟨0, 0, 1, 0, 4, 1⟩ ⟨1, 0, 1, 0, 6, 3⟩ = true ∧ stepsMeet ⟨0, 0, 1, 0, 4, 1⟩ ⟨1, 0, 1, 0, 6, 2⟩ = false ∧
    ((List.range 24).filter fun f => Step.runs ⟨0, 0, 1, 0, 4, 1⟩ f && Step.runs ⟨1, 0, 1, 0, 6, 3⟩ f) = [9, 21] := by
  decide +kernel

/-- The example after R399: a node controller reads the result of E194. -/
theorem test_host_read_example :
    (match exec (.hostRead 5 0xA0080000 0x10000610 (BitVec.ofNat 32 (crc16 (spiBytes [0xA0080000, 0x10000610]) * 2 ^ 16)) false)
        { up.put (R.PROT_PERM.PERM 0) 0x3FFFF with strm := { latest := [(194, (0x0A3D7100, 0x2B6A1ED8))] } } with
      | .next t => (t.host.miso.drop 3).take 3
      | _ => []) = [0x5AC30000, 0x0A3D7100, 0xAB6A1ED8] := by decide +kernel

/-- A byte stored in the DRAM window is read back, and the next one is left as it was. -/
theorem test_dram_write :
    (match exec (.registerWrite 0 (.core0 0) 0x40000010 1 0xAB {}) up with
      | .next t => [t.dramByte 15, t.dramByte 16, t.dramByte 17]
      | _ => []) = [0, 0xAB, 0] := by decide +kernel

/-- A manifest of one block of one byte, made for these tests: KIND 0, version 3, build 9, SETFMT 1, a confirm window of 60 s,
bound to no unit, signed by the vendor key of private number 7. -/
def manBytes : List Byte := beBytes 496
  0x46574D4E010000000000000000000003000000090001003C00000001000100000000000000000000000000000000000000000000000000000000000000000000000000000000000000000000000000000000000000000000000000000000000000000000000000000000000000000000000000000000000000000000000000000000000000000000000000000000000000000000000000000000000000000000283C1D7365CE4788F29F8EBF234EDFFEAD6FE997FBEA5FFA2D58CC9DFA7B1C508B05526F55B9EBB2040F05B48FB6D0E19475C99061E41B88BA52EFDB8C1690471A61D867ED799729D9C92CD01DBD225630D84EDE32A78F9E64664CDAC512EF8C000000000000000000000000000000000000000000000000000000000000000000000000000000000000000000000000000000000000000000000000000000000000000000000000000000000000000000000000000000000000000000000000EF5C3812079C4AC51A1C0510D66F3652A694B591431569A6CF33103A38EB2C12C8A366B99EB341A9EFEB3CE29A5439683791166ADC6E657CDEFEA24D13087BEB0F3DEB0AF54B14886D49F44E7F7A0209DC63DFE4F275065A784A9080F223E141EFFC0595E143BAE39F40FD6A6FFFEE9DCD173968F608A2E20FEE5C58507BF5A6414E6F2284D07EC6BEDB2E51AC147CD7

/-- That manifest as read. -/
def manOf (b : List Byte) : Manifest :=
  { bytes := b, kind := 0, hw := 0, version := 3, build := 9, svn := 0, setFmt := 1, confWin := 60, length := 1, blocks := 1
    units := [], owner := false, vkey := slice b 160 96, okey := List.replicate 96 0 }
def man : Manifest := manOf manBytes

/-- The SHA-384 of the vendor key. -/
def vendorHash : List Byte := beBytes 48
  0xD7759D5965E5BC63E87C3CE582BB36D7158DF6F777E3C85FA24E0A3257E5DFBA87102D8C8D17E34EE3D254BEC43DB915

/-- The bytes `l` at the addresses from `a` on. -/
def placed (a : Nat) : List Byte → Tbl Byte
  | [] => []
  | b :: l => (a, b) :: placed (a + 1) l

/-- A hub with that vendor key burned, and the image at `base` in flash. -/
def imaged (base : Nat) (s : State) : State :=
  { s with
    fuse := (List.range 12).map fun i => (0xC10 + i, BitVec.ofNat 32 (beNat (slice vendorHash (4 * i) 4)))
    flash := placed base manBytes ++ placed (base + 65536) [0x55] }

theorem man_len : manBytes.length = 496 ∧ manifestLen manBytes = 496 ∧ manifestLen (manBytes.take 32) = 496
    ∧ slice manBytes 256 96 = List.replicate 96 0 ∧ slice manBytes 32 128 = List.replicate 128 0 := by
  refine ⟨?_, ?_, ?_, ?_, ?_⟩ <;> decide +kernel

theorem zeros : beNat (List.replicate 96 0) = 0 ∧ beNat (List.replicate 128 0) = 0 := by decide +kernel

theorem man_fields :
    beNat (slice manBytes 0 4) = 0x46574D4E ∧ beNat (slice manBytes 4 1) = 1 ∧ beNat (slice manBytes 5 1) = 0 ∧
    beNat (slice manBytes 6 2) = 0 ∧ beNat (slice manBytes 8 4) = 0 ∧ beNat (slice manBytes 12 4) = 3 ∧
    beNat (slice manBytes 16 4) = 9 ∧ beNat (slice manBytes 20 1) = 0 ∧ beNat (slice manBytes 21 1) = 1 ∧
    beNat (slice manBytes 22 2) = 60 ∧ beNat (slice manBytes 24 4) = 1 ∧ beNat (slice manBytes 28 2) = 1 ∧
    beNat (slice manBytes 30 1) = 0 ∧ beNat (slice manBytes 31 1) = 0 := by
  refine ⟨?_, ?_, ?_, ?_, ?_, ?_, ?_, ?_, ?_, ?_, ?_, ?_, ?_, ?_⟩ <;> decide +kernel

theorem slot_least : 18874368 ≤ slotBytes := by
  unfold slotBytes
  generalize hx : (if Config.flashMiB < 128 then 18 else 24) = x
  have h : 18 ≤ x := by rw [← hx]; split <;> omega
  omega

theorem parse_of (b : List Byte) (h0 : b.length = 496) (h1 : manifestLen b = 496)
    (h2 : slice b 256 96 = List.replicate 96 0) (h3 : slice b 32 128 = List.replicate 128 0)
    (h : beNat (slice b 0 4) = 0x46574D4E ∧ beNat (slice b 4 1) = 1 ∧ beNat (slice b 5 1) = 0 ∧
    beNat (slice b 6 2) = 0 ∧ beNat (slice b 8 4) = 0 ∧ beNat (slice b 12 4) = 3 ∧
    beNat (slice b 16 4) = 9 ∧ beNat (slice b 20 1) = 0 ∧ beNat (slice b 21 1) = 1 ∧
    beNat (slice b 22 2) = 60 ∧ beNat (slice b 24 4) = 1 ∧ beNat (slice b 28 2) = 1 ∧
    beNat (slice b 30 1) = 0 ∧ beNat (slice b 31 1) = 0) :
    parseManifest b = some (manOf b) := by
  obtain ⟨a0, a1, a2, a3, a4, a5, a6, a7, a8, a9, a10, a11, a12, a13⟩ := h
  have hs : 1 ≤ slotBytes / 65536 - 1 := by have := slot_least; omega
  simp only [parseManifest, a0, a1, a2, a3, a4, a5, a6, a7, a8, a9, a10, a11, a12, a13, h0, h1, h2, h3, zeros]
  rw [if_neg (by simp), if_neg (by simp; omega), List.take_of_length_le (by rw [h0])]
  simp [manOf]

theorem man_parse : parseManifest manBytes = some man :=
  parse_of manBytes man_len.1 man_len.2.1 man_len.2.2.2.1 man_len.2.2.2.2 man_fields

theorem man_key : keyHash man.vkey = vendorHash := by decide +kernel
theorem man_signed : ecdsaVerify man.vkey man.signed man.vsig = true := by decide +kernel
theorem man_block : sha384 [0x55] = man.hash 0 := by decide +kernel
theorem vendor_words : ((List.range 12).flatMap fun i => beBytes 4 ((BitVec.ofNat 32 (beNat (slice vendorHash (4 * i) 4))).toNat))
    = vendorHash := by decide +kernel

theorem get_placed (d : Byte) (a : Nat) (l : List Byte) (m : Tbl Byte) (k : Nat) :
    Tbl.get d (placed a l ++ m) k = if a ≤ k ∧ k < a + l.length then l.getD (k - a) d else Tbl.get d m k := by
  induction l generalizing a with
  | nil => simp [placed]
  | cons b l ih =>
    rw [placed, List.cons_append, Tbl.get, ih, List.length_cons]
    by_cases h : a = k
    · subst h; simp
    · rw [if_neg h]
      by_cases hk : a + 1 ≤ k ∧ k < a + 1 + l.length
      · rw [if_pos hk, if_pos (by omega), show k - a = (k - (a + 1)) + 1 by omega, List.getD_cons_succ]
      · rw [if_neg hk, if_neg (by omega)]

theorem read_placed (s : State) (a n : Nat) (l : List Byte) (m : Tbl Byte) (h : s.flash = placed a l ++ m) (hn : n ≤ l.length) :
    s.flashRead a n = l.take n := by
  apply List.ext_getElem
  · simp [State.flashRead, hn]
  · intro i hi _
    have hi' : i < n := by simpa [State.flashRead] using hi
    simp only [State.flashRead, List.getElem_map, List.getElem_range, h, get_placed, List.getElem_take]
    rw [if_pos (by omega), show a + i - a = i by omega, List.getD_eq_getElem _ _ (by omega)]

theorem imaged_manifest (base : Nat) (s : State) : (imaged base s).manifestAt base = some man := by
  have h : (imaged base s).flash = placed base manBytes ++ placed (base + 65536) [0x55] := rfl
  obtain ⟨h0, _, h1, _⟩ := man_len
  rw [State.manifestAt, read_placed _ _ 32 _ _ h (by rw [h0]; decide), h1, read_placed _ _ _ _ _ h (by rw [h0]; decide),
    List.take_of_length_le (by rw [h0]; decide), man_parse]

theorem imaged_acceptable (base : Nat) (s : State) : (imaged base s).acceptable 0 man = true := by
  have hv : (imaged base s).fuseBytes 0xC10 12 = vendorHash := by
    rw [← vendor_words]
    simp only [State.fuseBytes, State.fuseWord, imaged]
    decide +kernel
  have h1 : (imaged base s).ownerFw = false := by
    simp only [State.ownerFw, State.fuseWord, imaged]; decide +kernel
  have h2 : (imaged base s).fusedHw = 0 := by
    simp only [State.fusedHw, State.fuseWord, imaged]; decide +kernel
  have h3 : (imaged base s).arb = 0 := by
    simp only [State.arb, State.fuseWord, imaged]; decide +kernel
  have h4 : man.kind = 0 ∧ man.hw = 0 ∧ man.units = [] := ⟨rfl, rfl, rfl⟩
  simp [State.acceptable, man_key, man_signed, hv, h1, h2, h3, State.boundHere, h4]

theorem imaged_good (base : Nat) (s : State) : (imaged base s).fullGood 0 base = some man := by
  have hb : (imaged base s).blocksGood base man = true := by
    have : (imaged base s).flashBlock base man 0 = [0x55] := by
      have h1 : (imaged base s).flashRead (base + 65536) 1 = [0x55] := by
        simp only [State.flashRead, List.range_one, List.map_cons, List.map_nil, imaged, get_placed, man_len.1]
        rw [if_neg (by omega)]
        simp [placed, Tbl.get]
      exact h1
    show (List.range 1).all _ = true
    rw [List.range_one, List.all_cons, List.all_nil, this, man_block]
    simp
  rw [State.fullGood, imaged_manifest]
  simp only [imaged_acceptable, hb, Bool.and_self, if_true]

/-- A SAFETY section made for these tests: TSW of 1 s and nothing enabled, signed by the key of private number 7. -/
def secBytes : List Byte := beBytes 232
  0x5341464501000001000000000000000000000000000000000000000000000000283c1d7365ce4788f29f8ebf234edffead6fe997fbea5ffa2d58cc9dfa7b1c508b05526f55b9ebb2040f05b48fb6d0e19475c99061e41b88ba52efdb8c1690471a61d867ed799729d9c92cd01dbd225630d84ede32a78f9e64664cdac512ef8c2000000000000001c1654898bf8c97a24adf66c26f5693c2fa5ee15cab3c6ecb4bdf43fa5e757b79a91fb38cfa6a2747ea07163dc3fb707e0d0d0e76733a66f881f5caac0f1b5463278cd4f4fa1203153ed351fe16c01e6294c327e6ae969aa5b2fa0858c3c892e0

/-- That key as the first owner key. -/
def owned (s : State) : State :=
  { s with fuse := ((List.range 12).map fun i => (0xC20 + i, BitVec.ofNat 32 (beNat (slice vendorHash (4 * i) 4)))) ++ [(0xC50, 1)] }

/-- A sealed-open hub whose mailbox holds a request of operation `op` with parameters `a` and `b`. -/
def asked (op a b : Nat) (s : State) : State :=
  ((((s.put R.SYS_STRAP.SEAL_OPEN 1).put (R.SYS_SPMB_REQ.REQ 0) (op + 8 * 65536)).put (R.SYS_SPMB_REQ.REQ 17) a).put
    (R.SYS_SPMB_REQ.REQ 18) b)

/-- The OWNER password is eight zero bytes with an empty salt. -/
def passworded (s : State) : State := s.setSafe { s.safe with pw := some (sha384 (List.replicate 8 0)) }

/-- The safety parameters `l` are in force, each by number, index and value, in COMMISSIONING mode. -/
def config (l : List (Nat × Nat × Nat)) (s : State) : State :=
  (s.put R.SAFV_STATE.MODE 1).setSafe { s.safe with cfg := l.map fun x => (x.1 * 256 + x.2.1, x.2.2), mode := 1 }

/-- A host frame of operation `op` on `n` words from `addr`, by its header and the CRC word for its data. -/
def hostHeader (op n : Nat) : Word := BitVec.ofNat 32 (5 * 2 ^ 29 + op * 2 ^ 27 + n * 2 ^ 18)
def hostCrc (op n : Nat) (addr : Word) (data : List Word) : Word :=
  BitVec.ofNat 32 (crc16 (spiBytes (hostHeader op n :: addr :: data)) * 2 ^ 16)

/-- A management request of a type for one word at `a` by the ENGINEER, under a key of 32 zero bytes. -/
def mgmtFrame (type a : Nat) (data : List Byte) : Frame :=
  let body := [1, 0, 0, 0] ++ beBytes 4 0 ++ beBytes 4 1 ++ beBytes 8 0 ++ beBytes 8 a ++ beBytes 2 1 ++ [0, 0] ++ data
  let f : Frame := { flow := 3, type := type, stype := 2, a := 0x70000, length := body.length + 16, payload := body }
  { f with payload := body ++ mgmtMac (List.replicate 32 0) f body }
def keyed (s : State) : State := { s with host := { s.host with keys := [(1, some (List.replicate 32 0))] } }

/-- A window that lets the ENGINEER reach all of memory. -/
def opened (s : State) : State :=
  ((s.put (R.PROT_LIMIT.LIMIT 0) 0xFFFFFF).put (R.PROT_LIMIT.EN 0) 1).put (R.PROT_PERM.PERM 0) 0xFFFFFF

/-- That key, its signatures under the zero unit ID and nonce as the key operations ask for them, and a hub with the seal open and
`l` in the request from word `w`. -/
def key7 : List Byte := man.vkey
def sigEnrol : List Byte := beBytes 96
  0x73b4a3857af9a8a3ac1c3e252f649f88445344e65ca3a8b8055de04512f2bd92ff73b7adb369125ae93775f222aad280cc5a95eb92a38470dc40d1dbb3529879ad85fc31aff112a9356454fdde67ad310becea6d65367cd655b1e8f60f00ce7e
def sigRevoke : List Byte := beBytes 96
  0x580456576075b96cc457da3c1be3b0732f06886c1c46617e53f6f3270fd6536280e099e6bb82d253b01b520fa6c6d4d879b12044564e4917df071a45b8baa402c4428bdea5fb8c436d0dbbe1ab2b4b70f126dd44a11edac9b14f04002e3017d4
def sigOwnerFw : List Byte := beBytes 96
  0x550de028f7b70ec15774e2f640198b50e317bb4d2a9c233df22ca0bad1b1b3962b46a1be3d29beb677a84466c2dcb2fe5b32ed043bf1fde85b2aa8b7bbc15938bee75d7a8527912e362461b1c10bba13344587d8f92d41f46cf5dc1fcdf1cca9
def requested (w : Nat) (l : List Byte) (s : State) : State :=
  (s.put R.SYS_STRAP.SEAL_OPEN 1).putBytes (fun i => R.SEC_REQ.REQ (w + i)) l

/-- A hub with session `x`, with the manifest fetch `m`, and a frame of the update flow to it. -/
def withSess (x : SessSt) (s : State) : State := { s with sec := { s.sec with sess := some x } }
def withFetch (m : ManFetch) (s : State) : State := { s with sec := { s.sec with mfetch := some m } }
def updFrame (type a b : Nat) (l : List Byte) : Rx :=
  { port := 1, frame := { flow := 6, type := type, src := 5, a := a, b := b, length := l.length, payload := l } }

theorem sess_man (x : SessSt) (s : State) (hx : x.man = manBytes) : (withSess x s).sessMan = some man := by
  show parseManifest x.man = some man
  rw [hx, man_parse]

theorem man_body (r : Rx) (h : r.frame.body = manBytes) : parseManifest r.frame.body = some man := by rw [h, man_parse]

/-- A hub whose unconfirmed ACTIVE is slot 1 and whose FALLBACK, slot 0, holds the test image's manifest, copied. -/
def fallen : State :=
  { up with flash := placed 0x800000 manBytes ++ placed 0x80F004 [0, 0, 0, 0], sec := { act := some 1, fall := some 0 } }

theorem fl_image_0 : flImage 0 = 0x800000 := by rw [flImage, Nat.zero_mul]

theorem fallen_fallback : fallen.fallback = some man := by
  have h0 : fallen.stateWord 0x800000 swCopied = 0 := by decide +kernel
  have h1 : fallen.stateWord 0x800000 swRejected ≠ 0 := by decide +kernel
  have h2 : fallen.arb = 0 := by decide +kernel
  obtain ⟨l0, _, l1, _⟩ := man_len
  have h3 : fallen.manifestAt 0x800000 = some man := by
    have h : fallen.flash = placed 0x800000 manBytes ++ placed 0x80F004 [0, 0, 0, 0] := by unfold fallen; rfl
    rw [State.manifestAt, read_placed _ _ 32 _ _ h (by rw [l0]; decide), l1, read_placed _ _ _ _ _ h (by rw [l0]; decide),
      List.take_of_length_le (by rw [l0]; decide), man_parse]
  have h4 : fallen.fallback = fallen.candidateSlot 0 := by
    rw [State.fallback, show fallen.sec.fall = some 0 by unfold fallen; rfl, Option.bind_some]
  have h5 : ¬(fallen.stateWord 0x800000 swCopied ≠ 0 ∨ fallen.stateWord 0x800000 swRejected = 0) :=
    fun h => h.elim (fun h => h h0) h1
  rw [h4, State.candidateSlot, fl_image_0, h3, if_neg h5, h2]
  exact if_pos (Nat.zero_le _)

theorem fallen_unconfirmed : fallen.confirmedSlot 1 = false := by
  have h : ∀ i, Tbl.get 0xFF fallen.flash (flImage 1 + 0xF000 + swConfirmed + i) = 0xFF := by
    intro i
    have hs := slot_least
    have hf : fallen.flash = placed 0x800000 manBytes ++ (placed 0x80F004 [0, 0, 0, 0] ++ []) := by unfold fallen; rfl
    have ha : ∀ n, n ≤ 0x80F008 → ¬flImage 1 + 0xF000 + swConfirmed + i < n := by
      intro n hn
      rw [flImage, Nat.one_mul]
      have : swConfirmed = 8 := rfl
      omega
    rw [hf, get_placed, if_neg (fun h => ha _ (by rw [man_len.1]; decide) h.2), get_placed,
      if_neg (fun h => ha _ (by decide) h.2), Tbl.get]
  rw [State.confirmedSlot, State.stateWord, State.flashRead]
  simp only [h]
  decide

/-- A hub in recovery with its seal open. -/
def recovering (s : State) : State := { s.put R.SYS_STRAP.SEAL_OPEN 1 with sys := { s.sys with stage := .recovery } }

/-- A choreography image made for these tests: its units unbound, a schedule and a frame for each tile, the bases' limits, Q64
and the chain ports. -/
def imgBytes : List Byte := beBytes 272
  0x43484f520200000800000110538401000000000500000000000000004843377400000000000000000000000000000000000000000000000000000000000000000001000000000018000000000000000000000000000000000000000000000000001000000000000c01000a0000010101000000a0001001000000000c01040a0000010101000000a0001002000000000c01080a0000010101000000a0001003000000000c010c0a0000010101000000a000140000000000240400001c0002011000010100040000240002011000000001040008000001010100000001001500000000000c0500080000010101000100010016000000000018070000000001010100000001070010000001010100000001
def imgOf (s : State) : Option Img :=
  match s.checkImage imgBytes with
  | .ok i => some i
  | .error _ => none
def img : Img := (imgOf up).getD ⟨[], 0, [], [], [], none, []⟩

theorem img_check (s : State) (b : List Byte) (i : Img) (hb : b = imgBytes) (h : imgOf s = some i) : s.checkImage b = .ok i := by
  subst hb
  unfold imgOf at h
  split at h
  · next e => rw [e, Option.some.inj h]
  · cases h

theorem no_rej (s : State) (i : Img) (h : s.candidateRej i = none) : (s.candidate i).firstRej groupCommit = none := by
  unfold State.candidateRej at h
  revert h
  generalize (i.words.find? _) = x
  cases x with
  | some e => intro h; simp at h
  | none => intro h; simpa using h

/-- A hub with the image at the start of DRAM, and one with it pending. -/
def loadable : State := { (up.put R.SYS_CHOR_LEN.LEN 272) with dram := placed 0 imgBytes }
def pendingImage (cls : Nat) (s : State) : State :=
  { ((s.put R.SYS_CHOR_ST.STATE 2).put R.SYS_CHOR_ST.CLASS cls) with chor := { pend := some imgBytes } }
def applyingImage (cls : Nat) (b : Int) (s : State) : State :=
  { ((s.put R.SYS_CHOR_ST.STATE 3).put R.SYS_CHOR_ST.CLASS cls) with chor := { pend := some imgBytes, b := some b } }

theorem loadable_check :
    loadable.checkImage (loadable.dramRead (4 * loadable.get R.SYS_CHOR_SRC.SRC) (loadable.get R.SYS_CHOR_LEN.LEN)) = .ok img :=
  img_check _ _ _ (by decide +kernel) (by decide +kernel)
theorem loadable_passes : ((loadable.tick 5).atWrite .host 0x7FFFF 0x14C9D).candidateRej img = none := by decide +kernel
theorem pending_check : (pendingImage 2 up).checkImage imgBytes = .ok img := img_check _ _ _ rfl (by decide +kernel)
theorem applying_check : (applyingImage 2 0 up).checkImage imgBytes = .ok img := img_check _ _ _ rfl (by decide +kernel)
theorem applying_rej : ((applyingImage 2 0 up).tick 0).candidateRej img = none := by decide +kernel
theorem applying_passes : (((applyingImage 2 0 up).tick 0).candidate img).firstRej groupCommit = none := no_rej _ _ applying_rej

/-! Witnesses -/

/-- Operands and states that meet the hypotheses of RegisterAccessCompletes, clause by clause. -/
theorem witness_register_access_completes :
    ((fun (now : Nat) (req : Requester) (o size data : Nat) (ph : Phys) (s : State) => (s.Running) ∧ (o + size ≤ dramBytes) ∧ (s.permits req (0x40000000 + o) size true = true)) 5 (.core0 0) (2 ^ 33 - 2) 2 0x1234 {} (up.put (R.PROT_LIMIT.LIMIT 0) 0xFFFFFF)) ∧
    ((fun (now : Nat) (req : Requester) (data : Nat) (ph : Phys) (s : State) => (s.Running) ∧ (data / 16 % 8 ≤ 4) ∧ (s.permits req R.LOG_CFG.addr 4 true = true)) 5 (.core1 0) 0xFFFFFF45 {} up) ∧
    ((fun (now : Nat) (req : Requester) (a : Nat) (h : RegHit) (s : State) => (s.Running) ∧ (a % 4 = 0) ∧ (regAt? a = some h) ∧ (isRecovery h = false) ∧ (latching.contains h.info.id = false) ∧ (s.permits req a 4 false = true)) 0 (.core0 0) 0x108 ⟨⟨9, .sys, 0x108, [], [⟨0, 16, .roc, 0, []⟩, ⟨16, 16, .roc, 0, []⟩]⟩, []⟩ { up with regs := [(0x108, 0x12345), (0x100004, 0x80FFFFFF), (0x100008, 3)] }) ∧
    ((fun (now : Nat) (req : Requester) (n : Fin 32) (data : Word) (s : State) => (s.Running) ∧ (req.isPl0 = true)) 7 (.core0 0) 31 0xFF123456 up) ∧
    ((fun (now : Nat) (pl role : Fin 4) (data : Word) (s : State) => (s.Running) ∧ (s.permits (.core0 pl) (R.SYS_MGMTKEY role 7).addr 4 true = true)) 7 0 3 0xFF123456 up) ∧
    ((fun (now : Nat) (req : Requester) (data : Word) (s : State) => (s.Running) ∧ (s.Accepts req R.TIM_WB1_SETH.addr)) 7 (.core0 0) 0xFFFF0001 { up with time := { up.time with setLo := 77 } }) := by
  decide +kernel

/-- Operands and states that meet the hypotheses of LatchedReadsComplete, clause by clause. -/
theorem witness_latched_reads_complete :
    ((fun (now : Nat) (req : Requester) (e : Fin 512) (s : State) => (s.Running) ∧ (s.permits req (R.RES_LO e).addr 4 false = true)) 0 (.core0 0) 511 up) ∧
    ((fun (now : Nat) (req : Requester) (e : Fin 512) (v : Nat) (s : State) => (s.Running) ∧ (s.permits req (R.RES_HI e).addr 4 false = true) ∧ (s.latched req 0 = [e.val, v])) 0 (.core0 0) 511 9 (up.setLatched (.core0 0) 0 [511, 9])) ∧
    ((fun (now : Nat) (req : Requester) (k : Fin 2) (s : State) => (s.Running) ∧ (s.permits req (R.TIM_WB_NS k).addr 4 false = true)) (3 * secU + 70000) (.core0 0) 1 up) ∧
    ((fun (now : Nat) (req : Requester) (n : Fin 6) (s : State) => (s.Running) ∧ (s.permits req (R.TIM_NB_NS n).addr 4 false = true)) (30 * secU + 70000) (.core0 0) 5 up) ∧
    ((fun (now : Nat) (req : Requester) (n : Fin 4) (s : State) => (s.Running) ∧ (s.permits req (R.TIM_TMP_POSL n).addr 4 false = true)) (30 * secU + 70000) (.core0 0) 3 up) ∧
    ((fun (now : Nat) (req : Requester) (st : Fin 64) (s : State) => (s.Running) ∧ (s.permits req (R.QUE_S_LEDGER st 0).addr 4 false = true)) 5 (.core0 0) 63 up) ∧
    ((fun (now : Nat) (req : Requester) (s : State) => (s.Running) ∧ (s.permits req R.CMP_INBYTESL.addr 4 false = true)) 5 (.core0 0) { up with cmp := { up.cmp with inBytes := 0x300000007 } }) ∧
    ((fun (now : Nat) (req : Requester) (slot : Fin 8192) (s : State) => (s.Running) ∧ (s.permits req (R.LOG_ENTRY slot 0).addr 4 false = true)) 5 (.core0 0) 8191 up) := by
  decide +kernel

/-- Operands and states that meet the hypotheses of CommitCommandsComplete, clause by clause. -/
theorem witness_commit_commands_complete :
    ((fun (now : Nat) (req : Requester) (data : Word) (s : State) => (s.Running) ∧ (s.Accepts req R.TIM_COMMIT.addr) ∧ (hasBit data.toNat 0 = true) ∧ (s.applying = false) ∧ (s.isPaired = false)) 5 (.core0 0) 1 up) ∧
    ((fun (now : Nat) (req : Requester) (data : Word) (s : State) => (s.Running) ∧ (s.Accepts req R.TIM_COMMIT.addr) ∧ (data.toNat % 4 = 3) ∧ (s.applying = false) ∧ (s.isPaired = false)) 5 (.core0 0) 3 up) ∧
    ((fun (now : Nat) (req : Requester) (data : Word) (s : State) => (s.Running) ∧ (s.Accepts req R.IOT_COMMIT.addr) ∧ (hasBit data.toNat 0 = true) ∧ (s.applying = false) ∧ (s.isPaired = false)) 5 (.core0 0) 1 up) ∧
    ((fun (now : Nat) (req : Requester) (data : Word) (s : State) => (s.Running) ∧ (s.Accepts req R.QUE_COMMIT.addr) ∧ (hasBit data.toNat 0 = true) ∧ (s.applying = false) ∧ (s.isPaired = false)) 5 (.core0 0) 1 up) ∧
    ((fun (now : Nat) (req : Requester) (data : Word) (s : State) => (s.Running) ∧ (s.Accepts req R.PRT_COMMIT.addr) ∧ (hasBit data.toNat 0 = true) ∧ (s.applying = false) ∧ (s.isPaired = false)) 5 (.core0 0) 1 up) ∧
    ((fun (now : Nat) (req : Requester) (data : Word) (s : State) => (s.Running) ∧ (s.Accepts req R.PAR_COMMIT.addr) ∧ (hasBit data.toNat 0 = true) ∧ (s.applying = false) ∧ (s.isPaired = false)) 5 (.core0 0) 1 up) ∧
    ((fun (now : Nat) (req : Requester) (data : Word) (s : State) => (s.Running) ∧ (s.Accepts req R.FLT_COMMIT.addr) ∧ (hasBit data.toNat 0 = true) ∧ (s.applying = false) ∧ (s.isPaired = false)) 5 (.core0 0) 1 up) ∧
    ((fun (now : Nat) (req : Requester) (data : Word) (s : State) => (s.Running) ∧ (s.Accepts req R.SYS_TCOMMIT.addr) ∧ (s.applying = false) ∧ (s.isPaired = false)) 5 (.core0 0) 0x35 up) ∧
    ((fun (now : Nat) (req : Requester) (data : Word) (s : State) => (s.Running) ∧ (s.Accepts req R.SYS_TCOMMIT.addr) ∧ (s.applying = false) ∧ (s.isPaired = false)) 5 (.core0 0) 0x35 up) := by
  decide +kernel

/-- Operands and states that meet the hypotheses of CycleAndMonitorEventsComplete, clause by clause. -/
theorem witness_cycle_and_monitor_events_complete :
    ((fun (now : Nat) (s : State) => (s.Running) ∧ (s.cycleU ≠ 0) ∧ (s.time.cycleNo = 0 ∨ (s.wbAt 0 (max s.now now) / (s.cycleU : Int)).toNat ≠ s.time.cycleIdx) ∧ (s.commits.blocks.noBlock = true)) (5 * msU) (up.setLive R.TIM_CYCLE (fset 0 0 32 1000000))) ∧
    ((fun (now : Nat) (u : Fin 32) (v : Int) (s : State) => (s.Running) ∧ (s.get (R.MON_CFG.QTY u) = 6 ∨ s.get (R.MON_CFG.QTY u) = 7) ∧ (s.get (R.MON_INT.INTERVAL u) ≠ 0)) 5 31 (-7) ((up.put (R.MON_CFG.QTY 31) 6).put (R.MON_INT.INTERVAL 31) 1)) ∧
    ((fun (now : Nat) (u : Fin 32) (s : State) => (s.Running) ∧ (s.get (R.MON_INT.INTERVAL u) ≠ 0) ∧ (s.get (R.MON_INT.INTERVAL u) ≤ (s.monSt u).ran)) 5 31 ((up.put (R.MON_CFG.QTY 31) 6).put (R.MON_INT.INTERVAL 31) 1 |>.setMon 31 { count := 3, ran := 1 })) := by
  decide +kernel

/-- Operands and states that meet the hypotheses of BaseEventsComplete, clause by clause. -/
theorem witness_base_events_complete :
    ((fun (now : Nat) (k : Fin 2) (s : State) => (s.Running) ∧ (s.inUse (R.TIM_WB_HOCFG.HOLIM k) ≠ 0) ∧ ((s.wbSt k).holdLogged = false) ∧ (s.inUse (R.TIM_WB_HOCFG.HOLIM k) < s.hoErr k (max s.now now))) (50000*secU) 0 (((up.setLive (R.TIM_WB_HOCFG 0) (fset 0 (R.TIM_WB_HOCFG.HOLIM 0).lo 8 1)).setWb 0 { up.wbSt 0 with e0 := 100000000000000 }).put (R.TIM_WB_STAT.STATE 0) 3)) ∧
    ((fun (now : Nat) (s : State) => (s.Running) ∧ (s.time.strobed = true) ∧ (s.inUse (R.TIM_WB_STEPLIM.STEPLIM 0) * usU < (s.wbSt 0).left.natAbs) ∧ ((∀ x ∈ (s.wbSt 0).largeAt, x + 60 * secU ≤ max s.now now))) (60*secU) ({ up with time := { up.time with strobed := true } }.setWb 0 { up.wbSt 0 with left := -2000000000000, largeAt := some 0 })) ∧
    ((fun (now : Nat) (n : Fin 6) (s : State) => (s.Running)) (60*secU) 5 up) ∧
    ((fun (now : Nat) (s : State) => (s.Running) ∧ (s.wbState (s.get R.TIM_PPS.PPS_SRC) ≠ 0) ∧ (s.get R.TIM_PPS.WIDTH ≠ 0) ∧ (s.time.ppsSec ≠ some (secOf (s.wbAt (s.get R.TIM_PPS.PPS_SRC) (max s.now now))))) (60*secU) ((up.put R.TIM_PPS.WIDTH 5).put (R.TIM_WB_STAT.STATE 0) 2)) ∧
    ((fun (now : Nat) (s : State) => (s.Running) ∧ (s.inUse (R.TIM_WB_CFG.SRC 1) ≠ 1)) (60*secU+9999999) up) ∧
    ((fun (now : Nat) (x : Nat) (s : State) => (s.Running) ∧ (s.time.ppsIn = some x) ∧ (s.inUse (R.TIM_WB_CFG.SRC 1) = 1) ∧ (x + 3 * secU ≤ max s.now now) ∧ (s.wbState 1 ≠ 0)) (3*secU) 0 (({ up with time := { up.time with ppsIn := some 0 } }.setLive (R.TIM_WB_CFG 1) (fset 0 (R.TIM_WB_CFG.SRC 1).lo 2 1)).put (R.TIM_WB_STAT.STATE 1) 2)) := by
  decide +kernel

/-- Operands and states that meet the hypotheses of FrameEventsComplete, clause by clause. -/
theorem witness_frame_events_complete :
    ((fun (now : Nat) (tile : Fin 4) (a : Int) (f : Nat) (s : State) => (s.Running) ∧ ((s.tile tile).cur = none) ∧ (s.nextStrobe tile = some (a, f)) ∧ (a ≤ s.wbAt 0 (max s.now now))) (100 * usU) 3 (50 * usU) 7 ((up.setTile 3 { start := some 0, reqs := [⟨50 * usU, 50 * usU⟩], last := some 0, f := 6 }).putBoth (R.TIM_SCH_CFG.KIND 0) 2)) ∧
    ((fun (now : Nat) (tile : Fin 4) (st a g : Int) (s : State) => (s.Running) ∧ ((s.tile tile).start = some st) ∧ ((s.tick now).nextRequest tile = some (g, a)) ∧ (s.inUse (R.TIM_SCH_CFG.KIND (schedOf s.inUse tile)) = 2) ∧ (a ≤ s.wbAt 0 (max s.now now) + ((4 * usU : Nat) : Int)) ∧ (st < a) ∧ ((s.tile tile).reqs = []) ∧ ((∀ p ∈ (s.tile tile).last, p + ((frameLen s.inUse tile * slotU : Nat) : Int) ≤ a))) (100 * msU) 2 0 (100 * msU : Nat) 5 tempoUp) ∧
    ((fun (now : Nat) (tile : Fin 4) (failed : List Nat) (s : State) => (s.Running) ∧ ((s.tile tile).opnTest = true)) 5 1 [7] (up.setTile 1 { opnTest := true } |>.putBoth (R.TILE_CHCFG.OPN_EN 1 7) 1 |>.putBoth (R.TILE_CHCFG.MODE 1 7) 1)) ∧
    ((fun (now : Nat) (tile : Fin 4) (res : TileRes) (fr : FrameRec) (s : State) => (s.Running) ∧ ((s.tile tile).cur = some fr) ∧ ((s.tile tile).res = none) ∧ (s.beaconGroup tile = [tile.val])) 5 1 {} ⟨0, 0, 0, 0, true, false⟩ (up.setTile 1 { cur := some ⟨0, 0, 0, 0, true, false⟩ })) ∧
    ((fun (now : Nat) (tile : Fin 4) (s : State) => (s.Running) ∧ ((s.tile tile).bcnBad = true) ∧ (100 ≤ (s.tile tile).bcnRun)) 5 1 (up.setTile 1 { bcnBad := true, bcnRun := 100 })) := by
  decide +kernel

/-- Operands and states that meet the hypotheses of ExcitationEventsComplete, clause by clause. -/
theorem witness_excitation_events_complete :
    ((fun (now : Nat) (tile : Fin 4) (src : Fin 120) (cls : Fin 9) (onset : Nat) (s : State) => (s.Running) ∧ (classApplies s.inUse tile src cls = true) ∧ (onset + 32 * slotU ≤ max s.now now)) (100 * usU) 1 2 3 0 (up.putBoth (R.TILE_GRP.KIND 1 2) 1)) ∧
    ((fun (now : Nat) (tile : Fin 4) (group : Fin 24) (c : ExcClass) (s : State) => (s.Running) ∧ (c ∈ (s.excSt tile group).classes) ∧ (c.cls = 3) ∧ (c.absent = 0) ∧ (c.onset + msU ≤ max s.now now) ∧ ((s.excSt tile group).tripAt = none)) (100 * msU) 1 23 ⟨3, 0, 0⟩ (up.setExc 1 23 { classes := [⟨3, 0, 0⟩] })) ∧
    ((fun (now : Nat) (tile : Fin 4) (group : Fin 24) (a : Nat) (s : State) => (s.Running) ∧ ((s.excSt tile group).tripAt = some a) ∧ (a + 100 * msU ≤ max s.now now)) (100 * msU) 1 23 0 (up.setExc 1 23 { tripAt := some 0 })) ∧
    ((fun (now : Nat) (tile : Fin 4) (group : Fin 24) (a : Nat) (s : State) => (s.Running) ∧ ((s.excSt tile group).tripAt = some a) ∧ (a + 100 * msU ≤ max s.now now)) (100 * msU) 1 23 0 (up.setExc 1 23 { tripAt := some 0 })) ∧
    ((fun (now : Nat) (tile : Fin 4) (src : Fin 120) (s : State) => (s.Running)) (100 * msU) 1 119 (up.setExc 1 119 { classes := [⟨3, 0, 100⟩, ⟨4, 0, 99⟩] })) := by
  decide +kernel

/-- Operands and states that meet the hypotheses of CalibrationEventsComplete, clause by clause. -/
theorem witness_calibration_events_complete :
    ((fun (now : Nat) (tile : Fin 4) (s : State) => (s.Running) ∧ (2 ^ s.get R.CAL_SLCCFG.SBLK ≤ (s.tile tile).block.length) ∧ (s.on R.CAL_SLCCFG.HOLD = false) ∧ (s.slicesOk tile (s.blockSlices tile) = true) ∧ ((s.tile tile).frozen = false)) 5 2 ((up.put R.CAL_SLCCFG.SBLK 2).setTile 2 { block := [(0, 1), (1, 2), (2, 3), (3, 4)] })) ∧
    ((fun (now : Nat) (tile : Fin 4) (s : State) => (s.Running) ∧ (2 ^ s.get R.CAL_SLCCFG.SBLK ≤ (s.tile tile).block.length) ∧ (s.on R.CAL_SLCCFG.HOLD = true)) 5 2 (((up.put R.CAL_SLCCFG.SBLK 2).put R.CAL_SLCCFG.HOLD 1).setTile 2 { block := [(0, 1), (1, 2), (2, 3), (3, 4)] })) ∧
    ((fun (now : Nat) (tile : Fin 4) (s : State) => (s.Running) ∧ (s.on (R.CAL_STAT.REF_BAD tile) = true) ∧ (100 ≤ (s.tile tile).refGood)) 5 2 ((up.put (R.CAL_STAT.REF_BAD 2) 1).setTile 2 { refGood := 100 })) ∧
    ((fun (now : Nat) (tile : Fin 4) (r : CalRun) (s : State) => (s.Running) ∧ ((s.tile tile).run = some r) ∧ (r.ended = true)) 5 2 { chans := [1], code := 0, ended := true } (up.setTile 2 { run := some { chans := [1], code := 0, ended := true } })) ∧
    ((fun (now : Nat) (req : Requester) (tile : Fin 4) (data : Word) (s : State) => (s.Running) ∧ (s.permits req R.CAL_START.addr 4 true = true) ∧ (data.toNat = 2 ^ tile.val) ∧ (s.inUse (R.CAL_CFG.MODE tile) = 2) ∧ (calPass s.inUse tile (s.reqChans tile) ≠ [])) 5 (.core0 0) 2 4 (((up.putBoth (R.CAL_CFG.MODE 2) 2).putBoth (R.TILE_CHCFG.MODE 2 0) 1).put (R.CAL_REQM.MASK 2 0) 1)) ∧
    ((fun (now : Nat) (req : Requester) (tile : Fin 4) (data : Word) (s : State) => (s.Running) ∧ (s.permits req R.CAL_COMMIT.addr 4 true = true) ∧ (data.toNat = 2 ^ tile.val) ∧ (s.inUse (R.CAL_CFG.MODE tile) = 0)) 5 (.core0 0) 2 4 up) ∧
    ((fun (now : Nat) (s : State) => (s.Running) ∧ (s.cal.tempAt + secU ≤ max s.now now)) secU (up.setTile 2 { tj := 5000 })) := by
  decide +kernel

/-- Operands and states that meet the hypotheses of FuseBurnsComplete, clause by clause. -/
theorem witness_fuse_burns_complete :
    ((fun (now : Nat) (pl : Fin 4) (data : Word) (vdd18 k : Nat) (s : State) => (s.Running) ∧ (s.permits (.core0 pl) R.CAL_BURN.addr 4 true = true) ∧ (data.toNat = 0x16E5D) ∧ (s.on R.CAL_BURNST.BUSY = false) ∧ (([1, 2, 3].find? fun k => s.genState k == 0) = some k) ∧ (1750 ≤ vdd18) ∧ (s.commits.cal = 0) ∧ ((∀ u : Fin 4, 0 ≤ (s.tile u).tj ∧ (s.tile u).tj ≤ 8500))) 5 0 0x16E5D 1800 1 up) ∧
    ((fun (now : Nat) (k a : Nat) (missed : List (Nat × Nat)) (s : State) => (s.Running) ∧ (s.cal.burn = some (k, a)) ∧ (s.cal.burnTiles = 0)) 5 1 0 [] { up with cal := { up.cal with burn := some (1, 0) } }) := by
  decide +kernel

/-- Operands and states that meet the hypotheses of EncoderAndMainsEventsComplete, clause by clause. -/
theorem witness_encoder_and_mains_events_complete :
    ((fun (now : Nat) (enc n : Fin 4) (edge : QuadEdge) (s : State) => (s.Running) ∧ (s.tempoSrc n = 1) ∧ (s.inUse (R.TIM_TMP_CFG.ENC n) = enc.val) ∧ (edge ≠ .illegal)) 5 3 2 .down (((up.putBoth (R.TIM_TMP_CFG.SRC 2) 1).putBoth (R.TIM_TMP_CFG.ENC 2) 3).putBoth (R.TIM_TMP_SCALE.SCALE 2) 65536)) ∧
    ((fun (now : Nat) (enc n : Fin 4) (s : State) => (s.Running) ∧ (s.tempoSrc n = 1) ∧ (s.inUse (R.TIM_TMP_CFG.ENC n) = enc.val)) 5 3 2 (((up.putBoth (R.TIM_TMP_CFG.SRC 2) 1).putBoth (R.TIM_TMP_CFG.ENC 2) 3).put (R.TIM_TMP_STAT.ENCERR 2) 255)) ∧
    ((fun (now : Nat) (enc n : Fin 4) (s : State) => (s.Running) ∧ (s.tempoSrc n = 1) ∧ (s.inUse (R.TIM_TMP_CFG.ENC n) = enc.val)) 5 3 2 (((up.putBoth (R.TIM_TMP_CFG.SRC 2) 1).putBoth (R.TIM_TMP_CFG.ENC 2) 3).setTempo 2 { pos := -5 })) ∧
    ((fun (now : Nat) (n : Fin 4) (s : State) => (s.Running) ∧ (s.tempoSrc n = 3) ∧ ((s.tempo n).mainsAt = none)) 5 2 (up.putBoth (R.TIM_TMP_CFG.SRC 2) 3)) ∧
    ((fun (now : Nat) (n : Fin 4) (x : Nat) (s : State) => (s.Running) ∧ (s.tempoSrc n = 3) ∧ ((s.tempo n).mainsAt = some x) ∧ ((s.tempo n).mainsPer ≠ 0) ∧ (max s.now now = x + (s.tempo n).mainsPer)) (20 * msU) 2 0 ((up.putBoth (R.TIM_TMP_CFG.SRC 2) 3).setTempo 2 { mainsAt := some 0, mainsPer := 20 * msU })) ∧
    ((fun (now : Nat) (n : Fin 4) (x : Nat) (s : State) => (s.Running) ∧ (s.tempoSrc n = 3) ∧ ((s.tempo n).mainsAt = some x) ∧ (s.tempoState n = 1) ∧ ((s.tempo n).mainsPer ≠ 0) ∧ (x + 3 * (s.tempo n).mainsPer ≤ max s.now now)) (60 * msU) 2 0 (((up.putBoth (R.TIM_TMP_CFG.SRC 2) 3).setTempo 2 { mainsAt := some 0, mainsPer := 20 * msU }).put (R.TIM_TMP_STAT.STATE 2) 1)) ∧
    ((fun (now : Nat) (n : Fin 4) (x : Nat) (s : State) => (s.Running) ∧ (s.tempoSrc n = 3) ∧ ((s.tempo n).mainsAt = some x) ∧ (s.tempoState n = 1 ∨ s.tempoState n = 2) ∧ (x + secU ≤ max s.now now)) (2 * secU) 2 0 (((up.putBoth (R.TIM_TMP_CFG.SRC 2) 3).setTempo 2 { mainsAt := some 0, mainsPer := 20 * msU }).put (R.TIM_TMP_STAT.STATE 2) 2)) := by
  decide +kernel

/-- Operands and states that meet the hypotheses of NetworkTempoEventsComplete, clause by clause. -/
theorem witness_network_tempo_events_complete :
    ((fun (now : Nat) (rx : Rx) (n : Fin 4) (s : State) => (s.Running) ∧ ((s.tick now).consumes rx = true) ∧ (rx.frame.flow = 5) ∧ (rx.frame.type = 0) ∧ (40 ≤ rx.frame.length) ∧ (s.tempoSrc n = 2) ∧ (s.inUse (R.TIM_TMP_CFG.TID n) = (tempoMsg rx.frame.body).tid) ∧ ((s.tempo n).accepts (tempoMsg rx.frame.body) = true)) 5 { port := 1, frame := { flow := 5, type := 0, dtype := 3, multi := true, length := 40, payload := List.replicate 40 7 } } 2 ((linked 1 up).putBoth (R.TIM_TMP_CFG.SRC 2) 2 |>.putBoth (R.TIM_TMP_CFG.TID 2) 0x707)) ∧
    ((fun (now : Nat) (n : Fin 4) (s : State) => (s.Running) ∧ (s.tempoSrc n = 2) ∧ (s.tempoState n = 1) ∧ ((s.tempo n).trx + s.inUse (R.TIM_TMP_HOLD.HOLDT n) * usU ≤ max s.now now)) secU 2 ((up.putBoth (R.TIM_TMP_CFG.SRC 2) 2).put (R.TIM_TMP_STAT.STATE 2) 1)) ∧
    ((fun (now : Nat) (n : Fin 4) (s : State) => (s.Running) ∧ (s.tempoSrc n = 2) ∧ (s.tempoState n ≠ 3) ∧ ((s.tempo n).trx + s.inUse (R.TIM_TMP_HOLD.LOSST n) * msU ≤ max s.now now)) (60 * secU) 2 ((up.putBoth (R.TIM_TMP_CFG.SRC 2) 2).put (R.TIM_TMP_STAT.STATE 2) 2)) ∧
    ((fun (now : Nat) (n : Fin 4) (s : State) => (s.Running) ∧ (s.tempoSrc n ≠ 0)) (60 * secU) 2 ((up.putBoth (R.TIM_TMP_CFG.SRC 2) 1).setTempo 2 { pos := 77 })) := by
  decide +kernel

/-- Operands and states that meet the hypotheses of InputEventsComplete, clause by clause. -/
theorem witness_input_events_complete :
    ((fun (now : Nat) (i : Fin 128) (level : Bool) (since : Nat) (s : State) => (s.Running) ∧ (s.sys.fieldFault = false) ∧ (s.dio.goodAt = none) ∧ (level ≠ (s.diSt i).level) ∧ (since + 2 ^ s.inUse (R.IOT_DICFG.FILT i) * usU ≤ max s.now now)) secU 127 true 5 { up with sys := { up.sys with fieldFault := false } }) ∧
    ((fun (now : Nat) (i : Fin 128) (failed : Bool) (s : State) => (s.Running) ∧ (s.inUse (R.IOT_DICFG.EN i) ≠ 0) ∧ (s.inUse (R.IOT_DIPER.P i) ≠ 0) ∧ (s.nextLevel i + (((2 ^ s.inUse (R.IOT_DICFG.FILT i) + 2) * usU : Nat) : Int) ≤ s.wbAt 0 (max s.now now))) secU 127 false ((up.putBoth (R.IOT_DICFG.EN 127) 1).putBoth (R.IOT_DIPER.P 127) 1000)) ∧
    ((fun (now : Nat) (pin : Fin 4) (on : Bool) (s : State) => (s.Running) ∧ (hasBit s.dio.pins pin ≠ on)) secU 3 false ({ up with dio := { up.dio with pins := 12 } }.putBoth (R.TILE_BLANK.PINMASK 2) 8)) := by
  decide +kernel

/-- Operands and states that meet the hypotheses of OutputCommandsComplete, clause by clause. -/
theorem witness_output_commands_complete :
    ((fun (now : Nat) (req : Requester) (data : Word) (s : State) => (s.Running) ∧ (s.Accepts req R.IOT_DOQ_CTL.addr) ∧ (hasBit data.toNat 10 = false) ∧ ((s.doSt (data.toNat % 32)).queue.length < 16)) secU (.core0 0) 0x3F ((up.put R.IOT_DOQ_P1.P 2).put R.IOT_DOQ_P0.P 500)) ∧
    ((fun (now : Nat) (req : Requester) (data : Word) (s : State) => (s.Running) ∧ (s.Accepts req R.IOT_DOQ_CTL.addr) ∧ (hasBit data.toNat 10 = true)) secU (.core0 0) 0x41F (up.setDo 31 { queue := [up.newEntry 0x3F, { up.newEntry 0x3F with fixed := some 7 }] })) ∧
    ((fun (now : Nat) (d : Fin 32) (e : DoEntry) (x : Int) (s : State) => (s.Running) ∧ ((s.doSt d).queue = [e]) ∧ ((s.tick now).fixDue d e = some x) ∧ (s.wbAt 0 (max s.now now) ≤ x)) secU 31 { up.newEntry 0x3F with target := (secU : Nat) } (secU : Nat) (up.setDo 31 { queue := [{ up.newEntry 0x3F with target := (secU : Nat) }] })) ∧
    ((fun (now : Nat) (d : Fin 32) (e : DoEntry) (x : Int) (s : State) => (s.Running) ∧ ((s.doSt d).queue = [e]) ∧ (e.fixed = some x) ∧ (x ≤ s.wbAt 0 (max s.now now)) ∧ (s.doHeld = false)) secU 31 { up.newEntry 0x3F with fixed := some 5 } 5 ({ up with sys := { up.sys with fieldFault := false }, dio := { up.dio with off := false } }.setDo 31 { queue := [{ up.newEntry 0x3F with fixed := some 5 }] })) := by
  decide +kernel

/-- Operands and states that meet the hypotheses of ResetSourcesComplete, clause by clause. -/
theorem witness_reset_sources_complete :
    ((fun (now : Nat) (s : State) => True) 5 up) ∧
    ((fun (now : Nat) (supply : Fin 3) (s : State) => True) 5 2 up) ∧
    ((fun (now : Nat) (s : State) => (s.sys.thermal = false)) 5 up) ∧
    ((fun (now : Nat) (s : State) => (s.sys.thermal = true)) 5 { up with sys := { up.sys with thermal := true } }) ∧
    ((fun (now : Nat) (s : State) => (s.sys.refLost = false)) 5 up) ∧
    ((fun (now : Nat) (s : State) => (s.sys.refLost = true)) 5 { up with sys := { up.sys with refLost := true } }) ∧
    ((fun (now : Nat) (ns : Nat) (s : State) => (10000 ≤ ns) ∧ (s.sys.pinLow = false)) 5 10000 up) ∧
    ((fun (now : Nat) (s : State) => (s.sys.pinLow = true)) 5 { up with sys := { up.sys with pinLow := true } }) ∧
    ((fun (now : Nat) (s : State) => (s.Running)) 5 up) ∧
    ((fun (now : Nat) (pl : Fin 4) (data : Word) (s : State) => (s.Running) ∧ (s.permits (.core0 pl) R.SYS_RSTCTL.addr 4 true = true) ∧ (data.toNat = 0x15A17)) 5 0 0x15A17 up) := by
  decide +kernel

/-- Operands and states that meet the hypotheses of StartSequenceCompletes, clause by clause. -/
theorem witness_start_sequence_completes :
    ((fun (now : Nat) (refEdges : Nat) (role : Bool) (s : State) => (s.sys.stage = .reset) ∧ (s.sys.pinLow = false) ∧ (s.sys.thermal = false) ∧ (s.sys.refLost = false)) 5 4096 true { State.reset with sys := { State.reset.sys with porHold := true } }) ∧
    ((fun (now : Nat) (k : Nat) (m : Manifest) (s : State) => (s.Running) ∧ (s.sys.stage = .boot) ∧ (s.sec.act = some k) ∧ (s.fullGood 0 (flImage k) = some m)) 5 1 man (imaged (flImage 1) booting)) ∧
    ((fun (now : Nat) (s : State) => (s.Running) ∧ (s.sys.stage = .boot) ∧ (s.sys.releasedAt + secU ≤ max s.now now)) secU booting) ∧
    ((fun (now : Nat) (settings : Settings) (s : State) => (s.Running) ∧ (s.sys.stage = .firmware) ∧ (s.chor.bare = false) ∧ (s.chor.force = none) ∧ (settings.slot = none) ∧ (settings.words = []) ∧ (settings.unreadable = false) ∧ (Tbl.get 0xFF s.flash (flChor 0) = 0xFF) ∧ (Tbl.get 0xFF s.flash (flChor 1) = 0xFF)) secU {} starting) ∧
    ((fun (now : Nat) (unit : Nat) (pin : Bool) (s : State) => (s.Running) ∧ (s.sys.stage = .firmware)) secU 77 false starting) ∧
    ((fun (now : Nat) (code : Fin 16) (s : State) => (s.sys.sealCand ≠ code.val)) secU 10 up) ∧
    ((fun (now : Nat) (s : State) => (s.Running) ∧ (s.sys.sealNew = true) ∧ (s.sys.sealSince + 20 * msU ≤ max s.now now) ∧ (s.sys.sealCand < 16) ∧ (s.get R.SYS_STRAP.SEAL ≠ s.sys.sealCand)) secU { up with sys := { up.sys with sealCand := 10 } }) := by
  refine ⟨?_, ?_, ?_, ?_, ?_, ?_, ?_⟩
  · decide +kernel
  · exact ⟨rfl, rfl, rfl, imaged_good _ _⟩
  · decide +kernel
  · decide +kernel
  · decide +kernel
  · decide +kernel
  · decide +kernel

/-- Operands and states that meet the hypotheses of FieldSupplyEventsComplete, clause by clause. -/
theorem witness_field_supply_events_complete :
    ((fun (now : Nat) (which : Fin 4) (s : State) => (s.sys.fieldFault = false)) 5 1 { up with sys := { up.sys with fieldFault := false } }) ∧
    ((fun (now : Nat) (s : State) => (s.sys.fieldFault = true)) 5 up) ∧
    ((fun (now : Nat) (s : State) => True) 5 up) ∧
    ((fun (now : Nat) (s : State) => (s.Running) ∧ (s.isPaired = true) ∧ (s.isFollow = false)) 5 (up.put R.SYS_CHAINPOS.PAIRED 1)) := by
  decide +kernel

/-- Operands and states that meet the hypotheses of StreamEventsComplete, clause by clause. -/
theorem witness_stream_events_complete :
    ((fun (now : Nat) (e : Fin 512) (b : HBlock) (bs : List HBlock) (s : State) => (s.Running) ∧ ((s.histEp e).blocks = b :: bs) ∧ ((s.histEp e).alloc ≤ bs.length) ∧ (b.isOpen = false) ∧ ((s.tick now).expired e b = true)) secU 511 { format := 0, nb := 0, runid := 0, period := 1, ssn := 0, isOpen := false } [] { up with strm := { up.strm with hist := [(511, { blocks := [{ format := 0, nb := 0, runid := 0, period := 1, ssn := 0, isOpen := false }] })] } }) ∧
    ((fun (now : Nat) (st : Fin 64) (s : State) => (s.Running) ∧ ((s.strmSt st).rows ≠ []) ∧ ((s.strmSt st).openAt + s.inUse (R.QUE_S_FLUSH.FLUSH st) * usU ≤ max s.now now)) (50 * usU) 63 (((up.putBoth (R.QUE_S_FLUSH.FLUSH 63) 50).put (R.QUE_S_PSN.PSN 63) 0xFFFFFFFF).setStrm 63 { rows := [⟨5, 0, [1, 2]⟩] })) ∧
    ((fun (now : Nat) (st : Fin 64) (s : State) => (s.Running) ∧ ((s.strmSt st).skipping = true) ∧ (s.fits st (s.strmRows st * rowWords (s.strmClass st) (s.inUse (R.QUE_S_CFG.WIDTH st)) + 1) 0 = true)) 5 63 ((up.putBoth (R.QUE_Q_CFG.SIZE 63) 1).setStrm 63 { skipping := true })) ∧
    ((fun (now : Nat) (rx : Rx) (s : State) => (s.Running) ∧ (s.consumes rx = true) ∧ (rx.frame.flow = 1) ∧ (rx.frame.type = 2) ∧ (rx.frame.b / 2 ^ 16 = s.get R.QUE_RUNID.RUNID) ∧ (serialLt rx.frame.a (s.strmSt rx.frame.ch).sentTop = true)) 5 { port := 1, frame := { flow := 1, type := 2, ch := 63, a := 7, b := 0 } } (((linked 1 up).setQueue 63 { pkts := [{ words := [1], psn := 6, rows := 1 }, { words := [2], psn := 7, rows := 1 }, { words := [3], psn := 8, rows := 1 }] }).setStrm 63 { sentTop := 8, sendPsn := 7 })) ∧
    ((fun (now : Nat) (rx : Rx) (s : State) => (s.Running) ∧ (s.consumes rx = true) ∧ (rx.frame.flow = 1) ∧ (rx.frame.type = 3) ∧ (rx.frame.b / 2 ^ 16 = s.get R.QUE_RUNID.RUNID) ∧ ((s.queue rx.frame.ch).pkts.any (fun p => p.psn == rx.frame.a) = true) ∧ (serialLt rx.frame.a (s.strmSt rx.frame.ch).sendPsn = true)) 5 { port := 1, frame := { flow := 1, type := 3, ch := 63, a := 7, b := 0 } } (((linked 1 up).setQueue 63 { pkts := [{ words := [1], psn := 6, rows := 1 }, { words := [2], psn := 7, rows := 1 }, { words := [3], psn := 8, rows := 1 }] }).setStrm 63 { sentTop := 9, sendPsn := 9 })) ∧
    ((fun (now : Nat) (rx : Rx) (n psn : Nat) (s : State) => (s.Running) ∧ (s.consumes rx = true) ∧ (rx.frame.flow = 1) ∧ (rx.frame.type = 4) ∧ (rx.frame.length = 8) ∧ (n < 64) ∧ (rx.frame.payload.take 8 = [BitVec.ofNat 8 n, 0, 0, 0] ++ beBytes 4 psn) ∧ (psn < 2 ^ 32) ∧ (s.strmOn n = true) ∧ (rx.frame.b / 2 ^ 16 = s.get R.QUE_RUNID.RUNID) ∧ (serialLt psn (s.strmSt n).sentTop = true)) 5 { port := 1, frame := { flow := 1, type := 4, length := 8, payload := [63, 0, 0, 0, 0, 0, 0, 7] } } 63 7 ((((linked 1 up).putBoth (R.QUE_S_CFG.EN 63) 1).setQueue 63 { pkts := [{ words := [1], psn := 6, rows := 1 }, { words := [2], psn := 7, rows := 1 }, { words := [3], psn := 8, rows := 1 }] }).setStrm 63 { sentTop := 8, sendPsn := 7 })) := by
  decide +kernel

/-- Operands and states that meet the hypotheses of PullEventsComplete, clause by clause. -/
theorem witness_pull_events_complete :
    ((fun (now : Nat) (id : Nat) (p : PullSt) (s : State) => (s.Running) ∧ ((∀ q : Fin 4, (s.portSt q).wire = none)) ∧ (s.pull? id = some p) ∧ (s.isFollow = false) ∧ (p.retry = false) ∧ (p.job = none) ∧ (p.eps = []) ∧ (s.fits 64 9 0 = true)) 5 3 { id := 3, stype := 1, src := 0, port := 1, tag := 5, gen := 1, format := 0, shuf := false, bySsn := true, nb := 0, start := 0, stop := 9 } ((up.putBoth (R.QUE_Q_CFG.SIZE 64) 1).setPulls [{ id := 3, stype := 1, src := 0, port := 1, tag := 5, gen := 1, format := 0, shuf := false, bySsn := true, nb := 0, start := 0, stop := 9 }])) ∧
    ((fun (now : Nat) (id : Nat) (p : PullSt) (s : State) => (s.Running) ∧ ((∀ q : Fin 4, (s.portSt q).wire = none)) ∧ (s.pull? id = some p) ∧ (p.retry = true) ∧ (p.job = none) ∧ (s.fits 64 9 0 = true)) 5 3 { id := 3, stype := 1, src := 0, port := 1, tag := 5, gen := 1, format := 0, shuf := false, bySsn := true, nb := 0, start := 0, stop := 9, retry := true } ((up.putBoth (R.QUE_Q_CFG.SIZE 64) 1).setPulls [{ id := 3, stype := 1, src := 0, port := 1, tag := 5, gen := 1, format := 0, shuf := false, bySsn := true, nb := 0, start := 0, stop := 9, retry := true }])) ∧
    ((fun (now : Nat) (rx : Rx) (s : State) => (s.Running) ∧ ((∀ q : Fin 4, (s.portSt q).wire = none)) ∧ (s.consumes rx = true) ∧ (s.isFollow = false) ∧ (rx.frame.flow = 2) ∧ (rx.frame.type = 0) ∧ (rx.frame.length = 88) ∧ (hasBit (rx.frame.payload.getD 3 0).toNat 7 = false) ∧ (s.strm.pulls.any (fun q => q.code == 0 && sameKey ((s.tick now).pullOf rx) q) = false) ∧ ((s.strm.pulls.filter fun q => q.code == 0).length < 256) ∧ (s.badRequest ((s.tick now).pullOf rx) true = false)) 5 { port := 1, frame := { flow := 2, type := 0, stype := 2, length := 88, payload := [0, 5, 1, 4, 0, 0, 0, 0, 0, 0, 0, 0, 0, 0, 0, 9] ++ List.replicate 8 0 ++ [1] ++ List.replicate 63 0 } } ((linked 1 up).putBoth (R.TILE_CHCFG.MODE 0 0) 1)) ∧
    ((fun (now : Nat) (rx : Rx) (q : PullSt) (s : State) => (s.Running) ∧ ((∀ q : Fin 4, (s.portSt q).wire = none)) ∧ (s.consumes rx = true) ∧ (s.isFollow = false) ∧ (rx.frame.flow = 2) ∧ (rx.frame.type = 0) ∧ (rx.frame.length = 88) ∧ (hasBit (rx.frame.payload.getD 3 0).toNat 7 = true) ∧ (s.strm.pulls.find? (fun q => q.code == 0 && sameKey ((s.tick now).pullOf rx) q) = some q) ∧ (s.fits 64 9 0 = true)) 5 { port := 1, frame := { flow := 2, type := 0, stype := 2, length := 88, payload := [0, 5, 1, 0x84, 0, 0, 0, 0, 0, 0, 0, 0, 0, 0, 0, 9] ++ List.replicate 8 0 ++ [1] ++ List.replicate 63 0 } } { id := 3, stype := 2, src := 0, port := 1, tag := 5, gen := 1, format := 0, shuf := false, bySsn := true, nb := 0, start := 0, stop := 9 } (((linked 1 up).putBoth (R.QUE_Q_CFG.SIZE 64) 1).setPulls [{ id := 3, stype := 2, src := 0, port := 1, tag := 5, gen := 1, format := 0, shuf := false, bySsn := true, nb := 0, start := 0, stop := 9 }])) := by
  decide +kernel

/-- Operands and states that meet the hypotheses of CompressionJobsComplete, clause by clause. -/
theorem witness_compression_jobs_complete :
    ((fun (now : Nat) (req : Requester) (j : Fin 32) (s : State) => (s.Running) ∧ (s.permits req (R.CMP_J_CTL j).addr 4 true = true) ∧ (s.ignoresWrite (R.CMP_J_CTL j).addr = false) ∧ (s.get (R.CMP_J_ST.STATE j) ≠ 1) ∧ (s.get (R.CMP_J_ST.STATE j) ≠ 2) ∧ (s.badJob j = false) ∧ (s.sourceOk req.cls j = true)) 5 (.core0 0) 31 ((((up.put (R.CMP_J_D0.QUEUE 31) 65).put (R.CMP_J_D4.OUTMAX 31) 100).putBoth (R.QUE_Q_CFG.SIZE 65) 1).putBoth (R.QUE_Q_CFG.PKT 65) 1)) ∧
    ((fun (now : Nat) (req : Requester) (j : Fin 32) (s : State) => (s.Running) ∧ (s.permits req (R.CMP_J_CTL j).addr 4 true = true) ∧ (s.ignoresWrite (R.CMP_J_CTL j).addr = false) ∧ (s.get (R.CMP_J_ST.STATE j) = 1)) 5 (.core0 0) 31 { up.put (R.CMP_J_ST.STATE 31) 1 with cmp := { up.cmp with slots := [30, 31] } }) ∧
    ((fun (now : Nat) (e : Fin 6) (j : Nat) (s : State) => (s.Running) ∧ (j < 32) ∧ (s.engine e = none) ∧ (s.cmp.pulls = []) ∧ (s.earliest (if 4 ≤ e.val then 1 else 0) = some j)) 5 5 31 { up.put (R.CMP_J_D0.OP 31) 1 with cmp := { up.cmp with slots := [30, 31] } }) ∧
    ((fun (now : Nat) (e : Fin 6) (j : Fin 32) (s : State) => (s.Running) ∧ ((∀ q : Fin 4, (s.portSt q).wire = none)) ∧ (s.engine e = some (.slot j)) ∧ (s.cmp.waiting = []) ∧ ((s.slotResult j).code = 0) ∧ (s.inUse (R.QUE_Q_CFG.SIZE (s.get (R.CMP_J_D0.QUEUE j))) ≠ 0) ∧ (s.on (R.CMP_J_D0.WAIT j) = false) ∧ (s.fits (s.get (R.CMP_J_D0.QUEUE j)) ((s.slotPacket j (s.slotResult j).out).length + 1) 0 = true)) 5 2 31 ((((up.put (R.CMP_J_D0.QUEUE 31) 65).put (R.CMP_J_D4.OUTMAX 31) 100).putBoth (R.QUE_Q_CFG.SIZE 65) 1).setEngine 2 (some (.slot 31)))) ∧
    ((fun (now : Nat) (q : Fin 80) (w : PushWait) (s : State) => (s.Running) ∧ (s.cmp.waiting.find? (fun w => w.queue == q.val) = some w) ∧ (w.slot < 32) ∧ (w.eng < 6) ∧ (s.inUse (R.QUE_Q_CFG.POLICY q) = 1) ∧ (s.fits q (w.words.length + 1) 0 = true)) 5 79 { slot := 31, eng := 5, queue := 79, words := [1], outlen := 4, consumed := 4, spare := 0, aux := 0 } { (up.putBoth (R.QUE_Q_CFG.SIZE 79) 1).putBoth (R.QUE_Q_CFG.POLICY 79) 1 with cmp := { up.cmp with waiting := [{ slot := 31, eng := 5, queue := 79, words := [1], outlen := 4, consumed := 4, spare := 0, aux := 0 }] } }) := by
  decide +kernel

/-- Operands and states that meet the hypotheses of PortFramesComplete, clause by clause. -/
theorem witness_port_frames_complete :
    ((fun (now : Nat) (rx : Rx) (q : Nat) (s : State) => (s.Running) ∧ ((s.rxGate rx).2 = true) ∧ ((s.gated rx).fate rx = .forward q) ∧ (s.portUp q = true) ∧ ((rx.frame.dtype = 1 ∨ rx.frame.dtype = 2 → s.reach q = true)) ∧ (transitBytes (s.portSt q) + wireBytes s q rx.frame.length ≤ (if flowPrio rx.frame.flow ≤ 1 then 131072 else 114688))) 5 { port := 1, frame := { flow := 1, type := 0, dst := 9, length := 2, payload := [1, 2, 0] } } 0 (linked 0 (linked 1 up))) ∧
    ((fun (now : Nat) (rx : Rx) (s : State) => (s.Running) ∧ (s.on (R.PRT_P_STAT.LINK rx.port) = true) ∧ (rx.eth.fcsOk = true) ∧ (rx.eth.bytes ≤ 1518) ∧ (s.envelopeOk rx.port rx.eth = false)) 5 { port := 3, eth := { tagged := true, bytes := 1518 }, frame := {} } ((linked 3 up).put (R.PRT_P_CNT5.DISCARD 3) 65535)) ∧
    ((fun (now : Nat) (port : Fin 4) (i : TxItem) (f : Frame) (s : State) => (s.Running) ∧ ((∀ q : Fin 4, (s.portSt q).wire = none)) ∧ (s.on (R.PRT_P_STAT.LINK port) = true) ∧ (portRate s port ≠ 0) ∧ (firstItem ((s.portSt port).txq.filter ((s.tick now).mayStart port)) = some i) ∧ (i.body = .peb f) ∧ (f.isHello = true) ∧ (f.dtype = 0)) 5 3 { prio := 0, body := .peb { dtype := 0 } } { dtype := 0 } ((up.put (R.PRT_P_STAT.LINK 3) 1).setPort 3 { txq := [{ prio := 0, body := .peb { dtype := 0 } }] })) := by
  decide +kernel

/-- Operands and states that meet the hypotheses of LinkEventsComplete, clause by clause. -/
theorem witness_link_events_complete :
    ((fun (now : Nat) (port : Fin 4) (pcs : Nat) (master : Bool) (snr : Nat) (peerOk : Bool) (s : State) => (s.Running) ∧ (s.inUse (R.PRT_P_CFG.USE port) ≠ 0) ∧ (s.on (R.PRT_P_STAT.LINK port) = false)) 5 3 7 false 9 true (up.putBoth (R.PRT_P_CFG.USE 3) 2)) ∧
    ((fun (now : Nat) (port : Fin 4) (s : State) => (s.Running) ∧ (s.on (R.PRT_P_STAT.LINK port) = true)) 5 0 (linked 0 up)) ∧
    ((fun (now : Nat) (port : Fin 4) (link fullDuplex : Bool) (speed : Nat) (s : State) => (s.Running) ∧ (s.inUse (R.PRT_P_CFG.MODE port) = 3) ∧ (s.inUse (R.PRT_P_CFG.AN port) = 1) ∧ (s.on (R.PRT_P_STAT.LINK port) = true)) 5 3 true true 100 (((linked 3 up).putBoth (R.PRT_P_CFG.MODE 3) 3).putBoth (R.PRT_P_CFG.AN 3) 1)) ∧
    ((fun (now : Nat) (port : Fin 4) (s : State) => (s.Running) ∧ (s.on (R.PRT_P_STAT.LINK port) = true) ∧ (portRate s port ≠ 0) ∧ (((s.portSt port).helloAt.all fun a => decide (a + helloU ≤ max s.now now)) = true)) helloU 3 ((linked 3 up).setPort 3 { helloAt := some 0, seq := 0xFFFFFFFF })) ∧
    ((fun (now : Nat) (rx : Rx) (s : State) => (s.Running) ∧ (s.consumes rx = true) ∧ (rx.frame.isHello = true) ∧ (rx.frame.length = 16)) 5 { port := 3, frame := { ver := 1, flow := 0, type := 0, length := 16, payload := [0x31, 0] ++ List.replicate 14 0 } } (up.put (R.PRT_P_STAT.LINK 3) 1)) ∧
    ((fun (now : Nat) (port : Fin 4) (a : Nat) (s : State) => (s.Running) ∧ ((s.portSt port).lastHello = some a) ∧ (s.on (R.PRT_P_STAT.LINK port) = true) ∧ ((s.portSt port).misses < 2) ∧ (a + ((s.portSt port).misses + 1) * helloU ≤ max s.now now)) helloU 3 0 ((linked 3 up).setPort 3 { lastHello := some 0 })) ∧
    ((fun (now : Nat) (port : Fin 4) (a : Nat) (s : State) => (s.Running) ∧ ((s.portSt port).lastHello = some a) ∧ (s.on (R.PRT_P_STAT.LINK port) = true) ∧ ((s.portSt port).misses = 2) ∧ (a + 3 * helloU ≤ max s.now now)) (3 * helloU) 0 0 ((linked 0 up).setPort 0 { lastHello := some 0, misses := 2, good := 3 })) ∧
    ((fun (now : Nat) (rx : Rx) (s : State) => (s.Running) ∧ (s.consumes rx = true) ∧ (rx.frame.flow = 0) ∧ (rx.frame.type = 1)) 5 { port := 1, frame := { flow := 0, type := 1, stype := 2, dtype := 3, multi := true } } (linked 1 up)) ∧
    ((fun (now : Nat) (port : Fin 4) (a : Nat) (s : State) => (s.Running) ∧ (port.val < 2) ∧ (s.reach port = true) ∧ ((s.portSt port).rootAt = some a) ∧ ((s.portSt port).rootMiss < 2) ∧ (a + ((s.portSt port).rootMiss + 1) * helloU ≤ max s.now now)) helloU 1 0 (((linked 1 up).put R.SYS_CHAINPOS.REACH_B 1).setPort 1 { rootAt := some 0 })) ∧
    ((fun (now : Nat) (port : Fin 4) (a : Nat) (s : State) => (s.Running) ∧ (port.val < 2) ∧ (s.reach port = true) ∧ ((s.portSt port).rootAt = some a) ∧ ((s.portSt port).rootMiss = 2) ∧ (a + 3 * helloU ≤ max s.now now)) (3 * helloU) 1 0 (((linked 1 up).put R.SYS_CHAINPOS.REACH_B 1).setPort 1 { rootAt := some 0, rootMiss := 2 })) ∧
    ((fun (now : Nat) (port : Fin 4) (eth : Eth) (m : ArpMsg) (s : State) => (s.Running) ∧ (s.on (R.PRT_P_STAT.LINK port) = true) ∧ (eth.fcsOk = true) ∧ (eth.bytes ≤ 1518) ∧ (eth.tagged = false) ∧ (s.inUse (R.PRT_P_CFG.TRANSPORT port) = 1) ∧ ((s.secCheck port eth.sec).2 = true) ∧ (s.portUp port = true) ∧ (m.senderIp = s.inUse (R.PRT_P_IPB.IPB port))) 5 3 {} ⟨true, 77, 0xC0A80001, 0⟩ (((linked 3 up).putBoth (R.PRT_P_CFG.TRANSPORT 3) 1).putBoth (R.PRT_P_IPB.IPB 3) 0xC0A80001)) := by
  decide +kernel

/-- Operands and states that meet the hypotheses of MacsecEventsComplete, clause by clause. -/
theorem witness_macsec_events_complete :
    ((fun (now : Nat) (port : Fin 4) (m : Mkpdu) (s : State) => (s.Running) ∧ (s.on (R.PRT_P_STAT.LINK port) = true) ∧ (s.secMode port = 1) ∧ (m.icvOk = true) ∧ (m.ckn = s.ckn port) ∧ (m.listsUs = true)) 5 3 ⟨[], true, 99, 255, true, none⟩ (((up.put (R.PRT_P_STAT.LINK 3) 1).putBoth (R.PRT_P_CFG.MACSEC 3) 1).putBoth (R.PRT_P_MKA.CKNLEN 3) 0)) ∧
    ((fun (now : Nat) (port : Fin 4) (s : State) => (s.Running) ∧ (s.on (R.PRT_P_STAT.LINK port) = true) ∧ (s.secMode port = 1) ∧ (((s.portSt port).mkaAt.all fun a => decide (a + s.mkaHello port ≤ max s.now now)) = true)) (2 * secU) 3 (((up.put (R.PRT_P_STAT.LINK 3) 1).putBoth (R.PRT_P_CFG.MACSEC 3) 1).setPort 3 { mkaAt := some 0 })) ∧
    ((fun (now : Nat) (port : Fin 4) (s : State) => (s.Running) ∧ (s.secMode port = 1) ∧ (s.inUse (R.PRT_P_MKA.REKEY port) ≠ 0) ∧ ((s.portSt port).peers ≠ []) ∧ (s.keyServer port = true) ∧ ((s.portSt port).rekeyAt + s.inUse (R.PRT_P_MKA.REKEY port) * secU ≤ max s.now now)) secU 3 ((((up.putBoth (R.PRT_P_CFG.MACSEC 3) 1).putBoth (R.PRT_P_MKA.REKEY 3) 1).putBoth (R.PRT_P_MKA.PRIO 3) 1).setPort 3 { peers := [(99, 255, 0)] })) ∧
    ((fun (now : Nat) (port : Fin 4) (s : State) => (s.Running) ∧ (s.on (R.PRT_P_STAT.LINK port) = true) ∧ (s.secMode port = 1) ∧ ((s.portSt port).failLogged = false) ∧ ((s.portSt port).peers = []) ∧ ((s.portSt port).linkAt + 6 * secU ≤ max s.now now)) (6 * secU) 3 ((up.put (R.PRT_P_STAT.LINK 3) 1).putBoth (R.PRT_P_CFG.MACSEC 3) 1)) ∧
    ((fun (now : Nat) (port : Fin 4) (sci : Nat) (s : State) => (s.Running) ∧ ((s.portSt port).peers.any (fun q => q.1 == sci && decide (q.2.2 + 6 * secU ≤ max s.now now)) = true)) (6 * secU) 3 99 (((up.put (R.PRT_P_STAT.LINK 3) 1).putBoth (R.PRT_P_CFG.MACSEC 3) 1).setPort 3 { peers := [(99, 255, 0), (98, 255, 0)] })) ∧
    ((fun (now : Nat) (req : Requester) (port : Fin 4) (data : Word) (s : State) => (s.Running) ∧ (s.permits req (R.PRT_P_SCTL port).addr 4 true = true) ∧ (hasBit data.toNat 2 = true) ∧ (s.secMode port = 2)) 5 (.core0 0) 3 7 ((up.put (R.PRT_P_STAT.LINK 3) 1).putBoth (R.PRT_P_CFG.MACSEC 3) 2)) := by
  decide +kernel

/-- Operands and states that meet the hypotheses of PtpEventsComplete, clause by clause. -/
theorem witness_ptp_events_complete :
    ((fun (now : Nat) (port : Fin 4) (m : PtpMsg) (k : Nat) (s : State) => (s.Running) ∧ (port.val < 2) ∧ (s.on (R.PRT_P_STAT.LINK port) = true) ∧ (s.portUp port = true) ∧ (s.instanceOf m = some k) ∧ (m.malformed = false) ∧ (m.kind = .sync) ∧ (m.twoStep = true)) 5 1 { kind := .sync, domain := 7, seq := 9, twoStep := true, corr := 100 } 1 (((linked 0 (linked 1 up)).putBoth (R.TIM_PTP_CFG.EN 1) 1).putBoth (R.TIM_PTP_CFG.DOMAIN 1) 7)) ∧
    ((fun (now : Nat) (k : Fin 2) (s : State) => (s.Running) ∧ (s.inUse (R.TIM_PTP_CFG.EN k) = 1)) 5 1 (((linked 0 up).putBoth (R.TIM_PTP_CFG.EN 1) 1).setPtp 1 { dseq := 65535 })) ∧
    ((fun (now : Nat) (k : Fin 2) (s : State) => (s.Running) ∧ (s.inUse (R.TIM_PTP_CFG.EN k) = 1) ∧ ((s.tick now).delivers k (s.ptpPort k) = false) ∧ ((s.tick now).delivers k (otherPort (s.ptpPort k)) = false) ∧ ((k.val = 1 → s.inUse (R.TIM_WB_CFG.SRC 1) ≠ 1)) ∧ (s.wbState k ≠ 0)) 5 1 (((linked 0 up).putBoth (R.TIM_PTP_CFG.EN 1) 1).put (R.TIM_WB_STAT.STATE 1) 2)) := by
  decide +kernel

/-- Operands and states that meet the hypotheses of SafetyUnitEventsComplete, clause by clause. -/
theorem witness_safety_unit_events_complete :
    ((fun (now : Nat) (x : TickIn) (s : State) => (s.Running) ∧ (s.sys.fieldFault = false) ∧ (s.safe.tick ≠ some (s.wbAt 0 (max s.now now) / ((250 * usU : Nat) : Int)).toNat)) (500 * usU) {} { config [(1, 0, 1), (16, 7, 1), (17, 7, 1)] up with sys := { up.sys with fieldFault := false } }) ∧
    ((fun (now : Nat) (rc : Nat) (s : State) => (s.Running) ∧ ((rc < 4500 ∨ 5500 < rc)) ∧ (s.safe.kclk = false)) 5 5501 (up.setBk 7 { ls := true })) ∧
    ((fun (now : Nat) (s : State) => (s.Running) ∧ (33 ≤ s.safe.disagree) ∧ (s.safe.cross = false)) 5 (up.setSafe { sp := { permits := 255 }, disagree := 33 })) ∧
    ((fun (now : Nat) (s : State) => (s.Running) ∧ (33 ≤ s.safe.partnerRun) ∧ (s.safe.cross = false)) 5 (up.setSafe { sp := { permits := 255 }, partnerRun := 33 })) ∧
    ((fun (now : Nat) (s : State) => (s.Running)) 5 (up.setBk 7 { hs := true })) := by
  decide +kernel

/-- Operands and states that meet the hypotheses of SafeInputEventsComplete, clause by clause. -/
theorem witness_safe_input_events_complete :
    ((fun (now : Nat) (i : Fin 16) (ch : Fin 2) (level : Bool) (unit : Fin 2) (since : Nat) (s : State) => (s.Running) ∧ (s.siOn i = true) ∧ (since + s.sparam pSiFilt i * 250 * usU ≤ max s.now now) ∧ ((s.sparam (pSiTsa + ch.val) i ≠ 0 → 300 * usU ≤ (s.tick now).gapPhase (s.sparam (pSiTsa + ch.val) i - 1)))) (17 * msU) 15 1 true 1 0 (config [(1, 15, 1), (4, 15, 1), (5, 15, 4)] up)) ∧
    ((fun (now : Nat) (k : Fin 4) (on : List Nat) (i : Fin 16) (ch : Fin 2) (s : State) => (s.Running) ∧ (150 * usU ≤ (s.tick now).gapPhase k) ∧ ((s.tick now).gapPhase k < 200 * usU) ∧ (s.sys.fieldFault = false) ∧ (s.siOn i = true) ∧ (s.sparam (pSiTsa + ch.val) i = k.val + 1) ∧ (on.contains (2 * i.val + ch.val) = true) ∧ ((s.safe.sp.input i).st ≠ 3)) (4 * msU + 150 * usU) 1 [31] 15 1 { config [(1, 15, 1), (4, 15, 2)] up with sys := { up.sys with fieldFault := false } }) ∧
    ((fun (now : Nat) (k : Fin 4) (low : Bool) (s : State) => (s.Running) ∧ (hasBit s.safe.sitOvl k = !low)) 5 3 true up) ∧
    ((fun (now : Nat) (i : Fin 16) (s : State) => (s.Running) ∧ (s.siOn i = true) ∧ ((s.safe.sp.input i).st = 1) ∧ (s.sparam pSiDt i + 1 ≤ (s.safe.sp.input i).cnt)) 5 15 (let s := config [(1, 15, 1), (6, 15, 16)] up; s.setSafe { s.safe with sp := s.safe.sp.setInput 15 { cnt := 17 } })) ∧
    ((fun (now : Nat) (i : Fin 16) (s : State) => (s.Running) ∧ (s.safe.sp.acks = true) ∧ (s.siOn i = true) ∧ ((s.safe.sp.input i).st = 2)) 5 15 (let s := config [(1, 15, 1), (7, 15, 1)] up; s.setSafe { s.safe with sp := { s.safe.sp.setInput 15 { st := 2 } with ended := some 400, counts := true } })) ∧
    ((fun (now : Nat) (s : State) => (s.Running) ∧ (s.safe.sp.sack = true) ∧ (s.safe.sp.stuck = false) ∧ (20000 ≤ s.safe.sp.press)) 5 (up.setSafe { sp := { sack := true, press := 20000 } })) ∧
    ((fun (now : Nat) (s : State) => (s.Running) ∧ (4000 ≤ s.safe.sp.offRun)) 5 ((up.put R.SAFV_STATE.SACK_STUCK 1).setSafe { sp := { stuck := true, offRun := 4000 } })) := by
  decide +kernel

/-- Operands and states that meet the hypotheses of BrakeEventsComplete, clause by clause. -/
theorem witness_brake_events_complete :
    ((fun (now : Nat) (n : Fin 8) (s : State) => (s.Running) ∧ (4 ≤ (s.bk n).run) ∧ ((s.bk n).seen ≠ 0) ∧ (hasBit (s.bk n).faults (s.bk n).seen = false)) 5 7 (up.setBk 7 { run := 4, seen := 3, hs := true })) ∧
    ((fun (now : Nat) (n : Fin 8) (sbi : Nat) (s : State) => (s.Running) ∧ (s.sparam pBkEn n = 1) ∧ (2 * (50 * s.sparam pBkImax n) < sbi)) 5 7 101 ((config [(16, 7, 1), (19, 7, 1)] up).setBk 7 { ls := true })) ∧
    ((fun (now : Nat) (n : Fin 8) (high : Bool) (s : State) => (s.Running) ∧ (s.tswU ≠ 0) ∧ (s.sparam pBkEn n = 1) ∧ ((s.bk n).hs = true) ∧ ((s.bk n).ls = true) ∧ ((s.testOffset n high : Int) ≤ s.wbAt 0 (max s.now now)) ∧ (Tbl.get 0 (s.bk n).tested (if high then 0 else 1) ≠ ((s.wbAt 0 (max s.now now) - (s.testOffset n high : Int)) / (s.tswU : Int)).toNat + 1)) secU 7 false ((config [(16, 7, 1), (32, 0, 1)] up).setBk 7 { hs := true, ls := true })) ∧
    ((fun (now : Nat) (n : Fin 8) (sbv sbi : Nat) (p : SwTest) (s : State) => (s.Running) ∧ ((s.bk n).pulse = some p) ∧ ((p.how = 0 → sbv < 100)) ∧ ((p.how = 1 → sbi < 5 * s.sparam pBkImin n)) ∧ ((1 < p.how → 300 ≤ sbv)) ∧ (max s.now now ≤ p.at_ + 500 * usU)) (500 * usU) 7 99 9 ⟨true, 0, 0⟩ (up.setBk 7 { pulse := some ⟨true, 0, 0⟩, ls := true })) ∧
    ((fun (now : Nat) (n : Fin 8) (p : SwTest) (s : State) => (s.Running) ∧ ((s.bk n).pulse = some p) ∧ (p.at_ + 500 * usU < max s.now now)) (501 * usU) 7 ⟨false, 0, 1⟩ (up.setBk 7 { pulse := some ⟨false, 0, 1⟩, hs := true })) ∧
    ((fun (now : Nat) (e c a : Nat) (l : List (Nat × Nat × Nat)) (s : State) => (s.Running) ∧ (s.cal.recs = (e, c, a) :: l)) 5 383 3 0 [] { config [(64, 15, 383), (66, 15, 128), (67, 15, 1)] up with cal := { up.cal with recs := [(383, 3, 0)] } }) := by
  decide +kernel

/-- Operands and states that meet the hypotheses of HoldingTestEventsComplete, clause by clause. -/
theorem witness_holding_test_events_complete :
    ((fun (now : Nat) (h : HoldTest) (s : State) => (s.Running) ∧ (s.safe.test = some h) ∧ (h.phase = 0) ∧ (h.at_ + s.sparam pBkTeng h.ch * msU ≤ max s.now now)) (50 * msU) { ch := 7, at_ := 0 } (let s := config [(24, 7, 50)] up; s.setSafe { s.safe with test := some { ch := 7, at_ := 0 } })) ∧
    ((fun (now : Nat) (h : HoldTest) (v : Nat) (s : State) => (s.Running) ∧ (s.safe.test = some h) ∧ (h.phase = 1) ∧ (s.testCurrent h.ch = some v) ∧ (s.sparam pBkItest h.ch ≤ v) ∧ (max s.now now ≤ h.at_ + 5 * secU)) (5 * secU) { ch := 7, at_ := 0, phase := 1 } 2 (let s := config [(23, 7, 2), (22, 7, 0), (64, 0, 9)] up; { s.setSafe { s.safe with test := some { ch := 7, at_ := 0, phase := 1 } } with strm := { s.strm with latest := [(9, (0xFFFFFE00, 0))] } })) ∧
    ((fun (now : Nat) (h : HoldTest) (s : State) => (s.Running) ∧ (s.safe.test = some h) ∧ (h.phase = 1) ∧ (h.ch < 8) ∧ (h.at_ + 5 * secU ≤ max s.now now)) (5 * secU) { ch := 7, at_ := 0, phase := 1 } (up.setSafe { test := some { ch := 7, at_ := 0, phase := 1 } })) ∧
    ((fun (now : Nat) (h : HoldTest) (s : State) => (s.Running) ∧ (s.safe.test = some h) ∧ (h.phase = 2) ∧ (h.ch < 8) ∧ (h.at_ + s.sparam pBkThold h.ch * msU ≤ max s.now now)) (100 * msU) { ch := 7, at_ := 0, phase := 2 } (let s := config [(25, 7, 100)] (up.setBk 7 { faults := 512, due := true }); s.setSafe { s.safe with test := some { ch := 7, at_ := 0, phase := 2 } })) ∧
    ((fun (now : Nat) (h : HoldTest) (v : Nat) (s : State) => (s.Running) ∧ (s.safe.test = some h) ∧ (h.phase = 3) ∧ (h.ch < 8) ∧ (s.testCurrent h.ch = some v) ∧ (2 * v < s.sparam pBkItest h.ch)) 5 { ch := 7, at_ := 0, phase := 3 } 2 (let s := config [(23, 7, 5), (22, 7, 0), (64, 0, 9)] up; { s.setSafe { s.safe with test := some { ch := 7, at_ := 0, phase := 3 } } with strm := { s.strm with latest := [(9, (0xFFFFFE00, 0))] } })) ∧
    ((fun (now : Nat) (n : Fin 8) (s : State) => (s.Running) ∧ (s.sparam pBkTbt n ≠ 0) ∧ ((s.bk n).due = false) ∧ (s.dueAt n ≤ max s.now now)) (3600 * secU) 7 (config [(27, 7, 1)] up)) ∧
    ((fun (now : Nat) (n : Fin 8) (s : State) => (s.Running) ∧ ((s.bk n).due = true) ∧ (s.dueAt n + s.sparam pBkGrace n * 3600 * secU ≤ max s.now now)) (7200 * secU) 7 ((config [(27, 7, 1), (28, 7, 1)] up).setBk 7 { due := true })) := by
  decide +kernel

/-- Operands and states that meet the hypotheses of MailboxRequestsComplete, clause by clause. -/
theorem witness_mailbox_requests_complete :
    ((fun (now : Nat) (req : Requester) (data : Word) (flashOk : Bool) (s : State) => (s.Running) ∧ (s.Submits req data) ∧ (s.reqOp = 1) ∧ ((s.mayChange true true true).2 = 0) ∧ (s.reqWord 18 ≠ 0) ∧ (s.reqWord 18 ≤ 65536) ∧ (safetyGood s.section_ = true) ∧ ((s.ownerSlot (slice s.section_ 32 96)).isSome = true) ∧ (ecdsaVerify (slice s.section_ 32 96) s.sectionBody (slice s.section_ s.sectionBody.length 96) = true) ∧ (s.sectionBound s.section_ = true) ∧ (s.safetyOk (sectionParams s.section_) = true)) 5 .host 1 true (asked 1 0x100 232 (passworded (owned { up with dram := placed 0x100 secBytes })))) ∧
    ((fun (now : Nat) (req : Requester) (data : Word) (flashOk : Bool) (s : State) => (s.Running) ∧ (s.Submits req data) ∧ (s.reqOp = 2) ∧ ((s.mayChange (!isService (s.reqWord 17 / 256)) true true).2 = 0) ∧ (s.safeMode ≠ 0) ∧ (paramIds.contains (s.reqWord 17) = true) ∧ (s.safetyOk (Tbl.set 0 s.safe.cfg (s.reqWord 17) (s.reqWord 18)) = true)) 5 (.mgmt 1) 1 true (asked 2 0x2000 60 (passworded (config [(32, 0, 1)] up)))) ∧
    ((fun (now : Nat) (req : Requester) (data : Word) (s : State) => (s.Running) ∧ (s.Submits req data) ∧ (s.reqOp = 3) ∧ ((s.mayChange true s.safe.pw.isSome true).2 = 0) ∧ (8 ≤ s.reqWord 17 % 256) ∧ (s.reqWord 17 % 256 ≤ 64)) 5 .host 1 (asked 3 8 7 up)) ∧
    ((fun (now : Nat) (req : Requester) (data : Word) (s : State) => (s.Running) ∧ (s.Submits req data) ∧ (s.reqOp = 4) ∧ ((s.mayChange true true false).2 = 0)) 5 .host 1 ((asked 4 0 0 (passworded up)).put R.SAFV_LOG.ENTRIES 4096)) ∧
    ((fun (now : Nat) (req : Requester) (data : Word) (flashOk : Bool) (s : State) => (s.Running) ∧ (s.Submits req data) ∧ (s.reqOp = 5) ∧ (s.reqRole ≤ 1) ∧ (s.reqWord 17 < 8) ∧ (s.mayTest (s.reqWord 17) = true)) 5 .host 1 true (asked 5 7 0 (config [(16, 7, 1), (23, 7, 1)] up))) ∧
    ((fun (now : Nat) (req : Requester) (data : Word) (flashOk : Bool) (h : HoldTest) (s : State) => (s.Running) ∧ (s.Submits req data) ∧ (s.reqOp = 6) ∧ (s.reqRole ≤ 1) ∧ (s.reqWord 17 < 8) ∧ (s.safe.test = some h) ∧ (h.ch = s.reqWord 17) ∧ (h.phase ≠ 3)) 5 .host 1 true { ch := 7, phase := 2, at_ := 0 } (let s := asked 6 7 0 up; s.setSafe { s.safe with test := some { ch := 7, phase := 2, at_ := 0 } })) ∧
    ((fun (now : Nat) (req : Requester) (data : Word) (flashOk : Bool) (s : State) => (s.Running) ∧ (s.Submits req data) ∧ (s.reqOp = 7) ∧ (s.reqRole ≤ 1) ∧ (s.reqWord 17 ≠ 0) ∧ (s.reqWord 17 ≤ s.get R.SAFV_LOG.ENTRIES)) 5 .host 1 true { (asked 7 2 0 up).put R.SAFV_LOG.ENTRIES 2 with flash := [(entryAt 2, 7), (entryAt 2 + 255, 8)] }) ∧
    ((fun (now : Nat) (req : Requester) (data : Word) (flashOk : Bool) (s : State) => (s.Running) ∧ (s.Submits req data) ∧ ((s.reqOp = 0 ∨ 7 < s.reqOp))) 5 .host 1 true (asked 8 0 0 up)) ∧
    ((fun (now : Nat) (confirmed : Bool) (c : NewCfg) (s : State) => (s.Running) ∧ (s.safe.newCfg = some c) ∧ (c.tick ≤ (s.wbAt 0 (max s.now now) / ((250 * usU : Nat) : Int)).toNat) ∧ ((s.isPaired = true → confirmed = true))) secU false ⟨4000, [(8192, 1)], true, []⟩ (let s := up.put R.SYS_SPMB_ST.BUSY 1; s.setSafe { s.safe with newCfg := some ⟨4000, [(8192, 1)], true, []⟩ })) ∧
    ((fun (now : Nat) (a : Nat) (s : State) => (s.Running) ∧ (s.safe.lockAt = some a) ∧ (a + 900 * secU ≤ max s.now now)) (900 * secU) 0 ((up.put R.SAFV_STATE.LOCKOUT 1).setSafe { lockAt := some 0 })) := by
  refine ⟨?_, ?_, ?_, ?_, ?_, ?_, ?_, ?_, ?_, ?_⟩
  · refine ⟨?_, ?_, ?_, ?_, ?_, ?_, ?_, ?_, ?_, ?_, ?_⟩ <;> decide +kernel
  · refine ⟨?_, ?_, ?_, ?_, ?_, ?_, ?_⟩ <;> decide +kernel
  · refine ⟨?_, ?_, ?_, ?_, ?_, ?_⟩ <;> decide +kernel
  · refine ⟨?_, ?_, ?_, ?_⟩ <;> decide +kernel
  · decide +kernel
  · decide +kernel
  · decide +kernel
  · decide +kernel
  · decide +kernel
  · decide +kernel

/-- Operands and states that meet the hypotheses of ZhocyEventsComplete, clause by clause. -/
theorem witness_zhocy_events_complete :
    ((fun (now : Nat) (rx : Rx) (c : Nat) (s : State) => (s.Running) ∧ (s.consumes rx = true) ∧ (rx.frame.flow = 4) ∧ (rx.frame.type = 0) ∧ (s.safeMode ≠ 0) ∧ (rx.frame.body.length = 16 + (rx.frame.body.getD 10 0).toNat) ∧ ((rx.frame.body.getD 10 0).toNat ≤ 64) ∧ (chans8.find? (fun c => s.zcOn c && s.sparam pZcConnid c == beNat (slice rx.frame.body 0 4) && (rx.frame.body.getD 11 0).toNat % 2 == 0) = some c) ∧ (s.zcRefuses c rx.frame.body = none)) 5 { port := 1, frame := { flow := 4, type := 0, length := 16, payload := [0, 0, 0, 9, 0, 1, 0, 5, 0, 7, 0, 0] ++ beBytes 4 (crc32cFrom 77 [0, 0, 0, 9, 0, 1, 0, 5, 0, 7, 0, 0]) } } 7 (config [(48, 7, 1), (49, 7, 9), (50, 7, 77), (53, 7, 1000)] (linked 1 up))) ∧
    ((fun (now : Nat) (c : Fin 8) (d : Nat) (s : State) => (s.Running) ∧ (s.zcOn c = true) ∧ ((s.zc c).deadline = some d) ∧ (d ≤ max s.now now)) 5 7 5 ((config [(48, 7, 1), (52, 7, 128)] up).setZc 7 { deadline := some 5 })) ∧
    ((fun (now : Nat) (c : Fin 8) (s : State) => (s.Running) ∧ (s.isFollow = false) ∧ (s.zcOn c = true) ∧ (s.sparam pZcTxper c ≠ 0) ∧ (s.safeMode ≠ 0) ∧ ((s.zc c).sentAt ≠ some (s.wbAt 0 (max s.now now) / ((s.sparam pZcTxper c * msU : Nat) : Int)).toNat)) 5 7 ((config [(48, 7, 1), (55, 7, 1)] up).put (R.SAFV_ZC_SEQ.SEQTX 7) 65535)) := by
  decide +kernel

/-- Operands and states that meet the hypotheses of HostPortCompletes, clause by clause. -/
theorem witness_host_port_completes :
    ((fun (now : Nat) (header addr crc : Word) (u : State) (ws : List Nat) (s : State) => (s.Running) ∧ (hostWhole 0 header addr [] crc) ∧ (s.noEarly) ∧ ((s.tick now).readWords .host (hostAddrs header addr) = (u, ws, none))) 5 (hostHeader 0 1) 0x40000004 (hostCrc 0 1 0x40000004 []) (((opened up).tick 5).readWords .host [0x40000004]).1 [0] (opened up)) ∧
    ((fun (now : Nat) (header addr : Word) (data : List Word) (crc : Word) (u : State) (k : Nat) (s : State) => (s.Running) ∧ (hostWhole 1 header addr data crc) ∧ (data.length = fget header 18 8) ∧ (s.noEarly) ∧ (writeWords .host ((hostAddrs header addr).zip data) 0 (s.tick now) = (u, k, false, []))) 5 (hostHeader 1 1) 0x40000004 [7] (hostCrc 1 1 0x40000004 [7]) (writeWords .host [(0x40000004, 7)] 0 ((opened up).tick 5)).1 1 (opened up)) ∧
    ((fun (now : Nat) (header addr crc : Word) (s : State) => (s.Running) ∧ (hostWhole 2 header addr [] crc) ∧ (s.noEarly)) 5 (hostHeader 2 0) 0 (hostCrc 2 0 0 []) up) ∧
    ((fun (now : Nat) (late : Bool) (s : State) => (s.Running)) 5 false up) ∧
    ((fun (now : Nat) (header addr crc : Word) (late : Bool) (s : State) => (s.Running) ∧ (hostWhole 2 header addr [] crc)) 5 (hostHeader 2 0) 0 (hostCrc 2 0 0 []) false up) ∧
    ((fun (now : Nat) (half : Fin 8192) (a : Nat) (s : State) => (s.Running) ∧ (half.val % 2 = 0) ∧ (s.legacyWord half = some a)) 5 0x7FE 0x10000FFC { up with host := { up.host with result := 9 } }) ∧
    ((fun (now : Nat) (half : Fin 8192) (data : BitVec 16) (a : Nat) (s : State) => (s.Running) ∧ (half.val % 2 = 0) ∧ (s.legacyWord half = some a)) 5 0x1000 0xBEEF 0x6000 (up.put R.SYS_HOSTPAGE.PAGE 3)) ∧
    ((fun (now : Nat) (data : BitVec 16) (l : Nat) (s : State) => (s.Running) ∧ (s.host.low = some (R.SYS_HOSTPAGE.addr, l)) ∧ (l < 2 ^ 16) ∧ (s.permits .host R.SYS_HOSTPAGE.addr 4 true = true)) 5 0xABCD 0x6000 { opened up with host := { up.host with low := some (R.SYS_HOSTPAGE.addr, 0x6000) } }) := by
  refine ⟨?_, ?_, ?_, ?_, ?_, ?_, ?_, ?_⟩
  · refine ⟨?_, ?_, ?_, ?_⟩ <;> decide +kernel
  · refine ⟨?_, ?_, ?_, ?_, ?_⟩ <;> decide +kernel
  · decide +kernel
  · decide +kernel
  · decide +kernel
  · decide +kernel
  · decide +kernel
  · decide +kernel

/-- Operands and states that meet the hypotheses of ManagementRequestsComplete, clause by clause. -/
theorem witness_management_requests_complete :
    ((fun (now : Nat) (rx : Rx) (u : State) (ws : List Nat) (s : State) => (s.Running) ∧ ((s.tick now).AcceptsRequest rx 0) ∧ (((s.tick now).accepted rx).readWords (mgmtBy rx.frame) (mgmtAddrs rx.frame) = (u, ws, none)) ∧ (u.portUp rx.port = true) ∧ ((rx.frame.stype = 1 ∨ rx.frame.stype = 2 → u.reach rx.port = true))) 5 { port := 1, frame := mgmtFrame 0 0x40000004 [] } ((({ keyed (opened ((linked 1 up).put R.SYS_CHAINPOS.REACH_B 1)) with now := 5 } : State).accepted { port := 1, frame := mgmtFrame 0 0x40000004 [] }).readWords (mgmtBy (mgmtFrame 0 0x40000004 [])) [0x40000004]).1 [0] (keyed (opened ((linked 1 up).put R.SYS_CHAINPOS.REACH_B 1)))) ∧
    ((fun (now : Nat) (rx : Rx) (u : State) (k : Nat) (s : State) => (s.Running) ∧ ((s.tick now).AcceptsRequest rx 2) ∧ (writeWords (mgmtBy rx.frame) (mgmtWords rx.frame) 0 ((s.tick now).accepted rx) = (u, k, false, [])) ∧ (u.portUp rx.port = true) ∧ ((rx.frame.stype = 1 ∨ rx.frame.stype = 2 → u.reach rx.port = true))) 5 { port := 1, frame := mgmtFrame 2 0x40000004 [1, 2, 3, 4] } (writeWords (mgmtBy (mgmtFrame 2 0x40000004 [1, 2, 3, 4])) (mgmtWords (mgmtFrame 2 0x40000004 [1, 2, 3, 4])) 0 (({ keyed (opened ((linked 1 up).put R.SYS_CHAINPOS.REACH_B 1)) with now := 5 } : State).accepted { port := 1, frame := mgmtFrame 2 0x40000004 [1, 2, 3, 4] })).1 1 (keyed (opened ((linked 1 up).put R.SYS_CHAINPOS.REACH_B 1)))) ∧
    ((fun (now : Nat) (rx : Rx) (u : State) (k : Nat) (left : List (Nat × Word)) (s : State) => (s.Running) ∧ ((s.tick now).AcceptsRequest rx 2) ∧ (writeWords (mgmtBy rx.frame) (mgmtWords rx.frame) 0 ((s.tick now).accepted rx) = (u, k, false, left)) ∧ (left ≠ []) ∧ (asksReport left = false)) 5 { port := 1, frame := mgmtFrame 2 0x100004 [1, 2, 3, 4] } (writeWords (mgmtBy (mgmtFrame 2 0x100004 [1, 2, 3, 4])) (mgmtWords (mgmtFrame 2 0x100004 [1, 2, 3, 4])) 0 (({ keyed (linked 1 up) with now := 5 } : State).accepted { port := 1, frame := mgmtFrame 2 0x100004 [1, 2, 3, 4] })).1 0 [(0x100004, 0x01020304)] (keyed (linked 1 up))) ∧
    ((fun (now : Nat) (ph : Phys) (m : MedReq) (rest : List MedReq) (u : State) (s : State) => (s.Running) ∧ (s.host.meds = m :: rest) ∧ (finishWords m.req ph m.words m.index (s.tick now).withoutFirst = (u, none)) ∧ (u.Running) ∧ (m.rx = none) ∧ (m.legacy = false) ∧ (m.early = false)) 5 {} { req := .host, words := [(R.SYS_SPMB_REQ 0 |>.addr, 7)] } [] (finishWords .host {} [(R.SYS_SPMB_REQ 0 |>.addr, 7)] 0 ({ up with now := 5 } : State)).1 { up with host := { up.host with meds := [{ req := .host, words := [(R.SYS_SPMB_REQ 0 |>.addr, 7)] }] } }) ∧
    ((fun (now : Nat) (ph : Phys) (m : MedReq) (rest : List MedReq) (u : State) (p : Nat) (f : Frame) (s : State) => (s.Running) ∧ (s.host.meds = m :: rest) ∧ (finishWords m.req ph m.words m.index (s.tick now).withoutFirst = (u, none)) ∧ (u.Running) ∧ (m.rx = some (p, f)) ∧ (u.portUp p = true) ∧ ((f.stype = 1 ∨ f.stype = 2 → u.reach p = true))) 5 {} { req := .mgmt 0, words := [(R.SYS_SPMB_REQ 0 |>.addr, 7)], rx := some (2, {}) } [] (finishWords (.mgmt 0) {} [(R.SYS_SPMB_REQ 0 |>.addr, 7)] 0 ({ linked 2 up with now := 5 } : State)).1 2 {} { linked 2 up with host := { up.host with meds := [{ req := .mgmt 0, words := [(R.SYS_SPMB_REQ 0 |>.addr, 7)], rx := some (2, {}) }] } }) := by
  refine ⟨?_, ?_, ?_, ?_, ?_⟩
  · refine ⟨?_, ⟨?_, ?_, ?_, ?_, ?_, ?_, ?_⟩, ?_, ?_, ?_⟩ <;> decide +kernel
  · refine ⟨?_, ⟨?_, ?_, ?_, ?_, ?_, ?_, ?_⟩, ?_, ?_, ?_⟩ <;> decide +kernel
  · refine ⟨?_, ⟨?_, ?_, ?_, ?_, ?_, ?_, ?_⟩, ?_, ?_, ?_⟩ <;> decide +kernel
  · decide +kernel
  · decide +kernel

/-- Operands and states that meet the hypotheses of PairLinkEventsComplete, clause by clause. -/
theorem witness_pair_link_events_complete :
    ((fun (now : Nat) (s : State) => (s.Running) ∧ (s.linkRuns = true) ∧ ((s.pair.beatTx.all fun a => decide (a + 50 * usU ≤ max s.now now)) = true)) (50 * usU) { up with pair := { beatTx := some 0 } }) ∧
    ((fun (now : Nat) (follow : Bool) (unit cycle : Nat) (state : Fin 4) (s : State) => (s.Running) ∧ (s.linkRuns = true)) 5 true 9 8 2 (up.put R.SYS_CHAINPOS.PAIRED 1)) ∧
    ((fun (now : Nat) (cut : List Nat) (a : Nat) (s : State) => (s.Running) ∧ (s.isPaired = true) ∧ (s.isFollow = true) ∧ (s.pair.beatAt = some a) ∧ (a + 200 * usU ≤ max s.now now)) (200 * usU) [] 0 { (up.put R.SYS_CHAINPOS.PAIRED 1).put R.SYS_CHAINPOS.FOLLOW 1 with pair := { beatAt := some 0 } }) ∧
    ((fun (now : Nat) (cut : List Nat) (a : Nat) (s : State) => (s.Running) ∧ (s.isPaired = true) ∧ (s.isFollow = false) ∧ (s.get R.PAR_STAT.STATE ≠ 0) ∧ (s.pair.beatAt = some a) ∧ (a + 200 * usU ≤ max s.now now)) (200 * usU) [] 0 { (up.put R.SYS_CHAINPOS.PAIRED 1).put R.PAR_STAT.STATE 2 with pair := { beatAt := some 0 } }) ∧
    ((fun (now : Nat) (cut : List Nat) (s : State) => (s.Running) ∧ (s.isPaired = true) ∧ (s.isFollow = true) ∧ (s.linkRuns = true)) 5 [] ((up.put R.SYS_CHAINPOS.PAIRED 1).put R.SYS_CHAINPOS.FOLLOW 1)) ∧
    ((fun (now : Nat) (a c d : Nat) (s : State) => (s.Running) ∧ (s.pair.declared = some (a, c, d)) ∧ (a + s.cycleU ≤ max s.now now)) secU 0 1 9 { up with pair := { declared := some (0, 1, 9) } }) ∧
    ((fun (now : Nat) (lane : Fin 2) (s : State) => (s.Running) ∧ (hasBit (s.get R.PAR_STAT.LANES) lane = true)) 5 1 (up.put R.PAR_STAT.LANES 3)) ∧
    ((fun (now : Nat) (lane : Fin 2) (s : State) => (s.Running) ∧ (s.linkRuns = true) ∧ (hasBit (s.get R.PAR_STAT.LANES) lane = false)) 5 1 (up.put R.PAR_STAT.LANES 1)) ∧
    ((fun (now : Nat) (engine : Fin 7) (s : State) => (s.Running) ∧ (s.selfTests = true)) 5 6 ((up.put R.SYS_CHAINPOS.PAIRED 1).put R.SYS_CHAINPOS.FOLLOW 1)) ∧
    ((fun (now : Nat) (corrected uncorrected : Nat) (s : State) => (s.Running) ∧ (s.selfTests = true)) 5 70000 1 ((up.put R.SYS_CHAINPOS.PAIRED 1).put R.SYS_CHAINPOS.FOLLOW 1)) ∧
    ((fun (now : Nat) (a : Nat) (s : State) => (s.Running) ∧ (s.pair.faultAt = some a) ∧ (s.get R.PAR_STAT.STATE = 3) ∧ (s.isFollow = true) ∧ (a + 60 * secU ≤ max s.now now)) (60 * secU) 0 { (up.put R.PAR_STAT.STATE 3).put R.SYS_CHAINPOS.FOLLOW 1 with pair := { faultAt := some 0 } }) ∧
    ((fun (now : Nat) (tjMax : Int) (s : State) => (s.Running) ∧ (s.selfTests = true) ∧ ((s.pair.healthTx.all fun a => decide (a + secU ≤ max s.now now)) = true)) secU 9000 { (up.put R.SYS_CHAINPOS.PAIRED 1).put R.SYS_CHAINPOS.FOLLOW 1 with pair := { healthTx := some 0, bist := 3 } }) ∧
    ((fun (now : Nat) (rx : Rx) (s : State) => (s.Running) ∧ (s.consumes rx = true) ∧ (rx.frame.flow = 3) ∧ (rx.frame.type = 4)) 5 { port := 1, frame := { flow := 3, type := 4, length := 2, payload := [1, 2, 3] } } ((linked 1 up).put (R.PRT_P_STAT.PARTNER 1) 1)) := by
  decide +kernel

/-- Operands and states that meet the hypotheses of PairCopiesComplete, clause by clause. -/
theorem witness_pair_copies_complete :
    ((fun (now : Nat) (c : StateCopy) (s : State) => (s.Running) ∧ (s.isPaired = true) ∧ (s.isFollow = true) ∧ (s.linkRuns = true)) 5 { cycle := 3, runid := 0x12345 } ((up.put R.SYS_CHAINPOS.PAIRED 1).put R.SYS_CHAINPOS.FOLLOW 1)) ∧
    ((fun (now : Nat) (c : StateCopy) (s : State) => (s.Running) ∧ (s.isPaired = true) ∧ (s.isFollow = true) ∧ (s.linkRuns = true)) 5 {} ((up.put R.SYS_CHAINPOS.PAIRED 1).put R.SYS_CHAINPOS.FOLLOW 1)) ∧
    ((fun (now : Nat) (m : CommitMsg) (s : State) => (s.Running) ∧ (s.isPaired = true) ∧ (s.isFollow = true) ∧ (s.linkRuns = true) ∧ (m.image = none)) 5 { words := [(R.IOT_COMMIT.addr, 0)], kinds := 0x35, at_ := 7 } ((up.put R.SYS_CHAINPOS.PAIRED 1).put R.SYS_CHAINPOS.FOLLOW 1)) ∧
    ((fun (now : Nat) (v : Word) (s : State) => (s.Running) ∧ (s.isPaired = true) ∧ (s.isFollow = true) ∧ (s.linkRuns = true)) 5 0x81 ((up.put R.SYS_CHAINPOS.PAIRED 1).put R.SYS_CHAINPOS.FOLLOW 1)) ∧
    ((fun (now : Nat) (n : NewCfg) (s : State) => (s.Running) ∧ (s.isPaired = true) ∧ (s.isFollow = true) ∧ (s.linkRuns = true)) 5 ⟨4, [], false, []⟩ ((up.put R.SYS_CHAINPOS.PAIRED 1).put R.SYS_CHAINPOS.FOLLOW 1)) ∧
    ((fun (now : Nat) (s : State) => (s.Running) ∧ (s.isPaired = true) ∧ (s.commits.kinds ≠ 0) ∧ (s.commits.notBefore ≤ s.time.cycleIdx + 1)) 5 { up.put R.SYS_CHAINPOS.PAIRED 1 with commits := { tim := true, notBefore := 1 }, pair := { confirmed := true } }) := by
  decide +kernel

/-- Operands and states that meet the hypotheses of SwapEventsComplete, clause by clause. -/
theorem witness_swap_events_complete :
    ((fun (now : Nat) (req : Requester) (data : Word) (peer : Option (List Byte)) (s : State) => (s.Running) ∧ (s.mayWrite req R.PAR_SWAP.addr req.isEngineer = true) ∧ (data.toNat % 2 ^ 16 = 0x5A3C) ∧ (hasBit data.toNat 16 = true) ∧ (hasBit data.toNat 17 = false) ∧ (s.isPaired = true) ∧ (s.isFollow = false) ∧ (s.pair.swap = none) ∧ (s.pair.partnerState = 2) ∧ (s.hasPartner = true)) 5 (.mgmt 1) 0x15A3C none { (up.put R.SYS_CHAINPOS.PAIRED 1).put R.PAR_STAT.STATE 2 with pair := { partnerState := 2 } }) ∧
    ((fun (now : Nat) (w : SwapSt) (s : State) => (s.Running) ∧ (s.pair.swap = some w) ∧ (w.step ≤ 3) ∧ (s.isFollow = false)) 5 ⟨2, true, 0, none⟩ { up.put R.SYS_CHAINPOS.PAIRED 1 with pair := { swap := some ⟨2, true, 0, none⟩ } }) ∧
    ((fun (now : Nat) (w : SwapSt) (s : State) => (s.Running) ∧ (s.pair.swap = some w) ∧ (w.step ≤ 3) ∧ (s.isFollow = true) ∧ (s.rehearsed = true)) 5 ⟨2, true, 0, none⟩ { up.put R.SYS_CHAINPOS.FOLLOW 1 with pair := { swap := some ⟨2, true, 0, none⟩, mute := [3] } }) ∧
    ((fun (now : Nat) (w : SwapSt) (s : State) => (s.Running) ∧ (s.pair.swap = some w) ∧ (w.step ≤ 3) ∧ (w.at_ + 10 * secU ≤ max s.now now) ∧ (s.isFollow = false)) (10 * secU) ⟨2, true, 0, none⟩ { up.put R.PAR_STAT.SWAPPING 1 with pair := { swap := some ⟨2, true, 0, none⟩ } }) ∧
    ((fun (now : Nat) (h : Handover) (w : SwapSt) (b : Nat) (s : State) => (s.Running) ∧ (s.pair.swap = some w) ∧ (w.step = 4) ∧ (w.b = some b) ∧ (w.image = false) ∧ (b ≤ s.time.cycleIdx) ∧ (s.isFollow = false)) 5 {} ⟨4, false, 0, some 0⟩ 0 { up with pair := { swap := some ⟨4, false, 0, some 0⟩ } }) ∧
    ((fun (now : Nat) (h : Handover) (w : SwapSt) (b : Nat) (s : State) => (s.Running) ∧ (s.pair.swap = some w) ∧ (w.step = 4) ∧ (w.b = some b) ∧ (w.image = false) ∧ (b ≤ s.time.cycleIdx) ∧ (s.isFollow = true)) 5 {} ⟨4, false, 0, some 0⟩ 0 { up.put R.SYS_CHAINPOS.FOLLOW 1 with pair := { swap := some ⟨4, false, 0, some 0⟩ } }) ∧
    ((fun (now : Nat) (w : SwapSt) (s : State) => (s.Running) ∧ (s.pair.swap = some w) ∧ (w.step = 6) ∧ (s.isFollow = false) ∧ (s.pair.partnerState = 2)) 5 ⟨6, false, 0, some 0⟩ { up with pair := { swap := some ⟨6, false, 0, some 0⟩, partnerState := 2 } }) ∧
    ((fun (now : Nat) (w : SwapSt) (s : State) => (s.Running) ∧ (s.pair.swap = some w) ∧ (w.step = 6) ∧ (s.isFollow = true) ∧ (16 ≤ s.pair.copies) ∧ (s.settled = true)) 5 ⟨6, false, 0, some 0⟩ { up.put R.SYS_CHAINPOS.FOLLOW 1 with pair := { swap := some ⟨6, false, 0, some 0⟩, copies := 16 } }) := by
  decide +kernel

/-- Operands and states that meet the hypotheses of KeyOperationsComplete, clause by clause. -/
theorem witness_key_operations_complete :
    ((fun (now : Nat) (req : Requester) (data : Word) (missed : List (Nat × Nat)) (s : State) => (s.Running) ∧ (s.StartsSec req data 1)) 5 .host 0x41 [] up) ∧
    ((fun (now : Nat) (req : Requester) (data : Word) (k : Nat) (s : State) => (s.Running) ∧ (s.StartsSec req data 2) ∧ (s.on R.SYS_STRAP.SEAL_OPEN = true) ∧ ([0, 1, 2, 3].find? (fun j => !s.ownerSpent j) = some k) ∧ (ecdsaVerify (s.reqPart 0) (s.keyMsg (s.reqPart 0)) (s.reqPart 24) = true) ∧ (([0, 1, 2, 3].all (fun j => !s.enrolled j) = true ∨ (s.keySigner (s.reqPart 0)).isSome = true))) 5 (.mgmt 0) 0x42 0 (requested 24 sigEnrol (requested 0 key7 up))) ∧
    ((fun (now : Nat) (req : Requester) (data : Word) (j : Nat) (s : State) => (s.Running) ∧ (s.StartsSec req data 3) ∧ (s.on R.SYS_STRAP.SEAL_OPEN = true) ∧ (s.liveKeys ≠ [data.toNat / 16 % 4]) ∧ (s.keySigner (beBytes 1 (data.toNat / 16 % 4)) = some j) ∧ (j ≠ data.toNat / 16 % 4)) 5 (.mgmt 0) 0x53 0 (requested 72 sigRevoke (requested 48 key7 (let s := owned up; { s with fuse := Tbl.set 0 (Tbl.set 0 s.fuse 0xC50 3) 0xC2C 9 })))) ∧
    ((fun (now : Nat) (req : Requester) (data : Word) (s : State) => (s.Running) ∧ (s.StartsSec req data 4) ∧ (s.on R.SYS_STRAP.SEAL_OPEN = true) ∧ ((s.keySigner []).isSome = true)) 5 (.mgmt 0) 0x44 (requested 72 sigOwnerFw (requested 48 key7 (owned up)))) ∧
    ((fun (now : Nat) (req : Requester) (data : Word) (op : Nat) (missed : List (Nat × Nat)) (s : State) => (s.Running) ∧ ((op = 0 ∨ 4 < op)) ∧ (s.StartsSec req data op)) 5 (.mgmt 3) 0x4F 15 [] up) ∧
    ((fun (now : Nat) (req : Requester) (data : Word) (s : State) => (s.Running) ∧ (req.isPl0 = true) ∧ (s.Accepts req R.SEC_DMCTL.addr) ∧ (hasBit data.toNat 3 = true) ∧ ((s.on R.SEC_DMCTL.LOCKED && decide (data.toNat % 8 < 3)) = false)) 5 (.core0 0) 0xB (opened up)) ∧
    ((fun (now : Nat) (req : Requester) (data : Word) (s : State) => (s.Running) ∧ (req.isPl0 = true) ∧ (s.Accepts req R.SEC_DMCTL.addr) ∧ (hasBit data.toNat 4 = true)) 5 (.core1 0) 0x10 (opened up)) := by
  refine ⟨?_, ?_, ?_, ?_, ?_, ?_, ?_⟩
  · decide +kernel
  · refine ⟨?_, ⟨?_, ?_, ?_, ?_⟩, ?_, ?_, ?_, Or.inl ?_⟩ <;> decide +kernel
  · refine ⟨?_, ⟨?_, ?_, ?_, ?_⟩, ?_, ?_, ?_, ?_⟩ <;> decide +kernel
  · refine ⟨?_, ⟨?_, ?_, ?_, ?_⟩, ?_, ?_⟩ <;> decide +kernel
  · decide +kernel
  · decide +kernel
  · decide +kernel

/-- Operands and states that meet the hypotheses of FarandoleRequestsComplete, clause by clause. -/
theorem witness_farandole_requests_complete :
    ((fun (now : Nat) (s : State) => (s.Running) ∧ (s.isFollow = false) ∧ (s.sessNo ≠ 0) ∧ ((s.sec.offerAt.all fun a => decide (a + secU ≤ max s.now now)) = true)) secU (withFetch { img := 7 } { up with sec := { offerAt := some 0 } })) ∧
    ((fun (now : Nat) (rx : Rx) (s : State) => (s.Running) ∧ (s.consumes rx = true) ∧ (rx.frame.flow = 6) ∧ (rx.frame.type = 0) ∧ (rx.frame.length = 60) ∧ (s.isFollow = false)) 5 (updFrame 0 77 0x10001 (beBytes 8 0x0000000300000009 ++ List.replicate 52 0)) (linked 1 up)) ∧
    ((fun (now : Nat) (req : Requester) (digest : List Byte) (s : State) => (s.Running) ∧ (req.isOwner = true) ∧ (digest.length = 48) ∧ (s.isFollow = false) ∧ (s.inConflict (digestImg (beNat digest)) = false) ∧ (s.sessMan.map (·.digest) ≠ some digest)) 5 (.mgmt 0) (List.replicate 48 7) up) ∧
    ((fun (now : Nat) (rx : Rx) (x : SessSt) (m : Manifest) (s : State) => (s.Running) ∧ (s.consumes rx = true) ∧ (rx.frame.flow = 6) ∧ (rx.frame.type = 1) ∧ (s.sec.sess = some x) ∧ (s.sessMan = some m) ∧ (m.imgId = rx.frame.a) ∧ (s.inConflict rx.frame.a = false) ∧ (s.get R.UPD_CFG.UPDRATE ≠ 0) ∧ (s.inService rx.port < 2) ∧ (s.portUp rx.port = true) ∧ (rx.frame.stype = 0) ∧ (rx.frame.src < 1024)) 5 (updFrame 1 man.imgId 0 []) { man := manBytes } man (withSess { man := manBytes } ((linked 1 up).put R.UPD_CFG.UPDRATE 9))) ∧
    ((fun (now : Nat) (rx : Rx) (x : SessSt) (m : Manifest) (s : State) => (s.Running) ∧ (s.consumes rx = true) ∧ (rx.frame.flow = 6) ∧ (rx.frame.type = 3) ∧ ((rx.frame.length = 0 ∨ rx.frame.length = 8)) ∧ (s.sec.sess = some x) ∧ (s.sessMan = some m) ∧ (m.imgId = rx.frame.a) ∧ (s.inConflict rx.frame.a = false) ∧ (s.get R.UPD_CFG.UPDRATE ≠ 0) ∧ (s.inService rx.port < 2) ∧ (x.blocks.any (fun e => e.1 == rx.frame.b / 2 ^ 16) = true)) 5 (updFrame 3 man.imgId 9 []) { man := manBytes, blocks := [(0, [0x55])] } man (withSess { man := manBytes, blocks := [(0, [0x55])] } ((linked 1 up).put R.UPD_CFG.UPDRATE 9))) ∧
    ((fun (now : Nat) (s : State) => (s.Running)) 5 up) := by
  refine ⟨?_, ?_, ?_, ?_, ?_, ?_⟩
  · decide +kernel
  · decide +kernel
  · decide +kernel
  · refine ⟨?_, ?_, ?_, ?_, ?_, sess_man _ _ rfl, ?_, ?_, ?_, ?_, ?_, ?_, ?_⟩ <;> decide +kernel
  · refine ⟨?_, ?_, ?_, ?_, ?_, ?_, sess_man _ _ rfl, ?_, ?_, ?_, ?_, ?_⟩ <;> decide +kernel
  · decide +kernel

/-- Operands and states that meet the hypotheses of FarandoleTransfersComplete, clause by clause. -/
theorem witness_farandole_transfers_complete :
    ((fun (now : Nat) (rx : Rx) (m : ManFetch) (s : State) => (s.Running) ∧ (s.consumes rx = true) ∧ (rx.frame.flow = 6) ∧ (rx.frame.type = 2) ∧ (s.sec.mfetch = some m) ∧ (m.src = some (senderKey rx.frame)) ∧ (m.img = rx.frame.a) ∧ (hasBit rx.frame.b 7 = false) ∧ (m.count = none)) 5 (updFrame 2 77 0x100 [1, 2]) { img := 77, src := some 5 } (withFetch { img := 77, src := some 5 } (linked 1 up))) ∧
    ((fun (now : Nat) (rx : Rx) (f : ManFetch) (m : Manifest) (s : State) => (s.Running) ∧ (s.consumes rx = true) ∧ (rx.frame.flow = 6) ∧ (rx.frame.type = 2) ∧ (s.sec.mfetch = some f) ∧ (f.src = some (senderKey rx.frame)) ∧ (f.img = rx.frame.a) ∧ (f.frags = []) ∧ (hasBit rx.frame.b 7 = true) ∧ (rx.frame.b / 256 % 256 = 0) ∧ (parseManifest rx.frame.body = some m) ∧ (m.bytes = rx.frame.body) ∧ (beNat ((sha384 rx.frame.body).take 4) = f.img) ∧ ((f.named.all fun n => n == beNat (sha384 rx.frame.body)) = true) ∧ ((s.acceptable 0 m || s.acceptable 1 m) = true) ∧ (s.sec.confl = []) ∧ (s.sessMan = none) ∧ (s.activeMan = none)) 5 (updFrame 2 man.imgId 0x80 manBytes) { img := man.imgId, src := some 5 } man (imaged 0 (withFetch { img := man.imgId, src := some 5 } (linked 1 up)))) ∧
    ((fun (now : Nat) (rx : Rx) (x : SessSt) (m : Manifest) (p : Nat) (o : FetchSt) (bytes : List Byte) (s : State) => (s.Running) ∧ (s.consumes rx = true) ∧ (rx.frame.flow = 6) ∧ (rx.frame.type = 4) ∧ (s.sec.sess = some x) ∧ (s.sessMan = some m) ∧ (m.imgId = rx.frame.a) ∧ ([0, 1].find? (fun q => ((x.out q).map fun o => o.src == senderKey rx.frame && o.block == rx.frame.b / 2 ^ 16 && o.rid == rx.frame.b % 256).getD false) = some p) ∧ (x.out p = some o) ∧ (rx.frame.b / 1024 % 64 < (m.blockLen o.block + 1439) / 1440) ∧ (joined (Tbl.set [] o.frags (rx.frame.b / 1024 % 64) rx.frame.body) ((m.blockLen o.block + 1439) / 1440) = some bytes) ∧ (sha384 bytes = m.hash o.block)) 5 (updFrame 4 man.imgId 0x203 [0x55]) { man := manBytes, fetch := [(0, some { src := 5, block := 0, rid := 3, at_ := 0 })] } man 0 { src := 5, block := 0, rid := 3, at_ := 0 } [0x55] (withSess { man := manBytes, fetch := [(0, some { src := 5, block := 0, rid := 3, at_ := 0 })] } (linked 1 up))) ∧
    ((fun (now : Nat) (rx : Rx) (m : ManFetch) (s : State) => (s.Running) ∧ (s.consumes rx = true) ∧ (rx.frame.flow = 6) ∧ (rx.frame.type = 5) ∧ (s.sec.mfetch = some m) ∧ (m.src = some (senderKey rx.frame)) ∧ (m.img = rx.frame.a)) 5 (updFrame 5 77 1 []) { img := 77, src := some 5 } (withFetch { img := 77, src := some 5 } (linked 1 up))) ∧
    ((fun (now : Nat) (rx : Rx) (x : SessSt) (m : Manifest) (p : Nat) (s : State) => (s.Running) ∧ (s.consumes rx = true) ∧ (rx.frame.flow = 6) ∧ (rx.frame.type = 5) ∧ (s.sec.mfetch = none) ∧ (s.sec.sess = some x) ∧ (s.sessMan = some m) ∧ (m.imgId = rx.frame.a) ∧ ([0, 1].find? (fun q => (x.out q).map (·.src) == some (senderKey rx.frame)) = some p)) 5 (updFrame 5 man.imgId 1 []) { man := manBytes, fetch := [(1, some { src := 5, block := 0, rid := 3, at_ := 0 })] } man 1 (withSess { man := manBytes, fetch := [(1, some { src := 5, block := 0, rid := 3, at_ := 0 })] } (linked 1 up))) ∧
    ((fun (now : Nat) (m : ManFetch) (k : Nat) (s : State) => (s.Running) ∧ (s.sec.mfetch = some m) ∧ (m.src = some k) ∧ (s.portUp (Tbl.get ({} : Holder) s.sec.holders k).port = true) ∧ (m.at_ + 200 * msU ≤ max s.now now) ∧ (m.tries < 3)) (200 * msU) { img := 77, src := some 5, tries := 2 } 5 (withFetch { img := 77, src := some 5, tries := 2 } { linked 1 up with sec := { holders := [(5, { port := 1 })] } })) ∧
    ((fun (now : Nat) (which : Fin 3) (x : SessSt) (m : Manifest) (o : FetchSt) (s : State) => (s.Running) ∧ (which.val < 2) ∧ (s.sec.sess = some x) ∧ (s.sessMan = some m) ∧ (x.out which = some o) ∧ (s.portUp which = true) ∧ (o.at_ + 200 * msU ≤ max s.now now) ∧ (o.tries < 3)) (200 * msU) 1 { man := manBytes, fetch := [(1, some { src := 5, block := 0, rid := 3, at_ := 0 })] } man { src := 5, block := 0, rid := 3, at_ := 0 } (withSess { man := manBytes, fetch := [(1, some { src := 5, block := 0, rid := 3, at_ := 0 })] } (linked 1 up))) ∧
    ((fun (now : Nat) (block : Nat) (x : SessSt) (m : Manifest) (e : Nat × List Byte) (s : State) => (s.Running) ∧ (s.sec.sess = some x) ∧ (s.sessMan = some m) ∧ (m.kind = 0) ∧ (x.complete = false) ∧ (x.stored.contains block = false) ∧ (x.blocks.find? (fun y => y.1 == block) = some e) ∧ (block < 384) ∧ (e.2.length ≤ 65536)) 5 0 { man := manBytes, blocks := [(0, [0x55])] } man (0, [0x55]) (withSess { man := manBytes, blocks := [(0, [0x55])] } up)) ∧
    ((fun (now : Nat) (rx : Rx) (s : State) => (s.Running) ∧ (s.consumes rx = true) ∧ (rx.frame.flow = 3) ∧ (rx.frame.type = 5) ∧ (s.isFollow = true) ∧ (hasBit rx.frame.b 8 = true) ∧ (hasBit rx.frame.b 9 = false) ∧ (s.sec.pushMan = none)) 5 { port := 1, frame := { flow := 3, type := 5, a := 77, b := 0x500, length := 2, payload := [1, 2, 3] } } (((linked 1 up).put (R.PRT_P_STAT.PARTNER 1) 1).put R.SYS_CHAINPOS.FOLLOW 1)) := by
  refine ⟨?_, ?_, ?_, ?_, ?_, ?_, ?_, ?_, ?_⟩
  · decide +kernel
  · refine ⟨?_, ?_, ?_, ?_, ?_, ?_, ?_, ?_, ?_, ?_, man_body _ (by decide +kernel), ?_, ?_, ?_, ?_, ?_, ?_, ?_⟩ <;> first | exact (by rw [imaged_acceptable]; rfl) | decide +kernel
  · refine ⟨?_, ?_, ?_, ?_, ?_, sess_man _ _ rfl, ?_, ?_, ?_, ?_, ?_, ?_⟩ <;> decide +kernel
  · decide +kernel
  · refine ⟨?_, ?_, ?_, ?_, ?_, ?_, sess_man _ _ rfl, ?_, ?_⟩ <;> decide +kernel
  · decide +kernel
  · refine ⟨?_, ?_, ?_, sess_man _ _ rfl, ?_, ?_, ?_, ?_⟩ <;> decide +kernel
  · refine ⟨?_, ?_, sess_man _ _ rfl, ?_, ?_, ?_, ?_, ?_, ?_⟩ <;> decide +kernel
  · decide +kernel

/-- Operands and states that meet the hypotheses of ActivationCommandsComplete, clause by clause. -/
theorem witness_activation_commands_complete :
    ((fun (now : Nat) (req : Requester) (data : Word) (x : SessSt) (m : Manifest) (s : State) => (s.Running) ∧ (s.mayWrite req R.UPD_CTL.addr req.isEngineer = true) ∧ (data.toNat % 2 ^ 16 = 0x7E2B) ∧ (data.toNat / 2 ^ 16 % 32 = 1) ∧ (s.sec.sess = some x) ∧ (x.complete = true) ∧ (s.sessMan = some m) ∧ (m.kind = 0)) 5 (.mgmt 1) 0x17E2B { man := manBytes, complete := true } man (withSess { man := manBytes, complete := true } up)) ∧
    ((fun (now : Nat) (req : Requester) (data : Word) (k : Nat) (s : State) => (s.Running) ∧ (s.mayWrite req R.UPD_CTL.addr false = true) ∧ (data.toNat % 2 ^ 16 = 0x7E2B) ∧ (data.toNat / 2 ^ 16 % 32 = 2) ∧ (s.sec.act = some k) ∧ (s.confirmedSlot k = false)) 5 (.core0 0) 0x27E2B 1 (opened fallen)) ∧
    ((fun (now : Nat) (req : Requester) (data : Word) (k : Nat) (m : Manifest) (s : State) => (s.Running) ∧ (s.mayWrite req R.UPD_CTL.addr req.isOwner = true) ∧ (data.toNat % 2 ^ 16 = 0x7E2B) ∧ (data.toNat / 2 ^ 16 % 32 = 4) ∧ (s.sec.act = some k) ∧ (s.confirmedSlot k = false) ∧ (s.fallback = some m)) 5 (.mgmt 0) 0x47E2B 1 man fallen) ∧
    ((fun (now : Nat) (req : Requester) (data : Word) (s : State) => (s.Running) ∧ (s.mayWrite req R.UPD_CTL.addr req.isEngineer = true) ∧ (data.toNat % 2 ^ 16 = 0x7E2B) ∧ (data.toNat / 2 ^ 16 % 32 = 8)) 5 (.mgmt 1) 0x87E2B (withSess { man := manBytes } up)) ∧
    ((fun (now : Nat) (req : Requester) (data : Word) (s : State) => (s.Running) ∧ (s.mayWrite req R.UPD_CTL.addr req.isOwner = true) ∧ (data.toNat % 2 ^ 16 = 0x7E2B) ∧ (data.toNat / 2 ^ 16 % 32 = 16)) 5 (.mgmt 0) 0x107E2B { up with sec := { confl := [(7, 9)] } }) ∧
    ((fun (now : Nat) (req : Requester) (data : Word) (s : State) => (s.Running) ∧ (req.isPl0 = true) ∧ (s.Accepts req R.UPD_CONFTMR.addr) ∧ (60 ≤ data.toNat % 2 ^ 12) ∧ (data.toNat % 2 ^ 12 ≤ 3600) ∧ (s.sec.deadline.isSome = true) ∧ (s.sec.rewritten = false)) 5 (.core0 0) 3600 (opened { up with sec := { deadline := some (60 * secU) } })) ∧
    ((fun (now : Nat) (d : Nat) (s : State) => (s.Running) ∧ (s.sec.deadline = some d) ∧ (d ≤ max s.now now)) 7 7 { up with sec := { deadline := some 7 } }) := by
  refine ⟨?_, ?_, ?_, ?_, ?_, ?_, ?_⟩
  · refine ⟨?_, ?_, ?_, ?_, ?_, ?_, sess_man _ _ rfl, ?_⟩ <;> decide +kernel
  · refine ⟨?_, ?_, ?_, ?_, ?_, fallen_unconfirmed⟩ <;> decide +kernel
  · refine ⟨?_, ?_, ?_, ?_, ?_, fallen_unconfirmed, fallen_fallback⟩ <;> decide +kernel
  · decide +kernel
  · decide +kernel
  · decide +kernel
  · decide +kernel

/-- Operands and states that meet the hypotheses of RecoveryCommandsComplete, clause by clause. -/
theorem witness_recovery_commands_complete :
    ((fun (now : Nat) (req : Requester) (data : Word) (s : State) => (s.rcvOpen req = true) ∧ (s.sec.rcv = none) ∧ (data.toNat % 4 ≠ 0)) 5 .host 3 (recovering up)) ∧
    ((fun (now : Nat) (req : Requester) (data : Word) (s : State) => (s.rcvOpen req = true) ∧ (s.sec.rcv = none) ∧ (data.toNat % 4 ≠ 0)) 5 .host 2 (recovering up)) ∧
    ((fun (now : Nat) (ok : Bool) (ops addr : Nat) (s : State) => (s.sec.rcv = some (ops, addr))) 5 false 1 0x800000 { recovering up with sec := { rcv := some (1, 0x800000) } }) ∧
    ((fun (now : Nat) (addr a : Nat) (s : State) => (s.sec.rcv = some (1, addr)) ∧ (addr / 65536 = a / 65536)) 5 0x800000 0x80FFFF { recovering up with flash := [(0x80FFFF, 7)], sec := { rcv := some (1, 0x800000) } }) ∧
    ((fun (now : Nat) (addr : Nat) (s : State) => (s.sec.rcv = some (3, addr))) 5 0x80FF80 { (recovering up).put (R.UPD_RCVDATA.DATA 63) 77 with flash := [(0x80FFFF, 7)], sec := { rcv := some (3, 0x80FF80) } }) := by
  decide +kernel

/-- Operands and states that meet the hypotheses of ChoreographyCommandsComplete, clause by clause. -/
theorem witness_choreography_commands_complete :
    ((fun (now : Nat) (req : Requester) (data : Word) (i : Img) (s : State) => (s.Running) ∧ (s.AsksChor req data 1) ∧ ((s.chor.bare = true → req = .host)) ∧ (s.checkImage (s.dramRead (4 * s.get R.SYS_CHOR_SRC.SRC) (s.get R.SYS_CHOR_LEN.LEN)) = .ok i) ∧ (((s.tick now).atWrite req 0x7FFFF data).candidateRej i = none)) 5 .host 0x14C9D img loadable) ∧
    ((fun (now : Nat) (req : Requester) (data : Word) (bytes : List Byte) (i : Img) (s : State) => (s.Running) ∧ (s.AsksChor req data 2) ∧ ((s.chor.bare = true → req = .host)) ∧ ((s.isPaired && s.isFollow) = false) ∧ (s.chor.pend = some bytes) ∧ (s.checkImage bytes = .ok i) ∧ (s.get R.SYS_CHOR_ST.CLASS ≠ 0) ∧ ((s.chor.force = none ∨ s.get R.SYS_CHOR_SERIAL.SERIAL < i.serial)) ∧ ((s.get R.SYS_CHOR_ST.CLASS = 2 → s.isPaired = false))) 5 .host 0x24C9D imgBytes img (pendingImage 2 up)) ∧
    ((fun (now : Nat) (req : Requester) (data : Word) (s : State) => (s.Running) ∧ (s.AsksChor req data 4) ∧ (s.chor.pend.isSome = true)) 5 (.mgmt 1) 0x44C9D (pendingImage 1 up)) ∧
    ((fun (now : Nat) (b : Int) (bytes : List Byte) (i : Img) (s : State) => (s.Running) ∧ (s.applying = true) ∧ (s.chor.b = some b) ∧ (s.chor.pend = some bytes) ∧ (s.chor.tiles = 0) ∧ (b ≤ ((s.time.cycleIdx * s.cycleU : Nat) : Int)) ∧ (s.checkImage bytes = .ok i) ∧ (((s.tick now).candidate i).firstRej groupCommit = none) ∧ ((s.get R.SYS_CHOR_ST.CLASS = 2 ∨ ∀ k : Fin 4, (s.tile k).framed = false))) 0 0 imgBytes img (applyingImage 2 0 up)) ∧
    ((fun (now : Nat) (slot : Nat) (b : List Byte) (s : State) => (s.Running) ∧ (s.chor.toStore = some slot) ∧ (s.chor.force = some b) ∧ (b.length ≤ 0x100000)) 5 1 [1, 2, 3] { up with chor := { force := some [1, 2, 3], toStore := some 1 } }) := by
  refine ⟨?_, ?_, ?_, ?_, ?_⟩
  · refine ⟨?_, ⟨?_, ?_, ?_, ?_⟩, ?_, loadable_check, loadable_passes⟩ <;> decide +kernel
  · refine ⟨?_, ⟨?_, ?_, ?_, ?_⟩, ?_, ?_, ?_, pending_check, ?_, ?_, ?_⟩ <;> decide +kernel
  · decide +kernel
  · refine ⟨?_, ?_, ?_, ?_, ?_, ?_, applying_check, applying_passes, ?_⟩ <;> decide +kernel
  · decide +kernel

/-- States that meet the hypotheses of StepTakesFront. -/
theorem witness_step_takes_front :
    ({ up with pending := [.nbWrap 0 1, .nbWrap 0 2] } : State).pending = .nbWrap 0 1 :: [.nbWrap 0 2] ∧ up.pending = [] := by
  decide +kernel

/-- An access that meets the hypotheses of ResetState. -/
theorem witness_reset_state : 2 ^ 36 - 4 + 4 ≤ 2 ^ 36 ∧ 0 < 4 := by decide +kernel

/-- A state that meets the hypotheses of DramStaysCanonical: its step stores bytes. -/
theorem witness_dram_stays_canonical :
    (fun s : State => Memory.wf s.dram = true ∧ (∀ e ∈ s.dram, e.1 < dramBytes) ∧
      (match step s with | .next t => t.dramByte 5 == 7 | _ => false) = true)
      { up with dram := [(3, 1)], pending := [.registerWrite 0 (.core0 0) 0x40000004 2 0x700 {}] } := by
  refine ⟨?_, ?_, ?_⟩ <;> decide +kernel

/-- A state that meets the hypothesis of FusesOnlyBurn: its step burns a word. -/
theorem witness_fuses_only_burn :
    (match step { up with pending := [.nbWrap 0 1], fuse := [(0x300, 5)] } with | .next t => Tbl.get 0 t.fuse 0x300 == 5 | _ => false) = true := by
  decide +kernel

/-- Commands that meet the hypotheses of MemoriesKept. -/
theorem witness_memories_kept :
    (Instr.nbWrap 0 1).mayDram = false ∧ (Instr.nbWrap 0 1).wide = false ∧ (Instr.nbWrap 0 1).mayFuse = false ∧
    (Instr.nbWrap 0 1).mayFlash = false ∧ (match exec (.nbWrap 0 1) up with | .next _ => true | _ => false) = true ∧
    (regAt? R.LOG_CFG.addr).isSome = true ∧
    (match exec (.registerWrite 0 (.core0 0) R.LOG_CFG.addr 4 1 {}) up with | .next _ => true | _ => false) = true := by
  decide +kernel

/-- A command that meets the hypotheses of ConfigurationKept. -/
theorem witness_configuration_kept :
    (Instr.nbWrap 0 1).wide = false ∧ (match exec (.nbWrap 0 1) up with | .next _ => true | _ => false) = true ∧
    (Instr.nbWrap 0 1).mayLive = false ∧ (Instr.nbWrap 0 1).mayKeys = false ∧ (Instr.nbWrap 0 1).mayCommits = false ∧
    (Instr.nbWrap 0 1).mayChains = false ∧ (Instr.nbWrap 0 1).mayCal = false ∧ (Instr.nbWrap 0 1).mayChor = false := by
  decide +kernel

/-- Commands that meet the hypotheses of UnitsKept. -/
theorem witness_units_kept :
    (Instr.mkaHelloSend 0 1).wide = false ∧ (match exec (.mkaHelloSend 0 1) up with | .next _ => true | _ => false) = true ∧
    (Instr.mkaHelloSend 0 1).maySys = false ∧ (Instr.mkaHelloSend 0 1).mayHost = false ∧ (Instr.mkaHelloSend 0 1).mayLatch = false ∧
    (Instr.mkaHelloSend 0 1).maySec = false ∧ (Instr.mkaHelloSend 0 1).mayDio = false ∧ (Instr.mkaHelloSend 0 1).mayCmp = false ∧
    (Instr.mkaHelloSend 0 1).mayTiles = false ∧ (Instr.mkaHelloSend 0 1).mayTime = false := by
  decide +kernel

/-- A command that meets the hypotheses of OthersKept. -/
theorem witness_others_kept :
    (Instr.sealChange 0 5).wide = false ∧ (match exec (.sealChange 0 5) up with | .next _ => true | _ => false) = true ∧
    (Instr.sealChange 0 5).mayResp = false ∧ (Instr.sealChange 0 5).maySafe = false ∧ (Instr.sealChange 0 5).mayPair = false ∧
    (Instr.sealChange 0 5).mayMon = false ∧ (Instr.sealChange 0 5).mayStrm = false ∧ (Instr.sealChange 0 5).mayPorts = false ∧
    (Instr.sealChange 0 5).mayLog = false := by
  decide +kernel

/-- States that meet the hypotheses of ThermalResetHolds. -/
theorem witness_thermal_reset_holds :
    up.sys.thermal = false ∧
    (match exec (.thermalReset 0) up with
      | .next t => t.sys.thermal && t.sys.stage == .reset && (match exec (.resetRelease 5 2000 false) t with | .next _ => true | _ => false)
      | _ => false) = true := by
  decide +kernel

/-- Operands and states that meet the hypotheses of ResetPinPulses. -/
theorem witness_reset_pin_pulses :
    999 < 1000 ∧ up.sys.pinLow = false ∧ 10000 ≤ 10000 ∧ 1000 ≤ 1000 ∧ 9999 < 10000 ∧
    (match exec (.resetNAssert 3 10000) up with | .next t => t.sys.pinLow && t.sys.stage == .reset | _ => false) = true := by
  decide +kernel

/-- Operands that meet the hypotheses of ProtectionDecides: PL3 is denied, and so is the host. -/
theorem witness_protection_decides :
    up.Running ∧ up.permits (.core1 3) R.LOG_CFG.addr 4 false = false ∧
    (regAt? R.LOG_CFG.addr).all (fun h => isRecovery h == false) = true ∧ up.permits (.core1 3) R.SYS_RSTCTL.addr 4 true = false ∧
    (Requester.core1 3).cls < 4 ∧ up.permits .host 0x40000003 1 true = false ∧ regAt? 0x40000003 = none := by
  decide +kernel

/-- Operands that meet the hypotheses of BadAccesses, by each clause. -/
theorem witness_bad_accesses :
    up.Running ∧ up.permits (.core0 0) 0x102 4 false = true ∧ dramOffset? 0x102 4 = none ∧ 0x102 % 4 ≠ 0 ∧
    up.permits (.core0 0) 0x100 2 true = true ∧ dramOffset? 0x100 2 = none ∧ 2 ≠ 4 ∧
    up.permits (.core0 0) 0xF00000 4 true = true ∧ dramOffset? 0xF00000 4 = none ∧ regAt? 0xF00000 = none := by
  decide +kernel

/-- A view whose tile 0 has two enabled steps of channel 0 in every frame, and two steps that meet in frame 5. -/
theorem witness_common_frame :
    (2 : Nat) < 3 ∧ (1 : Nat) < 4 ∧
    (fun v : View => (stepsOf v 0)[0]? = some ⟨0, 0, 1, 0, 1, 0⟩ ∧ (stepsOf v 0)[1]? = some ⟨1, 0, 1, 0, 1, 0⟩ ∧
      Step.runs ⟨0, 0, 1, 0, 1, 0⟩ 7 = true ∧ Step.runs ⟨1, 0, 1, 0, 1, 0⟩ 7 = true)
      (fun f => if f = R.TILE_STEPA.REPEAT 0 0 ∨ f = R.TILE_STEPA.REPEAT 0 1 ∨ f = R.TILE_STEPB.EVERY 0 0 ∨ f = R.TILE_STEPB.EVERY 0 1
        then 1 else 0) := by
  decide +kernel

/-- Operands that meet the hypotheses of EmptyMember. -/
theorem witness_empty_member : 20 ≤ 20 ∧ 1 ≤ 1 ∧ 3 ≤ 3 ∧ 1 ≤ 1 ∧ 512 ≤ 512 ∧ 34 ≤ 34 := by decide +kernel

/-- Events and states that meet the hypotheses of LogStores, at each severity limit. -/
theorem witness_log_stores :
    ¬ (up.put R.LOG_CFG.MINSEV 3).stores L.TJ_HIGH ∧ (up.put R.LOG_CFG.MINSEV (L.severity L.TJ_HIGH)).stores L.TJ_HIGH ∧
    (up.put R.LOG_CFG.MINSEV 3).stores 0x901 := by
  decide +kernel

/-- Commands that meet the hypotheses of ControlAndReadRegisters. -/
theorem witness_control_and_read_registers :
    (Instr.dmLock 0 (.core0 0) 16).regsControl.isSome = true ∧ (match exec (.dmLock 0 (.core0 0) 16) up with | .next _ => true | _ => false) = true ∧
    (Instr.wbNsRead 0 (.core0 0) 1).regsReads.isSome = true ∧ (match exec (.wbNsRead 0 (.core0 0) 1) up with | .next _ => true | _ => false) = true := by
  decide +kernel

/-- A command that meets the hypotheses of FieldRegisters. -/
theorem witness_field_registers :
    (Instr.regsField (.calRefRecover 0 2)).isSome = true ∧ (match exec (.calRefRecover 0 2) up with | .next _ => true | _ => false) = true := by
  decide +kernel

/-- A command that meets the hypotheses of LinkRegisters. -/
theorem witness_link_registers :
    (Instr.regsLink (.healthReportSend 0 2500)).isSome = true ∧ (match exec (.healthReportSend 0 2500) up with | .next _ => true | _ => false) = true := by
  decide +kernel

/-- A command that meets the hypotheses of SafetyRegisters. -/
theorem witness_safety_registers :
    (Instr.regsSafety (.partnerLaneUp 0 1)).isSome = true ∧ (match exec (.partnerLaneUp 0 1) up with | .next _ => true | _ => false) = true := by
  decide +kernel
end Sys2Proof.Tests
end

section
/-! PROOF. The register bus, said once: which addresses hold a register, what a permitted access of each kind leaves, and
the statements of the scope chapter that rest on it (R3 to R6, R158, R361, R362, R403, R415). -/

namespace Sys2Proof.Machine

/-! The register map -/

/-- No block of the map reaches an address beyond the end of every block. -/
theorem findBlock_eq_nil {a : Nat} {bs : List (Nat × Nat × List RegInfo)} (h : ∀ e ∈ bs, e.1 + e.2.1 ≤ a) :
    findBlock a bs = [] := by
  induction bs with
  | nil => rfl
  | cons e bs ih =>
    obtain ⟨b, n, rs⟩ := e
    have hb : b + n ≤ a := h (b, n, rs) (by simp)
    rw [findBlock, if_neg (by omega)]
    exact ih fun e he => h e (List.mem_cons_of_mem _ he)

theorem regBlocks_end_le : ∀ e ∈ regBlocks, e.1 + e.2.1 ≤ 0x40000000 := by simp [regBlocks]

/-- The DRAM window holds no register (Table 15.12). -/
theorem regAt?_of_dram {a : Nat} (h : 0x40000000 ≤ a) : regAt? a = none := by
  rw [regAt?, findBlock_eq_nil fun e he => (regBlocks_end_le e he).trans h, findReg]

theorem dramOffset?_eq_some {o size : Nat} (h : o + size ≤ dramBytes) : dramOffset? (0x40000000 + o) size = some o := by
  rw [dramOffset?, if_pos (by omega), Nat.add_sub_cancel_left]

theorem dramOffset?_of_reg {a size : Nat} {h : RegHit} (hh : regAt? a = some h) : dramOffset? a size = none := by
  refine if_neg fun hd => ?_
  rw [regAt?_of_dram hd.1] at hh
  cases hh

/-- LOG_CFG, BASE of a window of the protection unit, and a key word of a management role, as the map holds them. -/
def logCfgInfo : RegInfo :=
  { id := RID.LOG_CFG, blk := .log, base := R.LOG_CFG.addr, dims := []
    fields := [{ lo := 0, w := 2, ty := .rw }, { lo := 2, w := 2, ty := .rw, reset := 2 },
      { lo := 4, w := 3, ty := .rw, range := [(0, 4)] }] }
def protBaseInfo : RegInfo :=
  { id := RID.PROT_BASE, blk := .prot, base := (R.PROT_BASE 0).addr, dims := [(32, 0x10)]
    fields := [{ lo := 0, w := 24, ty := .rw }] }
def mgmtKeyInfo : RegInfo :=
  { id := RID.SYS_MGMTKEY, blk := .sys, base := (R.SYS_MGMTKEY 0 0).addr, dims := [(4, 0x20), (8, 4)]
    fields := [{ lo := 0, w := 32, ty := .wo }] }

theorem regAt?_logCfg : regAt? R.LOG_CFG.addr = some ⟨logCfgInfo, []⟩ := by decide +kernel
theorem regAt?_protBase : ∀ n : Fin 32, regAt? (R.PROT_BASE n).addr = some ⟨protBaseInfo, [n.val]⟩ := by decide +kernel
theorem regAt?_mgmtKey : ∀ r : Fin 4, regAt? (R.SYS_MGMTKEY r 7).addr = some ⟨mgmtKeyInfo, [r.val, 7]⟩ := by decide +kernel

/-! Bytes -/

@[simp] theorem leBytes_length (n v : Nat) : (leBytes n v).length = n := by
  induction n generalizing v with
  | zero => rfl
  | succ n ih => rw [leBytes, List.length_cons, ih]

/-- Byte `i` of the little-endian bytes of a number. -/
theorem leBytes_getD {n i : Nat} (v : Nat) (h : i < n) : (leBytes n v).getD i 0 = BitVec.ofNat 8 (v / 256 ^ i) := by
  induction n generalizing v i with
  | zero => omega
  | succ n ih =>
    cases i with
    | zero => simp [leBytes]
    | succ i => rw [leBytes, List.getD_cons_succ, ih _ (by omega), Nat.div_div_eq_div_mul, ← Nat.pow_succ']

/-! Permission -/

/-- Outside the blocks that only the lead of a pair writes, a permitted write is accepted (R333). -/
theorem State.accepts_of_permits {s : State} {q : Requester} {a : Nat} (h : s.permits q a 4 true = true)
    (hl : inLeadBlocks a = false) : s.Accepts q a := ⟨h, by simp [State.ignoresWrite, hl]⟩

/-! Writes by field type -/

/-- A write with every RW field in its range replaces the word and nothing else. -/
theorem State.writeFields_inRange {s : State} {h : RegHit} {r : RegAt} {data : Word} (hr : r.reset = h.info.reset)
    (hd : h.info.outOfRange data = false) : s.writeFields h r.addr data = s.setWord r (h.info.written (s.word r) data) := by
  simp [State.writeFields, hd, State.setWord, State.word, hr]

/-! Registers whose writes are commands -/

/-- The registers whose writes carry a command. -/
def commandIds : List Nat :=
  [RID.SYS_RSTCTL, RID.SYS_CHOR_CTL, RID.SYS_TCOMMIT, RID.SYS_SPMB_CTL, RID.IOT_DOQ_CTL, RID.IOT_COMMIT, RID.CAL_COMMIT,
    RID.CAL_START, RID.CAL_BURN, RID.FLT_COMMIT, RID.TIM_COMMIT, RID.QUE_COMMIT, RID.CMP_J_CTL, RID.PRT_P_SCTL,
    RID.PRT_COMMIT, RID.PAR_SWAP, RID.PAR_COMMIT, RID.SEC_DMCTL, RID.SEC_CMD, RID.UPD_CTL, RID.UPD_CONFTMR, RID.UPD_RCVCTL]

/-- A write of any other register is a plain one. -/
theorem State.command?_eq_none (s : State) (q : Requester) {h : RegHit} (data : Word) (ph : Phys)
    (hc : h.info.id ∉ commandIds) : s.command? q h data ph = none := by
  simp only [commandIds, List.mem_cons, List.not_mem_nil, or_false, not_or] at hc
  simp only [State.command?, hc, if_false]

/-! Accesses -/

/-- A permitted write within the DRAM window stores its bytes. -/
theorem State.busWrite_dram {s : State} {q : Requester} {o size : Nat} (data : Nat) (ph : Phys) (ho : o + size ≤ dramBytes)
    (hp : s.permits q (0x40000000 + o) size true = true) : s.busWrite q (0x40000000 + o) size data ph =
      (s.dramWrite o (leBytes size data)).answer q false 0 := by
  simp [State.busWrite, regAt?_of_dram, hp, dramOffset?_eq_some ho]

/-- A word written to a register that carries no command. -/
theorem State.busWrite_plain {s : State} {q : Requester} {a : Nat} {h : RegHit} (data : Nat) (ph : Phys) (ha : a % 4 = 0)
    (hh : regAt? a = some h) (hc : h.info.id ∉ commandIds) : s.busWrite q a 4 data ph =
      { s.plainWrite q h a (BitVec.ofNat 32 data) with dram := s.dram } := by
  simp [State.busWrite, ha, hh, s.command?_eq_none q _ ph hc]

/-- A read of a register that no read latches answers its word and clears its ROC fields. -/
theorem State.readReg_plain (s : State) (q : Requester) {h : RegHit} (a : Nat) (hl : latching.contains h.info.id = false) :
    s.readReg q h a = (s.clearRoc h a, s.readNow h a) := by
  simp only [latching, List.contains_eq_mem, decide_eq_false_iff_not, List.mem_cons, List.not_mem_nil, or_false, not_or] at hl
  simp only [State.readReg, hl, if_false]

/-- A permitted read of a word of a register that is no register of recovery. -/
theorem State.busRead_reg {s : State} {q : Requester} {a : Nat} {h : RegHit} (ha : a % 4 = 0) (hh : regAt? a = some h)
    (hr : isRecovery h = false) (hp : s.permits q a 4 false = true) :
    s.busRead q a 4 = (s.readReg q h a).1.answer q false (s.readReg q h a).2 := by
  simp [State.busRead, ha, hh, hr, hp, dramOffset?_of_reg hh]

/-! Reads that clear -/

/-- The word after a read has passed one of its fields (Table 0.3). -/
def clearField (w : Word) (f : FldInfo) : Word := if f.ty = .roc then fset w f.lo f.w 0 else w

theorem State.clearRoc_word (s : State) (h : RegHit) (a : Nat) : Tbl.get h.info.reset (s.clearRoc h a).regs a =
    h.info.fields.foldl clearField (Tbl.get h.info.reset s.regs a) := by
  simp only [State.clearRoc, Tbl.get_set_self]
  rfl

/-- Clearing a field sets no bit. -/
theorem fset_zero_getLsbD {w : Word} {lo n i : Nat} (h : w.getLsbD i = false) : (fset w lo n 0).getLsbD i = false := by
  rw [fset_getLsbD]
  split
  · exact Nat.zero_testBit _
  · exact h

/-- A field is 0 when none of its bits is set. -/
theorem fget_eq_zero {w : Word} {lo n : Nat} : fget w lo n = 0 ↔ ∀ i < n, w.getLsbD (lo + i) = false := by
  constructor
  · intro h i hi
    have := fget_testBit w lo n i
    rw [h, Nat.zero_testBit] at this
    simpa [hi] using this.symm
  · intro h
    refine Nat.eq_of_testBit_eq fun i => ?_
    rw [fget_testBit, Nat.zero_testBit]
    by_cases hi : i < n
    · rw [h i hi, Bool.and_false]
    · simp [hi]

theorem fget_clearField_of_zero {w : Word} {lo n : Nat} (f : FldInfo) (h : fget w lo n = 0) :
    fget (clearField w f) lo n = 0 := by
  unfold clearField
  split
  · exact fget_eq_zero.2 fun i hi => fset_zero_getLsbD (fget_eq_zero.1 h i hi)
  · exact h

theorem fget_clearField_self (w : Word) {f : FldInfo} (h : f.ty = .roc) : fget (clearField w f) f.lo f.w = 0 := by
  rw [clearField, if_pos h, fget_eq_zero]
  intro i hi
  rw [fset_getLsbD]
  split
  · exact Nat.zero_testBit _
  · exact BitVec.getLsbD_of_ge _ _ (by omega)

/-- What is 0 stays 0 while fields clear. -/
theorem fget_foldl_clearField_of_zero (fs : List FldInfo) {w : Word} {lo n : Nat} (h : fget w lo n = 0) :
    fget (fs.foldl clearField w) lo n = 0 := by
  induction fs generalizing w with
  | nil => exact h
  | cons g fs ih => exact ih (fget_clearField_of_zero g h)

/-- Every ROC field of a list reads 0 once the list has cleared. -/
theorem fget_foldl_clearField {fs : List FldInfo} (w : Word) {f : FldInfo} (hf : f ∈ fs) (hr : f.ty = .roc) :
    fget (fs.foldl clearField w) f.lo f.w = 0 := by
  induction fs generalizing w with
  | nil => cases hf
  | cons g fs ih =>
    rcases List.mem_cons.1 hf with rfl | hf
    · exact fget_foldl_clearField_of_zero fs (fget_clearField_self w hr)
    · exact ih _ hf

/-! Key words -/

/-- The words of a key with one more: the earlier ones stand above it. -/
theorem State.keyWords_succ (s : State) (r : Nat → RegAt) (n : Nat) :
    s.keyWords r (n + 1) = s.keyWords r n * 2 ^ 32 + (Tbl.get 0 s.wo (r n).addr).toNat := by
  simp only [State.keyWords, List.range_succ, List.foldl_append, List.foldl_cons, List.foldl_nil]

theorem State.keyWords_congr {s t : State} {r : Nat → RegAt} {n : Nat}
    (h : ∀ w < n, Tbl.get 0 t.wo (r w).addr = Tbl.get 0 s.wo (r w).addr) : t.keyWords r n = s.keyWords r n :=
  List.foldl_ext _ _ _ fun k w hw => by rw [h w (List.mem_range.1 hw)]

/-- Writing word 7 of a management key puts the key of the eight words in force. -/
theorem State.mgmtKeyWrite_keys (s : State) (r : Nat) (data : Word) :
    Tbl.get none (s.mgmtKeyWrite r 7 (R.SYS_MGMTKEY r 7).addr data).host.keys r =
      some (beBytes 32 (s.keyWords (R.SYS_MGMTKEY r) 7 * 2 ^ 32 + data.toNat)) := by
  have hold : (s.keyWrite (R.SYS_MGMTKEY r 7).addr data).keyWords (R.SYS_MGMTKEY r) 7 = s.keyWords (R.SYS_MGMTKEY r) 7 :=
    State.keyWords_congr fun w hw => Tbl.get_set_ne _ _ _ (by simp only [R.SYS_MGMTKEY]; omega)
  have hnew : Tbl.get 0 (s.keyWrite (R.SYS_MGMTKEY r 7).addr data).wo (R.SYS_MGMTKEY r 7).addr = data := Tbl.get_set_self ..
  rw [State.mgmtKeyWrite, if_neg (by decide), Tbl.get_set_self, State.keyWords_succ, hold, hnew]

/-! Plain writes -/

/-- The registers whose plain writes have a rule of their own beside the types of their fields. -/
def ruledIds : List Nat :=
  [RID.CAL_OFS, RID.CAL_GAIN, RID.CMP_J_D0, RID.CMP_J_D1, RID.CMP_J_D2, RID.CMP_J_D3, RID.CMP_J_D4, RID.CMP_J_D5,
    RID.CMP_J_D8, RID.SYS_SPMB_REQ, RID.SYS_SPMB_REQ_HI, RID.PRT_P_CKN, RID.PRT_P_CAK, RID.PRT_P_SAK, RID.PRT_P_SALT,
    RID.PRT_P_SSCI, RID.SYS_MGMTKEY, RID.TIM_WB1_SETL, RID.TIM_WB1_SETH, RID.CAL_SLCCFG, RID.IOT_DOCMD, RID.IOT_BRKREQ]

/-- A write of a register without such a rule, outside the blocks of an image, goes by the types of its fields. -/
theorem State.writeReg_fields (s : State) {h : RegHit} (a : Nat) (data : Word) (hg : h.info.ofGroup = false)
    (hi : h.info.id ∉ ruledIds) : s.writeReg h a data = s.writeFields h a data := by
  simp only [ruledIds, List.mem_cons, List.not_mem_nil, or_false, not_or] at hi
  simp [State.writeReg, isKeyWord, hg, hi]

theorem State.plainWrite_prot (s : State) {q : Requester} {h : RegHit} (a : Nat) (data : Word) (hb : h.info.blk = .prot)
    (hr : isRecovery h = false) (hq : q.isPl0 = true) :
    s.plainWrite q h a data = s.cmdWrite q a h.info.mask data fun s => s.writeReg h a data := by
  simp [State.plainWrite, State.pl0Write, hb, hr, hq]

/-- The registers that other requesters than cores write by mediation (R405). -/
def mediatedIds : List Nat := [RID.SYS_MGMTKEY, RID.SYS_SPMB_REQ, RID.SYS_SPMB_REQ_HI, RID.SEC_REQ]

theorem State.plainWrite_windows (s : State) (q : Requester) {h : RegHit} (a : Nat) (data : Word) (hb : h.info.blk ≠ .prot)
    (hr : isRecovery h = false) (hm : h.info.id ∉ mediatedIds) :
    s.plainWrite q h a data = s.cmdWrite q a h.info.mask data fun s => s.writeReg h a data := by
  simp only [mediatedIds, List.mem_cons, List.not_mem_nil, or_false, not_or] at hm
  simp [State.plainWrite, hb, hr, hm]

/-- An accepted word write of a register without a command, whose effect follows the windows' rule: it is answered without
error, and the effect starts from a state with the same write-only words, in which reserved bits have been counted. -/
theorem State.busWrite_taken {s : State} {q : Requester} {a : Nat} {h : RegHit} {data : Nat} {ph : Phys} (ha : a % 4 = 0)
    (hh : regAt? a = some h) (hc : h.info.id ∉ commandIds) (hp : s.Accepts q a)
    (hw : s.plainWrite q h a (BitVec.ofNat 32 data) =
      s.cmdWrite q a h.info.mask (BitVec.ofNat 32 data) fun s => s.writeReg h a (BitVec.ofNat 32 data)) :
    ∃ u : State, u.wo = s.wo ∧
      s.busWrite q a 4 data ph = { (u.writeReg h a (BitVec.ofNat 32 data)).answer q false 0 with dram := s.dram } := by
  rw [State.busWrite_plain data ph ha hh hc, hw, State.cmdWrite_taken hp]
  refine ⟨_, ?_, rfl⟩
  split <;> rfl

/-! What stands in a state of which a part is known -/

theorem State.answered_of_resp {t u : State} {q : Requester} {v : Nat} (h : t.resp = (u.answer q false v).resp) :
    t.Answered q v := by
  rw [State.Answered, h, State.answer_resp]

theorem State.get_of_setWord {t u : State} {f : FldAt} {w : Word} (h : t.regs = (u.setWord f.reg w).regs) :
    t.get f = fget w f.lo f.w := by
  rw [State.get_congr h, State.get, State.word_setWord]

/-! LOG_CFG and BASE of a window, written by field type -/

/-- A field that takes its bits from another word reads as there. -/
theorem fget_fset_fget (w data : Word) {lo n : Nat} (h : lo + n ≤ 32) :
    fget (fset w lo n (fget data lo n)) lo n = fget data lo n := by
  rw [fget_fset_self _ _ h, Nat.mod_eq_of_lt (fget_lt ..)]

/-- A write of LOG_CFG with PUSHSEV in its range takes all three fields. -/
theorem logCfgInfo_written (w : Word) {data : Word} (hd : fget data 4 3 ≤ 4) :
    fget (logCfgInfo.written w data) 0 2 = fget data 0 2 ∧ fget (logCfgInfo.written w data) 2 2 = fget data 2 2 ∧
      fget (logCfgInfo.written w data) 4 3 = fget data 4 3 := by
  have hw : logCfgInfo.written w data = fset (fset (fset w 0 2 (fget data 0 2)) 2 2 (fget data 2 2)) 4 3 (fget data 4 3) := by
    simp [RegInfo.written, logCfgInfo, FldInfo.accepts, hd]
  rw [hw]
  refine ⟨?_, ?_, ?_⟩
  · rw [fget_fset_other _ _ (by decide), fget_fset_other _ _ (by decide), fget_fset_fget _ _ (by decide)]
  · rw [fget_fset_other _ _ (by decide), fget_fset_fget _ _ (by decide)]
  · rw [fget_fset_fget _ _ (by decide)]

theorem logCfgInfo_inRange {data : Word} (hd : fget data 4 3 ≤ 4) : logCfgInfo.outOfRange data = false := by
  simp [RegInfo.outOfRange, logCfgInfo, FldInfo.accepts, hd]

theorem protBaseInfo_written (w data : Word) : fget (protBaseInfo.written w data) 0 24 = fget data 0 24 := by
  have hw : protBaseInfo.written w data = fset w 0 24 (fget data 0 24) := by
    simp [RegInfo.written, protBaseInfo, FldInfo.accepts]
  rw [hw, fget_fset_fget _ _ (by decide)]

theorem protBaseInfo_inRange (data : Word) : protBaseInfo.outOfRange data = false := by
  simp [RegInfo.outOfRange, protBaseInfo, FldInfo.accepts]

/-- LOG_CFG after a write with PUSHSEV in its range. -/
theorem State.writeReg_logCfg (s : State) {data : Word} (hd : fget data 4 3 ≤ 4) :
    s.writeReg ⟨logCfgInfo, []⟩ R.LOG_CFG.addr data =
      s.setWord R.LOG_CFG (logCfgInfo.written (s.word R.LOG_CFG) data) := by
  rw [State.writeReg_fields _ _ _ (by decide) (by decide)]
  exact State.writeFields_inRange (by decide) (logCfgInfo_inRange hd)

/-- BASE of a window after a write. -/
theorem State.writeReg_protBase (s : State) (n : Nat) (data : Word) :
    s.writeReg ⟨protBaseInfo, [n]⟩ (R.PROT_BASE n).addr data =
      s.setWord (R.PROT_BASE n) (protBaseInfo.written (s.word (R.PROT_BASE n)) data) := by
  rw [State.writeReg_fields _ _ _ rfl (show RID.PROT_BASE ∉ ruledIds by decide)]
  exact State.writeFields_inRange (show 0 = protBaseInfo.reset by decide) (protBaseInfo_inRange data)

/-- PL0 always reaches the registers of the PROT block (R361). -/
theorem State.permits_protBase (s : State) {q : Requester} (n : Fin 32) (hq : q.isPl0 = true) :
    s.permits q (R.PROT_BASE n).addr 4 true = true := by
  have hn := n.isLt
  have h0 : inProt (R.PROT_BASE n).addr = true := by
    rw [inProt, decide_eq_true (by simp [R.PROT_BASE]), decide_eq_true (by simp [R.PROT_BASE]; omega), Bool.and_self]
  have h3 : inProt ((R.PROT_BASE n).addr + 4 - 1) = true := by
    rw [inProt, decide_eq_true (by simp [R.PROT_BASE]; omega), decide_eq_true (by simp [R.PROT_BASE]; omega), Bool.and_self]
  rw [State.permits, hq, h0, h3, Bool.and_self, Bool.and_self, Bool.true_or]

theorem inLeadBlocks_of_lt {a : Nat} (h : a < 0x1000000) : inLeadBlocks a = false := by
  simp [inLeadBlocks, Nat.div_eq_of_lt h]

/-! What the commands are -/

theorem exec_registerWrite (now : Nat) (q : Requester) (a size data : Nat) (ph : Phys) (s : State) :
    exec (.registerWrite now q a size data ph) s = act allParts now s fun s => s.busWrite q a size data ph := rfl
theorem exec_rocRead (now : Nat) (q : Requester) (a size : Nat) (s : State) :
    exec (.rocRead now q a size) s = act readParts now s fun s => s.busRead q a size := rfl
theorem exec_protWrite (now : Nat) (q : Requester) (w : Fin 256) (data : Word) (s : State) :
    exec (.protWrite now q w data) s =
      act { resp := true } now s fun s => s.busWrite q (0x100000 + 4 * w.val) 4 data.toNat {} := rfl
theorem exec_mgmtKeyWrite (now : Nat) (q : Requester) (r : Fin 4) (data : Word) (s : State) :
    exec (.mgmtKeyWrite now q r data) s = act { resp := true, wo := true, host := true } now s fun s =>
      s.busWrite q (R.SYS_MGMTKEY r 7).addr 4 data.toNat {} := rfl
theorem exec_wb1Set (now : Nat) (q : Requester) (data : Word) (s : State) :
    exec (.wb1Set now q data) s = act { time := true, resp := true } now s fun s =>
      s.cmdWrite q R.TIM_WB1_SETH.addr 0xFFFF data fun s => s.setWb1 data.toNat := rfl

/-! What the commands of register access complete with -/

/-- REGISTER_WRITE of bytes of the DRAM window. -/
theorem registerWrite_dram (now : Nat) {req : Requester} {o size : Nat} (data : Nat) (ph : Phys) {s : State}
    (hs : s.Running) (ho : o + size ≤ dramBytes) (hp : s.permits req (0x40000000 + o) size true = true) :
    Completes (.registerWrite now req (0x40000000 + o) size data ph) s fun t => t.Answered req 0 ∧
      ∀ x, t.dramByte x = if o ≤ x ∧ x < o + size then BitVec.ofNat 8 (data / 256 ^ (x - o)) else s.dramByte x := by
  refine completes_act (exec_registerWrite ..) hs ?_
  rw [State.busWrite_dram (s := s.tick now) data ph ho hp]
  refine ⟨State.answered_of_resp rfl, fun x => ?_⟩
  change ((s.tick now).dramWrite o (leBytes size data)).dramByte x = _
  rw [State.dramByte_dramWrite, leBytes_length, State.dramByte_tick]
  by_cases hx : o ≤ x ∧ x < o + size
  · rw [if_pos hx, if_pos hx, leBytes_getD _ (by omega)]
  · rw [if_neg hx, if_neg hx]

/-- REGISTER_WRITE of LOG_CFG. -/
theorem registerWrite_logCfg (now : Nat) {req : Requester} {data : Nat} (ph : Phys) {s : State} (hs : s.Running)
    (hd : data / 16 % 8 ≤ 4) (hp : s.permits req R.LOG_CFG.addr 4 true = true) :
    Completes (.registerWrite now req R.LOG_CFG.addr 4 data ph) s fun t => t.Answered req 0 ∧
      t.get R.LOG_CFG.MINSEV = data % 4 ∧ t.get R.LOG_CFG.HINTSEV = data / 4 % 4 ∧ t.get R.LOG_CFG.PUSHSEV = data / 16 % 8 := by
  have h0 : fget (BitVec.ofNat 32 data) 0 2 = data % 4 := by simp [fget]
  have h2 : fget (BitVec.ofNat 32 data) 2 2 = data / 4 % 4 := by simp [fget]; omega
  have h4 : fget (BitVec.ofNat 32 data) 4 3 = data / 16 % 8 := by simp [fget]; omega
  refine completes_act (exec_registerWrite ..) hs ?_
  obtain ⟨u, -, hu⟩ := State.busWrite_taken (s := s.tick now) (ph := ph) (by decide) regAt?_logCfg (by decide)
    (State.accepts_of_permits hp (by decide)) (State.plainWrite_windows _ _ _ _ (by decide) (by decide) (by decide))
  obtain ⟨w0, w2, w4⟩ := logCfgInfo_written (u.word R.LOG_CFG) (h4.trans_le hd)
  rw [hu, State.writeReg_logCfg _ (h4.trans_le hd)]
  exact ⟨State.answered_of_resp rfl, (State.get_of_setWord (f := R.LOG_CFG.MINSEV) rfl).trans (w0.trans h0),
    (State.get_of_setWord (f := R.LOG_CFG.HINTSEV) rfl).trans (w2.trans h2),
    (State.get_of_setWord (f := R.LOG_CFG.PUSHSEV) rfl).trans (w4.trans h4)⟩

/-- ROC_READ of a register that no read latches. -/
theorem rocRead_plain (now : Nat) {req : Requester} {a : Nat} {h : RegHit} {s : State} (hs : s.Running) (ha : a % 4 = 0)
    (hh : regAt? a = some h) (hr : isRecovery h = false) (hl : latching.contains h.info.id = false)
    (hp : s.permits req a 4 false = true) : Completes (.rocRead now req a 4) s fun t =>
      t.Answered req ((s.tick now).readNow h a) ∧
        ∀ f ∈ h.info.fields, f.ty = .roc → fget (Tbl.get h.info.reset t.regs a) f.lo f.w = 0 := by
  refine completes_act (exec_rocRead ..) hs ?_
  rw [State.busRead_reg (s := s.tick now) ha hh hr hp, State.readReg_plain _ _ _ hl]
  refine ⟨State.answered_of_resp rfl, fun f hf hroc => ?_⟩
  change fget (Tbl.get h.info.reset ((s.tick now).clearRoc h a).regs a) f.lo f.w = 0
  rw [State.clearRoc_word]
  exact fget_foldl_clearField _ hf hroc

/-- PROT_WRITE of a window base. -/
theorem protWrite_base (now : Nat) {req : Requester} (n : Fin 32) (data : Word) {s : State} (hs : s.Running)
    (hq : req.isPl0 = true) : Completes (.protWrite now req ⟨4 * n, by omega⟩ data) s fun t =>
      t.Answered req 0 ∧ t.get (R.PROT_BASE.BASE n) = data.toNat % 2 ^ 24 := by
  have ha : 0x100000 + 4 * (4 * n.val) = (R.PROT_BASE n).addr := by simp only [R.PROT_BASE]; omega
  refine completes_act (exec_protWrite ..) hs ?_
  obtain ⟨u, -, hu⟩ := State.busWrite_taken (s := s.tick now) (data := data.toNat) (ph := {}) (by simp only [R.PROT_BASE]; omega)
    (regAt?_protBase n) (show RID.PROT_BASE ∉ commandIds by decide)
    (State.accepts_of_permits (State.permits_protBase _ n hq) (inLeadBlocks_of_lt (by simp only [R.PROT_BASE]; omega)))
    (State.plainWrite_prot _ _ _ rfl (show isRecovery ⟨protBaseInfo, []⟩ = false by decide) hq)
  rw [ha, hu, BitVec.ofNat_toNat, BitVec.setWidth_eq, State.writeReg_protBase]
  refine ⟨State.answered_of_resp rfl, (State.get_of_setWord (f := R.PROT_BASE.BASE n) rfl).trans ?_⟩
  exact (protBaseInfo_written _ data).trans (by rw [fget, Nat.pow_zero, Nat.div_one])

/-- MGMT_KEY_WRITE by a permitted core. -/
theorem mgmtKeyWrite_core0 (now : Nat) {pl : Fin 4} (role : Fin 4) (data : Word) {s : State} (hs : s.Running)
    (hp : s.permits (.core0 pl) (R.SYS_MGMTKEY role 7).addr 4 true = true) :
    Completes (.mgmtKeyWrite now (.core0 pl) role data) s fun t => t.Answered (.core0 pl) 0 ∧
      Tbl.get none t.host.keys role = some (beBytes 32 (s.keyWords (R.SYS_MGMTKEY role) 7 * 2 ^ 32 + data.toNat)) := by
  refine completes_act (exec_mgmtKeyWrite ..) hs ?_
  obtain ⟨u, hwo, hu⟩ := State.busWrite_taken (s := s.tick now) (data := data.toNat) (ph := {})
    (by simp only [R.SYS_MGMTKEY]; omega) (regAt?_mgmtKey role) (show RID.SYS_MGMTKEY ∉ commandIds by decide)
    (State.accepts_of_permits hp (inLeadBlocks_of_lt (by simp only [R.SYS_MGMTKEY]; omega))) rfl
  rw [hu, BitVec.ofNat_toNat, BitVec.setWidth_eq]
  refine ⟨State.answered_of_resp rfl, ?_⟩
  have hkeys : u.keyWords (R.SYS_MGMTKEY role) 7 = s.keyWords (R.SYS_MGMTKEY role) 7 :=
    State.keyWords_congr fun w _ => by rw [hwo]; rfl
  rw [← hkeys]
  exact u.mgmtKeyWrite_keys role data

/-- WB1_SET. -/
theorem wb1Set_accepted (now : Nat) {req : Requester} (data : Word) {s : State} (hs : s.Running)
    (hp : s.Accepts req R.TIM_WB1_SETH.addr) : Completes (.wb1Set now req data) s fun t =>
      t.Answered req 0 ∧ t.time.set1 = some (data.toNat % 2 ^ 16 * 2 ^ 32 + s.time.setLo) := by
  refine completes_act (exec_wb1Set ..) hs ?_
  rw [State.cmdWrite_taken (s := s.tick now) hp]
  refine ⟨State.answered_of_resp rfl, ?_⟩
  split <;> rfl

/-! Accesses that end with an error (R3, R415) -/

section Bad

variable {s : State} {q : Requester} {a size : Nat}

/-- An access that is no naturally aligned 32-bit one, outside the DRAM window. -/
theorem State.busWrite_misaligned (data : Nat) (ph : Phys) (hp : s.permits q a size true = true)
    (hd : dramOffset? a size = none) (hm : a % 4 ≠ 0 ∨ size ≠ 4) : s.busWrite q a size data ph = s.misaligned q := by
  have hn : ¬ (a % 4 = 0 ∧ size = 4) := by omega
  simp [State.busWrite, hn, hp, hd, hm]

theorem State.busRead_misaligned (hp : s.permits q a size false = true) (hd : dramOffset? a size = none)
    (hm : a % 4 ≠ 0 ∨ size ≠ 4) : s.busRead q a size = s.misaligned q := by
  have hn : ¬ (a % 4 = 0 ∧ size = 4) := by omega
  simp [State.busRead, hn, hp, hd, hm]

/-- An aligned access at an address that no register holds, outside the DRAM window. -/
theorem State.busWrite_unmapped (data : Nat) (ph : Phys) (hp : s.permits q a 4 true = true) (hd : dramOffset? a 4 = none)
    (ha : a % 4 = 0) (hh : regAt? a = none) : s.busWrite q a 4 data ph = s.unmapped q := by
  simp [State.busWrite, ha, hh, hp, hd]

theorem State.busRead_unmapped (hp : s.permits q a 4 false = true) (hd : dramOffset? a 4 = none) (ha : a % 4 = 0)
    (hh : regAt? a = none) : s.busRead q a 4 = s.unmapped q := by
  simp [State.busRead, ha, hh, hp, hd]

end Bad

/-- A meaning that may write registers and answers takes both from an effect that changes nothing else. -/
theorem keep_regs_resp {p : Parts} (hr : p.regs = true) (ha : p.resp = true) (s : State) (r : Tbl Word) (x : Tbl BusResp) :
    keep p s { s with regs := r, resp := x } = { s with regs := r, resp := x } := by
  simp [keep, hr, ha]

/-- A count leaves every other register. -/
theorem State.bump_agreeBut (s : State) (f : FldAt) (n : Nat) : agreeBut [f.reg.addr] s (s.bump f n) := fun a ha =>
  Tbl.get_set_ne' _ _ _ _ (by simpa using ha)

/-- A command whose effect is to count an error in a field and to answer with it does that and no more. -/
theorem completes_counted {i : Instr} {s : State} {p : Parts} {now : Nat} {g : State → State} {q : Requester} {f : FldAt}
    (he : exec i s = act p now s g) (hs : s.Running) (hr : p.regs = true) (ha : p.resp = true) (hf : f.Fits)
    (hg : g (s.tick now) = ((s.tick now).bump f).answer q true 0) : Completes i s fun t =>
      Tbl.get {} t.resp q.no = { err := true, data := 0 } ∧ t.get f = satAdd f.w (s.get f) 1 ∧
        agreeBut [f.reg.addr] s t ∧ { t with now := s.now, regs := s.regs, resp := s.resp } = s := by
  refine completes_act he hs ?_
  have hk : keep p (s.tick now) (g (s.tick now)) = ((s.tick now).bump f).answer q true 0 := by
    rw [hg]; exact keep_regs_resp hr ha (s.tick now) _ _
  rw [hk]
  exact ⟨State.answer_resp .., (s.tick now).get_bump f 1 hf, (s.tick now).bump_agreeBut f 1, rfl⟩

/-! The statements -/

/-- Settles O1: one clause for each of its six commands. -/
theorem registerAccessCompletes : Obligations.RegisterAccessCompletes :=
  ⟨fun now _ _ _ data ph _ hs ho hp => registerWrite_dram now data ph hs ho hp,
    fun now _ _ ph _ hs hd hp => registerWrite_logCfg now ph hs hd hp,
    fun now _ _ _ _ hs ha hh hr hl hp => rocRead_plain now hs ha hh hr hl hp,
    fun now _ n data _ hs hq => protWrite_base now n data hs hq,
    fun now _ role data _ hs hp => mgmtKeyWrite_core0 now role data hs hp,
    fun now _ data _ hs hp => wb1Set_accepted now data hs hp⟩

/-- Settles O53, by its two kinds of bad access, each for a write and a read. -/
theorem badAccesses : Obligations.BadAccesses := by
  intro now q a size data ph wr f s hs hp hd hf
  rcases hf with ⟨hm, rfl⟩ | ⟨ha, rfl, hh, rfl⟩
  · have hfit : (R.SYS_REQERR.ALIGN q.no).Fits := (by decide : 0 + 16 ≤ 32)
    cases wr
    case true => exact completes_counted (exec_registerWrite ..) hs rfl rfl hfit (State.busWrite_misaligned data ph hp hd hm)
    case false => exact completes_counted (exec_rocRead ..) hs rfl rfl hfit (State.busRead_misaligned hp hd hm)
  · have hfit : (R.SYS_REQERR.UNMAPPED q.no).Fits := (by decide : 16 + 16 ≤ 32)
    cases wr
    case true => exact completes_counted (exec_registerWrite ..) hs rfl rfl hfit (State.busWrite_unmapped data ph hp hd ha hh)
    case false => exact completes_counted (exec_rocRead ..) hs rfl rfl hfit (State.busRead_unmapped hp hd ha hh)

end Sys2Proof.Machine
end

section
namespace Sys2Proof.Machine

/-! PROOF. Which parts of the state an operation reaches, and that it leaves the others. -/

/-- `t` differs from `s` in the parts `p` alone, and in the count of free values. -/
def State.Only (p : Parts) (s t : State) : Prop := t = keep p s t

/-- The parts that `p` and `q` share. -/
def Parts.meet (p q : Parts) : Parts where
  regs := p.regs && q.regs
  live := p.live && q.live
  wo := p.wo && q.wo
  log := p.log && q.log
  dram := p.dram && q.dram
  resp := p.resp && q.resp
  sys := p.sys && q.sys
  commits := p.commits && q.commits
  time := p.time && q.time
  dio := p.dio && q.dio
  strm := p.strm && q.strm
  ports := p.ports && q.ports
  mon := p.mon && q.mon
  cmp := p.cmp && q.cmp
  latch := p.latch && q.latch
  tiles := p.tiles && q.tiles
  chains := p.chains && q.chains
  cal := p.cal && q.cal
  fuse := p.fuse && q.fuse
  safe := p.safe && q.safe
  pair := p.pair && q.pair
  sec := p.sec && q.sec
  chor := p.chor && q.chor
  host := p.host && q.host
  flash := p.flash && q.flash

theorem keep_self (p : Parts) (s : State) : keep p s s = s := by simp [keep]

theorem keep_keep (p : Parts) (s t u : State) : keep p (keep p s t) u = keep p s u := by
  unfold keep
  congr 1 <;> split <;> rfl

theorem keep_meet (p q : Parts) (s t : State) : keep p s (keep q s t) = keep (p.meet q) s t := by
  simp only [keep, Parts.meet, Bool.and_eq_true, ite_and]

theorem State.get_keep {p : Parts} (hp : p.regs = true) (s t : State) (f : FldAt) : (keep p s t).get f = t.get f :=
  State.get_congr (by rw [keep_regs, if_pos hp]) f

namespace State.Only

variable {p q : Parts} {s t u : State}

theorem refl (p : Parts) (s : State) : Only p s s := (keep_self p s).symm

theorem trans (h : Only p s t) (h' : Only p t u) : Only p s u := by
  have hk : keep p t u = keep p s u := by
    rw [h]
    exact keep_keep ..
  exact Eq.trans h' hk

/-- What reaches the parts `q` alone reaches no other than `p`, where `p` takes in `q`. -/
theorem widen (h : Only q s t) (hle : p.meet q = q) : Only p s t := by
  have hk := keep_meet p q s t
  rw [hle, ← h] at hk
  exact hk.symm

/-- An operation that reaches no part beyond `p` may follow. -/
theorem andThen (h : Only p s t) (h' : Only q t u) (hle : p.meet q = q) : Only p s u := h.trans (h'.widen hle)

theorem ite {c : Prop} [Decidable c] (ht : Only p s t) (hu : Only p s u) : Only p s (if c then t else u) := by
  split
  · exact ht
  · exact hu

theorem each {α : Type} {f : State → α → State} (h : ∀ s x, Only p s (f s x)) (s : State) (l : List α) :
    Only p s (s.each l f) :=
  s.each_inv (Only p s) (fun t x ht => ht.trans (h t x)) l (refl p s)

/-! Writes of registers, entries of the log, and the safety functions -/

theorem put (h : Only {} s t) (f : FldAt) (v : Nat) : Only {} s (t.put f v) := h.trans rfl

theorem putBit (h : Only {} s t) (f : FldAt) (b : Bool) : Only {} s (t.putBit f b) := h.put ..

theorem bump (h : Only {} s t) (f : FldAt) (n : Nat) : Only {} s (t.bump f n) := h.put ..

theorem log1 (h : Only {} s t) (c : Nat) {k i d x : Nat} : Only {} s (t.log1 c k i d x) :=
  h.trans (by obtain ⟨r, l, hu⟩ := t.logRep_only t.now c k i d x 1; rw [State.log1, State.logAt, hu]; rfl)

theorem setSafe (h : Only { safe := true } s t) (x : SafeSt) : Only { safe := true } s (t.setSafe x) := h.trans rfl

/-! What such an operation leaves -/

theorem now (h : Only p s t) : t.now = s.now := by rw [h, keep_now]
theorem regs (h : Only p s t) (hp : p.regs = false) : t.regs = s.regs := by
  rw [h, keep_regs, hp, if_neg Bool.false_ne_true]
theorem live (h : Only p s t) (hp : p.live = false) : t.live = s.live := by
  rw [h, keep_live, hp, if_neg Bool.false_ne_true]
theorem log (h : Only p s t) (hp : p.log = false) : t.log = s.log := by
  rw [h, keep_log, hp, if_neg Bool.false_ne_true]
theorem dram (h : Only p s t) (hp : p.dram = false) : t.dram = s.dram := by
  rw [h, keep_dram, hp, if_neg Bool.false_ne_true]
theorem sys (h : Only p s t) (hp : p.sys = false) : t.sys = s.sys := by
  rw [h, keep_sys, hp, if_neg Bool.false_ne_true]
theorem sec (h : Only p s t) (hp : p.sec = false) : t.sec = s.sec := by
  rw [h, keep_sec, hp, if_neg Bool.false_ne_true]
theorem chor (h : Only p s t) (hp : p.chor = false) : t.chor = s.chor := by
  rw [h, keep_chor, hp, if_neg Bool.false_ne_true]
theorem dio (h : Only p s t) (hp : p.dio = false) : t.dio = s.dio := by
  rw [h, keep_dio, hp, if_neg Bool.false_ne_true]
theorem tiles (h : Only p s t) (hp : p.tiles = false) : t.tiles = s.tiles := by
  rw [h, keep_tiles, hp, if_neg Bool.false_ne_true]
theorem flash (h : Only p s t) (hp : p.flash = false) : t.flash = s.flash := by
  rw [h, keep_flash, hp, if_neg Bool.false_ne_true]

end State.Only

/-! Operations of several parts -/

theorem State.draw_only (s : State) : State.Only { regs := false, log := false } s s.draw.2 := rfl

theorem State.strmReady_only (s : State) (n : Nat) : State.Only { ports := true } s (s.strmReady n) := by
  unfold State.strmReady
  refine .ite (.refl ..) ?_
  split
  · exact .refl ..
  · exact rfl

theorem State.setQueue_only (s : State) (n : Nat) (x : QueueSt) : State.Only { strm := true } s (s.setQueue n x) := rfl

theorem State.commitStrmPkt_only (s : State) (n : Nat) (k : Packet) :
    State.Only { ports := true, strm := true } s (s.commitStrmPkt n k) :=
  .andThen (.andThen (.widen (.put (.refl ..) ..) (by rfl)) (State.setQueue_only ..) (by rfl))
    (State.strmReady_only ..) (by rfl)

end Sys2Proof.Machine
end

section
/-! PROOF. The sources of a reset: what they leave, and how each ends (R33, R38, R45, R48 to R50). -/
namespace Sys2Proof.Machine

/-! Operations that a reset runs -/

theorem State.closePacket_only (s : State) (n : Nat) : State.Only { ports := true, strm := true } s (s.closePacket n) := by
  unfold State.closePacket
  dsimp only
  split
  · exact .andThen (by exact rfl) (State.commitStrmPkt_only ..) (by rfl)
  · exact .refl ..

theorem State.loseRanges_only (s : State) (n : Nat) (rs : List (Nat × Nat × Nat)) :
    State.Only { strm := true } s (s.loseRanges n rs) := by
  unfold State.loseRanges
  exact .ite (.refl ..) rfl

/-- What neither the streams nor the list of lost samples can change, a warm reset's work on the streams leaves. -/
theorem State.strmWarm_keeps {β : Type} (g : State → β) (s : State) (b : Bool)
    (hs : ∀ s t, State.Only { ports := true, strm := true } s t → g t = g s)
    (hl : ∀ s l, g { s with sys := { s.sys with staged := l } } = g s) : g (s.strmWarm b) = g s := by
  unfold State.strmWarm
  extract_lets s₁ s₂ s₃
  have h₁ : g s₁ = g s := State.each_keeps g (fun s n => hs _ _ (s.closePacket_only n)) _ _
  have h₂ : g s₂ = g s₁ :=
    State.each_keeps g (fun s n => State.each_keeps g (fun s p =>
      hs _ _ (.andThen (by exact rfl) (State.loseRanges_only ..) (by rfl))) _ _) _ _
  have h₃ : g s₃ = g s₂ := by
    unfold s₃
    split
    · rfl
    refine State.each_keeps g (fun s e => ?_) _ _
    extract_lets h
    split
    · rfl
    split
    · rfl
    rcases hd : s.draw with ⟨k, u⟩
    have hu : State.Only { regs := false, log := false } s u := by
      have h := s.draw_only
      rwa [hd] at h
    dsimp -zeta only
    extract_lets lost left blocks v w
    split
    · exact hs _ _ (hu.widen (by rfl))
    have hv : State.Only { strm := true } u v := .ite rfl (.refl ..)
    have hw : State.Only { strm := true } v w := rfl
    exact (hl w _).trans (hs _ _ (((hu.widen (by rfl)).andThen hv (by rfl)).andThen hw (by rfl)))
  have h₄ : ∀ s : State, ∀ l : List Nat, g (s.each l fun s e => s.closeBlock e) = g s := fun s =>
    State.each_keeps g (fun s e => hs s (s.closeBlock e) rfl) s
  exact (h₄ _ _).trans (h₃.trans (h₂.trans h₁))

theorem State.burnWord_only (s : State) (w v : Nat) (missed : List (Nat × Nat)) :
    State.Only { regs := false, log := false, fuse := true } s (s.burnWord w v missed) := rfl

theorem State.cutBurn_only (s : State) : State.Only { regs := false, log := false, fuse := true } s s.cutBurn := by
  unfold State.cutBurn
  split
  · exact .refl ..
  refine .ite (.refl ..) ?_
  dsimp -zeta only [State.draw]
  extract_lets ws n u
  have hu : State.Only { regs := false, log := false, fuse := true } s u :=
    .trans (by exact rfl) (.each (fun u x => u.burnWord_only ..) ..)
  split
  · exact hu
  · exact hu.trans (State.burnWord_only ..)

theorem State.showBk_only (s : State) (n : Nat) : State.Only {} s (s.showBk n) :=
  .put (.putBit (.putBit (.putBit (.putBit (.putBit (.refl ..) ..) ..) ..) ..) ..) ..

theorem State.dropHigh_only (s : State) (n : Nat) : State.Only { safe := true } s (s.dropHigh n) :=
  .andThen (.setSafe (.setSafe (.refl ..) _) _) (State.showBk_only ..) (by rfl)

theorem State.drivesOff_only (s : State) : State.Only { safe := true } s s.drivesOff :=
  .each (fun _ _ => .andThen (.setSafe (.refl ..) _) (State.showBk_only ..) (by rfl)) ..

theorem State.noTest_only (s : State) : State.Only { safe := true } s s.noTest := by
  unfold State.noTest
  split
  · exact .refl ..
  · exact .andThen (.setSafe (.refl ..) _) (.put (.put (.refl ..) ..) ..) (by rfl)

theorem State.startZc_only (s : State) (c : Nat) : State.Only { safe := true } s (s.startZc c) :=
  .andThen (.setSafe (.refl ..) _) (.put (.put (.put (.put (.put (.put (.refl ..) ..) ..) ..) ..) ..) ..) (by rfl)

theorem State.putBytes_only (s : State) (f : Nat → FldAt) (bs : List Byte) :
    State.Only {} s (s.putBytes f bs) := .each (fun _ _ => .put (.refl ..) ..) ..

theorem State.safeHint_only (s old : State) : State.Only {} s (s.safeHint old) := .ite (.refl ..) (.put (.refl ..) ..)

theorem State.safeWarm_only (s : State) (was : SafeSt) : State.Only { safe := true } s (s.safeWarm was) := by
  unfold State.safeWarm
  extract_lets s₁ s₂ x s₃ s₄ s₅ s₆
  have h₂ : State.Only { safe := true } s s₂ := .trans (.setSafe (.refl ..) _) (State.noTest_only _)
  have h₄ : State.Only { safe := true } s s₄ := .trans (h₂.setSafe _) (State.drivesOff_only _)
  have h₅ : State.Only { safe := true } s s₅ := h₄.trans (.each (fun u n => u.dropHigh_only n) ..)
  have h₆ : State.Only { safe := true } s s₆ :=
    h₅.andThen (.trans (.put (.put (.refl ..) ..) ..) (State.putBytes_only ..)) (by rfl)
  exact (h₆.trans (.each (fun u c => u.startZc_only c) ..)).andThen (.put (.refl ..) ..) (by rfl)

/-! What a reset leaves -/

/-- A warm reset's work on streams and fuses leaves the reset sources, the supplies and what the trust unit remembers. -/
theorem State.strmWarm_cutBurn (s : State) (b : Bool) :
    (s.strmWarm b).cutBurn.sys = { s.sys with staged := (s.strmWarm b).cutBurn.sys.staged } ∧
      (s.strmWarm b).cutBurn.sec = s.sec := by
  have hsys : (s.strmWarm b).sys = { s.sys with staged := (s.strmWarm b).sys.staged } := by
    have h := s.strmWarm_keeps (fun s => { s.sys with staged := [] }) b (fun s t h => by rw [h.sys rfl]) fun _ _ => rfl
    exact congrArg (fun x : SysSt => { x with staged := (s.strmWarm b).sys.staged }) h
  have hsec : (s.strmWarm b).sec = s.sec := s.strmWarm_keeps State.sec b (fun s t h => h.sec rfl) fun _ _ => rfl
  rw [(State.cutBurn_only _).sys rfl, (State.cutBurn_only _).sec rfl]
  exact ⟨hsys, hsec⟩

/-- What a warm reset leaves: its cause bit on top of a state in reset, with nothing in use, in which the reset sources and
the boot copy to avoid are as they were. -/
theorem State.warmReset_eq (s : State) (cause : Nat) : ∃ u : State,
    s.warmReset cause = u.setWord R.SYS_RSTCAUSE (u.word R.SYS_RSTCAUSE ||| BitVec.ofNat 32 (2 ^ cause)) ∧
      u.sys = { s.sys with stage := .reset, sealNew := true, staged := u.sys.staged } ∧ u.live = [] ∧
      u.sec.bootWd = s.sec.bootWd := by
  unfold State.warmReset
  extract_lets beat r t₁ x t₂ t₃ t₄ t₅ y t₆
  have hr : r.sys = { s.sys with staged := r.sys.staged } ∧ r.sec = s.sec := s.strmWarm_cutBurn (cause == 6)
  have h₂ : t₂.sys = { r.sys with stage := .reset, sealNew := true } ∧ t₂.live = [] ∧
      t₂.sec.bootWd = r.sec.bootWd :=
    ⟨rfl, rfl, rfl⟩
  have h₄ : State.Only {} t₂ t₄ := .putBit (.put (.put (.refl ..) ..) ..) ..
  have h₅ : State.Only { safe := true } t₂ t₅ :=
    .andThen (.trans (h₄.widen (by rfl)) (State.safeWarm_only ..)) (State.safeHint_only ..) (by rfl)
  have h₆ : t₆.sys = { t₅.sys with stage := .reset } ∧ t₆.live = t₅.live ∧ t₆.sec = t₅.sec :=
    ⟨rfl, rfl, rfl⟩
  clear_value t₆ t₅ t₂ r
  obtain ⟨hsys, hsec⟩ := hr
  obtain ⟨hsys₂, hlive₂, hsec₂⟩ := h₂
  obtain ⟨hsys₆, hlive₆, hsec₆⟩ := h₆
  refine ⟨t₆, rfl, ?_, ?_, ?_⟩
  · rw [hsys₆, h₅.sys rfl, hsys₂, hsys]
  · rw [hlive₆, h₅.live rfl, hlive₂]
  · rw [hsec₆, h₅.sec rfl, hsec₂, hsec]

theorem State.warmReset_stage (s : State) (cause : Nat) : (s.warmReset cause).sys.stage = .reset := by
  obtain ⟨u, hu, hsys, -⟩ := s.warmReset_eq cause
  rw [hu, State.setWord_sys, hsys]

/-- The sources that hold a reset are as they were. -/
theorem State.warmReset_thermal (s : State) (cause : Nat) : (s.warmReset cause).sys.thermal = s.sys.thermal := by
  obtain ⟨u, hu, hsys, -⟩ := s.warmReset_eq cause
  rw [hu, State.setWord_sys, hsys]

theorem State.warmReset_live (s : State) (cause : Nat) : (s.warmReset cause).live = [] := by
  obtain ⟨u, hu, -, hlive, -⟩ := s.warmReset_eq cause
  rw [hu, State.setWord_live, hlive]

theorem State.warmReset_bootWd (s : State) (cause : Nat) : (s.warmReset cause).sec.bootWd = s.sec.bootWd := by
  obtain ⟨u, hu, -, -, hsec⟩ := s.warmReset_eq cause
  rw [hu, State.setWord_sec, hsec]

theorem State.warmReset_cause (s : State) {cause : Nat} (h : cause < 32) :
    ((s.warmReset cause).word R.SYS_RSTCAUSE).getLsbD cause = true := by
  obtain ⟨u, hu, -⟩ := s.warmReset_eq cause
  rw [hu, State.word_setWord, BitVec.getLsbD_or, BitVec.getLsbD_ofNat, Nat.testBit_two_pow_self, decide_eq_true h]
  simp

/-- A state whose stage, registers and words in use are those that a warm reset leaves, with the DRAM window kept. -/
theorem State.warmFrom_of_warmReset {s u t : State} {cause : Nat} (hc : cause < 32)
    (hs : t.sys.stage = (u.warmReset cause).sys.stage) (hr : t.regs = (u.warmReset cause).regs)
    (hl : t.live = (u.warmReset cause).live) (hd : t.dram = s.dram) : s.WarmFrom cause t := by
  refine ⟨hs.trans (u.warmReset_stage cause), ?_, hl.trans (u.warmReset_live cause), hd⟩
  have hw : t.word R.SYS_RSTCAUSE = (u.warmReset cause).word R.SYS_RSTCAUSE := by rw [State.word, hr, State.word]
  rw [hw]
  exact u.warmReset_cause hc

/-! Power-on -/

theorem State.randomWords_only (s : State) (f : Nat → FldAt) (n : Nat) :
    State.Only { log := false } s (s.randomWords f n) :=
  .each (fun s _ => .trans (.widen s.draw_only (by rfl)) (by exact rfl)) ..

theorem State.randomWords_word (s : State) {f : Nat → FldAt} (n : Nat) {r : RegAt} (h : ∀ w, r.addr ≠ (f w).reg.addr) :
    (s.randomWords f n).word r = s.word r :=
  State.each_keeps (fun s => s.word r) (fun s w => by exact State.word_setWord_ne s.draw.2 _ (h w)) ..

/-- What a power-on reset leaves: its own cause alone, an empty log and an empty DRAM window. -/
theorem State.coldReset_eq (s : State) (cause : Nat) :
    (s.coldReset cause).sys = { s.sys with stage := .reset, sealNew := true, staged := [] } ∧
      (s.coldReset cause).word R.SYS_RSTCAUSE = BitVec.ofNat 32 (2 ^ cause) ∧ (s.coldReset cause).log = [] ∧
      (s.coldReset cause).dram = [] := by
  unfold State.coldReset
  dsimp -zeta only [State.draw]
  extract_lets beat r fld old t₁ t₂ t₃ t₄ t₅
  have hr : r.sys = s.sys := s.cutBurn_only.sys rfl
  have ht : t₄.sys = { r.sys with stage := .reset, sealNew := true, staged := [] } ∧ t₄.log = [] ∧ t₄.dram = [] :=
    ⟨rfl, rfl, rfl⟩
  have hw : t₄.word R.SYS_RSTCAUSE = BitVec.ofNat 32 (2 ^ cause) := State.word_setWord ..
  have h₅ : State.Only { log := false } t₄ t₅ := by exact rfl
  have hw₅ : t₅.word R.SYS_RSTCAUSE = t₄.word R.SYS_RSTCAUSE :=
    State.word_setWord_ne { t₄ with fresh := t₄.fresh + 1 } _ (by decide)
  clear_value t₅ t₄ r
  obtain ⟨hsys, hlog, hdram⟩ := ht
  have hrand : State.Only { log := false } t₄ _ := h₅.trans (t₅.randomWords_only (fun _ => R.SYS_MGMTNONCE.NONCE) 1)
  refine ⟨?_, ?_, ?_, ?_⟩
  · rw [hrand.sys rfl, hsys, hr]
  · rw [State.randomWords_word _ _ fun _ => by decide, hw₅, hw]
  · rw [hrand.log rfl, hlog]
  · rw [hrand.dram rfl, hdram]

/-! What the commands are -/

theorem exec_powerOnReset (now : Nat) (s : State) : exec (.powerOnReset now) s = always allParts now s fun s =>
    { s.coldReset 0 with sys := { (s.coldReset 0).sys with porHold := true, pulse := false } } := rfl
theorem exec_logicSupplyFall (now : Nat) (n : Fin 3) (s : State) :
    exec (.logicSupplyFall now n) s = always allParts now s fun s =>
      { s.coldReset 1 with sys := { (s.coldReset 1).sys with porHold := true, pulse := false } } := rfl
theorem exec_thermalReset (now : Nat) (s : State) : exec (.thermalReset now) s = always regParts now s fun s =>
    if s.sys.thermal then s
    else { s.warmReset 7 with sys := { (s.warmReset 7).sys with thermal := true } } := rfl
theorem exec_thermalRecovery (now : Nat) (s : State) :
    exec (.thermalRecovery now) s = always { regs := false, log := false, sys := true } now s fun s =>
      { s with sys := { s.sys with thermal := false, pulse := s.sys.pulse || s.sys.thermal } } := rfl
theorem exec_refclkLoss (now : Nat) (s : State) : exec (.refclkLoss now) s = always regParts now s fun s =>
    if s.sys.refLost then s
    else { s.warmReset 6 with sys := { (s.warmReset 6).sys with refLost := true } } := rfl
theorem exec_refclkReturn (now : Nat) (s : State) :
    exec (.refclkReturn now) s = always { regs := false, log := false, sys := true } now s fun s =>
      { s with sys := { s.sys with refLost := false, pulse := s.sys.pulse || s.sys.refLost } } := rfl
theorem exec_resetNAssert (now ns : Nat) (s : State) : exec (.resetNAssert now ns) s = always regParts now s fun s =>
    if ns < 1000 ∨ s.sys.pinLow then s
    else if ns < 10000 then if s.draw.1 % 2 = 0 then s.draw.2 else s.draw.2.pulseReset 2
    else { s.warmReset 2 with sys := { (s.warmReset 2).sys with pinLow := true } } := by
  simp only [exec, execResetNAssert, State.pulseReset, State.draw]
theorem exec_resetNRelease (now : Nat) (s : State) :
    exec (.resetNRelease now) s = always { regs := false, log := false, sys := true } now s fun s =>
      { s with sys := { s.sys with pinLow := false, pulse := s.sys.pulse || s.sys.pinLow } } := rfl
theorem exec_watchdogReset (now : Nat) (s : State) :
    exec (.watchdogReset now) s = act regParts now s fun s => s.pulseReset 3 := rfl
theorem exec_softReset (now : Nat) (q : Requester) (data : Word) (s : State) :
    exec (.softReset now q data) s = act regParts now s fun s => s.rstCtl q data := rfl

/-! The sources -/

/-- A commanded reset of class power-on leaves only its own cause, and nothing in log and DRAM window. -/
theorem completes_coldReset {i : Instr} {s : State} {now cause : Nat} (he : exec i s = always allParts now s fun s =>
    { s.coldReset cause with sys := { (s.coldReset cause).sys with porHold := true, pulse := false } }) :
    Completes i s fun t => t.sys.porHold = true ∧ t.sys.stage = .reset ∧
      t.word R.SYS_RSTCAUSE = BitVec.ofNat 32 (2 ^ cause) ∧ t.log = [] ∧ t.dram = [] := by
  obtain ⟨hsys, hword, hlog, hdram⟩ := (s.tick now).coldReset_eq cause
  exact completes_always he ⟨rfl, congrArg SysSt.stage hsys, hword, hlog, hdram⟩

/-- A source that is not active yet starts a warm reset, and holds it as `f` says. -/
theorem completes_warmReset {i : Instr} {s : State} {now cause : Nat} {g : State → State} {f : SysSt → SysSt}
    (he : exec i s = always regParts now s g) (hc : cause < 32) (hf : ∀ x, (f x).stage = x.stage)
    (hg : g (s.tick now) = { (s.tick now).warmReset cause with sys := f ((s.tick now).warmReset cause).sys }) :
    Completes i s fun t => t.sys = f ((s.tick now).warmReset cause).sys ∧ s.WarmFrom cause t := by
  refine completes_always he ?_
  rw [hg]
  exact ⟨rfl, State.warmFrom_of_warmReset hc (hf _) rfl rfl rfl⟩

theorem thermalReset_starts (now : Nat) {s : State} (h : s.sys.thermal = false) :
    Completes (.thermalReset now) s fun t => t.sys.thermal = true ∧ s.WarmFrom 7 t := by
  obtain ⟨t, ht, hsys, hw⟩ := completes_warmReset (cause := 7) (f := fun x => { x with thermal := true })
    (exec_thermalReset now s) (by decide) (fun _ => rfl) (if_neg (by simp [State.tick, h]))
  exact ⟨t, ht, by rw [hsys], hw⟩

theorem refclkLoss_starts (now : Nat) {s : State} (h : s.sys.refLost = false) :
    Completes (.refclkLoss now) s fun t => t.sys.refLost = true ∧ s.WarmFrom 6 t := by
  obtain ⟨t, ht, hsys, hw⟩ := completes_warmReset (cause := 6) (f := fun x => { x with refLost := true })
    (exec_refclkLoss now s) (by decide) (fun _ => rfl) (if_neg (by simp [State.tick, h]))
  exact ⟨t, ht, by rw [hsys], hw⟩

theorem resetNAssert_long {now ns : Nat} {s : State} (hn : 10000 ≤ ns) (h : s.sys.pinLow = false) :
    Completes (.resetNAssert now ns) s fun t => t.sys.pinLow = true ∧ s.WarmFrom 2 t := by
  obtain ⟨t, ht, hsys, hw⟩ := completes_warmReset (cause := 2) (f := fun x => { x with pinLow := true })
    (exec_resetNAssert now ns s) (by decide) (fun _ => rfl) (by
      rw [if_neg (by simp [State.tick, h]; omega), if_neg (by omega)])
  exact ⟨t, ht, by rw [hsys], hw⟩

/-- A source that acts once leaves the hub in a warm reset, and is itself active. -/
theorem State.pulseReset_warmFrom {s u t : State} {cause : Nat} (hc : cause < 32) (hs : t.sys = (u.pulseReset cause).sys)
    (hr : t.regs = (u.pulseReset cause).regs) (hl : t.live = (u.pulseReset cause).live) (hd : t.dram = s.dram) :
    t.sys.pulse = true ∧ s.WarmFrom cause t :=
  ⟨congrArg SysSt.pulse hs, State.warmFrom_of_warmReset (u := u) hc (congrArg SysSt.stage hs :) hr hl hd⟩

theorem watchdogReset_starts (now : Nat) {s : State} (hs : s.Running) :
    Completes (.watchdogReset now) s fun t => t.sys.pulse = true ∧ s.WarmFrom 3 t :=
  completes_act (exec_watchdogReset now s) hs (State.pulseReset_warmFrom (by decide) rfl rfl rfl rfl)

/-- A write of SYS_RSTCTL by a permitted core with the key and WARM. -/
theorem softReset_starts (now : Nat) {pl : Fin 4} {data : Word} {s : State} (hs : s.Running)
    (hp : s.permits (.core0 pl) R.SYS_RSTCTL.addr 4 true = true) (hd : data.toNat = 0x15A17) :
    Completes (.softReset now (.core0 pl) data) s fun t => t.sys.pulse = true ∧ s.WarmFrom 4 t := by
  refine completes_act (exec_softReset now _ data s) hs ?_
  have hw : hasBit data.toNat 16 = true := by rw [hd]; decide
  have hk : data.toNat % 65536 = 0x5A17 := by rw [hd]
  rw [State.rstCtl, State.mediated_core0, State.cmdWrite_taken (s := s.tick now) (State.accepts_of_permits hp (by decide)),
    hw, if_neg (by decide), if_pos hk]
  exact State.pulseReset_warmFrom (by decide) rfl rfl rfl rfl

theorem hasBit_toNat (w : Word) (n : Nat) : hasBit w.toNat n = w.getLsbD n := by
  rw [hasBit, bit, BitVec.getLsbD, Nat.testBit_eq_decide_div_mod_eq]
  rfl

/-! The statements -/

/-- Settles O14: the two power-on sources, then the warm sources and their ends, each by the lemma of its command. -/
theorem resetSourcesComplete : Obligations.ResetSourcesComplete := by
  have hwarm : ∀ {i : Instr} {s : State} {c : Nat} {P : State → Prop},
      (Completes i s fun t => P t ∧ s.WarmFrom c t) →
      Completes i s fun t => P t ∧ t.sys.stage = .reset ∧ hasBit (t.word R.SYS_RSTCAUSE).toNat c = true := by
    rintro i s c P ⟨t, ht, hP, hstage, hcause, -⟩
    exact ⟨t, ht, hP, hstage, (hasBit_toNat ..).trans hcause⟩
  refine ⟨fun now s => completes_coldReset (exec_powerOnReset now s),
    fun now n s => completes_coldReset (exec_logicSupplyFall now n s), fun now s h => hwarm (thermalReset_starts now h),
    fun now s h => ?_, fun now s h => hwarm (refclkLoss_starts now h), fun now s h => ?_,
    fun now ns s hn h => hwarm (resetNAssert_long hn h), fun now s h => ?_,
    fun now s hs => hwarm (watchdogReset_starts now hs),
    fun now pl data s hs hp hd => hwarm (softReset_starts now hs hp hd)⟩
  · exact completes_always (exec_thermalRecovery now s) (by simp [State.tick, h])
  · exact completes_always (exec_refclkReturn now s) (by simp [State.tick, h])
  · exact completes_always (exec_resetNRelease now s) (by simp [State.tick, h])

/-- Settles O51, by the three ranges of the pulse's length; in the middle one the free value decides. -/
theorem resetPinPulses : Obligations.ResetPinPulses := by
  refine ⟨fun now ns s hn => ?_, fun now ns s hn h => resetNAssert_long hn h, fun now ns s hlo hhi h => ?_⟩
  · rw [exec_resetNAssert, always_next, if_pos (.inl hn), keep_self]
  · have hshort : ¬ (ns < 1000 ∨ (s.tick now).sys.pinLow = true) := by simp [State.tick, h]; omega
    by_cases hr : (s.tick now).draw.1 % 2 = 0
    · refine completes_always (exec_resetNAssert now ns s) (.inl ?_)
      rw [if_neg hshort, if_pos hhi, if_pos hr]
      rfl
    · refine completes_always (exec_resetNAssert now ns s) (.inr ?_)
      rw [if_neg hshort, if_pos hhi, if_neg hr]
      obtain ⟨hpulse, hwarm⟩ := State.pulseReset_warmFrom (s := s) (u := (s.tick now).draw.2) (cause := 2)
        (t := keep regParts (s.tick now) ((s.tick now).draw.2.pulseReset 2)) (by decide) rfl rfl rfl rfl
      refine ⟨hpulse, hwarm, completes_always (exec_resetNAssert now 10000 _) ?_⟩
      have htick : State.tick { s with fresh := s.fresh + 1 } now = (s.tick now).draw.2 := rfl
      rw [htick, if_neg (by simp [State.draw, State.tick, h]), if_neg (by decide), State.pulseReset]
      generalize (s.tick now).draw.2.warmReset 2 = w
      rfl

end Sys2Proof.Machine
end

section
/-! PROOF. The events of the field supplies and of the junctions (R34, R35, R37, R284, R328). -/
namespace Sys2Proof.Machine

/-! What the events of the supplies do -/

theorem State.withdrawAll_only (s : State) : State.Only { safe := true } s s.withdrawAll :=
  .trans (.setSafe (.refl ..) _) (State.drivesOff_only _)

theorem State.faultBeat_only (s : State) : State.Only { regs := false, log := false, pair := true } s s.faultBeat :=
  .ite rfl (.refl ..)

theorem State.armSettle_only (s : State) (e : Nat) :
    State.Only { regs := false, log := false, chains := true } s (s.armSettle e) := rfl

theorem State.abandonRun_only (s : State) (t : Nat) (hit : Nat → Bool) :
    State.Only { tiles := true } s (s.abandonRun t hit) := by
  unfold State.abandonRun
  split
  · exact .refl ..
  · exact .ite (.refl ..) (.andThen (by exact rfl) (.putBit (.bump (.refl ..) ..) ..) (by rfl))

theorem State.excSwitch_only (s : State) (t src : Nat) :
    State.Only { chains := true, tiles := true } s (s.excSwitch t src) :=
  .trans (.each (fun s c => .ite ((s.armSettle_only _).widen (by rfl)) (.refl ..)) ..)
    ((State.abandonRun_only ..).widen (by rfl))

/-- The excitation's channels and runs show in the tile's calibration registers. -/
theorem State.excSwitch_get (s : State) (t src : Nat) {f : FldAt} (ha : ∀ t, f.Apart (R.CAL_CNT2.ABANDON t))
    (hs : ∀ t, f.Apart (R.CAL_STAT.SWEEPING t)) : (s.excSwitch t src).get f = s.get f := by
  have hrun : ∀ (u : State) (hit : Nat → Bool), (u.abandonRun t hit).get f = u.get f := fun u hit => by
    unfold State.abandonRun
    split
    · rfl
    dsimp only
    split
    · rfl
    · rw [State.putBit, State.get_put_ne _ _ (hs t), State.get_bump_ne _ _ (ha t)]
      rfl
  unfold State.excSwitch
  rw [hrun]
  refine State.each_keeps (fun u => u.get f) (fun u c => ?_) _ _
  split <;> rfl

theorem SysSt.fieldFault_self {x : SysSt} {b : Bool} (h : x.fieldFault = b) : { x with fieldFault := b } = x := by rw [← h]

/-- FIELD_SUPPLY_FAULT marks the supplies as not good, with the outputs off from the first such event. -/
theorem fieldSupplyFault_marks (now : Nat) (which : Fin 4) (s : State) :
    Completes (.fieldSupplyFault now which) s fun t => t.sys = { s.sys with fieldFault := true } ∧
      (s.sys.fieldFault = false → t.dio = { s.dio with off := true, goodAt := none }) := by
  have he : exec (.fieldSupplyFault now which) s = execFieldSupplyFault now which s := rfl
  unfold execFieldSupplyFault at he
  refine completes_always he ?_
  rw [keep_sys, keep_dio, if_pos rfl, if_pos rfl]
  extract_lets a b _ _ c d _ _
  have ha : State.Only {} (s.tick now) a := by
    unfold a
    split
    · exact .put (.refl ..) ..
    · exact .put (.put (.refl ..) ..) ..
    · exact .put (.refl ..) ..
    · exact .put (.refl ..) ..
  have hb : b.sys = s.sys ∧ b.dio = s.dio := ⟨(ha.put ..).sys rfl, (ha.put ..).dio rfl⟩
  obtain ⟨hsys, hdio⟩ := hb
  have hc : c.sys = { s.sys with fieldFault := true } ∧ c.dio = { s.dio with off := true, goodAt := none } := by
    rw [← hsys, ← hdio]
    exact ⟨rfl, rfl⟩
  have hd : State.Only { safe := true } c d := c.withdrawAll_only
  clear_value a b c d
  obtain ⟨hcsys, hcdio⟩ := hc
  split
  next hf =>
    rw [hsys] at hf
    exact ⟨hsys.trans (SysSt.fieldFault_self hf).symm, fun h => absurd (h.symm.trans hf) Bool.false_ne_true⟩
  have hu : State.Only { safe := true, pair := true } c (if d.sys.stopped then d
      else ((d.bump R.SYS_PWRSTAT.FLD_DROPS).log1 (if which.val = 1 then L.FLD_OV else L.FLD_UV)).faultBeat) :=
    .ite (hd.widen (by rfl)) (.andThen (.andThen (hd.widen (by rfl)) (.log1 (.bump (.refl ..) ..) _) (by rfl))
      (State.faultBeat_only _) (by rfl))
  exact ⟨(hu.sys rfl).trans hcsys, fun _ => (hu.dio rfl).trans hcdio⟩

theorem fldGood_apart_cal : (∀ t, R.SYS_PWRSTAT.FLD_GOOD.Apart (R.CAL_CNT2.ABANDON t)) ∧
    ∀ t, R.SYS_PWRSTAT.FLD_GOOD.Apart (R.CAL_STAT.SWEEPING t) := by
  refine ⟨fun t => .inl ?_, fun t => .inl ?_⟩
  · show 0x208 ≠ 0x2000120 + t * 0x4
    omega
  · show 0x208 ≠ 0x2000100 + t * 0x4
    omega

/-- FIELD_SUPPLY_GOOD marks the supplies as good, with the instant of the first such event. -/
theorem fieldSupplyGood_marks (now : Nat) (s : State) :
    Completes (.fieldSupplyGood now) s fun t => t.sys = { s.sys with fieldFault := false } ∧
      (s.sys.fieldFault = true → t.dio.goodAt = some t.now ∧ t.get R.SYS_PWRSTAT.FLD_GOOD = 1) := by
  have he : exec (.fieldSupplyGood now) s = execFieldSupplyGood now s := rfl
  unfold execFieldSupplyGood at he
  refine completes_always he ?_
  rw [keep_sys, keep_dio, keep_now, if_pos rfl, if_pos rfl, State.get_keep rfl]
  extract_lets a b _ _ c d _
  have hb : State.Only {} (s.tick now) b := .put (.put (.put (.put (.put (.refl ..) ..) ..) ..) ..) ..
  have hget : b.get R.SYS_PWRSTAT.FLD_GOOD = 1 := by
    rw [State.get_put_ne _ _ (by decide), State.get_put _ _ _ (by decide)]
    rfl
  have hsys : b.sys = s.sys := hb.sys rfl
  have hnow : b.now = (s.tick now).now := hb.now
  have hc : c.sys = { b.sys with fieldFault := false } ∧ c.dio = { b.dio with goodAt := some b.now } ∧ c.regs = b.regs :=
    ⟨rfl, rfl, rfl⟩
  have hd : State.Only { safe := true } c d := .setSafe (.refl ..) _
  have hdregs : d.regs = c.regs := rfl
  clear_value a b c d
  obtain ⟨hcsys, hcdio, hcregs⟩ := hc
  split
  next hf =>
    rw [hsys] at hf
    have hf : s.sys.fieldFault = false := by simpa using hf
    exact ⟨hsys.trans (SysSt.fieldFault_self hf).symm, fun h => absurd (hf.symm.trans h) Bool.false_ne_true⟩
  next hf =>
  have hu : State.Only { safe := true, chains := true, tiles := true } c (if d.sys.stopped then d
      else d.each tiles4 fun s t => s.each (List.range 120) fun s src => s.excSwitch t src) :=
    .ite (hd.widen (by rfl)) ((hd.widen (by rfl)).trans
      (.each (fun s t => .each (fun s src => (s.excSwitch_only t src).widen (by rfl)) ..) ..))
  have hug : (if d.sys.stopped then d
      else d.each tiles4 fun s t => s.each (List.range 120) fun s src => s.excSwitch t src).get R.SYS_PWRSTAT.FLD_GOOD =
        d.get R.SYS_PWRSTAT.FLD_GOOD := by
    split
    · rfl
    · exact State.each_keeps (fun u => u.get R.SYS_PWRSTAT.FLD_GOOD) (fun s t =>
        State.each_keeps (fun u => u.get R.SYS_PWRSTAT.FLD_GOOD)
          (fun s src => s.excSwitch_get t src fldGood_apart_cal.1 fldGood_apart_cal.2) s _) d _
  exact ⟨(hu.sys rfl).trans (hcsys.trans (by rw [hsys])), fun _ => ⟨by rw [hu.dio rfl, hcdio, hnow], by
    rw [hug, State.get_congr (hdregs.trans hcregs), hget]⟩⟩

theorem exec_logicTrafficLoss (now : Nat) (s : State) : exec (.logicTrafficLoss now) s = always safeParts now s fun s =>
    State.drivesOff { s with dio := { s.dio with lost := true, off := true } } := rfl
theorem exec_tjHigh (now : Nat) (s : State) :
    exec (.tjHigh now) s = act { pair := true } now s fun s => (s.log1 L.TJ_HIGH).faultBeat := rfl

/-- A fault of the lead of a pair reaches the partner with the FAULT beat of that instant. -/
theorem State.faultBeat_lead {s : State} (hp : s.isPaired = true) (hf : s.isFollow = false) :
    s.faultBeat.pair.faultTx = some s.now := by
  rw [State.faultBeat, hp, hf]
  rfl

/-- Settles O16, by the lemma of each event. -/
theorem fieldSupplyEventsComplete : Obligations.FieldSupplyEventsComplete := by
  refine ⟨fun now which s hs => ?_, fun now s hs => ?_, fun now s => completes_always (exec_logicTrafficLoss now s) ?_,
    fun now s hr hp hf => completes_act (exec_tjHigh now s) hr ⟨?_, ?_⟩⟩
  · obtain ⟨t, ht, hsys, hdio⟩ := fieldSupplyFault_marks now which s
    exact ⟨t, ht, by rw [hsys], by rw [hdio hs]⟩
  · obtain ⟨t, ht, hsys, hdio⟩ := fieldSupplyGood_marks now s
    exact ⟨t, ht, by rw [hsys], hdio hs⟩
  · rw [keep_dio, if_pos rfl, (State.drivesOff_only _).dio rfl]
    exact ⟨rfl, rfl⟩
  · have hon : ∀ {f : FldAt}, f.OffLog → ((s.tick now).log1 L.TJ_HIGH).on f = s.on f := fun hf => by
      rw [State.on, State.get_log1 _ _ _ _ _ _ hf]
      rfl
    rw [keep_pair, if_pos rfl, State.faultBeat_lead ((hon (by decide)).trans hp) ((hon (by decide)).trans hf),
      State.log1_now]
    rfl
  · refine State.logs_keep rfl rfl ?_
    have hb := ((s.tick now).log1 L.TJ_HIGH).faultBeat_only
    have hlog : s.Logs L.TJ_HIGH 0 0 ((s.tick now).log1 L.TJ_HIGH) := State.logs_log1 s _ L.TJ_HIGH 0 0 0 0 rfl
    intro hs
    rw [State.newestEntry_congr (hb.log rfl) (hb.regs rfl)]
    exact hlog hs

end Sys2Proof.Machine
end

section
/-! PROOF. The thermal reset holds (R38). -/
namespace Sys2Proof.Machine

/-- The hub is in reset, and held there by the thermal source (R38). -/
def SysSt.ThermalHold (x : SysSt) : Prop := x.thermal = true ∧ x.stage = .reset

variable {s t : State} {p : Parts} {now : Nat} {f : State → State}

/-- A command whose meaning starts no reset waits for the source. -/
theorem thermalHold_of_act {u : State} (hs : s.sys.ThermalHold)
    (h : Host.Outcome.next (keep p (s.tick now) (if s.sys.stopped = true then s.tick now else u)) = (.next t : Out)) :
    t.sys.ThermalHold := by
  have hstop : s.sys.stopped = true := by simp [SysSt.stopped, hs.1]
  rw [if_pos hstop, keep_self] at h
  rw [← Host.Outcome.next.inj h]
  exact hs

/-- A command that writes no reset state leaves the hold. -/
theorem thermalHold_of_parts {u : State} (hs : s.sys.ThermalHold) (hp : p.sys = false)
    (h : Host.Outcome.next (keep p (s.tick now) u) = (.next t : Out)) : t.sys.ThermalHold := by
  rw [← Host.Outcome.next.inj h, keep_sys, hp]
  exact hs

/-- Of a command that no reset holds up, its meaning has to leave the hold. -/
theorem thermalHold_of_always {i : Instr} {f : State → State} (he : exec i s = always p now s f) (hs : s.sys.ThermalHold)
    (hf : (f (s.tick now)).sys.ThermalHold) (h : exec i s = .next t) : t.sys.ThermalHold := by
  rw [he, always_next] at h
  rw [← Host.Outcome.next.inj h, keep_sys]
  split
  · exact hf
  · exact hs

theorem thermalHold_of_completes {i : Instr} {x : SysSt} {P : State → Prop} (hx : x.ThermalHold)
    (hc : Completes i s fun t => t.sys = x ∧ P t) (h : exec i s = .next t) : t.sys.ThermalHold := by
  obtain ⟨u, hu, hsys, -⟩ := hc
  rw [Host.Outcome.next.inj (h.symm.trans hu), hsys]
  exact hx

/-- A reset takes nothing from the sources that hold. -/
theorem State.warmReset_thermalHold (cause : Nat) (hs : s.sys.ThermalHold) : (s.warmReset cause).sys.ThermalHold :=
  ⟨(s.warmReset_thermal cause).trans hs.1, s.warmReset_stage cause⟩

theorem State.coldReset_thermalHold (cause : Nat) (hs : s.sys.ThermalHold) : (s.coldReset cause).sys.ThermalHold := by
  obtain ⟨hsys, -⟩ := s.coldReset_eq cause
  rw [hsys]
  exact ⟨hs.1, rfl⟩

/-- The host port answers nothing while the source is active. -/
theorem State.tick_hostUp_of_thermalHold (now : Nat) (hs : s.sys.ThermalHold) : (s.tick now).hostUp = false := by
  simp [State.hostUp, State.tick, hs.1]

theorem exec_sealChange (now : Nat) (code : Fin 16) (s : State) :
    exec (.sealChange now code) s = always { regs := false, log := false, sys := true } now s fun s =>
      if s.sys.sealCand = code.val then s
      else { s with sys := { s.sys with sealCand := code, sealSince := s.now, sealNew := true } } := rfl

/-- No command but THERMAL_RECOVERY ends the hold. -/
theorem thermalHold_step {i : Instr} (hs : s.sys.ThermalHold) (hi : ∀ now, i ≠ .thermalRecovery now)
    (h : exec i s = .next t) : t.sys.ThermalHold := by
  cases i
  case thermalRecovery => exact absurd rfl (hi _)
  -- The sources of a reset and their ends.
  case powerOnReset now =>
    exact thermalHold_of_always (exec_powerOnReset now s) hs ((s.tick now).coldReset_thermalHold 0 hs) h
  case logicSupplyFall now n =>
    exact thermalHold_of_always (exec_logicSupplyFall now n s) hs ((s.tick now).coldReset_thermalHold 1 hs) h
  case thermalReset now =>
    refine thermalHold_of_always (exec_thermalReset now s) hs ?_ h
    rw [if_pos (show (s.tick now).sys.thermal = true from hs.1)]
    exact hs
  case refclkLoss now =>
    refine thermalHold_of_always (exec_refclkLoss now s) hs ?_ h
    split
    · exact hs
    · exact (s.tick now).warmReset_thermalHold 6 hs
  case resetNAssert now ns =>
    refine thermalHold_of_always (exec_resetNAssert now ns s) hs ?_ h
    split_ifs
    · exact hs
    · exact hs
    · exact (s.tick now).draw.2.warmReset_thermalHold 2 hs
    · exact (s.tick now).warmReset_thermalHold 2 hs
  case resetRelease now n role =>
    have he : exec (.resetRelease now n role) s = execResetRelease now n role s := rfl
    unfold execResetRelease at he
    refine thermalHold_of_always he hs ?_ h
    rw [if_pos (.inr (.inr (.inl hs.1)))]
    exact hs
  case refclkReturn now => exact thermalHold_of_always (exec_refclkReturn now s) hs hs h
  case resetNRelease now => exact thermalHold_of_always (exec_resetNRelease now s) hs hs h
  -- Other commands that write reset state.
  case fieldSupplyFault now which =>
    exact thermalHold_of_completes (x := { s.sys with fieldFault := true }) hs
      (fieldSupplyFault_marks now which s) h
  case fieldSupplyGood now =>
    exact thermalHold_of_completes (x := { s.sys with fieldFault := false }) hs (fieldSupplyGood_marks now s) h
  case sealChange now code =>
    refine thermalHold_of_always (exec_sealChange now code s) hs ?_ h
    split
    · exact hs
    · exact hs
  case sealCodeAccept now =>
    have he : exec (.sealCodeAccept now) s = execSealCodeAccept now s := rfl
    unfold execSealCodeAccept at he
    refine thermalHold_of_always he hs ?_ h
    rw [if_pos (.inl (by simp [State.tick, hs.1]))]
    exact hs
  case hostWrite now header addr data crc =>
    have he : exec (.hostWrite now header addr data crc) s = execHostWrite now header addr data crc s := rfl
    unfold execHostWrite at he
    refine thermalHold_of_always he hs ?_ h
    rw [if_neg (by simp [State.tick_hostUp_of_thermalHold now hs])]
    exact hs
  case hostFrameAbort now request late =>
    have he : exec (.hostFrameAbort now request late) s = execHostFrameAbort now request late s := rfl
    unfold execHostFrameAbort at he
    refine thermalHold_of_always he hs ?_ h
    rw [if_pos (by simp [State.tick_hostUp_of_thermalHold now hs])]
    exact hs
  case hostLegacyWrite now half data clocks =>
    have he : exec (.hostLegacyWrite now half data clocks) s = execHostLegacyWrite now half data clocks s := rfl
    unfold execHostLegacyWrite at he
    refine thermalHold_of_always he hs ?_ h
    rw [if_pos (by simp [State.tick_hostUp_of_thermalHold now hs])]
    exact hs
  case hostRead | hostNop | hostLegacyRead | rcvErase | rcvProgram | rcvFlashDone | logicTrafficLoss | keeperMarkerTimeout =>
    exact thermalHold_of_parts hs rfl h
  -- All other commands wait for the reset's end.
  all_goals exact thermalHold_of_act hs h

/-- Settles O50: the reset and its end by the lemmas of the two events, the hold by the case of every command. -/
theorem thermalResetHolds : Obligations.ThermalResetHolds :=
  ⟨fun now _ hs => thermalReset_starts now hs, fun _ _ _ hth hst hi h => thermalHold_step ⟨hth, hst⟩ hi h,
    fun now s => completes_always (exec_thermalRecovery now s) ⟨rfl, rfl⟩⟩

end Sys2Proof.Machine
end

section
/-! PROOF. What the start of the hub does (R44, R355 to R357): the parts that the ROM's steps reach, and the two ends of a
start. -/
namespace Sys2Proof.Machine

/-! The fuse load -/

theorem State.showSrc_only (s : State) (e : Nat) : State.Only {} s (s.showSrc e) := .putBit (.put (.refl ..) ..) ..

theorem State.setCal_only (s : State) (c : CalSt) :
    State.Only { regs := false, log := false, cal := true } s { s with cal := c } := rfl

theorem State.loadFuses_only (s : State) : State.Only { cal := true } s s.loadFuses := by
  unfold State.loadFuses
  extract_lets ok s₁ s₂ s₃ c s₄ g1 g2 g3 s₅ order newest seen s₆ s₇
  have h₂ : State.Only {} s s₂ := .ite (.putBit (.refl ..) ..) (.log1 (.putBit (.refl ..) ..) _)
  have h₃ : State.Only {} s₂ s₃ := .each (fun s t => by
    extract_lets a b
    have ha : State.Only {} s a := .each (fun s i => .put (.put (.refl ..) ..) ..) ..
    exact .trans (ha.put ..) (.each (fun s p => .put (.put (.put (.put (.refl ..) ..) ..) ..) ..) ..)) ..
  have h₄ : State.Only { regs := false, log := false, cal := true } s₃ s₄ := s₃.setCal_only _
  have h₆ : State.Only {} s₄ s₆ :=
    .trans (.put (.put (.put (.refl ..) ..) ..) ..) (.each (fun s x => .log1 (.refl ..) _) ..)
  have h₇ : State.Only { cal := true } s₆ s₇ := by
    unfold s₇
    rcases newest with _ | k
    · exact .widen (.put (.refl ..) ..) (by rfl)
    dsimp -zeta only
    extract_lets b a c
    have hc : State.Only {} s₆ c := .trans (.put (.refl ..) ..) (.each (fun s t => .put (.refl ..) ..) ..)
    refine (hc.widen (by rfl)).trans (.each (fun s e => .ite (.refl ..) ?_) ..)
    extract_lets cls i o g u v
    have hv : State.Only {} s v := .put (.put (.put (.put (.refl ..) ..) ..) ..) ..
    exact (hv.widen (by rfl)).andThen (v.setCal_only _) (by rfl)
  have h : State.Only { cal := true } s s₇ :=
    ((((h₂.trans h₃).widen (by rfl)).andThen h₄ (by rfl)).andThen h₆ (by rfl)).trans h₇
  exact h.trans (.each (fun s e => (s.showSrc_only e).widen (by rfl)) ..)

theorem State.showKeys_only (s : State) : State.Only {} s s.showKeys := by
  unfold State.showKeys
  exact .put (.putBit (.putBit (.put (.put (.each (fun s k => .each (fun s w => .put (.refl ..) ..) ..) ..)
    ..) ..) ..) ..) ..

theorem State.showIdentity_only (s : State) : State.Only {} s s.showIdentity :=
  .trans (.trans (.put (.put (.put (.put (.put (.put (.refl ..) ..) ..) ..) ..) ..) ..) (State.showKeys_only _))
    (State.putBytes_only ..)

theorem State.seedRotation_only (s : State) : State.Only { regs := false, log := false, tiles := true } s s.seedRotation :=
  .each (fun s t => by exact rfl) ..

/-! Images in flash -/

theorem State.flashProgram_only (s : State) (a : Nat) (l : List Byte) :
    State.Only { regs := false, log := false, flash := true } s (s.flashProgram a l) := by
  induction l generalizing s a with
  | nil => exact .refl ..
  | cons b l ih => exact .trans (by exact rfl) (ih ..)

theorem State.programWord_only (s : State) (base off v : Nat) :
    State.Only { regs := false, log := false, flash := true } s (s.programWord base off v) := s.flashProgram_only ..

theorem State.setSec_only (s : State) (x : SecSt) :
    State.Only { regs := false, log := false, sec := true } s { s with sec := x } := rfl

theorem State.extendDm_only (s : State) (k : Nat) (v : List Byte) : State.Only {} s (s.extendDm k v) :=
  s.putBytes_only ..

theorem State.dmEvent_only (s : State) (c x : Nat) : State.Only {} s (s.dmEvent c x) := s.extendDm_only ..

theorem State.clearConflicts_only (s : State) (rank : Nat) :
    State.Only { sec := true } s (s.clearConflicts rank) :=
  .ite (.andThen (.widen (.put (.refl ..) ..) (by rfl)) (State.setSec_only ..) (by rfl)) (.refl ..)

theorem State.activate_only (s : State) (k : Nat) : State.Only { flash := true, sec := true } s (s.activate k) := by
  unfold State.activate
  extract_lets st b seq s₁
  rcases s.fullGood 0 st with _ | m
  · exact .andThen ((s.programWord_only ..).widen (by rfl)) (.log1 (.refl ..) _) (by rfl)
  dsimp -zeta only
  extract_lets s₂ s₃
  have h₁ : State.Only { regs := false, log := false, flash := true } s s₁ := rfl
  have h₂ : State.Only { regs := false, log := false, flash := true } s₁ s₂ := (s₁.flashProgram_only ..).trans rfl
  have h₃ : State.Only { regs := false, log := false, flash := true } s₂ s₃ :=
    (s₂.programWord_only ..).trans (State.programWord_only ..)
  have h₄ : State.Only { flash := true, sec := true } s (s₃.clearConflicts m.rank) :=
    .andThen (((h₁.trans h₂).trans h₃).widen (by rfl)) (s₃.clearConflicts_only _) (by rfl)
  exact h₄.andThen (.put (.log1 (State.dmEvent_only ..) _) ..) (by rfl)

theorem State.runActive_only (s : State) (k : Nat) (fall : Option Nat) :
    State.Only { flash := true, sec := true } s (s.runActive k fall) := by
  unfold State.runActive
  extract_lets b sec s₁
  have h₁ : State.Only { flash := true, sec := true } s s₁ := rfl
  rcases s₁.manifestAt b with _ | m
  · exact h₁
  dsimp -zeta only
  extract_lets s₂ w left s₃ s₄
  have h₂ : State.Only { flash := true, sec := true } s s₂ := h₁.andThen (.put (.put (.refl ..) ..) ..) (by rfl)
  have h₃ : State.Only { regs := false, log := false, flash := true } s₂ s₃ := by
    unfold s₃
    rcases left with _ | i
    · exact .refl ..
    · exact s₂.programWord_only ..
  have h₄ : State.Only { flash := true, sec := true } s s₄ :=
    (h₂.andThen h₃ (by rfl)).andThen (.put (.put (.refl ..) ..) ..) (by rfl)
  exact .ite h₂ (h₄.andThen (s₄.setSec_only _) (by rfl))

theorem tryBoot_only (l : List Nat) (s : State) : State.Only {} s (tryBoot l s).1 := by
  induction l generalizing s with
  | nil => exact .refl ..
  | cons c l ih =>
    unfold tryBoot
    split
    · exact .refl ..
    · exact .trans (.log1 (s.dmEvent_only ..) _) (ih _)

/-! The two ends of a start -/

/-- The start of `s` leads to `t`: images may have been activated or marked, the stage stays or the hub is in recovery. -/
def State.Starts (s t : State) : Prop :=
  State.Only { flash := true, sec := true, sys := true } s t ∧
    (t.sys = s.sys ∨ t.sys = { s.sys with stage := .recovery })

theorem State.Starts.of_only {s t : State} (h : State.Only { flash := true, sec := true } s t) : s.Starts t :=
  ⟨h.widen (by rfl), .inl (h.sys rfl)⟩

theorem State.Starts.recover {s t : State} (h : State.Only { flash := true, sec := true } s t) : s.Starts t.recover := by
  have hr : State.Only { sys := true } t t.recover := .trans (.widen (.put (.refl ..) ..) (by rfl)) rfl
  refine ⟨(h.widen (by rfl)).andThen hr (by rfl), .inr ?_⟩
  rw [← h.sys rfl]
  rfl

theorem State.Starts.trans {s t u : State} (h : State.Only { flash := true, sec := true } s t) (h' : t.Starts u) :
    s.Starts u :=
  ⟨(h.widen (by rfl)).trans h'.1, by rw [← h.sys rfl]; exact h'.2⟩

theorem State.Starts.setSec {s t : State} (h : s.Starts t) (x : SecSt) : s.Starts { t with sec := x } :=
  ⟨h.1.andThen (t.setSec_only x) (by rfl), h.2⟩

theorem State.resolveSlots_starts (s : State) : s.Starts s.resolveSlots := by
  have hrun : ∀ {u : State} (k : Nat) (fall : Option Nat), State.Only { flash := true, sec := true } s u →
      s.Starts (u.runActive k fall) := fun k fall h => .of_only (h.andThen (State.runActive_only ..) (by rfl))
  unfold State.resolveSlots
  rcases s.slotRoles with ⟨_ | a, fall⟩
  · exact .recover (.refl ..)
  dsimp -zeta only
  split
  · exact hrun a fall (.refl ..)
  rcases fall with _ | f
  · exact hrun a none (.widen (.log1 (.refl ..) _) (by rfl))
  dsimp -zeta only
  split
  · have h : State.Only { flash := true, sec := true } s (s.programWord (flImage a) swRejected 0) :=
      (s.programWord_only ..).widen (by rfl)
    exact hrun f none (h.andThen (.log1 (.trans (.put (.refl ..) ..) (State.dmEvent_only ..)) _) (by rfl))
  · exact hrun a (some f) (.refl ..)

/-- Once the fuses are loaded and the rotation registers seeded, the ROM leaves all parts but those of a start. -/
theorem State.runRom_starts (s : State) : s.loadFuses.showIdentity.seedRotation.Starts s.runRom := by
  unfold State.runRom
  extract_lets s₁ s₂ s₃ s₄ s₅ order
  have h₄ : State.Only {} s₁ s₄ :=
    .put (.trans (s₁.extendDm_only ..) ((s₂.randomWords_only R.SEC_NONCE.NONCE 8).widen (by rfl))) ..
  have h₅ : State.Only { flash := true, sec := true } s₁ s₅ := .widen (.ite (h₄.put ..) h₄) (by rfl)
  split
  · exact .recover h₅
  have hboot : State.Only { flash := true, sec := true } s₁ (tryBoot order s₅).1 :=
    h₅.andThen (tryBoot_only ..) (by rfl)
  generalize tryBoot order s₅ = r at hboot ⊢
  obtain ⟨u, _ | ⟨c, m⟩⟩ := r
  · exact .recover hboot
  dsimp -zeta only
  extract_lets u₁ u₂ u₃ u₄
  have h₂ : State.Only { flash := true, sec := true } s₁ u₂ :=
    hboot.andThen (.trans (.putBit (.put (.refl ..) ..) ..) (u₁.extendDm_only ..)) (by rfl)
  have h₃ : State.Only { flash := true, sec := true } u₂ u₃ := by
    unfold u₃
    rcases u₂.slotRoles.1 with _ | a
    · exact .refl ..
    · exact .ite (u₂.activate_only a) (.refl ..)
  have h₄ : s₁.Starts u₄ := .trans (h₂.trans h₃) (State.resolveSlots_starts _)
  exact h₄.setSec _

/-- The rotation register of a tile counts its steps anew. -/
theorem State.seedRotation_lfsrAt (s : State) : (s.seedRotation.tile 0).lfsrAt = 0 := by
  unfold State.seedRotation
  simp only [State.each, List.foldl, State.modTile, State.setTile, State.tile]
  rw [Tbl.get_set_ne _ _ _ (by decide), Tbl.get_set_ne _ _ _ (by decide), Tbl.get_set_ne _ _ _ (by decide), Tbl.get_set_self]

/-! The commands of a start -/

/-- With every source released the ROM runs, from that instant, and ends in the boot stage or in recovery. -/
theorem resetRelease_starts (now refEdges : Nat) (role : Bool) {s : State} (hs : s.sys.stage = .reset)
    (hpin : s.sys.pinLow = false) (hth : s.sys.thermal = false) (href : s.sys.refLost = false) :
    Completes (.resetRelease now refEdges role) s fun t =>
      ((t.sys.stage = .boot ∨ t.sys.stage = .recovery) ∧ t.sys.releasedAt = t.now ∧ t.sys.porHold = false ∧
        t.sys.pulse = false) ∧ (t.tile 0).lfsrAt = 0 := by
  have he : exec (.resetRelease now refEdges role) s = execResetRelease now refEdges role s := rfl
  unfold execResetRelease at he
  refine completes_always he ?_
  rw [if_neg (by simp [State.tick, hs, hpin, hth, href])]
  extract_lets x u v w
  have hw : State.Only {} u w := .putBit (.putBit (.putBit (.putBit (.refl ..) ..) ..) ..) ..
  have hu : u.sys.stage = .boot ∧ u.sys.releasedAt = (s.tick now).now ∧ u.sys.porHold = false ∧ u.sys.pulse = false :=
    ⟨rfl, rfl, rfl, rfl⟩
  clear_value w u
  have hseed : State.Only { cal := true, tiles := true } w w.loadFuses.showIdentity.seedRotation :=
    .andThen (.andThen (w.loadFuses_only.widen (by rfl)) (State.showIdentity_only _) (by rfl))
      (State.seedRotation_only _) (by rfl)
  obtain ⟨hrom, hstage⟩ := w.runRom_starts
  have hzero := w.loadFuses.showIdentity.seedRotation_lfsrAt
  rw [State.tile, ← hrom.tiles rfl] at hzero
  rw [hseed.sys rfl, hw.sys rfl] at hstage
  rw [keep_sys, keep_now, if_pos rfl, State.tile, keep_tiles, if_pos rfl]
  refine ⟨?_, hzero⟩
  obtain ⟨hboot, hnow, hpor, hpulse⟩ := hu
  rcases hstage with h | h
  · rw [h]
    exact ⟨.inl hboot, hnow, hpor, hpulse⟩
  · rw [h]
    exact ⟨.inr rfl, hnow, hpor, hpulse⟩

/-- Refutes O48: RESET_RELEASE is in no list of those that change tiles, and its ROM seeds the rotation register of every
tile (R91). Here the register of tile 0 was last stepped for count 5, and is then set to count 0. -/
theorem not_unitsKept : ¬ Obligations.UnitsKept := by
  intro h
  obtain ⟨t, ht, -, hzero⟩ :=
    resetRelease_starts (s := { State.reset with tiles := [(0, { lfsrAt := 5 })] }) 0 2000 false rfl rfl rfl rfl
  obtain ⟨-, -, -, -, -, -, htiles, -⟩ := h _ _ _ rfl ht
  rw [State.tile, htiles rfl] at hzero
  exact absurd hzero (by decide)

end Sys2Proof.Machine
end

section
/-! PROOF. The start of the firmware, the roles and the seal (R46, R47, R52, R355, R356, R392). -/
namespace Sys2Proof.Machine

/-! An erased slot holds no image -/

theorem State.flashRead_cons (s : State) (a : Nat) {n : Nat} (h : 0 < n) :
    ∃ l, s.flashRead a n = Tbl.get 0xFF s.flash a :: l := by
  obtain ⟨n, rfl⟩ := Nat.exists_eq_add_one.2 h
  exact ⟨_, by rw [State.flashRead, List.range_succ_eq_map]; rfl⟩

/-- Four bytes of which the first is 0xFF are no magic number. -/
theorem headerGood_erased (l : List Byte) (n : Nat) : headerGood (0xFF :: l) n = false := by
  have hmagic : fieldAt (0xFF :: l) 0 4 ≠ 0x43484F52 := by
    obtain ⟨x, y, z, hxyz⟩ : ∃ x y z, takePad 3 l = [x, y, z] := by
      rcases l with _ | ⟨x, _ | ⟨y, _ | ⟨z, l⟩⟩⟩ <;> exact ⟨_, _, _, rfl⟩
    have h : fieldAt (0xFF :: l) 0 4 = beNat (0xFF :: takePad 3 l) := rfl
    rw [h, hxyz]
    simp only [beNat, List.foldl]
    have h0 : (0xFF : Byte).toNat = 255 := rfl
    rw [h0]
    omega
  simp only [headerGood, beq_eq_false_iff_ne.2 hmagic, Bool.false_and]

/-! `slotImage` and `imageOrder` are unfolded under their names alone: unfolded on their arguments, they have the kernel
compare two matches on an image, and so list the 2^20 bytes of the slot. -/

theorem State.slotImage_error {s : State} {k : Nat} {e : Nat × Nat}
    (h : s.checkImage (s.flashRead (flChor k) slotSize) = .error e) : s.slotImage k = none := by
  generalize hf : State.slotImage = f
  delta State.slotImage at hf
  subst hf
  beta_reduce
  rw [h]

theorem State.imageOrder_nil {s : State} (h : s.slotImage 0 = none) (h' : s.slotImage 1 = none) : s.imageOrder = [] := by
  generalize hf : State.imageOrder = f
  delta State.imageOrder at hf
  subst hf
  beta_reduce
  rw [h, h']

theorem State.slotImage_erased {s : State} {k : Nat} (h : Tbl.get 0xFF s.flash (flChor k) = 0xFF) :
    s.slotImage k = none := by
  obtain ⟨l, hl⟩ := s.flashRead_cons (flChor k) (n := slotSize) (by decide)
  have hc : s.checkImage (0xFF :: l) = .error (chBadHeader, 0) := by
    rw [State.checkImage, if_pos (.inr (by rw [headerGood_erased]; rfl))]
  refine State.slotImage_error (e := (chBadHeader, 0)) ?_
  rw [hl, h, hc]

/-- What is programmed above `a` leaves the byte at `a`. -/
theorem State.flashProgram_get (s : State) {a b : Nat} (l : List Byte) (h : a < b) :
    Tbl.get 0xFF (s.flashProgram b l).flash a = Tbl.get 0xFF s.flash a := by
  induction l generalizing s b with
  | nil => rfl
  | cons x l ih =>
    rw [State.flashProgram, ih _ (by omega)]
    exact Tbl.get_set_ne _ _ _ (by omega)

/-! What the firmware takes up -/

theorem State.hint_only (s : State) (n : Nat) : State.Only {} s (s.hint n) := .put (.refl ..) ..

theorem State.showSess_only (s : State) : State.Only {} s s.showSess := by
  unfold State.showSess
  extract_lets n u
  have hu : State.Only {} s u := .ite (.refl ..) (.trans (.put (.refl ..) ..) (State.hint_only ..))
  split
  all_goals exact .putBit (.put (.put (.put (.put hu ..) ..) ..) ..) ..

theorem State.resumeSess_only (s : State) : State.Only { flash := true, sec := true } s s.resumeSess := by
  unfold State.resumeSess
  extract_lets b
  rcases s.manifestAt b with _ | m
  · exact s.showSess_only.widen (by rfl)
  dsimp -zeta only
  split
  · exact s.showSess_only.widen (by rfl)
  extract_lets good blocks all u v
  have hu : State.Only { flash := true, sec := true } s u := .andThen (.refl ..) (s.setSec_only _) (by rfl)
  have hv : State.Only { flash := true, sec := true } s v :=
    .ite ((hu.andThen (State.programWord_only ..) (by rfl)).andThen (.log1 (.refl ..) _) (by rfl)) hu
  exact hv.andThen (State.showSess_only _) (by rfl)

/-- Taking up a session programs no more than a state word of STAGING. -/
theorem State.resumeSess_flash (s : State) {a : Nat} (h : a < flImage 2 + 0xF000) :
    Tbl.get 0xFF s.resumeSess.flash a = Tbl.get 0xFF s.flash a := by
  unfold State.resumeSess
  extract_lets b
  rcases s.manifestAt b with _ | m
  · rw [(State.showSess_only _).flash rfl]
  dsimp -zeta only
  split
  · rw [(State.showSess_only _).flash rfl]
  extract_lets good blocks all u v
  rw [(State.showSess_only _).flash rfl]
  unfold v
  split
  · rw [State.log1_flash]
    exact u.flashProgram_get _ (Nat.lt_of_lt_of_le h (Nat.le_add_right ..))
  · rfl

theorem State.burnArb_only (s : State) (n : Nat) :
    State.Only { regs := false, log := false, fuse := true } s (s.burnArb n) :=
  .each (fun s _ => .ite (s.burnWord_only ..) (.refl ..)) ..

theorem State.advanceArb_only (s : State) : State.Only { fuse := true } s s.advanceArb := by
  unfold State.advanceArb
  rcases s.activeMan with _ | m
  · exact .refl ..
  · exact .ite (.refl ..) (.andThen ((s.burnArb_only _).widen (by rfl)) (.log1 (State.showKeys_only _) _) (by rfl))

theorem flImage_eq (k : Nat) : flImage k = 0x800000 + k * slotBytes := rfl

theorem flChor_eq (k : Nat) : flChor k = 0x400000 + 0x100000 * k := rfl

theorem flChor_lt {k : Nat} (h : k < 2) : flChor k < flImage 2 + 0xF000 := by
  rw [flImage_eq, flChor_eq]
  omega

/-! The firmware's start without an image -/

/-- With both slots erased the hub stays without an image. -/
theorem firmwareStart_bare (now : Nat) {settings : Settings} {s : State} (hr : s.Running) (hs : s.sys.stage = .firmware)
    (hb : s.chor.bare = false) (hforce : s.chor.force = none) (hslot : settings.slot = none) (hw : settings.words = [])
    (hu : settings.unreadable = false) (h0 : Tbl.get 0xFF s.flash (flChor 0) = 0xFF)
    (h1 : Tbl.get 0xFF s.flash (flChor 1) = 0xFF) :
    Completes (.firmwareStart now settings) s fun t => t.chor.bare = true ∧ t.chor.force = none := by
  have he : exec (.firmwareStart now settings) s = execFirmwareStart now settings s := rfl
  unfold execFirmwareStart at he
  refine completes_act he hr ?_
  obtain ⟨u, hload, hsys, hchor, hflash⟩ : ∃ u, (s.tick now).loadSettings settings = u ∧ u.sys = s.sys ∧
      u.chor = s.chor ∧ u.flash = s.flash := by
    refine ⟨{ s.tick now with sec := { (s.tick now).sec with format := settings.newest } }, ?_, rfl, rfl, rfl⟩
    rw [State.loadSettings, hu, hslot, hw]
    simp only [Bool.and_false, Bool.false_eq_true, if_false]
    rfl
  rw [hload, if_neg (by simp [State.tick, hs, hb, hforce])]
  extract_lets u' v w
  rw [if_neg (by rw [hsys, show s.sys.stopped = false from hr]; exact Bool.false_ne_true)]
  have hv : v = u.resumeSess := rfl
  have hw : State.Only { fuse := true } v w := by
    unfold w
    rcases v.sec.act with _ | k
    · exact .refl ..
    · exact .ite v.advanceArb_only (.refl ..)
  clear_value w v
  have hslots : ∀ k, k < 2 → Tbl.get 0xFF w.flash (flChor k) = Tbl.get 0xFF s.flash (flChor k) := fun k hk => by
    rw [hw.flash rfl, hv, u.resumeSess_flash (flChor_lt hk), hflash]
  have htry : tryImages w.imageOrder w = (w, none) := by
    rw [State.imageOrder_nil (State.slotImage_erased ((hslots 0 (by decide)).trans h0))
      (State.slotImage_erased ((hslots 1 (by decide)).trans h1)), tryImages]
  have hchor' : w.chor = s.chor := by rw [hw.chor rfl, hv, u.resumeSess_only.chor rfl, hchor]
  rw [htry, keep_chor, if_pos rfl]
  exact ⟨rfl, by rw [← hforce, ← hchor']⟩

end Sys2Proof.Machine
end

section
/-! PROOF. The steps of the start, one by one, and the start (R44, R46, R47, R52, R355 to R357, R392). -/
namespace Sys2Proof.Machine

theorem State.get_putBit_ne (s : State) {f g : FldAt} (b : Bool) (h : g.Apart f) : (s.putBit f b).get g = s.get g :=
  s.get_put_ne _ h

/-! The boot stage -/

theorem State.manifestAt_tick (s : State) (n b : Nat) : (s.tick n).manifestAt b = s.manifestAt b := rfl
theorem State.acceptable_tick (s : State) (n k : Nat) (m : Manifest) : (s.tick n).acceptable k m = s.acceptable k m := rfl
theorem State.blocksGood_tick (s : State) (n b : Nat) (m : Manifest) : (s.tick n).blocksGood b m = s.blocksGood b m := rfl

/-- An image is as acceptable at one instant as at another. -/
theorem State.fullGood_tick (s : State) (n k b : Nat) : (s.tick n).fullGood k b = s.fullGood k b := by
  rw [State.fullGood, State.fullGood, State.manifestAt_tick]
  rcases s.manifestAt b with _ | m
  · rfl
  · dsimp only
    rw [State.acceptable_tick, State.blocksGood_tick]

theorem bootStageStart_accepts (now : Nat) {k : Nat} {m : Manifest} {s : State} (hr : s.Running) (hs : s.sys.stage = .boot)
    (hk : s.sec.act = some k) (hm : s.fullGood 0 (flImage k) = some m) :
    Completes (.bootStageStart now) s fun t => t.sys.stage = .firmware ∧ t.get R.SEC_DMCTL.LOCKED = 1 ∧
      t.get R.SYS_FWVER.VERSION = m.version % 2 ^ 32 := by
  have he : exec (.bootStageStart now) s = execBootStageStart now s := rfl
  unfold execBootStageStart at he
  refine completes_act he hr ?_
  rw [State.tick_sys, State.tick_sec, hs, hk]
  dsimp -zeta only
  rw [State.fullGood_tick, hm]
  dsimp -zeta only
  generalize (s.tick now).extendDm 2 m.digest = r
  extract_lets u v
  have hlocked : v.get R.SEC_DMCTL.LOCKED = 1 := by
    rw [State.get_put_ne _ _ (by decide), State.get_put_ne _ _ (by decide), State.get_put _ _ _ (by decide)]
    rfl
  have hversion : v.get R.SYS_FWVER.VERSION = m.version % 2 ^ 32 := by
    rw [State.get_put_ne _ _ (by decide), State.get_put _ _ _ (by decide)]
    rfl
  clear_value v
  exact ⟨rfl, hlocked, hversion⟩

/-- After 1 s in the boot stage the hub resets, and remembers the copy that it ran. -/
theorem bootWatchdog_resets (now : Nat) {s : State} (hr : s.Running) (hs : s.sys.stage = .boot)
    (hn : s.sys.releasedAt + secU ≤ max s.now now) :
    Completes (.bootWatchdog now) s fun t => t.sys.pulse = true ∧ t.sys.stage = .reset ∧
      t.sec.bootWd = some (s.get R.SEC_BOOTST.COPY) := by
  have he : exec (.bootWatchdog now) s = execBootWatchdog now s := rfl
  unfold execBootWatchdog at he
  refine completes_act he hr ?_
  rw [if_neg (by simp [State.tick, hs]; omega)]
  extract_lets x u
  have hu : u.sec.bootWd = some (s.get R.SEC_BOOTST.COPY) := rfl
  exact ⟨rfl, u.warmReset_stage 3, (u.warmReset_bootWd 3).trans hu⟩

/-! Roles and seal -/

theorem roleResolve_follow (now unit : Nat) (pin : Bool) {s : State} (hr : s.Running) (hs : s.sys.stage = .firmware) :
    Completes (.roleResolve now true unit pin) s fun t =>
      t.isFollow = true ∧ t.pair.beatAt = some t.now ∧ t.pair.partnerUnit = unit := by
  have he : exec (.roleResolve now true unit pin) s = execRoleResolve now true unit pin s := rfl
  unfold execRoleResolve at he
  refine completes_act he hr ?_
  rw [if_neg (by simp [State.tick, hs]), if_pos rfl]
  extract_lets u
  have hfollow : u.get R.SYS_CHAINPOS.FOLLOW = 1 := by
    rw [State.get_log1 _ _ _ _ _ _ (by decide), State.setRole, State.get_putBit_ne _ _ (by decide),
      State.get_putBit _ _ _ (by decide) (by decide)]
    rfl
  have hrole : State.Only {} (s.tick now) u :=
    .log1 (.putBit (.putBit (.ite (.refl ..) (State.hint_only ..)) ..) ..) _
  have hnow : u.now = (s.tick now).now := hrole.now
  clear_value u
  refine ⟨?_, ?_, rfl⟩
  · rw [State.isFollow, State.on, State.get_keep rfl]
    exact beq_iff_eq.2 hfollow
  · rw [keep_pair, if_pos rfl, keep_now, ← hnow]
    rfl

theorem sealChange_starts (now : Nat) {code : Fin 16} {s : State} (h : s.sys.sealCand ≠ code.val) :
    Completes (.sealChange now code) s fun t =>
      t.sys.sealCand = code.val ∧ t.sys.sealSince = t.now ∧ t.sys.sealNew = true :=
  completes_always (exec_sealChange now code s) (by rw [State.tick_sys, if_neg h]; exact ⟨rfl, rfl, rfl⟩)

/-- A hint of the safety functions shows in SYS_HINTST alone. -/
theorem State.safeHint_get (s old : State) {f : FldAt} (h : f.Apart R.SYS_HINTST.CAUSE) :
    (s.safeHint old).get f = s.get f := by
  unfold State.safeHint
  split
  · rfl
  · exact s.hint_get_ne _ h

/-- A code that has been stable for 20 ms shows. -/
theorem sealCodeAccept_shows (now : Nat) {s : State} (hr : s.Running) (hnew : s.sys.sealNew = true)
    (hn : s.sys.sealSince + 20 * msU ≤ max s.now now) (hc : s.sys.sealCand < 16)
    (hne : s.get R.SYS_STRAP.SEAL ≠ s.sys.sealCand) :
    Completes (.sealCodeAccept now) s fun t => t.sys.sealNew = false ∧ t.get R.SYS_STRAP.SEAL = s.sys.sealCand ∧
      t.get R.SYS_STRAP.SEAL_OPEN = (if s.sys.sealCand = 0b1010 then 1 else 0) ∧
      t.get R.SYS_STRAP.SEAL_CLOSED = (if s.sys.sealCand = 0b0101 then 1 else 0) := by
  have he : exec (.sealCodeAccept now) s = execSealCodeAccept now s := rfl
  unfold execSealCodeAccept at he
  refine completes_always he ?_
  extract_lets held c x t u v w
  have hheld : held = false := by
    have h : (held || s.sys.stage == .recovery) = false := hr
    exact (Bool.or_eq_false_iff.1 h).1
  have hstable : ¬ (held = true ∨ (!(s.tick now).sys.sealNew) = true ∨
      (s.tick now).now < (s.tick now).sys.sealSince + 20 * msU) := by
    rintro (h | h | h)
    · exact absurd (hheld.symm.trans h) Bool.false_ne_true
    · rw [State.tick_sys, hnew] at h
      exact absurd h Bool.false_ne_true
    · exact absurd h (not_lt.2 hn)
  rw [if_neg hstable, if_neg fun h => hne h.1]
  have hlogged : ∀ {f : FldAt}, f.OffLog →
      ((if c ≠ 10 ∧ c ≠ 5 then w.log1 L.SEAL_INVALID else w).safeHint (s.tick now)).get f = w.get f := fun {f} hf => by
    rw [State.safeHint_get _ _ hf.2.2.2]
    split
    · exact w.get_log1 _ _ _ _ _ hf
    · rfl
  have hw : State.Only {} t w := .putBit (.putBit (.putBit (.putBit (.put (.refl ..) ..) ..) ..) ..) ..
  have hsys : State.Only {} t ((if c ≠ 10 ∧ c ≠ 5 then w.log1 L.SEAL_INVALID else w).safeHint (s.tick now)) :=
    .trans (.ite (hw.log1 _) hw) (State.safeHint_only ..)
  rw [keep_sys, if_pos rfl, State.get_keep rfl, State.get_keep rfl, State.get_keep rfl, hsys.sys rfl, hlogged (by decide),
    hlogged (by decide), hlogged (by decide)]
  have hstrap : w.get R.SYS_STRAP.SEAL = c % 2 ^ 4 ∧ w.get R.SYS_STRAP.SEAL_OPEN = (if c == 10 then 1 else 0) ∧
      w.get R.SYS_STRAP.SEAL_CLOSED = (if c == 5 then 1 else 0) := by
    refine ⟨?_, ?_, ?_⟩
    · rw [State.get_putBit_ne _ _ (by decide), State.get_putBit_ne _ _ (by decide), State.get_putBit_ne _ _ (by decide),
        State.get_putBit_ne _ _ (by decide), State.get_put _ _ _ (by decide)]
      rfl
    · rw [State.get_putBit_ne _ _ (by decide), State.get_putBit_ne _ _ (by decide), State.get_putBit_ne _ _ (by decide),
        State.get_putBit _ _ _ (by decide) (by decide)]
    · rw [State.get_putBit_ne _ _ (by decide), State.get_putBit_ne _ _ (by decide),
        State.get_putBit _ _ _ (by decide) (by decide)]
  obtain ⟨hseal, hopen, hclosed⟩ := hstrap
  refine ⟨rfl, ?_, ?_, ?_⟩
  · rw [hseal]
    exact Nat.mod_eq_of_lt hc
  · rw [hopen]
    exact if_congr beq_iff_eq rfl rfl
  · rw [hclosed]
    exact if_congr beq_iff_eq rfl rfl

/-- Settles O15, by the lemma of each step of the start. -/
theorem startSequenceCompletes : Obligations.StartSequenceCompletes := by
  refine ⟨fun now n role s hs hpin hth href => ?_, fun now k m s hr hs hk hm => bootStageStart_accepts now hr hs hk hm,
    fun now s hr hs hn => bootWatchdog_resets now hr hs hn,
    fun now x s hr hs hb hf hslot hw hu h0 h1 => firmwareStart_bare now hr hs hb hf hslot hw hu h0 h1,
    fun now unit pin s hr hs => roleResolve_follow now unit pin hr hs, fun now code s h => sealChange_starts now h,
    fun now s hr hnew hn hc hne => sealCodeAccept_shows now hr hnew hn hc hne⟩
  obtain ⟨t, ht, hstart, -⟩ := resetRelease_starts now n role hs hpin hth href
  exact ⟨t, ht, hstart⟩

end Sys2Proof.Machine
end

section
/-! PROOF. The events of a frame (R41, R71 to R74, R82, R85, R86, R88, R105, R175). -/
namespace Sys2Proof.Machine

/-! Tiles -/

@[simp] theorem State.tile_setTile (s : State) (t : Nat) (x : TileSt) : (s.setTile t x).tile t = x := Tbl.get_set_self ..

theorem State.tile_setTile_ne (s : State) {t u : Nat} (x : TileSt) (h : u ≠ t) : (s.setTile t x).tile u = s.tile u :=
  Tbl.get_set_ne _ _ _ h

@[simp] theorem State.tile_modTile (s : State) (t : Nat) (f : TileSt → TileSt) : (s.modTile t f).tile t = f (s.tile t) :=
  s.tile_setTile ..

theorem State.tile_congr {s t : State} (h : t.tiles = s.tiles) (n : Nat) : t.tile n = s.tile n := by
  rw [State.tile, h, State.tile]

theorem State.tile_keep {p : Parts} (hp : p.tiles = true) (s t : State) (n : Nat) : (keep p s t).tile n = t.tile n :=
  State.tile_congr (by rw [keep_tiles, if_pos hp]) n

theorem State.Only.tile {p : Parts} {s t : State} (h : State.Only p s t) (n : Nat) (hp : p.tiles = false) :
    t.tile n = s.tile n := State.tile_congr (h.tiles hp) n

/-! The strobe -/

/-- The run that begins before a frame changes nothing of the frames. -/
theorem State.beginRun_frame (s : State) (t : Nat) :
    ((s.beginRun t).tile t).last = (s.tile t).last ∧ ((s.beginRun t).tile t).f = (s.tile t).f ∧
      (s.beginRun t).time = s.time := by
  unfold State.beginRun
  extract_lets v x bpf again y
  have hy : y.last = x.last ∧ y.f = x.f := by
    unfold y
    split
    · exact ⟨rfl, rfl⟩
    · exact ⟨rfl, rfl⟩
  split
  · exact ⟨rfl, rfl, rfl⟩
  split
  · exact ⟨rfl, rfl, rfl⟩
  extract_lets run z
  have hz : ((s.setTile t z).put (R.CAL_STAT.SWEEPING t) 1).tile t = z := s.tile_setTile t z
  rw [hz]
  exact ⟨hy.1, hy.2, rfl⟩

theorem State.countTest_frame (s : State) (t : Nat) (taken : Bool) :
    ((s.countTest t taken).tile t).last = (s.tile t).last ∧ ((s.countTest t taken).tile t).f = (s.tile t).f := by
  unfold State.countTest
  extract_lets k
  rw [State.tile_modTile]
  split_ifs <;> exact ⟨rfl, rfl⟩

/-- A strobe opens the frame of its instant. -/
theorem State.strobe_frame (s : State) (t : Nat) (a : Int) (f : Nat) :
    (s.strobe t a f).time.strobed = true ∧ ((s.strobe t a f).tile t).last = some a ∧
      ((s.strobe t a f).tile t).f = f := by
  unfold State.strobe
  extract_lets s₁
  generalize s₁.blanked t a = r
  obtain ⟨blank, s₂⟩ := r
  dsimp -zeta only
  extract_lets fault taken loc k stamp x arm s₃ fr y s₄ s₅ s₆ z s₇ _ s₈ s₉
  have h₄ : (s₄.tile t).last = some a ∧ (s₄.tile t).f = f := by
    rw [State.tile_setTile]
    exact ⟨rfl, rfl⟩
  have h₅ := s₄.countTest_frame t taken
  have h₆ : s₆.tiles = s₅.tiles := by
    have h : State.Only {} s₅ s₆ := .ite (.bump (.refl ..) ..) (.refl ..)
    exact h.tiles rfl
  have h₇ : s₇.tiles = s₆.tiles ∧ s₇.time.strobed = true := ⟨rfl, rfl⟩
  have h₈ : s₈.tiles = s₇.tiles ∧ s₈.time = s₇.time := ⟨rfl, rfl⟩
  have h₉ : s₉.tiles = s₇.tiles ∧ s₉.time = s₇.time := by
    unfold s₉
    rcases s₇.commits.restartB with _ | b
    · exact ⟨rfl, rfl⟩
    · exact ⟨(State.log1_tiles ..).trans h₈.1, (State.log1_time ..).trans h₈.2⟩
  obtain ⟨hlast, hf, htime⟩ := s₉.beginRun_frame t
  have htile : s₉.tile t = s₅.tile t := State.tile_congr (h₉.1.trans (h₇.1.trans h₆)) t
  rw [hlast, hf, htime, htile, h₅.1, h₅.2, h₉.2]
  exact ⟨h₇.2, h₄.1, h₄.2⟩

/-- Where no frame is open, nothing is settled. -/
theorem State.settleGroup_closed {s : State} {t : Nat} (h : s.beaconGroup t = []) : s.settleGroup t = s := by
  rw [State.settleGroup, h]
  rfl

theorem State.beaconGroup_closed {s : State} {t : Nat} (h : (s.tile t).cur = none) : s.beaconGroup t = [] := by
  rw [State.beaconGroup, h]

theorem frameStrobe_opens (now : Nat) {tile : Fin 4} {a : Int} {f : Nat} {s : State} (hr : s.Running)
    (hcur : (s.tile tile).cur = none) (hnext : s.nextStrobe tile = some (a, f)) (hn : a ≤ s.wbAt 0 (max s.now now)) :
    Completes (.frameStrobe now tile) s fun t =>
      t.time.strobed = true ∧ (t.tile tile).last = some a ∧ (t.tile tile).f = f := by
  have he : exec (.frameStrobe now tile) s = execFrameStrobe now tile s := rfl
  unfold execFrameStrobe at he
  refine completes_act he hr ?_
  extract_lets t u
  have hgroup : (s.tick now).beaconGroup t = [] := State.beaconGroup_closed hcur
  have hstrobe : (s.tick now).nextStrobe t = some (a, f) := hnext
  have hu : u = s.tick now := by
    unfold u
    rw [hgroup]
    exact State.settleGroup_closed hgroup
  rw [hstrobe]
  dsimp -zeta only
  rw [if_neg (not_lt.2 (show a ≤ (s.tick now).wbNow 0 from hn)), hu, hstrobe]
  dsimp -zeta only
  rw [keep_time, if_pos rfl, State.tile_keep rfl]
  exact State.strobe_frame ..

/-! A request of a tempo schedule -/

theorem tempoStrobeFix_fixes (now : Nat) {tile : Fin 4} {st a g : Int} {s : State} (hr : s.Running)
    (hst : (s.tile tile).start = some st) (hreq : (s.tick now).nextRequest tile = some (g, a))
    (hkind : s.inUse (R.TIM_SCH_CFG.KIND (schedOf s.inUse tile)) = 2)
    (hdue : a ≤ s.wbAt 0 (max s.now now) + ((4 * usU : Nat) : Int)) (hafter : st < a) (hnone : (s.tile tile).reqs = [])
    (hlast : ∀ p ∈ (s.tile tile).last, p + ((frameLen s.inUse tile * slotU : Nat) : Int) ≤ a) :
    Completes (.tempoStrobeFix now tile) s fun t => (t.tile tile).reqs = [⟨a, a⟩] ∧ (t.tile tile).far = some g := by
  have he : exec (.tempoStrobeFix now tile) s = execTempoStrobeFix now tile s := rfl
  unfold execTempoStrobeFix at he
  refine completes_act he hr ?_
  rw [State.tile_keep rfl]
  extract_lets t x k
  have hxst : x.start = some st := hst
  have hreq' : (s.tick now).nextRequest t = some (g, a) := hreq
  rw [hxst, hreq']
  dsimp -zeta only
  have hgo : ¬ ((s.tick now).inUse (R.TIM_SCH_CFG.KIND k) ≠ 2 ∨
      (s.tick now).wbNow 0 + ((4 * usU : Nat) : Int) < a ∨ a ≤ st) := by
    have hk : (s.tick now).inUse (R.TIM_SCH_CFG.KIND k) = 2 := hkind
    have hd : a ≤ (s.tick now).wbNow 0 + ((4 * usU : Nat) : Int) := hdue
    rintro (h | h | h)
    · exact h hk
    · exact absurd h (not_lt.2 hd)
    · exact absurd h (not_le.2 hafter)
  rw [if_neg hgo]
  extract_lets u y prev least held w
  have hy : y = { x with start := some st, far := some g } := State.tile_setTile ..
  have hreqs : y.reqs = [] := by
    rw [hy]
    exact hnone
  have hprev : prev = x.last := by
    unfold prev
    rw [hreqs, hy]
    rfl
  have hheld : held = false := by
    refine decide_eq_false (not_lt.2 ?_)
    unfold least
    rw [hprev]
    rcases hl : x.last with _ | p
    · exact le_refl a
    · exact hlast p hl
  rw [hreqs, List.any_nil, if_neg Bool.false_ne_true, hheld, if_neg Bool.false_ne_true]
  exact ⟨congrArg TileSt.reqs (w.tile_setTile t _),
    (congrArg TileSt.far (w.tile_setTile t _)).trans (congrArg TileSt.far hy)⟩

/-! The open-input test -/

/-- What one member of a list brings about and the others leave holds after all of them. -/
theorem State.each_establishes {α : Type} (p : State → Prop) {f : State → α → State} {x : α} (hx : ∀ s, p (f s x))
    (hne : ∀ s y, y ≠ x → p s → p (f s y)) (s : State) {l : List α} (h : x ∈ l) : p (s.each l f) := by
  have hall : ∀ s y, p s → p (f s y) := fun s y hs => by
    by_cases hy : y = x
    · rw [hy]
      exact hx s
    · exact hne s y hy hs
  induction l generalizing s with
  | nil => exact absurd h (List.not_mem_nil)
  | cons y l ih =>
    rcases List.mem_cons.1 h with rfl | h
    · exact (f s x).each_inv p hall l (hx s)
    · exact ih (f s y) h

theorem chst_apart {t c d : Nat} (h : c ≠ d) : (R.TILE_CHST.OPEN t c).Apart (R.TILE_CHST.OPEN t d) := by
  refine .inl ?_
  show 0x1000600 + t * 0x40000 + c * 0x4 ≠ 0x1000600 + t * 0x40000 + d * 0x4
  omega

theorem chst_apart_opnFail {t c : Nat} : (R.TILE_CHST.OPEN t c).Apart (R.TILE_CNT1.OPNFAIL t) := by
  refine .inl ?_
  show 0x1000600 + t * 0x40000 + c * 0x4 ≠ 0x100040c + t * 0x40000
  omega

theorem openInputTest_shows (now : Nat) {tile : Fin 4} (failed : List Nat) {s : State} (hr : s.Running)
    (htest : (s.tile tile).opnTest = true) :
    Completes (.openInputTest now tile failed) s fun t => (t.tile tile).opnTest = false ∧
      ∀ c : Fin 96, opnEligible s.inUse tile c = true → s.inUse (R.TILE_CHCFG.OPN_EN tile c) = 1 →
        failed.contains c.val = true → t.get (R.TILE_CHST.OPEN tile c) = 1 := by
  have he : exec (.openInputTest now tile failed) s = execOpenInputTest now tile failed s := rfl
  unfold execOpenInputTest at he
  refine completes_act he hr ?_
  rw [State.tile_keep rfl]
  extract_lets t v u cs
  have hu : (u.tile t).opnTest = false := by rw [State.tile_modTile]
  have htest' : ((s.tick now).tile t).opnTest = true := htest
  rw [htest', if_neg (by decide)]
  clear_value u
  refine ⟨State.each_inv (fun s => (s.tile t).opnTest = false) (fun w c hw => ?_) u cs hu, fun c hel hen hfail => ?_⟩
  · extract_lets o bad o' w'
    have h : State.Only {} w'
        ((w'.when bad fun s => s.bump (R.TILE_CNT1.OPNFAIL t)).putBit (R.TILE_CHST.OPEN t c) o'.isOpen) :=
      .putBit (.ite (.bump (.refl ..) ..) (.refl ..)) ..
    rw [h.tile t rfl, State.tile_modTile]
    exact hw
  · refine State.each_establishes (fun s => s.get (R.TILE_CHST.OPEN t c) = 1) (x := c.val)
      (fun w => ?_) (fun w d hd hw => ?_) u
      (List.mem_filter.2 ⟨List.mem_range.2 c.2, ?_⟩)
    · extract_lets o bad o' w'
      have ho : o' = ⟨true, 0⟩ := if_pos hfail
      rw [State.get_putBit _ _ _ (show 6 + 1 ≤ 32 by decide) Nat.one_pos, ho]
      rfl
    · extract_lets o bad o' w'
      rw [State.get_putBit_ne _ _ (chst_apart (Ne.symm hd)), State.when]
      split
      · rw [State.get_bump_ne _ _ chst_apart_opnFail]
        exact hw
      · exact hw
    · have hel' : opnEligible v t c = true := hel
      have hen' : v (R.TILE_CHCFG.OPN_EN t c) = 1 := hen
      rw [hel', hen']
      rfl

/-! The transfer of a frame -/

theorem State.finishFrame_closes (s : State) (t : Nat) (dev : Option Int) {fr : FrameRec} {r : TileRes}
    (hcur : (s.tile t).cur = some fr) (hres : (s.tile t).res = some r) :
    ((s.finishFrame t dev).tile t).cur = none ∧ ((s.finishFrame t dev).tile t).res = none := by
  unfold State.finishFrame
  extract_lets x
  rw [show x.cur = some fr from hcur, show x.res = some r from hres]
  dsimp -zeta only
  extract_lets
  rw [State.tile_modTile]
  exact ⟨rfl, rfl⟩

/-- The comparison of frames looks at which frames are open alone. -/
theorem State.beaconGroup_congr {s u : State} (hlive : u.live = s.live) (hcur : ∀ n, (u.tile n).cur = (s.tile n).cur)
    (t : Nat) : u.beaconGroup t = s.beaconGroup t := by
  have hv : u.inUse = s.inUse := funext fun f => State.inUse_congr hlive f
  unfold State.beaconGroup
  rw [hv]
  simp only [hcur]

theorem tileResultTransfer_closes (now : Nat) {tile : Fin 4} (res : TileRes) {fr : FrameRec} {s : State} (hr : s.Running)
    (hcur : (s.tile tile).cur = some fr) (hres : (s.tile tile).res = none) (hgroup : s.beaconGroup tile = [tile.val]) :
    Completes (.tileResultTransfer now tile res) s fun t => (t.tile tile).cur = none ∧ (t.tile tile).res = none := by
  have he : exec (.tileResultTransfer now tile res) s = execTileResultTransfer now tile res s := rfl
  unfold execTileResultTransfer at he
  refine completes_act he hr ?_
  rw [State.tile_keep rfl]
  extract_lets t x
  have hopen : ¬ (x.cur.isNone = true ∨ x.res.isSome = true) := by
    have hxc : x.cur = some fr := hcur
    have hxr : x.res = none := hres
    rw [hxc, hxr]
    simp
  rw [if_neg hopen]
  generalize hu : (s.tick now).setTile t { x with res := some res } = u
  have htile : u.tile t = { x with res := some res } := by rw [← hu, State.tile_setTile]
  have hgroup' : u.beaconGroup t = [t] := by
    refine (State.beaconGroup_congr (s := s) (by rw [← hu]; rfl) (fun n => ?_) t).trans hgroup
    by_cases hn : n = t
    · rw [hn, htile]
      rfl
    · rw [← hu, State.tile_setTile_ne _ _ hn]
      rfl
  have hall : ([t].all fun n => (u.tile n).res.isSome) = true := by simp [htile]
  rw [State.settleGroup, hgroup', hall]
  exact u.finishFrame_closes t _ (by rw [htile]; exact hcur) (by rw [htile])

/-! The beacon -/

theorem bcnClear_clears (now : Nat) {tile : Fin 4} {s : State} (hr : s.Running) (hbad : (s.tile tile).bcnBad = true)
    (hrun : 100 ≤ (s.tile tile).bcnRun) :
    Completes (.bcnClear now tile) s fun t => (t.tile tile).bcnBad = false ∧ s.Logs L.BCN_CLEAR 2 tile t := by
  have he : exec (.bcnClear now tile) s = execBcnClear now tile s := rfl
  unfold execBcnClear at he
  refine completes_act he hr ?_
  rw [State.tile_keep rfl]
  extract_lets x
  have hx : ¬ ((!x.bcnBad) = true ∨ x.bcnRun < 100) := by
    have hxb : x.bcnBad = true := hbad
    have hxr : 100 ≤ x.bcnRun := hrun
    rw [hxb]
    simpa using hxr
  rw [if_neg hx]
  refine ⟨?_, State.logs_keep rfl rfl (State.logs_log1 s _ L.BCN_CLEAR 2 tile 0 0 rfl)⟩
  rw [State.tile_congr (State.log1_tiles ..), State.tile_setTile]

/-- Settles O6, by the lemma of each event. -/
theorem frameEventsComplete : Obligations.FrameEventsComplete :=
  ⟨fun now _ _ _ _ hr hcur hnext hn => frameStrobe_opens now hr hcur hnext hn,
    fun now _ _ _ _ _ hr hst hreq hkind hdue hafter hnone hlast =>
      tempoStrobeFix_fixes now hr hst hreq hkind hdue hafter hnone hlast,
    fun now _ failed _ hr htest => openInputTest_shows now failed hr htest,
    fun now _ res _ _ hr hcur hres hgroup => tileResultTransfer_closes now res hr hcur hres hgroup,
    fun now _ _ hr hbad hrun => bcnClear_clears now hr hbad hrun⟩

end Sys2Proof.Machine
end

section
/-! PROOF. The monitor of the excitation sources: faults, trips, retries and clears (R67 to R69). -/
namespace Sys2Proof.Machine

/-! An excitation source and the registers that show it -/

theorem State.tile_modTile_ne (s : State) {t u : Nat} (f : TileSt → TileSt) (h : u ≠ t) :
    (s.modTile t f).tile u = s.tile u := s.tile_setTile_ne _ h

theorem State.excSt_congr {s u : State} (h : u.tiles = s.tiles) (t src : Nat) : u.excSt t src = s.excSt t src := by
  rw [State.excSt, State.tile_congr h, State.excSt]

theorem State.excSt_keep {p : Parts} (hp : p.tiles = true) (s u : State) (t src : Nat) :
    (keep p s u).excSt t src = u.excSt t src := State.excSt_congr (by rw [keep_tiles, if_pos hp]) ..

theorem State.excSt_setExc (s : State) (t src : Nat) (e : ExcSt) : (s.setExc t src e).excSt t src = e := by
  unfold State.setExc
  extract_lets u here cls
  have hu : u.excSt t src = e := by
    rw [State.excSt, State.tile_modTile]
    exact Tbl.get_set_self ..
  split
  · exact hu
  · exact hu

theorem State.setExc_now (s : State) (t src : Nat) (e : ExcSt) : (s.setExc t src e).now = s.now := by
  unfold State.setExc
  extract_lets u here cls
  split
  · rfl
  · rfl

/-- A source shows in its own TILE_GRPST or TILE_CHST alone. -/
theorem State.get_setExc (s : State) {t src : Nat} (e : ExcSt) {f : FldAt}
    (hg : f.reg.addr ≠ (R.TILE_GRPST t src).addr) (hc : f.reg.addr ≠ (R.TILE_CHST t (src - 24)).addr) :
    (s.setExc t src e).get f = s.get f := by
  unfold State.setExc
  extract_lets u here cls
  split
  · rw [State.putBit, State.get_put_ne _ _ (.inl hg), State.get_put_ne _ _ (.inl hg)]
    rfl
  · rw [State.get_put_ne _ _ (.inl hc)]
    rfl

/-- A field between the system registers and those of the log lies apart from an entry and its hint. -/
theorem FldAt.offLog_of_between {f : FldAt} (hlo : 0x1000000 ≤ f.reg.addr) (hhi : f.reg.addr < 0xc040000) : f.OffLog := by
  have hseq : R.LOG_HEAD.SEQ.reg.addr = 0xc040000 := rfl
  have hcnt : (R.LOG_CNT).addr = 0xc04000c := rfl
  have hhint : R.SYS_HINTST.CAUSE.reg.addr = 0x420 := rfl
  exact ⟨.inl (by omega), .inl (show f.reg.addr ≠ R.LOG_CNT.addr by omega), .inl (show f.reg.addr ≠ R.LOG_CNT.addr by omega),
    .inl (by omega)⟩

/-! A report -/

/-- The field in which a source shows that it has had a fault (TILE_GRPST or TILE_CHST). -/
def excSeen (t src : Nat) : FldAt := if src < 24 then R.TILE_GRPST.SEEN t src else R.TILE_CHST.SEEN t (src - 24)

theorem excSeen_fits (t src : Nat) : (excSeen t src).Fits ∧ (excSeen t src).w = 1 := by
  unfold excSeen
  split
  · exact ⟨show 5 + 1 ≤ 32 by decide, rfl⟩
  · exact ⟨show 5 + 1 ≤ 32 by decide, rfl⟩

theorem excSeen_offLog {t src : Nat} (ht : t < 4) (hsrc : src < 120) : (excSeen t src).OffLog := by
  have hg : (R.TILE_GRPST.SEEN t src).reg.addr = 0x1000500 + t * 0x40000 + src * 0x4 := rfl
  have hc : (R.TILE_CHST.SEEN t (src - 24)).reg.addr = 0x1000600 + t * 0x40000 + (src - 24) * 0x4 := rfl
  unfold excSeen
  split
  · exact FldAt.offLog_of_between (by omega) (by omega)
  · exact FldAt.offLog_of_between (by omega) (by omega)

/-- What a report leaves: the class is present on its source from its onset on, known before or not, the source shows it as
SEEN, and a trip of the source stands as it was. The rest of a report is an entry of the log and a record. -/
theorem State.reportExc_eq (s : State) (t src cls onset : Nat) : ∃ e : ExcSt, ⟨cls, onset, 0⟩ ∈ e.classes ∧
    e.tripAt = (s.excSt t src).tripAt ∧ (s.reportExc t src cls onset).tiles = (s.setExc t src e).tiles ∧
      ∀ f : FldAt, f.OffLog → (s.reportExc t src cls onset).get f = ((s.setExc t src e).put (excSeen t src) 1).get f := by
  unfold State.reportExc
  extract_lets e known cs u v w safe
  have hcs : ⟨cls, onset, 0⟩ ∈ cs := by
    unfold cs
    split
    next h =>
      obtain ⟨c, hc, hcls⟩ := List.any_eq_true.1 h
      exact List.mem_map.2 ⟨c, hc, if_pos (beq_iff_eq.1 hcls)⟩
    · exact List.mem_append_right _ (List.mem_singleton_self _)
  have hv : v = u.put (excSeen t src) 1 := by
    unfold v excSeen
    split
    · rfl
    · rfl
  have hw : w.tiles = v.tiles ∧ ∀ f : FldAt, f.OffLog → w.get f = v.get f := by
    unfold w
    split_ifs
    · exact ⟨rfl, fun _ _ => rfl⟩
    · exact ⟨State.logRep_tiles .., fun _ hf => State.get_logRep _ _ _ _ _ _ _ _ hf⟩
    · exact ⟨State.logRep_tiles .., fun _ hf => State.get_logRep _ _ _ _ _ _ _ _ hf⟩
  exact ⟨{ e with classes := cs }, hcs, rfl, hw.1.trans (congrArg State.tiles hv :),
    fun f hf => (hw.2 f hf).trans (congrArg (fun s => s.get f) hv)⟩

theorem State.reportExc_excSt (s : State) (t src cls onset : Nat) :
    ⟨cls, onset, 0⟩ ∈ ((s.reportExc t src cls onset).excSt t src).classes ∧
      ((s.reportExc t src cls onset).excSt t src).tripAt = (s.excSt t src).tripAt := by
  obtain ⟨e, hcls, htrip, htiles, -⟩ := s.reportExc_eq t src cls onset
  rw [State.excSt_congr htiles, State.excSt_setExc]
  exact ⟨hcls, htrip⟩

theorem State.reportExc_seen (s : State) {t src : Nat} (cls onset : Nat) (ht : t < 4) (hsrc : src < 120) :
    (s.reportExc t src cls onset).get (excSeen t src) = 1 := by
  obtain ⟨e, -, -, -, hget⟩ := s.reportExc_eq t src cls onset
  obtain ⟨hfits, hw⟩ := excSeen_fits t src
  rw [hget _ (excSeen_offLog ht hsrc), State.get_put _ _ _ hfits, hw, Nat.pow_one]

/-- A report reaches no field of other registers, the log's apart. -/
theorem State.get_reportExc (s : State) {t src : Nat} (cls onset : Nat) {f : FldAt} (hf : f.OffLog)
    (hg : f.reg.addr ≠ (R.TILE_GRPST t src).addr) (hc : f.reg.addr ≠ (R.TILE_CHST t (src - 24)).addr) :
    (s.reportExc t src cls onset).get f = s.get f := by
  obtain ⟨e, -, -, -, hget⟩ := s.reportExc_eq t src cls onset
  have hseen : f.Apart (excSeen t src) := by
    unfold excSeen
    split
    · exact .inl hg
    · exact .inl hc
  rw [hget f hf, State.get_put_ne _ _ hseen, State.get_setExc _ _ hg hc]

/-! The commands -/

theorem excFault_reports (now : Nat) {tile : Fin 4} {src : Fin 120} {cls : Fin 9} {onset : Nat} {s : State}
    (hr : s.Running) (happ : classApplies s.inUse tile src cls = true) (hn : onset + 32 * slotU ≤ max s.now now) :
    Completes (.excFault now tile src cls onset) s fun t =>
      ⟨cls.val, onset, 0⟩ ∈ (t.excSt tile src).classes ∧ t.get (excSeen tile src) = 1 := by
  have he : exec (.excFault now tile src cls onset) s = execExcFault now tile src cls onset s := rfl
  unfold execExcFault at he
  refine completes_act he hr ?_
  have hfault : ¬ ((!classApplies (s.tick now).inUse tile src cls) = true ∨ (s.tick now).now < onset + 32 * slotU) := by
    rintro (h | h)
    · exact absurd (happ.symm.trans (Bool.not_eq_true' _ ▸ h)) (by decide)
    · exact absurd h (not_lt.2 hn)
  rw [if_neg hfault, State.excSt_keep rfl, State.get_keep rfl]
  exact ⟨(State.reportExc_excSt ..).1, State.reportExc_seen _ _ _ tile.2 src.2⟩

theorem trips_offLog {t : Nat} (ht : t < 4) : (R.TILE_CNT1.TRIPS t).OffLog := by
  have ha : (R.TILE_CNT1.TRIPS t).reg.addr = 0x100040c + t * 0x40000 := rfl
  exact FldAt.offLog_of_between (by omega) (by omega)

theorem trips_addr_ne (t src : Nat) : (R.TILE_CNT1.TRIPS t).reg.addr ≠ (R.TILE_GRPST t src).addr ∧
    (R.TILE_CNT1.TRIPS t).reg.addr ≠ (R.TILE_CHST t (src - 24)).addr := by
  have ha : (R.TILE_CNT1.TRIPS t).reg.addr = 0x100040c + t * 0x40000 := rfl
  have hg : (R.TILE_GRPST t src).addr = 0x1000500 + t * 0x40000 + src * 0x4 := rfl
  have hc : (R.TILE_CHST t (src - 24)).addr = 0x1000600 + t * 0x40000 + (src - 24) * 0x4 := rfl
  omega

theorem excTrip_switchesOff (now : Nat) {tile : Fin 4} {group : Fin 24} {c : ExcClass} {s : State} (hr : s.Running)
    (hc : c ∈ (s.excSt tile group).classes) (hcls : c.cls = 3) (habs : c.absent = 0)
    (hn : c.onset + msU ≤ max s.now now) (hoff : (s.excSt tile group).tripAt = none) :
    Completes (.excTrip now tile group) s fun t => (t.excSt tile group).tripAt = some t.now ∧
      ⟨9, t.now, 0⟩ ∈ (t.excSt tile group).classes ∧
        t.get (R.TILE_CNT1.TRIPS tile) = satAdd 16 (s.get (R.TILE_CNT1.TRIPS tile)) 1 := by
  have he : exec (.excTrip now tile group) s = execExcTrip now tile group s := rfl
  unfold execExcTrip at he
  refine completes_act he hr ?_
  rw [State.excSt_keep rfl, State.get_keep rfl, keep_now]
  extract_lets t g e due u
  have hdue : due = true := List.any_eq_true.2 ⟨c, hc, by
    rw [hcls, habs, decide_eq_true (show c.onset + msU ≤ (s.tick now).now from hn)]
    rfl⟩
  have hnone : e.tripAt = none := hoff
  have htrip : ¬ ((!due) = true ∨ e.tripAt.isSome = true) := by simp [hdue, hnone]
  rw [if_neg htrip]
  have hnow : u.now = (s.tick now).now := State.setExc_now ..
  obtain ⟨hg, hgc⟩ := trips_addr_ne t g
  obtain ⟨hcls9, hkept⟩ := (u.bump (R.TILE_CNT1.TRIPS t)).reportExc_excSt t g 9 u.now
  rw [hnow] at hcls9 hkept ⊢
  refine ⟨?_, hcls9, ?_⟩
  · rw [hkept]
    exact congrArg ExcSt.tripAt ((s.tick now).excSt_setExc t g _)
  · rw [State.get_reportExc _ _ _ (trips_offLog tile.2) hg hgc, State.get_bump _ _ _ (show 16 + 16 ≤ 32 by decide),
      State.get_setExc _ _ hg hgc]
    rfl

/-- A tripped group whose retry meets the limit again waits from that instant on. -/
theorem excTripRetry_limited (now : Nat) {tile : Fin 4} {group : Fin 24} {a : Nat} {s : State} (hr : s.Running)
    (htrip : (s.excSt tile group).tripAt = some a) (hn : a + 100 * msU ≤ max s.now now) :
    Completes (.excTripRetry now tile group true) s fun t => (t.excSt tile group).tripAt = some t.now := by
  have he : exec (.excTripRetry now tile group true) s = execExcTripRetry now tile group true s := rfl
  unfold execExcTripRetry at he
  refine completes_act he hr ?_
  rw [State.excSt_keep rfl, keep_now]
  extract_lets t g e
  rw [show e.tripAt = some a from htrip]
  dsimp only
  rw [if_neg (not_lt.2 (show a + 100 * msU ≤ (s.tick now).now from hn)), if_pos rfl, State.excSt_setExc]

/-- An excitation switch leaves the faults of the sources. -/
theorem State.excSwitch_excSt (s : State) (t src u x : Nat) : (s.excSwitch t src).excSt u x = s.excSt u x := by
  have hrun : ∀ (v : State) (hit : Nat → Bool), (v.abandonRun t hit).excSt u x = v.excSt u x := fun v hit => by
    unfold State.abandonRun
    split
    · rfl
    extract_lets gone left again w
    split
    · rfl
    change w.excSt u x = v.excSt u x
    by_cases h : u = t
    · rw [h, State.excSt, State.tile_modTile]
      rfl
    · rw [State.excSt, State.tile_modTile_ne _ _ h]
      rfl
  unfold State.excSwitch
  rw [hrun]
  refine State.each_keeps (fun v => v.excSt u x) (fun v c => ?_) s (List.range 96)
  split
  · rfl
  · rfl

/-- A retry without the limit switches the group on again. -/
theorem excTripRetry_clear (now : Nat) {tile : Fin 4} {group : Fin 24} {a : Nat} {s : State} (hr : s.Running)
    (htrip : (s.excSt tile group).tripAt = some a) (hn : a + 100 * msU ≤ max s.now now) :
    Completes (.excTripRetry now tile group false) s fun t => (t.excSt tile group).tripAt = none := by
  have he : exec (.excTripRetry now tile group false) s = execExcTripRetry now tile group false s := rfl
  unfold execExcTripRetry at he
  refine completes_act he hr ?_
  rw [State.excSt_keep rfl]
  extract_lets t g e
  rw [show e.tripAt = some a from htrip]
  dsimp only
  rw [if_neg (not_lt.2 (show a + 100 * msU ≤ (s.tick now).now from hn)), if_neg Bool.false_ne_true,
    State.excSwitch_excSt, State.excSt_setExc]

theorem excClear_drops (now : Nat) (tile : Fin 4) (src : Fin 120) {s : State} (hr : s.Running) :
    Completes (.excClear now tile src) s fun t =>
      (t.excSt tile src).classes = (s.excSt tile src).classes.filter fun c => decide (c.absent < 100) := by
  have he : exec (.excClear now tile src) s = execExcClear now tile src s := rfl
  unfold execExcClear at he
  refine completes_act he hr ?_
  rw [State.excSt_keep rfl]
  extract_lets t e gone u
  have hlog : ∀ (v : State) (c : ExcClass), (if src.val < 24 then v.log1 L.EXC_CLEAR 3 (24 * t + src) c.cls
      else v.log1 L.EXC_CLEAR 1 (96 * t + (src - 24)) c.cls).tiles = v.tiles := fun v c => by
    split
    · exact State.log1_tiles ..
    · exact State.log1_tiles ..
  rw [State.excSt_congr (State.each_keeps State.tiles hlog u gone), State.excSt_setExc]
  rfl

/-- Settles O7, by the lemma of each event. -/
theorem excitationEventsComplete : Obligations.ExcitationEventsComplete := by
  refine ⟨fun now tile src cls onset s hr happ hn => ?_,
    fun now tile group c s hr hc hcls habs hn hoff => excTrip_switchesOff now hr hc hcls habs hn hoff,
    fun now tile group a s hr htrip hn => excTripRetry_limited now hr htrip hn,
    fun now tile group a s hr htrip hn => excTripRetry_clear now hr htrip hn,
    fun now tile src s hr => excClear_drops now tile src hr⟩
  obtain ⟨t, ht, hcls, hseen⟩ := excFault_reports now hr happ hn
  refine ⟨t, ht, hcls, ?_⟩
  rw [← apply_ite t.get]
  exact hseen

end Sys2Proof.Machine
end

section
/-! PROOF. What an output sample reaches: history, the streams that carry it, and the monitors (R26, R136, R214). -/
namespace Sys2Proof.Machine

/-! The rows of a stream -/

theorem State.logCycle_only (s : State) (c k i d x n : Nat) : State.Only {} s (s.logCycle c k i d x n) := rfl

theorem State.setStrm_only (s : State) (n : Nat) (x : StreamSt) :
    State.Only { ports := true, strm := true } s (s.setStrm n x) := rfl

theorem State.modStrm_only (s : State) (n : Nat) (f : StreamSt → StreamSt) :
    State.Only { ports := true, strm := true } s (s.modStrm n f) := rfl

theorem State.countLost_only (s : State) (q : Nat) (p : Packet) :
    State.Only { ports := true, strm := true } s (s.countLost q p) := by
  have hcount : State.Only { ports := true, strm := true } s
      ((s.bump (R.QUE_Q_CNT0.LOSTPKT q)).bump (R.QUE_Q_CNT1.LOSTWORD q) p.words.length) :=
    .widen (.bump (.bump (.refl ..) ..) ..) (by rfl)
  exact .ite ((hcount.trans (State.modStrm_only ..)).andThen (State.loseRanges_only ..) (by rfl)) hcount

theorem discardFor_only (q need reserved fuel : Nat) (s : State) :
    State.Only { ports := true, strm := true } s (discardFor q need reserved fuel s) := by
  induction fuel generalizing s with
  | zero => exact .refl ..
  | succ fuel ih =>
    unfold discardFor
    refine .ite (.refl ..) ?_
    split
    · exact .refl ..
    · exact ((((s.setQueue_only ..).widen (by rfl)).trans (State.countLost_only ..)).trans (ih _))

theorem State.roomFor_only (s : State) (n need : Nat) :
    State.Only { ports := true, strm := true } s (s.roomFor n need).1 := .ite (.refl ..) (discardFor_only ..)

theorem State.abortOpen_only (s : State) (n : Nat) (row : Row) :
    State.Only { ports := true, strm := true } s (s.abortOpen n row) := by
  unfold State.abortOpen
  extract_lets x rows ranges u v w w'
  have hu : State.Only { ports := true, strm := true } s u := .ite (.widen (.bump (.refl ..) ..) (by rfl)) (.refl ..)
  refine .ite ?_ ?_
  · exact ((hu.trans (State.setStrm_only ..)).andThen (State.loseRanges_only ..) (by rfl)).andThen
      (State.logCycle_only ..) (by rfl)
  · exact ((hu.trans (State.setStrm_only ..)).andThen (.bump (.bump (.refl ..) ..) ..) (by rfl)).andThen
      (State.loseRanges_only ..) (by rfl)

theorem State.sendOwed_only (s : State) (n : Nat) (row : Row) :
    State.Only { ports := true, strm := true } s (s.sendOwed n row).1 := by
  unfold State.sendOwed
  split
  · exact .refl ..
  extract_lets old u
  split
  · exact .refl ..
  have hroom : State.Only { ports := true, strm := true } s (u.roomFor n 11).1 :=
    (s.closePacket_only n).trans (u.roomFor_only n 11)
  generalize u.roomFor n 11 = r at hroom
  obtain ⟨v, ok⟩ := r
  dsimp -zeta only
  split
  · exact hroom
  · exact (hroom.trans (v.modStrm_only ..)).trans (State.commitStrmPkt_only ..)

theorem State.addRow_only (s : State) (n : Nat) (row : Row) :
    State.Only { ports := true, strm := true } s (s.addRow n row) := by
  unfold State.addRow
  extract_lets u v key w
  have hu : State.Only { ports := true, strm := true } s u := s.modStrm_only ..
  refine .ite ?_ ?_
  · exact ((hu.trans (u.modStrm_only ..)).andThen (State.loseRanges_only ..) (by rfl)).andThen
      (State.logCycle_only ..) (by rfl)
  have hw : State.Only { ports := true, strm := true } s w := by
    unfold w
    split
    · exact .ite (hu.trans (State.closePacket_only ..)) hu
    · exact hu
  have howed := hw.trans (w.sendOwed_only n row)
  generalize w.sendOwed n row = r at howed
  obtain ⟨a, ok⟩ := r
  dsimp -zeta only
  refine .ite (howed.trans (State.abortOpen_only ..)) ?_
  have hroom := howed.trans (a.roomFor_only n (row.words.length + if (a.strmSt n).rows.isEmpty = true then 1 else 0))
  generalize a.roomFor n (row.words.length + if (a.strmSt n).rows.isEmpty = true then 1 else 0) = r at hroom
  obtain ⟨b, ok'⟩ := r
  dsimp -zeta only
  refine .ite (hroom.trans (State.abortOpen_only ..)) ?_
  extract_lets x c
  have hc : State.Only { ports := true, strm := true } s c := hroom.trans (b.setStrm_only ..)
  exact .ite (hc.trans (State.closePacket_only ..)) hc

theorem State.memberValue_only (s : State) (n i ssn w : Nat) (t : Int) (grid : Nat) :
    State.Only { ports := true, strm := true } s (s.memberValue n i ssn w t grid) :=
  .ite ((s.setStrm_only ..).trans (State.addRow_only ..)) (s.setStrm_only ..)

theorem State.toStream_only (s : State) (n i e ssn : Nat) (sm : Sample) :
    State.Only { ports := true, strm := true } s (s.toStream n i e ssn sm) :=
  .ite (s.addRow_only ..) (.ite (s.memberValue_only ..) (.ite (.refl ..)
    (.ite ((s.setStrm_only ..).trans (State.memberValue_only ..)) (s.setStrm_only ..))))

theorem State.toStreams_only (s : State) (e ssn : Nat) (sm : Sample) :
    State.Only { ports := true, strm := true } s (s.toStreams e ssn sm) := .each (fun _ _ => State.toStream_only ..) ..

/-! The history of an endpoint -/

theorem State.setHist_only (s : State) (e : Nat) (h : HistEp) : State.Only { strm := true } s (s.setHist e h) := rfl

theorem State.setFree_only (s : State) (n : Nat) : State.Only { strm := true } s (s.setFree n) := rfl

theorem State.exceptions_only (s : State) (cause e first count : Nat) :
    State.Only { strm := true } s (s.exceptions cause e first count) := by
  unfold State.exceptions
  extract_lets bad
  rcases bad with _ | ⟨x, bad⟩
  · exact .refl ..
  · exact .widen (.log1 (.bump (.refl ..) ..) _) (by rfl)

theorem State.reclaim_only (s : State) (e : Nat) (early : Bool) : State.Only { strm := true } s (s.reclaim e early) := by
  unfold State.reclaim
  extract_lets h
  split
  · exact .refl ..
  · exact .ite ((s.setHist_only ..).trans (State.exceptions_only ..)) (s.setHist_only ..)

theorem State.takeBlock_only (s : State) (e : Nat) : State.Only { strm := true } s (s.takeBlock e).1 := by
  unfold State.takeBlock
  extract_lets h held fromPool
  have hpool : State.Only { strm := true } s (fromPool s) := s.setFree_only _
  have hreclaim := s.reclaim_only e
  split
  · split
    · exact hpool
    split
    · exact .refl ..
    · exact hreclaim true
  split
  · split
    · exact .refl ..
    · exact hreclaim false
  split
  · exact .refl ..
  split
  · exact hreclaim false
  split
  · exact hpool
  · exact hreclaim true

theorem State.toHistory_only (s : State) (e ssn : Nat) (sm : Sample) :
    State.Only { strm := true } s (s.toHistory e ssn sm) := by
  unfold State.toHistory
  extract_lets v format nb period runid x h u
  refine .ite (s.setHist_only ..) ?_
  have htake : State.Only { strm := true } s (u.takeBlock e).1 := .trans (s.setHist_only ..) (u.takeBlock_only e)
  generalize u.takeBlock e = r at htake
  obtain ⟨a, ok⟩ := r
  exact .ite (htake.trans (State.exceptions_only ..)) (htake.trans (State.setHist_only ..))

/-! The monitors -/

theorem State.setMon_only (s : State) (u : Nat) (m : MonSt) : State.Only { mon := true } s (s.setMon u m) := rfl

theorem monAdd_only (s : State) (u : Nat) (v : Int) : State.Only { mon := true } s (monAdd s u v) := by
  unfold monAdd
  extract_lets m b m' beyond
  refine .ite (s.setMon_only ..) ?_
  split
  · exact .andThen (.widen (.put (.log1 (.refl ..) _) ..) (by rfl)) (State.setMon_only ..) (by rfl)
  · exact .andThen (.ite (by exact rfl) (.refl ..)) (State.setMon_only ..) (by rfl)

theorem State.measure_only (s : State) (q i : Nat) (v : Int) : State.Only { mon := true } s (s.measure q i v) :=
  .each (fun _ _ => .ite (monAdd_only ..) (.refl ..)) ..

/-- An output sample reaches the streams, their ports and the monitors alone. -/
theorem State.output_only (s : State) (e : Nat) (sm : Sample) :
    State.Only { mon := true, ports := true, strm := true } s (s.output e sm) := by
  unfold State.output
  refine .ite (by exact rfl) ?_
  extract_lets ssn u v _ w x
  have hv : State.Only { strm := true } s v := .trans (by exact rfl) (u.toHistory_only ..)
  have hw : State.Only { mon := true, ports := true, strm := true } s w := (hv.trans (by exact rfl)).widen (by rfl)
  have hx : State.Only { mon := true, ports := true, strm := true } s x :=
    .ite (hw.andThen (w.measure_only ..) (by rfl)) hw
  exact hx.andThen (x.toStreams_only ..) (by rfl)

end Sys2Proof.Machine
end

section
/-! PROOF. The events of the digital inputs and of the blanking pins (R77, R184 to R188). -/
namespace Sys2Proof.Machine

/-! A digital input -/

@[simp] theorem State.diSt_setDi (s : State) (i : Nat) (x : DiSt) : (s.setDi i x).diSt i = x := Tbl.get_set_self ..

theorem State.diSt_congr {s u : State} (h : u.dio = s.dio) (i : Nat) : u.diSt i = s.diSt i := by
  rw [State.diSt, h, State.diSt]

theorem State.diSt_keep {p : Parts} (hp : p.dio = true) (s u : State) (i : Nat) : (keep p s u).diSt i = u.diSt i :=
  State.diSt_congr (by rw [keep_dio, if_pos hp]) i

theorem State.diSt_output (s : State) (e : Nat) (sm : Sample) (i : Nat) : (s.output e sm).diSt i = s.diSt i :=
  State.diSt_congr ((s.output_only e sm).dio rfl) i

/-- Counting an edge changes neither the accepted level nor the instant of the last level sample. -/
theorem State.diEdge_keeps (s : State) (i : Nat) (e : DiEdge) :
    ((s.diEdge i e).diSt i).level = (s.diSt i).level ∧ ((s.diEdge i e).diSt i).last = (s.diSt i).last := by
  unfold State.diEdge
  extract_lets x y tok z
  split
  · rw [State.diSt_setDi]
    exact ⟨rfl, rfl⟩
  split
  · have hdrop : ∀ v : State, ((v.bump R.IOT_DICNT.EDGEDROP).logCycle L.DI_EDGE_RATE 1 (384 + i)).diSt i = v.diSt i :=
      fun _ => rfl
    rw [hdrop, State.diSt_setDi]
    exact ⟨rfl, rfl⟩
  · rw [State.diSt_output, State.diSt_setDi]
    exact ⟨rfl, rfl⟩

theorem State.diFlush_keeps (s : State) (i : Nat) :
    ((s.diFlush i).diSt i).level = (s.diSt i).level ∧ ((s.diFlush i).diSt i).last = (s.diSt i).last := by
  unfold State.diFlush
  extract_lets next x due u
  have hu : (u.diSt i).level = x.level ∧ (u.diSt i).last = x.last := by
    rw [State.diSt_setDi]
    exact ⟨rfl, rfl⟩
  exact State.each_inv (fun s => (s.diSt i).level = x.level ∧ (s.diSt i).last = x.last)
    (fun v e hv => ⟨(v.diEdge_keeps i e).1.trans hv.1, (v.diEdge_keeps i e).2.trans hv.2⟩) u due hu

/-- A level held long enough is accepted; an input that is off shows it at once (R184). -/
theorem diLevelAccept_accepts (now : Nat) {i : Fin 128} {level : Bool} {since : Nat} {s : State} (hr : s.Running)
    (hsup : s.sys.fieldFault = false) (hgood : s.dio.goodAt = none) (hnew : level ≠ (s.diSt i).level)
    (hn : since + 2 ^ s.inUse (R.IOT_DICFG.FILT i) * usU ≤ max s.now now) :
    Completes (.diLevelAccept now i level since) s fun t => (t.diSt i).level = level ∧
      (s.inUse (R.IOT_DICFG.EN i) = 0 → (t.diSt i).shown = level ∧ (t.diSt i).reported = level) := by
  have he : exec (.diLevelAccept now i level since) s = execDiLevelAccept now i level since s := rfl
  unfold execDiLevelAccept at he
  refine completes_act he hr ?_
  rw [State.diSt_keep rfl]
  extract_lets n x hidden loc y t ts ten pos u v e
  have hloc : loc = since := by
    unfold loc
    rw [show (s.tick now).dio.goodAt = none from hgood]
  have hheld : ¬ ((s.tick now).sys.fieldFault = true ∨ level = x.level ∨
      (s.tick now).now < loc + 2 ^ (s.tick now).inUse (R.IOT_DICFG.FILT n) * usU) := by
    rintro (h | h | h)
    · exact absurd (hsup.symm.trans h) Bool.false_ne_true
    · exact hnew h
    · rw [hloc] at h
      exact absurd h (not_lt.2 hn)
  rw [if_neg hheld]
  split
  next hen =>
    rw [State.diSt_setDi]
    exact ⟨rfl, fun _ => ⟨rfl, rfl⟩⟩
  next hen =>
    refine ⟨(State.diFlush_keeps ..).1.trans ?_, fun h => absurd h hen⟩
    rw [State.diSt_setDi]

/-- A level sample that is due takes its instant (R186). -/
theorem diLevelSample_takes (now : Nat) {i : Fin 128} (failed : Bool) {s : State} (hr : s.Running)
    (hen : s.inUse (R.IOT_DICFG.EN i) ≠ 0) (hper : s.inUse (R.IOT_DIPER.P i) ≠ 0)
    (hn : s.nextLevel i + (((2 ^ s.inUse (R.IOT_DICFG.FILT i) + 2) * usU : Nat) : Int) ≤ s.wbAt 0 (max s.now now)) :
    Completes (.diLevelSample now i failed) s fun t => (t.diSt i).last = some (s.nextLevel i) := by
  have he : exec (.diLevelSample now i failed) s = execDiLevelSample now i failed s := rfl
  unfold execDiLevelSample at he
  refine completes_act he hr ?_
  rw [State.diSt_keep rfl]
  extract_lets n x t blk sm y z
  have hdue : ¬ ((s.tick now).inUse (R.IOT_DICFG.EN n) = 0 ∨ (s.tick now).inUse (R.IOT_DIPER.P n) = 0 ∨
      (s.tick now).wbNow 0 < t + (((2 ^ (s.tick now).inUse (R.IOT_DICFG.FILT n) + 2) * usU : Nat) : Int)) := by
    rintro (h | h | h)
    · exact hen h
    · exact hper h
    · exact absurd h (not_lt.2 hn)
  have hz : z.last = some t := by
    unfold z
    split
    · rfl
    · rfl
  rw [if_neg hdue, (State.diFlush_keeps ..).2, State.diSt_output, State.diSt_setDi, hz]
  rfl

/-! The blanking pins -/

theorem hasBit_eq_testBit (v n : Nat) : hasBit v n = v.testBit n := by
  rw [hasBit, bit, Nat.testBit_eq_decide_div_mod_eq]
  rfl

/-- Adding a bit that is clear sets it, taking away one that is set clears it. -/
theorem hasBit_toggle {v n : Nat} {on : Bool} (h : hasBit v n ≠ on) :
    hasBit (if on then v + 2 ^ n else v - 2 ^ n) n = on := by
  rw [hasBit_eq_testBit] at h ⊢
  cases on
  case true =>
    have hv : v.testBit n = false := Bool.eq_false_of_not_eq_true h
    rw [if_pos rfl, Nat.add_comm, Nat.testBit_two_pow_add_eq, hv]
    rfl
  case false =>
    have hv : v.testBit n = true := Bool.eq_true_of_not_eq_false h
    have hle : 2 ^ n ≤ v := Nat.ge_two_pow_of_testBit hv
    have hsub := Nat.testBit_two_pow_add_eq (v - 2 ^ n) n
    rw [Nat.add_sub_cancel' hle, hv] at hsub
    rw [if_neg Bool.false_ne_true]
    simpa using hsub

/-- Where every step of a repeated operation keeps `inv`, what one member brings about under it and the others leave holds
after all of them. -/
theorem State.each_establishes_under {α : Type} {inv p : State → Prop} {f : State → α → State} {x : α}
    (hinv : ∀ s y, inv s → inv (f s y)) (hx : ∀ s, inv s → p (f s x)) (hp : ∀ s y, p s → p (f s y)) {s : State}
    (hs : inv s) {l : List α} (h : x ∈ l) : p (s.each l f) := by
  induction l generalizing s with
  | nil => exact absurd h List.not_mem_nil
  | cons y l ih =>
    rcases List.mem_cons.1 h with rfl | h
    · exact (f s x).each_inv p hp l (hx s hs)
    · exact ih (hinv s y hs) h

/-- The end of a level on blanking pin `i` for tile `t`, if the tile selects the pin (R79). -/
def State.armTail (s : State) (i t : Nat) : State :=
  if hasBit (s.inUse (R.TILE_BLANK.PINMASK t)) i then s.modTile t fun x => { x with armed := true } else s

theorem State.armTail_only (s : State) (i t : Nat) : State.Only { tiles := true } s (s.armTail i t) :=
  .ite (by exact rfl) (.refl ..)

theorem State.armTail_armed {s : State} {i t : Nat} (h : hasBit (s.inUse (R.TILE_BLANK.PINMASK t)) i = true) :
    ((s.armTail i t).tile t).armed = true := by
  rw [State.armTail, if_pos h, State.tile_modTile]

theorem State.armTail_keeps {s : State} (i t : Nat) {u : Nat} (h : (s.tile u).armed = true) :
    ((s.armTail i t).tile u).armed = true := by
  unfold State.armTail
  split
  · by_cases hu : u = t
    · rw [hu, State.tile_modTile]
    · rw [State.tile_modTile_ne _ _ hu]
      exact h
  · exact h

theorem mem_tiles4 (u : Fin 4) : u.val ∈ tiles4 := by
  have hu := u.2
  simp only [tiles4, List.mem_cons, List.not_mem_nil, or_false]
  omega

/-- Blanking pin `i` toggles, now. -/
def State.togglePin (s : State) (i : Nat) (on : Bool) : State :=
  let pins := if on then s.dio.pins + 2 ^ i else s.dio.pins - 2 ^ i
  { s with dio := { s.dio with pins := pins, pinAt := Tbl.ins s.dio.pinAt i s.now } }.put R.IOT_BLANKST.PIN pins

theorem State.togglePin_pins {s : State} {i : Nat} {on : Bool} (h : hasBit s.dio.pins i ≠ on) :
    hasBit (s.togglePin i on).dio.pins i = on := hasBit_toggle h

theorem State.togglePin_pinAt (s : State) (i : Nat) (on : Bool) : Tbl.get 0 (s.togglePin i on).dio.pinAt i = s.now :=
  Tbl.get_ins_self ..

theorem exec_blankPinEdge (now : Nat) (pin : Fin 4) (on : Bool) (s : State) :
    exec (.blankPinEdge now pin on) s = act boundaryParts now s fun s =>
      if hasBit s.dio.pins pin = on then s
      else if on then s.togglePin pin on
      else (s.togglePin pin on).each tiles4 fun s t => s.armTail pin t := rfl

/-- An edge of a blanking pin takes its level and time; its end arms the tail of the tiles that select it (R77, R79). -/
theorem blankPinEdge_takes (now : Nat) {pin : Fin 4} {on : Bool} {s : State} (hr : s.Running)
    (hpin : hasBit s.dio.pins pin ≠ on) :
    Completes (.blankPinEdge now pin on) s fun t => hasBit t.dio.pins pin = on ∧ Tbl.get 0 t.dio.pinAt pin = t.now ∧
      (on = false → ∀ u : Fin 4, hasBit (s.inUse (R.TILE_BLANK.PINMASK u)) pin = true → (t.tile u).armed = true) := by
  refine completes_act (exec_blankPinEdge now pin on s) hr ?_
  rw [if_neg (show ¬ hasBit (s.tick now).dio.pins pin = on from hpin), keep_dio, if_pos rfl, keep_now]
  have hpins := State.togglePin_pins (s := s.tick now) hpin
  have hat := (s.tick now).togglePin_pinAt pin on
  have hlive : ((s.tick now).togglePin pin on).live = s.live := rfl
  generalize (s.tick now).togglePin pin on = v at hpins hat hlive
  cases on
  case true => exact ⟨hpins, hat, fun h => absurd h.symm Bool.false_ne_true⟩
  case false =>
    rw [if_neg Bool.false_ne_true]
    have hdio : (v.each tiles4 fun s t => s.armTail pin t).dio = v.dio :=
      State.each_keeps State.dio (fun s t => (s.armTail_only pin t).dio rfl) v tiles4
    rw [hdio]
    refine ⟨hpins, hat, fun _ u hsel => ?_⟩
    rw [State.tile_keep rfl]
    exact State.each_establishes_under (inv := fun w => w.live = s.live) (p := fun w => (w.tile u).armed = true)
      (fun w t hw => ((w.armTail_only pin t).live rfl).trans hw)
      (fun w hw => State.armTail_armed (by rw [State.inUse_congr hw]; exact hsel))
      (fun w t hw => State.armTail_keeps pin t hw) hlive (mem_tiles4 u)

/-- Settles O12, by the lemma of each event. -/
theorem inputEventsComplete : Obligations.InputEventsComplete :=
  ⟨fun now _ _ _ _ hr hsup hgood hnew hn => diLevelAccept_accepts now hr hsup hgood hnew hn,
    fun now _ failed _ hr hen hper hn => diLevelSample_takes now failed hr hen hper hn,
    fun now _ _ _ hr hpin => blankPinEdge_takes now hr hpin⟩

end Sys2Proof.Machine
end

section
/-! PROOF. The steps of a tile that meet in a frame (R100). -/
namespace Sys2Proof.Machine

/-! When two steps run in a common frame -/

theorem Step.runs_iff {st : Step} {f : Nat} : st.runs f = true ↔ st.every ≠ 0 ∧ f % st.every = st.phase := by
  simp [Step.runs]

theorem stepsMeet_iff {a b : Step} : stepsMeet a b = true ↔
    Nat.gcd a.every b.every ≠ 0 ∧ a.phase % Nat.gcd a.every b.every = b.phase % Nat.gcd a.every b.every := by
  simp [stepsMeet]

/-- The phase of a step that runs in a frame agrees with the frame's number modulo every divisor of EVERY. -/
theorem Step.phase_mod_of_runs {st : Step} {f g : Nat} (h : st.runs f = true) (hg : g ∣ st.every) :
    st.phase % g = f % g := by
  rw [← (Step.runs_iff.1 h).2, Nat.mod_mod_of_dvd _ hg]

theorem stepsMeet_of_runs {a b : Step} {f : Nat} (ha : a.runs f = true) (hb : b.runs f = true) : stepsMeet a b = true := by
  refine stepsMeet_iff.2 ⟨Nat.gcd_ne_zero_left (Step.runs_iff.1 ha).1, ?_⟩
  rw [Step.phase_mod_of_runs ha (Nat.gcd_dvd_left ..), Step.phase_mod_of_runs hb (Nat.gcd_dvd_right ..)]

/-- Steps that meet have a common frame: the Chinese remainder of their phases. -/
theorem exists_runs_of_stepsMeet {a b : Step} (ha : a.phase < a.every) (hb : b.phase < b.every)
    (h : stepsMeet a b = true) : ∃ f, a.runs f = true ∧ b.runs f = true := by
  obtain ⟨f, hfa, hfb⟩ := Nat.chineseRemainder' (stepsMeet_iff.1 h).2
  exact ⟨f, Step.runs_iff.2 ⟨Nat.ne_zero_of_lt ha, Eq.trans hfa (Nat.mod_eq_of_lt ha)⟩,
    Step.runs_iff.2 ⟨Nat.ne_zero_of_lt hb, Eq.trans hfb (Nat.mod_eq_of_lt hb)⟩⟩

/-! The commit check -/

/-- A row that holds is found. -/
theorem firstRow_isSome {l : List (Nat × Bool)} {n : Nat} (h : (n, true) ∈ l) : (firstRow l).isSome = true := by
  induction l with
  | nil => cases h
  | cons x l ih =>
    obtain ⟨m, b⟩ := x
    cases b
    case true => rfl
    case false => exact ih ((List.mem_cons.1 h).resolve_left (by simp))

/-- Two steps of a table that name one channel and meet clash, wherever in the table they stand. -/
theorem stepsClash_of_meet {l : List Step} {i j : Nat} {a b : Step} (hij : i < j) (ha : l[i]? = some a)
    (hb : l[j]? = some b) (hsrc : a.src = b.src) (hch : a.src < 96) (hm : stepsMeet a b = true) : stepsClash l = true := by
  induction l generalizing i j with
  | nil => simp at ha
  | cons x l ih =>
    obtain ⟨j, rfl⟩ := Nat.exists_eq_succ_of_ne_zero (Nat.ne_zero_of_lt hij)
    rw [stepsClash, Bool.or_eq_true]
    cases i with
    | zero =>
      obtain rfl : x = a := Option.some.inj ha
      have hany : (l.any fun b => b.src == x.src && stepsMeet x b) = true :=
        List.any_eq_true.2 ⟨b, List.mem_of_getElem? hb, by simp [hsrc, hm]⟩
      exact .inl (by rw [hany, decide_eq_true hch, Bool.and_self])
    | succ i => exact .inr (ih (Nat.lt_of_succ_lt_succ hij) ha hb)

/-- A clash of steps is a row of Table 4.4, so that the commit check of the tile finds one. -/
theorem tileRow_isSome_of_clash {old v : View} {t : Nat} {paired : Bool} (h : stepsClash (stepsOf v t) = true) :
    (tileRow old v t paired).isSome = true := by
  refine firstRow_isSome (n := 13) ?_
  rw [h]
  simp

/-- Settles O54: the congruence by the Chinese remainder, the rejection by row 13 of Table 4.4. -/
theorem commonFrame : Obligations.CommonFrame := by
  refine ⟨fun a b ha hb => ⟨fun ⟨f, hfa, hfb⟩ => (stepsMeet_iff.1 (stepsMeet_of_runs hfa hfb)).2, fun h => ?_⟩, ?_⟩
  · exact exists_runs_of_stepsMeet ha hb (stepsMeet_iff.2 ⟨Nat.gcd_ne_zero_left (Nat.ne_zero_of_lt ha), h⟩)
  · rintro old v t i j paired a b hij ha hb hsrc hch ⟨f, hfa, hfb⟩
    exact tileRow_isSome_of_clash (stepsClash_of_meet hij ha hb hsrc hch (stepsMeet_of_runs hfa hfb))

end Sys2Proof.Machine
end

section
/-! PROOF. The reads that latch (R107, R158, R163, R176, R224, R248, R409). -/
namespace Sys2Proof.Machine

/-! The registers whose reads latch, in the map -/

/-- The register at `a` has the number `id` in the map and the indices `ix`. -/
abbrev HeldAt (a id : Nat) (ix : List Nat) : Prop := (regAt? a).map (fun h => (h.info.id, h.idx)) = some (id, ix)

theorem heldAt_wbNs : ∀ k : Fin 2, HeldAt (R.TIM_WB_NS k).addr RID.TIM_WB_NS [k.val] := by decide +kernel
theorem heldAt_nbNs : ∀ n : Fin 6, HeldAt (R.TIM_NB_NS n).addr RID.TIM_NB_NS [n.val] := by decide +kernel
theorem heldAt_tempoPos : ∀ n : Fin 4, HeldAt (R.TIM_TMP_POSL n).addr RID.TIM_TMP_POSL [n.val] := by decide +kernel
theorem heldAt_ledger : ∀ n : Fin 64, HeldAt (R.QUE_S_LEDGER n 0).addr RID.QUE_S_LEDGER [n.val, 0] := by decide +kernel

/-- The first register of a list whose dimensions spell an offset holds the address. -/
theorem findReg_head {a : Nat} {r : RegInfo} {rs : List RegInfo} {ix : List Nat} (hb : r.base ≤ a)
    (hd : dimIndex r.dims (a - r.base) = some ix) : findReg a (r :: rs) = some ⟨r, ix⟩ := by
  rw [findReg, if_neg (Nat.not_lt.2 hb), hd]

/-- A register whose dimensions do not spell an offset does not hold the address. -/
theorem findReg_skip {a : Nat} {r : RegInfo} {rs : List RegInfo} (hd : dimIndex r.dims (a - r.base) = none) :
    findReg a (r :: rs) = findReg a rs := by
  rw [findReg, hd, ite_self]

theorem findBlock_log {o : Nat} (h : o < 0x40100) : findBlock (0xC000000 + o) regBlocks = regsLOG := by
  simp only [regBlocks, findBlock]
  repeat rw [if_neg (by omega)]
  rw [if_pos (by omega)]

theorem findBlock_res {o : Nat} (h : o < 0x1000) : findBlock (0x10000000 + o) regBlocks = regsRES := by
  simp only [regBlocks, findBlock]
  repeat rw [if_neg (by omega)]
  rw [if_pos (by omega)]

/-- An offset in a row of registers spells the index of its copy when what is left of it is nothing, and none otherwise. -/
theorem dimIndex_row {n st i r : Nat} (hi : i < n) (hr : r < st) :
    dimIndex [(n, st)] (i * st + r) = if r = 0 then some [i] else none := by
  have hq : (i * st + r) / st = i := by
    rw [Nat.mul_comm, Nat.mul_add_div (Nat.zero_lt_of_lt hr), Nat.div_eq_of_lt hr, Nat.add_zero]
  rw [dimIndex, hq, if_pos hi, Nat.add_sub_cancel_left, dimIndex]
  split <;> rfl

theorem heldAt_resLo (e : Fin 512) : HeldAt (R.RES_LO e).addr RID.RES_LO [e.val] := by
  have ha : (R.RES_LO e).addr = 0x10000000 + e.val * 8 := rfl
  have hd : dimIndex [(512, 8)] (0x10000000 + e.val * 8 - 0x10000000) = some [e.val] := by
    rw [Nat.add_sub_cancel_left]
    exact dimIndex_row (r := 0) e.isLt (by decide)
  rw [HeldAt, ha, regAt?, findBlock_res (by omega), regsRES, regsRES0, findReg_head (by simp) hd]
  rfl

/-- The high words stand between the low ones. -/
theorem heldAt_resHi (e : Fin 512) : HeldAt (R.RES_HI e).addr RID.RES_HI [e.val] := by
  have ha : (R.RES_HI e).addr = 0x10000000 + (e.val * 8 + 4) := by simp only [R.RES_HI]; omega
  have hlo : dimIndex [(512, 8)] (0x10000000 + (e.val * 8 + 4) - 0x10000000) = none := by
    rw [Nat.add_sub_cancel_left]
    exact dimIndex_row e.isLt (by decide)
  have hhi : dimIndex [(512, 8)] (0x10000000 + (e.val * 8 + 4) - 0x10000004) = some [e.val] := by
    rw [show 0x10000000 + (e.val * 8 + 4) - 0x10000004 = e.val * 8 by omega]
    exact dimIndex_row (r := 0) e.isLt (by decide)
  rw [HeldAt, ha, regAt?, findBlock_res (by omega), regsRES, regsRES0, findReg_skip hlo,
    findReg_head (by simp only; omega) hhi]
  rfl

/-- The log slots fill the start of their block. -/
theorem heldAt_logEntry (n : Fin 8192) : HeldAt (R.LOG_ENTRY n 0).addr RID.LOG_ENTRY [n.val, 0] := by
  have ha : (R.LOG_ENTRY n 0).addr = 0xC000000 + n.val * 0x20 := rfl
  have hd : dimIndex [(8192, 0x20), (8, 4)] (0xC000000 + n.val * 0x20 - 0xC000000) = some [n.val, 0] := by
    rw [Nat.add_sub_cancel_left]
    simp [dimIndex]
  rw [HeldAt, ha, regAt?, findBlock_log (by omega), regsLOG, regsLOG0, findReg_head (by simp) hd]
  rfl

/-! What a read of each does, and what it answers -/

section Reads

variable (s : State) (q : Requester) {h : RegHit} (a : Nat) {i : Nat}

theorem State.readReg_resLo (hid : h.info.id = RID.RES_LO) (hix : h.idx = [i]) :
    s.readReg q h a = (s.setLatched q 0 [i, (Tbl.get resNone s.strm.latest i).2], (Tbl.get resNone s.strm.latest i).1) := by
  simp [State.readReg, State.readNow, RegHit.ix, hid, hix]

/-- The high word answers what a read of the low one has latched, with SNAP set. -/
theorem State.readReg_resHi_latched {v : Nat} (hl : s.latched q 0 = [i, v]) (hid : h.info.id = RID.RES_HI)
    (hix : h.idx = [i]) : s.readReg q h a = (s.setLatched q 0 [], v + 2 ^ 31) := by
  simp [State.readReg, State.consume, RegHit.ix, hid, hix, hl]

theorem State.readReg_wbNs (hid : h.info.id = RID.TIM_WB_NS) (hix : h.idx = [i]) : s.readReg q h a =
    (s.setLatched q (1 + i) [i, fracOf (s.wbNow i) + 2 ^ 16, secOf (s.wbNow i) % 2 ^ 32,
      secOf (s.wbNow i) / 2 ^ 32 % 2 ^ 16], nsOf (s.wbNow i)) := by
  simp [State.readReg, State.readNow, RegHit.ix, hid, hix]

theorem State.readReg_nbNs (hid : h.info.id = RID.TIM_NB_NS) (hix : h.idx = [i]) : s.readReg q h a =
    (s.setLatched q 3 [i, nbEpoch (s.wbNow (s.nbSrc i))], nbNs (s.wbNow (s.nbSrc i))) := by
  simp [State.readReg, State.readNow, RegHit.ix, hid, hix]

theorem State.readReg_ledger (hid : h.info.id = RID.QUE_S_LEDGER) (hix : h.idx = [i, 0]) :
    s.readReg q h a = (s.setLatched q 4 (i :: s.ledger i), s.ledgerWord i 0) := by
  simp [State.readReg, State.readNow, RegHit.ix, hid, hix]

theorem State.readReg_logEntry (hid : h.info.id = RID.LOG_ENTRY) (hix : h.idx = [i, 0]) :
    s.readReg q h a = (s.setLatched q 5 (i :: (List.range 8).map (s.logWord i)), s.logWord i 0) := by
  simp [State.readReg, State.readNow, RegHit.ix, hid, hix]

/-- The state in which a read of the low word of a position has latched the high word and the velocity (R176). -/
def State.snapTempo (s : State) (i : Nat) : State :=
  let u := s.put (R.TIM_TMP_POSH.POS i) (lowWord (s.tempoPos i s.now / 2 ^ 32))
  u.put (R.TIM_TMP_VEL.VEL i) (lowWord (u.tempoVel i u.now * 256).floor)

theorem State.readReg_tempoPos (hid : h.info.id = RID.TIM_TMP_POSL) (hix : h.idx = [i]) :
    s.readReg q h a = (s.snapTempo i, lowWord (s.tempoPos i s.now)) := by
  simp [State.readReg, State.readNow, RegHit.ix, hid, hix, State.snapTempo]

theorem lowWord_lt (x : Int) : lowWord x < 2 ^ 32 := by
  rw [lowWord, unsgn]
  omega

theorem State.get_snapTempo : (s.snapTempo i).get (R.TIM_TMP_POSH.POS i) = lowWord (s.tempoPos i s.now / 2 ^ 32) := by
  have hap : (R.TIM_TMP_POSH.POS i).Apart (R.TIM_TMP_VEL.VEL i) :=
    .inl (by simp [R.TIM_TMP_POSH.POS, R.TIM_TMP_VEL.VEL, R.TIM_TMP_POSH, R.TIM_TMP_VEL])
  rw [State.snapTempo, State.get_put_ne _ _ hap, State.get_put _ _ _ (show 0 + 32 ≤ 32 by decide)]
  exact Nat.mod_eq_of_lt (lowWord_lt _)

theorem State.ledgerWord_zero : s.ledgerWord i 0 = (s.strmSt i).produced % 2 ^ 32 := by
  simp [State.ledgerWord]

theorem State.latched_setLatched (k : Nat) (l : List Nat) : (s.setLatched q k l).latched q k = l := Tbl.get_set_self ..

theorem State.latched_congr {t : State} (hl : t.latch = s.latch) (k : Nat) : t.latched q k = s.latched q k := by
  rw [State.latched, hl, State.latched]

/-- A permitted read by the windows' rule has its effect, and is answered with its word. -/
theorem State.cmdRead_permitted {f : State → State × Nat} (hp : s.permits q a 4 false = true) :
    s.cmdRead q a f = (f s).1.answer q false (f s).2 := by
  simp [State.cmdRead, hp]

end Reads

/-! What the commands are -/

theorem exec_resLoRead (now : Nat) (q : Requester) (e : Fin 512) (s : State) :
    exec (.resLoRead now q e) s = act readParts now s fun s => s.busRead q (R.RES_LO e).addr 4 := rfl
theorem exec_resHiRead (now : Nat) (q : Requester) (e : Fin 512) (s : State) :
    exec (.resHiRead now q e) s = act readParts now s fun s => s.busRead q (R.RES_HI e).addr 4 := rfl
theorem exec_wbNsRead (now : Nat) (q : Requester) (k : Fin 2) (s : State) :
    exec (.wbNsRead now q k) s = act readParts now s fun s => s.busRead q (R.TIM_WB_NS k).addr 4 := rfl
theorem exec_nbNsRead (now : Nat) (q : Requester) (n : Fin 6) (s : State) :
    exec (.nbNsRead now q n) s = act readParts now s fun s => s.busRead q (R.TIM_NB_NS n).addr 4 := rfl
theorem exec_tempoPosRead (now : Nat) (q : Requester) (n : Fin 4) (s : State) :
    exec (.tempoPosRead now q n) s = act readParts now s fun s => s.busRead q (R.TIM_TMP_POSL n).addr 4 := rfl
theorem exec_ledgerRead (now : Nat) (q : Requester) (n : Fin 64) (s : State) :
    exec (.ledgerRead now q n) s = act readParts now s fun s => s.busRead q (R.QUE_S_LEDGER n 0).addr 4 := rfl
theorem exec_logEntryRead (now : Nat) (q : Requester) (n : Fin 8192) (s : State) :
    exec (.logEntryRead now q n) s = act readParts now s fun s => s.busRead q (R.LOG_ENTRY n 0).addr 4 := rfl

/-- A read of CMP_INBYTESL keeps the count of the same instant in both words (Table 9.7). -/
theorem exec_cmpInbytesRead (now : Nat) (q : Requester) (s : State) : exec (.cmpInbytesRead now q) s =
    act jobParts now s fun s => s.cmdRead q R.CMP_INBYTESL.addr fun s =>
      ((s.put R.CMP_INBYTESL.INBYTES s.cmp.inBytes).put R.CMP_INBYTESH.INBYTES (s.cmp.inBytes / 2 ^ 32),
        s.cmp.inBytes % 2 ^ 32) := rfl

/-! What the commands complete with -/

theorem isRecovery_of_latching {h : RegHit} (hl : h.info.id ∈ latching) : isRecovery h = false := by
  have hnone : ∀ id ∈ latching, [RID.UPD_RCVADDR, RID.UPD_RCVCTL, RID.UPD_RCVDATA].contains id = false := by decide
  exact hnone _ hl

section Completes

variable {i : Instr} {now : Nat} {q : Requester} {a id v : Nat} {ix : List Nat} {s : State} {P : State → Prop}

/-- A permitted read of a register whose reads latch completes with the answer, the latches and the registers that reading
the register leaves. -/
theorem completes_read {u : State} (he : exec i s = act readParts now s fun s => s.busRead q a 4) (hs : s.Running)
    (ha : a % 4 = 0) (hh : HeldAt a id ix) (hl : id ∈ latching) (hp : s.permits q a 4 false = true)
    (hread : ∀ h : RegHit, h.info.id = id → h.idx = ix → (s.tick now).readReg q h a = (u, v))
    (hP : ∀ t : State, t.now = (s.tick now).now → t.Answered q v → t.latch = u.latch → t.regs = u.regs → P t) :
    Completes i s P := by
  obtain ⟨h, hat, heq⟩ := Option.map_eq_some_iff.1 hh
  obtain ⟨rfl, rfl⟩ := Prod.mk.inj heq
  refine completes_act he hs ?_
  rw [State.busRead_reg (s := s.tick now) ha hat (isRecovery_of_latching hl) hp, hread h rfl rfl]
  exact hP _ rfl (State.answered_of_resp rfl) rfl rfl

/-- Such a read that latches `l` for its requester. -/
theorem completes_latching {k : Nat} {l : List Nat} (he : exec i s = act readParts now s fun s => s.busRead q a 4)
    (hs : s.Running) (ha : a % 4 = 0) (hh : HeldAt a id ix) (hl : id ∈ latching) (hp : s.permits q a 4 false = true)
    (hread : ∀ h : RegHit, h.info.id = id → h.idx = ix →
      (s.tick now).readReg q h a = ((s.tick now).setLatched q k l, v))
    (hP : ∀ t : State, t.now = (s.tick now).now → t.Answered q v → t.latched q k = l → P t) : Completes i s P :=
  completes_read he hs ha hh hl hp hread fun t hnow hans hlatch _ =>
    hP t hnow hans ((State.latched_congr _ q hlatch k).trans (State.latched_setLatched _ q k l))

end Completes

theorem resLoRead_latches (now : Nat) {req : Requester} {e : Fin 512} {s : State} (hs : s.Running)
    (hp : s.permits req (R.RES_LO e).addr 4 false = true) : Completes (.resLoRead now req e) s fun t =>
      t.Answered req (Tbl.get resNone s.strm.latest e).1 ∧
        t.latched req 0 = [e.val, (Tbl.get resNone s.strm.latest e).2] :=
  completes_latching (exec_resLoRead ..) hs (by simp only [R.RES_LO]; omega) (heldAt_resLo e) (by decide) hp
    (fun _ => State.readReg_resLo _ req _) fun _ _ hans hl => ⟨hans, hl⟩

theorem resHiRead_consumes (now : Nat) {req : Requester} {e : Fin 512} {v : Nat} {s : State} (hs : s.Running)
    (hp : s.permits req (R.RES_HI e).addr 4 false = true) (hl : s.latched req 0 = [e.val, v]) :
    Completes (.resHiRead now req e) s fun t => t.Answered req (v + 2 ^ 31) ∧ t.latched req 0 = [] :=
  completes_latching (exec_resHiRead ..) hs (by simp only [R.RES_HI]; omega) (heldAt_resHi e) (by decide) hp
    (fun _ => State.readReg_resHi_latched (s.tick now) req _ hl) fun _ _ hans hl => ⟨hans, hl⟩

theorem wbNsRead_latches (now : Nat) {req : Requester} {k : Fin 2} {s : State} (hs : s.Running)
    (hp : s.permits req (R.TIM_WB_NS k).addr 4 false = true) : Completes (.wbNsRead now req k) s fun t =>
      t.Answered req (nsOf (s.wbAt k t.now)) ∧ t.latched req (1 + k) = [k.val, fracOf (s.wbAt k t.now) + 2 ^ 16,
        secOf (s.wbAt k t.now) % 2 ^ 32, secOf (s.wbAt k t.now) / 2 ^ 32 % 2 ^ 16] :=
  completes_latching (exec_wbNsRead ..) hs (by simp only [R.TIM_WB_NS]; omega) (heldAt_wbNs k) (by decide) hp
    (fun _ => State.readReg_wbNs _ req _) fun _ hnow hans hl => by rw [hnow]; exact ⟨hans, hl⟩

theorem nbNsRead_latches (now : Nat) {req : Requester} {n : Fin 6} {s : State} (hs : s.Running)
    (hp : s.permits req (R.TIM_NB_NS n).addr 4 false = true) : Completes (.nbNsRead now req n) s fun t =>
      t.Answered req (nbNs (s.wbAt (s.nbSrc n) t.now)) ∧
        t.latched req 3 = [n.val, nbEpoch (s.wbAt (s.nbSrc n) t.now)] :=
  completes_latching (exec_nbNsRead ..) hs (by simp only [R.TIM_NB_NS]; omega) (heldAt_nbNs n) (by decide) hp
    (fun _ => State.readReg_nbNs _ req _) fun _ hnow hans hl => by rw [hnow]; exact ⟨hans, hl⟩

/-- The high word of the position goes to its register. -/
theorem tempoPosRead_snaps (now : Nat) {req : Requester} {n : Fin 4} {s : State} (hs : s.Running)
    (hp : s.permits req (R.TIM_TMP_POSL n).addr 4 false = true) : Completes (.tempoPosRead now req n) s fun t =>
      t.Answered req (lowWord ((s.tick now).tempoPos n t.now)) ∧
        t.get (R.TIM_TMP_POSH.POS n) = lowWord ((s.tick now).tempoPos n t.now / 2 ^ 32) :=
  completes_read (exec_tempoPosRead ..) hs (by simp only [R.TIM_TMP_POSL]; omega) (heldAt_tempoPos n) (by decide) hp
    (fun _ => State.readReg_tempoPos _ req _) fun _ hnow hans _ hregs => by
      rw [hnow]
      exact ⟨hans, (State.get_congr hregs _).trans (State.get_snapTempo _)⟩

theorem ledgerRead_latches (now : Nat) {req : Requester} {n : Fin 64} {s : State} (hs : s.Running)
    (hp : s.permits req (R.QUE_S_LEDGER n 0).addr 4 false = true) : Completes (.ledgerRead now req n) s fun t =>
      t.Answered req ((s.strmSt n).produced % 2 ^ 32) ∧ t.latched req 4 = n.val :: (s.tick now).ledger n :=
  completes_latching (exec_ledgerRead ..) hs (by simp only [R.QUE_S_LEDGER]; omega) (heldAt_ledger n) (by decide) hp
    (fun _ => State.readReg_ledger _ req _) fun _ _ hans hl => ⟨(State.ledgerWord_zero (s.tick now)) ▸ hans, hl⟩

theorem logEntryRead_latches (now : Nat) {req : Requester} {n : Fin 8192} {s : State} (hs : s.Running)
    (hp : s.permits req (R.LOG_ENTRY n 0).addr 4 false = true) : Completes (.logEntryRead now req n) s fun t =>
      t.Answered req (s.logWord n 0) ∧ t.latched req 5 = n.val :: (List.range 8).map (s.logWord n) :=
  completes_latching (exec_logEntryRead ..) hs (by simp only [R.LOG_ENTRY]; omega) (heldAt_logEntry n) (by decide) hp
    (fun _ => State.readReg_logEntry _ req _) fun _ _ hans hl => ⟨hans, hl⟩

/-- The high word of the count goes to its register. -/
theorem cmpInbytesRead_snaps (now : Nat) {req : Requester} {s : State} (hs : s.Running)
    (hp : s.permits req R.CMP_INBYTESL.addr 4 false = true) : Completes (.cmpInbytesRead now req) s fun t =>
      t.Answered req (s.cmp.inBytes % 2 ^ 32) ∧ t.get R.CMP_INBYTESH.INBYTES = s.cmp.inBytes / 2 ^ 32 % 2 ^ 32 := by
  refine completes_act (exec_cmpInbytesRead ..) hs ?_
  rw [State.cmdRead_permitted (s.tick now) req _ hp]
  exact ⟨State.answered_of_resp rfl, State.get_put _ R.CMP_INBYTESH.INBYTES _ (by decide)⟩

/-- Settles O2, by the lemma of each read. -/
theorem latchedReadsComplete : Obligations.LatchedReadsComplete :=
  ⟨fun now _ _ _ hs hp => resLoRead_latches now hs hp,
    fun now _ _ _ _ hs hp hl => resHiRead_consumes now hs hp hl,
    fun now _ _ _ hs hp => wbNsRead_latches now hs hp,
    fun now _ _ _ hs hp => nbNsRead_latches now hs hp,
    fun now _ _ _ hs hp => tempoPosRead_snaps now hs hp,
    fun now _ _ _ hs hp => ledgerRead_latches now hs hp,
    fun now _ _ hs hp => cmpInbytesRead_snaps now hs hp,
    fun now _ _ _ hs hp => logEntryRead_latches now hs hp⟩

end Sys2Proof.Machine
end

section
namespace Sys2Proof.Machine

/-! PROOF. What leaves the fuse array. -/

/-- What reaches no fuse leaves the array. -/
theorem State.Only.fuse {p : Parts} {s t : State} (h : State.Only p s t) (hp : p.fuse = false) : t.fuse = s.fuse := by
  rw [h, keep_fuse, hp, if_neg Bool.false_ne_true]

@[simp] theorem State.ite_fuse (c : Prop) [Decidable c] (t u : State) :
    (if c then t else u).fuse = if c then t.fuse else u.fuse := apply_ite ..

/-- A repeated operation leaves the fuses when each of its steps does. -/
@[simp] theorem State.each_keeps_fuse {α : Type} {f : State → α → State} (h : ∀ s x, (f s x).fuse = s.fuse) (s : State)
    (l : List α) : (s.each l f).fuse = s.fuse := State.each_keeps State.fuse h s l

/-! The bus, and the free values -/

@[simp] theorem State.deny_fuse (s : State) (cls a : Nat) : (s.deny cls a).fuse = s.fuse := rfl

@[simp] theorem State.dramWrite_fuse (s : State) (a : Nat) (l : List Byte) : (s.dramWrite a l).fuse = s.fuse := by
  induction l generalizing s a with
  | nil => rfl
  | cons b l ih => exact ih ..

@[simp] theorem State.draw_fuse (s : State) : s.draw.2.fuse = s.fuse := (State.draw_only ..).fuse rfl

/-! Streams and the safety function across a warm reset (R43) -/

@[simp] theorem State.strmReady_fuse (s : State) (n : Nat) : (s.strmReady n).fuse = s.fuse :=
  (State.strmReady_only ..).fuse rfl
@[simp] theorem State.setQueue_fuse (s : State) (q : Nat) (x : QueueSt) : (s.setQueue q x).fuse = s.fuse :=
  (State.setQueue_only ..).fuse rfl
@[simp] theorem State.closePacket_fuse (s : State) (n : Nat) : (s.closePacket n).fuse = s.fuse :=
  (State.closePacket_only ..).fuse rfl
@[simp] theorem State.setFree_fuse (s : State) (n : Nat) : (s.setFree n).fuse = s.fuse :=
  (State.setFree_only ..).fuse rfl
@[simp] theorem State.closeBlock_fuse (s : State) (e : Nat) : (s.closeBlock e).fuse = s.fuse := rfl
@[simp] theorem State.strmWarm_fuse (s : State) (refLoss : Bool) : (s.strmWarm refLoss).fuse = s.fuse :=
  s.strmWarm_keeps State.fuse refLoss (fun _ _ h => h.fuse rfl) fun _ _ => rfl
@[simp] theorem State.safeHint_fuse (s old : State) : (s.safeHint old).fuse = s.fuse :=
  (State.safeHint_only ..).fuse rfl
@[simp] theorem State.showBk_fuse (s : State) (n : Nat) : (s.showBk n).fuse = s.fuse := (State.showBk_only ..).fuse rfl
@[simp] theorem State.setBk_fuse (s : State) (n : Nat) (x : BkSt) : (s.setBk n x).fuse = s.fuse := rfl
@[simp] theorem State.dropHigh_fuse (s : State) (n : Nat) : (s.dropHigh n).fuse = s.fuse :=
  (State.dropHigh_only ..).fuse rfl
@[simp] theorem State.putBytes_fuse (s : State) (f : Nat → FldAt) (bs : List Byte) :
    (s.putBytes f bs).fuse = s.fuse := (State.putBytes_only ..).fuse rfl
@[simp] theorem State.startZc_fuse (s : State) (c : Nat) : (s.startZc c).fuse = s.fuse :=
  (State.startZc_only ..).fuse rfl
@[simp] theorem State.safeWarm_fuse (s : State) (was : SafeSt) : (s.safeWarm was).fuse = s.fuse :=
  (State.safeWarm_only ..).fuse rfl

/-! Images of the choreography, the seal and the log of changes -/

@[simp] theorem State.chorCode_fuse (s : State) (n : Nat) : (s.chorCode n).fuse = s.fuse := rfl
@[simp] theorem State.chorErr_fuse (s : State) (sect row : Nat) : (s.chorErr sect row).fuse = s.fuse := rfl
@[simp] theorem State.loadFails_fuse (s : State) (code sect row : Nat) : (s.loadFails code sect row).fuse = s.fuse := by
  simp [State.loadFails]
@[simp] theorem State.chorState_fuse (s : State) (n : Nat) : (s.chorState n).fuse = s.fuse := by simp [State.chorState]

@[simp] theorem State.showPending_fuse (s : State) : s.showPending.fuse = s.fuse := by
  unfold State.showPending
  split <;> simp

@[simp] theorem State.loadImage_fuse (s : State) (raw : List Byte) : (s.loadImage raw).fuse = s.fuse := by
  unfold State.loadImage
  dsimp only
  repeat' split
  all_goals simp

@[simp] theorem State.chorLoad_fuse (s : State) : s.chorLoad.fuse = s.fuse := by simp [State.chorLoad]

@[simp] theorem State.writeImage_fuse (s : State) (ty : FldTy) (words : Tbl Word) :
    (s.writeImage ty words).fuse = s.fuse := by
  refine State.each_keeps_fuse (fun s a => ?_) ..
  split
  · rfl
  · split <;> rfl

@[simp] theorem State.beginApply_fuse (s : State) (i : Img) (b : Nat) : (s.beginApply i b).fuse = s.fuse := by
  simp [State.beginApply]

@[simp] theorem State.chorApply_fuse (s : State) : s.chorApply.fuse = s.fuse := by
  unfold State.chorApply
  dsimp only
  repeat' split
  all_goals simp

@[simp] theorem State.chorDiscard_fuse (s : State) : s.chorDiscard.fuse = s.fuse := by simp [State.chorDiscard]

@[simp] theorem State.choBusy_fuse (s : State) : s.choBusy.fuse = s.fuse := by
  unfold State.choBusy
  dsimp only
  split <;> simp

@[simp] theorem State.requestCommit_fuse (s : State) (c : CommitSt) : (s.requestCommit c).fuse = s.fuse := by
  simp [State.requestCommit]

@[simp] theorem State.password_fuse (s : State) : s.password.1.fuse = s.fuse := by
  unfold State.password
  dsimp only
  repeat' split
  all_goals simp

@[simp] theorem State.mayChange_fuse (s : State) (sealed pw room : Bool) :
    (s.mayChange sealed pw room).1.fuse = s.fuse := by
  unfold State.mayChange
  dsimp only
  repeat' split
  all_goals simp

@[simp] theorem State.spmbEnd_fuse (s : State) (code : Nat) : (s.spmbEnd code).fuse = s.fuse := State.putBytes_fuse ..

@[simp] theorem State.entryMid_fuse (s : State) (q : Requester) (id old new : Nat) :
    (s.entryMid q id old new).1.fuse = s.fuse := by
  unfold State.entryMid
  dsimp only
  split <;> simp

@[simp] theorem State.mirror_fuse (s : State) (m : Mirror) : (s.mirror m).fuse = s.fuse := by simp [State.mirror]
@[simp] theorem State.agreeCfg_fuse (s : State) (q : Requester) (cfg : Tbl Nat) (load : Bool) (id old new : Nat) :
    (s.agreeCfg q cfg load id old new).fuse = s.fuse := by simp [State.agreeCfg]
@[simp] theorem State.loadSafety_fuse (s : State) (q : Requester) : (s.loadSafety q).fuse = s.fuse := by
  simp [State.loadSafety]
@[simp] theorem State.setParam_fuse (s : State) (q : Requester) : (s.setParam q).fuse = s.fuse := by
  simp [State.setParam]
@[simp] theorem State.flashProgram_fuse (s : State) (a : Nat) (x1 : List Byte) :
    (s.flashProgram a x1).fuse = s.fuse := (State.flashProgram_only ..).fuse rfl

@[simp] theorem State.logChange_fuse (s : State) (mid digest : List Byte) (ok : Bool) :
    (s.logChange mid digest ok).1.fuse = s.fuse := by
  unfold State.logChange
  split <;> simp

/-- A salt takes free values alone. -/
theorem State.drawSalt_fuse (l : List Nat) (r : List Byte × State) :
    (l.foldl (fun r _ => (BitVec.ofNat 8 r.2.draw.1 :: r.1, r.2.draw.2)) r).2.fuse = r.2.fuse := by
  induction l generalizing r with
  | nil => rfl
  | cons _ l ih => exact ih _

@[simp] theorem State.setPassword_fuse (s : State) (q : Requester) (flashOk : Bool) :
    (s.setPassword q flashOk).fuse = s.fuse := by
  simp only [State.setPassword, State.ite_fuse, State.spmbEnd_fuse, State.setSafe_fuse, State.drawSalt_fuse,
    State.logChange_fuse, State.entryMid_fuse, State.mayChange_fuse, ite_self]

@[simp] theorem State.flashErase_fuse (s : State) (a b : Nat) : (s.flashErase a b).fuse = s.fuse := rfl
@[simp] theorem State.clearLog_fuse (s : State) (q : Requester) (flashOk : Bool) :
    (s.clearLog q flashOk).fuse = s.fuse := by simp [State.clearLog]

/-! The brake's test, and what SPMB_CTL starts -/

@[simp] theorem State.startTest_fuse (s : State) (n : Nat) : (s.startTest n).fuse = s.fuse := by simp [State.startTest]
@[simp] theorem State.raiseBk_fuse (s : State) (n f : Nat) : (s.raiseBk n f).fuse = s.fuse := by simp [State.raiseBk]
@[simp] theorem State.endTest_fuse (s : State) (h : HoldTest) (result : Nat) : (s.endTest h result).fuse = s.fuse := by
  simp [State.endTest]

@[simp] theorem State.reqTest_fuse (s : State) (start : Bool) : (s.reqTest start).fuse = s.fuse := by
  unfold State.reqTest
  dsimp only
  repeat' split
  all_goals simp

@[simp] theorem State.readLog_fuse (s : State) : s.readLog.fuse = s.fuse := by simp [State.readLog]

@[simp] theorem State.spmbRun_fuse (s : State) (q : Requester) (flashOk : Bool) :
    (s.spmbRun q flashOk).fuse = s.fuse := by
  unfold State.spmbRun
  split <;> simp

/-! Outputs, calibration and compression jobs -/

@[simp] theorem State.setDo_fuse (s : State) (d : Nat) (x : DoSt) : (s.setDo d x).fuse = s.fuse := rfl
@[simp] theorem State.doqCtl_fuse (s : State) (v : Nat) : (s.doqCtl v).fuse = s.fuse := by simp [State.doqCtl]
@[simp] theorem State.passOver_fuse (s : State) (t : Nat) : (s.passOver t).fuse = s.fuse := by simp [State.passOver]
@[simp] theorem State.takePairs_fuse (s : State) (t : Nat) : (s.takePairs t).fuse = s.fuse := by simp [State.takePairs]

@[simp] theorem State.countJob_fuse (s : State) (slot : Option Nat) (code : Nat) :
    (s.countJob slot code).fuse = s.fuse := by
  unfold State.countJob
  dsimp only
  repeat' split
  all_goals simp

@[simp] theorem State.finishSlot_fuse (s : State) (j code outlen consumed spare aux : Nat) :
    (s.finishSlot j code outlen consumed spare aux).fuse = s.fuse := by simp [State.finishSlot]
@[simp] theorem State.goSlot_fuse (s : State) (q : Requester) (j : Nat) : (s.goSlot q j).fuse = s.fuse := by
  simp [State.goSlot]
@[simp] theorem State.setEngine_fuse (s : State) (e : Nat) (j : Option EngJob) : (s.setEngine e j).fuse = s.fuse := rfl

@[simp] theorem State.cancelSlot_fuse (s : State) (j : Nat) : (s.cancelSlot j).fuse = s.fuse := by
  unfold State.cancelSlot
  dsimp only
  repeat' split
  all_goals simp

/-! Ports: streams, time, links, swaps -/

@[simp] theorem State.resend_fuse (s : State) (n : Nat) : (s.resend n).fuse = s.fuse := by
  unfold State.resend
  split <;> simp

@[simp] theorem State.unqueueStrm_fuse (s : State) (n : Nat) : (s.unqueueStrm n).fuse = s.fuse := rfl
@[simp] theorem State.moveStrm_fuse (s : State) (n q : Nat) : (s.moveStrm n q).fuse = s.fuse := by
  simp [State.moveStrm, State.when]
@[simp] theorem State.chainBack_fuse (s : State) (p : Nat) : (s.chainBack p).fuse = s.fuse := by simp [State.chainBack]
@[simp] theorem State.sendArp_fuse (s : State) (p : Nat) (request : Bool) (ip : Nat) :
    (s.sendArp p request ip).fuse = s.fuse := rfl
@[simp] theorem State.cameUp_fuse (s : State) (p : Nat) : (s.cameUp p).fuse = s.fuse := by simp [State.cameUp]
@[simp] theorem State.endPulls_fuse (s : State) (p : Nat) : (s.endPulls p).fuse = s.fuse := rfl
@[simp] theorem State.freshCounts_fuse (s : State) (k : Nat) : (s.freshCounts k).fuse = s.fuse := rfl
@[simp] theorem State.enterWb_fuse (s : State) (k st : Nat) : (s.enterWb k st).fuse = s.fuse := by simp [State.enterWb]
@[simp] theorem State.loseSource_fuse (s : State) (k : Nat) : (s.loseSource k).fuse = s.fuse := by
  simp [State.loseSource]
@[simp] theorem State.takePort_fuse (s : State) (k p : Nat) : (s.takePort k p).fuse = s.fuse := by simp [State.takePort]
@[simp] theorem State.ptpDown_fuse (s : State) (p : Nat) : (s.ptpDown p).fuse = s.fuse := by simp [State.ptpDown]
@[simp] theorem State.rerouteFrom_fuse (s : State) (p : Nat) : (s.rerouteFrom p).fuse = s.fuse := by
  simp [State.rerouteFrom]
@[simp] theorem State.fellDown_fuse (s : State) (p : Nat) : (s.fellDown p).fuse = s.fuse := by simp [State.fellDown]
@[simp] theorem State.evalUp_fuse (s : State) (p : Nat) : (s.evalUp p).fuse = s.fuse := by simp [State.evalUp]
@[simp] theorem State.showSec_fuse (s : State) (p : Nat) : (s.showSec p).fuse = s.fuse := rfl
@[simp] theorem State.installSa_fuse (s : State) (p an key salt : Nat) : (s.installSa p an key salt).fuse = s.fuse := by
  simp [State.installSa]
@[simp] theorem State.endSwap_fuse (s : State) (result : Nat) : (s.endSwap result).fuse = s.fuse := by
  simp [State.endSwap]
@[simp] theorem State.requestSwap_fuse (s : State) (image : Bool) (peer : Option (List Byte)) :
    (s.requestSwap image peer).fuse = s.fuse := by simp [State.requestSwap]

/-! Trust and update -/

@[simp] theorem State.extendDm_fuse (s : State) (k : Nat) (v : List Byte) : (s.extendDm k v).fuse = s.fuse :=
  (State.extendDm_only ..).fuse rfl
@[simp] theorem State.secEnd_fuse (s : State) (code : Nat) : (s.secEnd code).fuse = s.fuse := rfl
@[simp] theorem State.secReport_fuse (s : State) : s.secReport.fuse = s.fuse := by simp [State.secReport]
@[simp] theorem State.showKeys_fuse (s : State) : s.showKeys.fuse = s.fuse := (State.showKeys_only ..).fuse rfl
@[simp] theorem State.dmEvent_fuse (s : State) (code arg : Nat) : (s.dmEvent code arg).fuse = s.fuse :=
  (State.dmEvent_only ..).fuse rfl
@[simp] theorem State.randomWords_fuse (s : State) (f : Nat → FldAt) (n : Nat) : (s.randomWords f n).fuse = s.fuse :=
  (State.randomWords_only ..).fuse rfl
@[simp] theorem State.showSess_fuse (s : State) : s.showSess.fuse = s.fuse := (State.showSess_only ..).fuse rfl
@[simp] theorem State.programWord_fuse (s : State) (base off v : Nat) : (s.programWord base off v).fuse = s.fuse :=
  (State.programWord_only ..).fuse rfl
@[simp] theorem State.endSess_fuse (s : State) : s.endSess.fuse = s.fuse := by simp [State.endSess]
@[simp] theorem State.rcvCtl_fuse (s : State) (q : Requester) (data : Word) : (s.rcvCtl q data).fuse = s.fuse := by
  simp [State.rcvCtl]

/-! Plain writes -/

@[simp] theorem State.showSrc_fuse (s : State) (e : Nat) : (s.showSrc e).fuse = s.fuse :=
  (State.showSrc_only ..).fuse rfl
@[simp] theorem State.setMark_fuse (s : State) (e i m : Nat) : (s.setMark e i m).fuse = s.fuse := rfl
@[simp] theorem State.writeFields_fuse (s : State) (h : RegHit) (a : Nat) (data : Word) :
    (s.writeFields h a data).fuse = s.fuse := by simp [State.writeFields]
@[simp] theorem State.pairWrite_fuse (s : State) (h : RegHit) (a : Nat) (data : Word) :
    (s.pairWrite h a data).fuse = s.fuse := by simp [State.pairWrite]
@[simp] theorem State.keyWrite_fuse (s : State) (a : Nat) (data : Word) : (s.keyWrite a data).fuse = s.fuse := rfl
@[simp] theorem State.mgmtKeyWrite_fuse (s : State) (r w a : Nat) (data : Word) :
    (s.mgmtKeyWrite r w a data).fuse = s.fuse := by simp [State.mgmtKeyWrite]
@[simp] theorem State.setWb1_fuse (s : State) (hi : Nat) : (s.setWb1 hi).fuse = s.fuse := rfl
@[simp] theorem State.freezeSlices_fuse (s : State) (t : Nat) : (s.freezeSlices t).fuse = s.fuse := rfl

@[simp] theorem State.writeReg_fuse (s : State) (h : RegHit) (a : Nat) (data : Word) :
    (s.writeReg h a data).fuse = s.fuse := by
  unfold State.writeReg
  simp only [State.ite_fuse, State.pairWrite_fuse, State.choBusy_fuse, State.bump_fuse, State.modPort_fuse,
    State.keyWrite_fuse, State.mgmtKeyWrite_fuse, State.setWb1_fuse, State.each_keeps_fuse State.freezeSlices_fuse,
    State.mirror_fuse, State.writeFields_fuse, ite_self]

/-! The start of the firmware, and an image that starts -/

@[simp] theorem State.useSettings_fuse (s : State) (k : Nat) : (s.useSettings k).fuse = s.fuse := by
  simp [State.useSettings]
@[simp] theorem State.migrate_fuse (s : State) (k : Nat) (b : List Byte) : (s.migrate k b).fuse = s.fuse := by
  simp [State.migrate]
@[simp] theorem State.resumeSess_fuse (s : State) : s.resumeSess.fuse = s.fuse := (State.resumeSess_only ..).fuse rfl

@[simp] theorem tryImages_fuse (l : List (Nat × Img)) (s : State) : (tryImages l s).1.fuse = s.fuse := by
  induction l generalizing s with
  | nil => rfl
  | cons x l ih =>
    unfold tryImages
    split
    · rfl
    · rw [ih, State.log1_fuse]

@[simp] theorem State.handSafety_fuse (s : State) (body : Option (List Byte)) :
    (s.handSafety body).fuse = s.fuse := by
  unfold State.handSafety
  split <;> simp

@[simp] theorem State.setMode_fuse (s : State) (m : Nat) : (s.setMode m).fuse = s.fuse := by simp [State.setMode]
@[simp] theorem State.showInputs_fuse (s : State) : s.showInputs.fuse = s.fuse :=
  State.each_keeps_fuse (fun _ _ => by rfl) ..
@[simp] theorem State.startZcs_fuse (s : State) : s.startZcs.fuse = s.fuse := by simp [State.startZcs]
@[simp] theorem State.restoreSafety_fuse (s : State) : s.restoreSafety.fuse = s.fuse := by simp [State.restoreSafety]
@[simp] theorem State.exceptions_fuse (s : State) (cause e first count : Nat) :
    (s.exceptions cause e first count).fuse = s.fuse := (State.exceptions_only ..).fuse rfl
@[simp] theorem State.afterImage_fuse (s : State) (i : Img) : (s.afterImage i).fuse = s.fuse := by
  simp [State.afterImage]

@[simp] theorem State.stopAll_fuse (s : State) : s.stopAll.fuse = s.fuse := by
  unfold State.stopAll
  extract_lets a b c
  have ha : a.fuse = s.fuse := State.each_keeps_fuse (fun _ _ => by rfl) ..
  have hb : b.fuse = a.fuse := State.each_keeps_fuse (fun _ _ => by rfl) ..
  have hc : c.fuse = b.fuse := State.each_keeps_fuse (fun _ _ => by simp) ..
  rw [State.each_keeps_fuse fun _ _ => by simp, hc, hb, ha]

/-! A commit that is applied -/

@[simp] theorem State.alignSsns_fuse (s : State) : s.alignSsns.fuse = s.fuse := by
  refine State.each_keeps_fuse (fun s n => ?_) ..
  split
  · rfl
  dsimp only
  split
  · rfl
  · exact State.each_keeps_fuse (fun _ _ => by rfl) ..

@[simp] theorem State.applyShadows_fuse (s : State) (c : CommitSt) : (s.applyShadows c).fuse = s.fuse := by
  refine State.each_keeps_fuse (fun s a => ?_) ..
  split
  · rfl
  · split <;> rfl

@[simp] theorem State.tempoChanged_fuse (s : State) (old : View) : (s.tempoChanged old).fuse = s.fuse := by
  simp [State.tempoChanged]
@[simp] theorem State.diChanged_fuse (s : State) (i p : Nat) (b : Int) (wasOn isOn : Bool) :
    (s.diChanged i p b wasOn isOn).fuse = s.fuse := by simp [State.diChanged]
@[simp] theorem discardFor_fuse (q need reserved x1 : Nat) (s : State) :
    (discardFor q need reserved x1 s).fuse = s.fuse := (discardFor_only ..).fuse rfl
@[simp] theorem State.makeRoom_fuse (s : State) (q need reserved : Nat) :
    (s.makeRoom q need reserved).fuse = s.fuse := by simp [State.makeRoom]
@[simp] theorem State.refit_fuse (s : State) (q : Nat) : (s.refit q).fuse = s.fuse := by simp [State.refit]

@[simp] theorem State.raiseFloor_fuse (s : State) (n : Nat) (es : List Nat) : (s.raiseFloor n es).fuse = s.fuse := by
  unfold State.raiseFloor
  split <;> simp

@[simp] theorem State.streamsChanged_fuse (s : State) (old : View) : (s.streamsChanged old).fuse = s.fuse := by
  simp [State.streamsChanged]
@[simp] theorem State.measure_fuse (s : State) (q i : Nat) (v : Int) : (s.measure q i v).fuse = s.fuse :=
  (State.measure_only ..).fuse rfl

@[simp] theorem State.settleWires_fuse (s : State) : s.settleWires.fuse = s.fuse := by
  refine State.each_keeps_fuse (fun s p => ?_) ..
  split
  · rfl
  split
  · rfl
  extract_lets u v
  have hv : v.fuse = s.fuse := by
    unfold v
    split
    · exact u.makeRoom_fuse ..
    · rfl
  split
  · exact hv
  split
  · exact hv
  split
  · exact hv
  · simpa using hv

@[simp] theorem State.endMka_fuse (s : State) (p : Nat) : (s.endMka p).fuse = s.fuse := by simp [State.endMka]
@[simp] theorem State.linkLost_fuse (s : State) (p : Nat) : (s.linkLost p).fuse = s.fuse := by simp [State.linkLost]
@[simp] theorem State.changedHub_fuse (s : State) (old : View) (c : CommitSt) (b : Int) :
    (s.changedHub old c b).fuse = s.fuse := by simp [State.changedHub]
@[simp] theorem State.clearRes_fuse (s : State) (e : Nat) : (s.clearRes e).fuse = s.fuse := rfl
@[simp] theorem State.armSettle_fuse (s : State) (e : Nat) : (s.armSettle e).fuse = s.fuse :=
  (State.armSettle_only ..).fuse rfl
@[simp] theorem State.abandonRun_fuse (s : State) (t : Nat) (hit : Nat → Bool) :
    (s.abandonRun t hit).fuse = s.fuse := (State.abandonRun_only ..).fuse rfl
@[simp] theorem State.showTile_fuse (s : State) (t : Nat) : (s.showTile t).fuse = s.fuse := by simp [State.showTile]
@[simp] theorem State.changedTile_fuse (s : State) (old : View) (t : Nat) : (s.changedTile old t).fuse = s.fuse := by
  simp [State.changedTile]
@[simp] theorem State.resizeHistory_fuse (s : State) : s.resizeHistory.fuse = s.fuse := by simp [State.resizeHistory]
@[simp] theorem State.showRates_fuse (s : State) : s.showRates.fuse = s.fuse := by simp [State.showRates]

@[simp] theorem State.applyCommits_fuse (s : State) (c : CommitSt) (b from_ : Int) :
    (s.applyCommits c b from_).fuse = s.fuse := by
  unfold State.applyCommits
  extract_lets old dirty s₁ s₂ ts s₃ s₄ s₅ x u
  have h₂ : s₂.fuse = s.fuse := by simp [s₂, s₁]
  have h₃ : s₃.fuse = s₂.fuse := State.each_keeps_fuse (fun s t => by
    dsimp only
    rw [State.ite_fuse, State.setTile_fuse, ite_self, State.changedTile_fuse]) ..
  have h₄ : s₄.fuse = s₃.fuse := by simp [s₄]
  have hu : u.fuse = s₄.fuse := by simp [u, s₅]
  have h : u.fuse = s.fuse := hu.trans (h₄.trans (h₃.trans h₂))
  split
  · exact (u.put_fuse ..).trans h
  · exact h

@[simp] theorem State.restart_fuse (s : State) (c : CommitSt) (b : Int) : (s.restart c b).fuse = s.fuse := by
  unfold State.restart
  extract_lets was s₁ s₂ from_ s₃ s₄ s₅ s₆
  have h₁ : s₁.fuse = s.fuse := by simp [s₁]
  have h₃ : s₃.fuse = s₁.fuse := by simp [s₃, s₂]
  have h₄ : s₄.fuse = s₃.fuse := State.each_keeps_fuse (fun s n => by simp) ..
  have h₅ : s₅.fuse = s₄.fuse := State.each_keeps_fuse (fun _ _ => by rfl) ..
  have h₆ : s₆.fuse = s₅.fuse := State.each_keeps_fuse (fun _ _ => by simp) ..
  rw [State.ite_fuse, h₆, h₅, ite_self, h₄, h₃, h₁]

@[simp] theorem State.loadIdent_fuse (s : State) (ident : List Byte) : (s.loadIdent ident).fuse = s.fuse := rfl
@[simp] theorem State.candidate_fuse (s : State) (i : Img) : (s.candidate i).fuse = s.fuse := by simp [State.candidate]
@[simp] theorem State.startImage_fuse (s : State) (k : Nat) (i : Img) : (s.startImage k i).fuse = s.fuse := by
  simp [State.startImage]

/-! Frames, and what the host sees -/

@[simp] theorem State.secCheck_fuse (s : State) (p : Nat) (sec : Option SecTag) :
    (s.secCheck p sec).1.fuse = s.fuse := by
  unfold State.secCheck
  dsimp only
  repeat' split
  all_goals simp

@[simp] theorem State.rxGate_fuse (s : State) (rx : Rx) : (s.rxGate rx).1.fuse = s.fuse := by
  unfold State.rxGate
  dsimp only
  repeat' split
  all_goals simp

@[simp] theorem State.sendTransit_fuse (s : State) (p : Nat) (f : Frame) : (s.sendTransit p f).fuse = s.fuse := by
  simp [State.sendTransit]
@[simp] theorem State.sendOwn_fuse (s : State) (p : Nat) (f : Frame) : (s.sendOwn p f).fuse = s.fuse := by
  simp [State.sendOwn]
@[simp] theorem State.mgmtReply_fuse (s : State) (p : Nat) (f : Frame) (code index : Nat) (words : List Nat) :
    (s.mgmtReply p f code index words).fuse = s.fuse := by simp [State.mgmtReply]
@[simp] theorem State.toFirmware_fuse (s : State) (m : MedReq) (p : Nat) (f : Frame) :
    (s.toFirmware m p f).fuse = s.fuse := by simp [State.toFirmware]
@[simp] theorem State.hostEnd_fuse (s : State) (code : Nat) (early : Bool) : (s.hostEnd code early).fuse = s.fuse := by
  simp [State.hostEnd]

@[simp] theorem State.hostStatus_fuse (s : State) : s.hostStatus.1.fuse = s.fuse := by
  unfold State.hostStatus
  dsimp only
  split <;> simp

/-! Reads -/

@[simp] theorem State.setLatched_fuse (s : State) (q : Requester) (kind : Nat) (l : List Nat) :
    (s.setLatched q kind l).fuse = s.fuse := rfl

@[simp] theorem State.consume_fuse (s : State) (q : Requester) (kind i b live : Nat) :
    (s.consume q kind i b live).1.fuse = s.fuse := by
  unfold State.consume
  split
  · split <;> rfl
  · rfl

@[simp] theorem State.clearRoc_fuse (s : State) (h : RegHit) (a : Nat) : (s.clearRoc h a).fuse = s.fuse := rfl

@[simp] theorem State.readReg_fuse (s : State) (q : Requester) (h : RegHit) (a : Nat) :
    (s.readReg q h a).1.fuse = s.fuse := by
  unfold State.readReg
  simp only [apply_ite Prod.fst, State.ite_fuse, State.setLatched_fuse, State.consume_fuse, State.put_fuse,
    State.clearRoc_fuse, ite_self]

@[simp] theorem State.busRead_fuse (s : State) (q : Requester) (a size : Nat) : (s.busRead q a size).fuse = s.fuse := by
  unfold State.busRead
  generalize (if a % 4 = 0 ∧ size = 4 then regAt? a else none) = hit
  dsimp only
  split
  · split <;> rfl
  split
  · rfl
  rcases dramOffset? a size with _ | o
  · dsimp only
    split
    · rfl
    rcases hit with _ | h
    · rfl
    · exact (State.answer_fuse ..).trans (State.readReg_fuse ..)
  · rfl

@[simp] theorem State.readWords_fuse (s : State) (q : Requester) (as : List Nat) : (s.readWords q as).1.fuse = s.fuse :=
  List.foldlRecOn (motive := fun r : State × List Nat × Option Nat => r.1.fuse = s.fuse) _ _ rfl
    fun _ h _ _ => (State.busRead_fuse ..).trans h

/-! Flash pages, and the ROM -/

@[simp] theorem State.clearWritten_fuse (s : State) (b : Nat) : (s.clearWritten b).fuse = s.fuse := rfl
@[simp] theorem State.modSess_fuse (s : State) (f : SessSt → SessSt) : (s.modSess f).fuse = s.fuse := rfl
@[simp] theorem State.flashCopy_fuse (s : State) (a b n : Nat) : (s.flashCopy a b n).fuse = s.fuse := rfl
@[simp] theorem State.seedRotation_fuse (s : State) : s.seedRotation.fuse = s.fuse :=
  (State.seedRotation_only ..).fuse rfl
@[simp] theorem State.showIdentity_fuse (s : State) : s.showIdentity.fuse = s.fuse :=
  (State.showIdentity_only ..).fuse rfl
@[simp] theorem State.loadFuses_fuse (s : State) : s.loadFuses.fuse = s.fuse := (State.loadFuses_only ..).fuse rfl
@[simp] theorem State.runRom_fuse (s : State) : s.runRom.fuse = s.fuse := by
  rw [s.runRom_starts.1.fuse rfl, State.seedRotation_fuse, State.showIdentity_fuse, State.loadFuses_fuse]

end Sys2Proof.Machine
end

section
namespace Sys2Proof.Machine

/-! PROOF. What may burn: a burned bit stays burned (R131, R134, R345 to R349). -/

/-- Every bit of the fuse array that is 1 in `s` is 1 in `t` (R131). -/
structure State.Burns (s t : State) : Prop where
  bits : ∀ a, Tbl.get 0 s.fuse a &&& Tbl.get 0 t.fuse a = Tbl.get 0 s.fuse a

namespace State.Burns

variable {s t u : State}

theorem of_eq (h : t.fuse = s.fuse) : s.Burns t := ⟨fun a => by rw [h, BitVec.and_self]⟩

theorem refl (s : State) : s.Burns s := of_eq rfl

theorem trans (h : s.Burns t) (h' : t.Burns u) : s.Burns u :=
  ⟨fun a => by rw [← h.bits a, BitVec.and_assoc, h'.bits a]⟩

/-- What comes after a burn and what comes before it may leave the fuses. -/
theorem keeping (h : s.Burns t) (h' : u.fuse = t.fuse) : s.Burns u := h.trans (of_eq h')

theorem after (h : t.Burns u) (h' : t.fuse = s.fuse) : s.Burns u := (of_eq h').trans h

theorem ite {c : Prop} [Decidable c] (ht : s.Burns t) (hu : s.Burns u) : s.Burns (if c then t else u) := by
  split
  · exact ht
  · exact hu

theorem each {α : Type} {f : State → α → State} (h : ∀ (s : State) x, s.Burns (f s x)) (s : State) (l : List α) :
    s.Burns (s.each l f) := s.each_inv s.Burns (fun t x ht => ht.trans (h t x)) l (refl s)

end State.Burns

theorem State.burnWord_burns (s : State) (w v : Nat) (missed : List (Nat × Nat)) : s.Burns (s.burnWord w v missed) :=
  ⟨s.burnWord_keeps w v missed⟩

/-! Resets -/

theorem State.cutBurn_burns (s : State) : s.Burns s.cutBurn := by
  unfold State.cutBurn
  split
  · exact .refl s
  refine .ite (.refl s) ?_
  dsimp -zeta only [State.draw]
  extract_lets ws n u
  have hu : s.Burns u := .after (.each (fun u x => u.burnWord_burns ..) ..) rfl
  split
  · exact hu
  · exact hu.trans (u.burnWord_burns ..)

theorem State.warmReset_burns (s : State) (cause : Nat) : s.Burns (s.warmReset cause) := by
  have h : (s.warmReset cause).fuse = (s.strmWarm (cause == 6)).cutBurn.fuse := by
    simp [State.warmReset, State.wiped]
  exact ((State.cutBurn_burns _).after (s.strmWarm_fuse _)).keeping h

theorem State.pulseReset_burns (s : State) (cause : Nat) : s.Burns (s.pulseReset cause) :=
  (s.warmReset_burns cause).keeping rfl

theorem State.coldReset_burns (s : State) (cause : Nat) : s.Burns (s.coldReset cause) := by
  have h : (s.coldReset cause).fuse = s.cutBurn.fuse := by simp [State.coldReset, State.wiped, State.draw]
  exact s.cutBurn_burns.keeping h

/-! Writes that carry a command, and frames that the hub consumes -/

/-- As far as the fuses go, `t` comes of `s` by `f`, or by nothing. -/
def State.FusesBy (s : State) (f : State → State) (t : State) : Prop :=
  t.fuse = s.fuse ∨ ∃ u, u.fuse = s.fuse ∧ t.fuse = (f u).fuse

namespace State.FusesBy

variable {s t : State} {f : State → State}

theorem burns (h : s.FusesBy f t) (hf : ∀ u : State, u.Burns (f u)) : s.Burns t := by
  rcases h with h | ⟨u, hu, ht⟩
  · exact .of_eq h
  · exact ((hf u).after hu).keeping ht

theorem keeps (h : s.FusesBy f t) (hf : ∀ u, (f u).fuse = u.fuse) : t.fuse = s.fuse := by
  rcases h with h | ⟨u, hu, ht⟩
  · exact h
  · exact ht.trans ((hf u).trans hu)

end State.FusesBy

theorem State.cmdWrite_fusesBy (s : State) (q : Requester) (a : Nat) (mask data : Word) (f : State → State) :
    s.FusesBy f (s.cmdWrite q a mask data f) := by
  unfold State.cmdWrite
  split
  · exact .inl rfl
  extract_lets u
  have hu : u.fuse = s.fuse := by simp [u]
  split
  · exact .inl hu
  · exact .inr ⟨u, hu, rfl⟩

theorem State.mediated_fusesBy (s : State) (q : Requester) (a : Nat) (mask data : Word) (ok : Bool)
    (f : State → State) : s.FusesBy f (s.mediated q a mask data ok f) := by
  have hrole : s.FusesBy f (if ok then (f s).answer q false 0 else s.answer q true 0) := by
    split
    · exact .inr ⟨s, rfl, rfl⟩
    · exact .inl rfl
  cases q
  case core0 => exact s.cmdWrite_fusesBy ..
  case core1 => exact s.cmdWrite_fusesBy ..
  case host => exact hrole
  case mgmt => exact hrole

theorem State.pl0Write_fusesBy (s : State) (q : Requester) (a : Nat) (mask data : Word) (f : State → State) :
    s.FusesBy f (s.pl0Write q a mask data f) := by
  unfold State.pl0Write
  split
  · exact s.cmdWrite_fusesBy ..
  split
  · exact .inl rfl
  · exact .inl rfl
  · exact .inl (by simp)

theorem State.receive_fusesBy (s : State) (rx : Rx) (mine : Frame → Bool) (f : State → State) :
    s.FusesBy f (s.receive rx mine f) := by
  unfold State.receive
  have hgate : (s.rxGate rx).1.fuse = s.fuse := s.rxGate_fuse rx
  generalize s.rxGate rx = r at hgate ⊢
  obtain ⟨u, ok⟩ := r
  dsimp only at hgate ⊢
  split
  · exact .inl hgate
  split
  · exact .inl hgate
  · exact .inl ((u.sendTransit_fuse ..).trans hgate)
  · split
    · exact .inr ⟨u, hgate, rfl⟩
    · exact .inl hgate
  · split
    · exact .inr ⟨u, hgate, State.sendTransit_fuse ..⟩
    · exact .inl ((u.sendTransit_fuse ..).trans hgate)

theorem State.mgmtRequest_fusesBy (s : State) (p : Nat) (f : Frame) (run : Requester → State → State) :
    s.FusesBy (run (.mgmt (Fin.ofNat 4 (f.body.getD 0 0).toNat))) (s.mgmtRequest p f run) := by
  unfold State.mgmtRequest
  split
  · exact .inl (s.mgmtReply_fuse ..)
  split
  · exact .inl (State.mgmtReply_fuse ..)
  extract_lets code role u
  split
  · exact .inl (State.mgmtReply_fuse ..)
  · exact .inr ⟨u, rfl, rfl⟩

theorem State.legacyFrame_fusesBy (s : State) (clocks : Nat) (f : State → State) :
    s.FusesBy f (s.legacyFrame clocks f) := by
  unfold State.legacyFrame
  split
  · exact .inl rfl
  · exact .inr ⟨s.modHost _, rfl, rfl⟩

/-! The commands that registers carry -/

@[simp] theorem State.chorCtl_fuse (s : State) (q : Requester) (data : Word) : (s.chorCtl q data).fuse = s.fuse := by
  refine (s.mediated_fusesBy ..).keeps fun u => ?_
  split
  · rfl
  split <;> simp

@[simp] theorem State.tcommit_fuse (s : State) (q : Requester) (data : Word) : (s.tcommit q data).fuse = s.fuse :=
  (s.cmdWrite_fusesBy ..).keeps fun u => by simp

@[simp] theorem State.spmbCtl_fuse (s : State) (q : Requester) (data : Word) (flashOk : Bool) :
    (s.spmbCtl q data flashOk).fuse = s.fuse :=
  (s.mediated_fusesBy ..).keeps fun u => by simp

@[simp] theorem State.goWrite_fuse (s : State) (q : Requester) (a : Nat) (mask data : Word) (c : CommitSt) :
    (s.goWrite q a mask data c).fuse = s.fuse :=
  (s.cmdWrite_fusesBy ..).keeps fun u => by simp

@[simp] theorem State.calCommit_fuse (s : State) (q : Requester) (data : Word) : (s.calCommit q data).fuse = s.fuse :=
  (s.cmdWrite_fusesBy ..).keeps fun u => State.each_keeps_fuse (fun u t => by simp) ..

@[simp] theorem State.calStart_fuse (s : State) (q : Requester) (data : Word) : (s.calStart q data).fuse = s.fuse :=
  (s.cmdWrite_fusesBy ..).keeps fun u => State.each_keeps_fuse (fun u t => by simp) ..

/-- A burn that starts burns nothing yet (R134). -/
@[simp] theorem State.calBurn_fuse (s : State) (q : Requester) (data : Word) (vdd18 : Nat) :
    (s.calBurn q data vdd18).fuse = s.fuse := by
  refine (s.mediated_fusesBy ..).keeps fun u => ?_
  dsimp only
  split
  · rfl
  split
  · simp
  split
  · rfl
  · exact State.each_keeps_fuse (fun u t => by simp) ..

@[simp] theorem State.slotCtl_fuse (s : State) (q : Requester) (j : Nat) (data : Word) :
    (s.slotCtl q j data).fuse = s.fuse :=
  (s.cmdWrite_fusesBy ..).keeps fun u => by simp

@[simp] theorem State.sctl_fuse (s : State) (q : Requester) (p : Nat) (data : Word) : (s.sctl q p data).fuse = s.fuse :=
  (s.cmdWrite_fusesBy ..).keeps fun u => by simp

@[simp] theorem State.parSwap_fuse (s : State) (q : Requester) (data : Word) (peer : Option (List Byte)) :
    (s.parSwap q data peer).fuse = s.fuse :=
  (s.mediated_fusesBy ..).keeps fun u => by simp

@[simp] theorem State.dmCtl_fuse (s : State) (q : Requester) (data : Word) : (s.dmCtl q data).fuse = s.fuse :=
  (s.pl0Write_fusesBy ..).keeps fun u => by simp

@[simp] theorem State.confTmr_fuse (s : State) (q : Requester) (data : Word) : (s.confTmr q data).fuse = s.fuse :=
  (s.pl0Write_fusesBy ..).keeps fun u => by simp

theorem State.rstCtl_burns (s : State) (q : Requester) (data : Word) : s.Burns (s.rstCtl q data) :=
  (s.mediated_fusesBy ..).burns fun u => .ite (.refl u) (.ite (u.pulseReset_burns 4) (.of_eq (u.log1_fuse ..)))

theorem State.secEnrol_burns (s : State) (missed : List (Nat × Nat)) : s.Burns (s.secEnrol missed) := by
  unfold State.secEnrol
  split
  · exact .of_eq (s.secEnd_fuse _)
  next k _ =>
    extract_lets key own first h u v
    have hu : s.Burns u := .each (fun u w => u.burnWord_burns ..) ..
    have hv : s.Burns v := hu.trans (u.burnWord_burns ..)
    refine .ite (.of_eq (s.secEnd_fuse _)) (.ite (hu.keeping ?_) (.ite (hv.keeping ?_) (hv.keeping ?_)))
    · rw [State.secEnd_fuse, State.showKeys_fuse]
    · rw [State.secEnd_fuse, State.showKeys_fuse]
    · rw [State.secEnd_fuse, State.log1_fuse, State.dmEvent_fuse, State.showKeys_fuse]

theorem State.secRevoke_burns (s : State) (k : Nat) (missed : List (Nat × Nat)) : s.Burns (s.secRevoke k missed) := by
  unfold State.secRevoke
  refine .ite (.of_eq (s.secEnd_fuse _)) ?_
  split
  · exact .of_eq (s.secEnd_fuse _)
  refine .ite (.of_eq (s.secEnd_fuse _)) ?_
  extract_lets u
  have hu : s.Burns u := s.burnWord_burns ..
  refine .ite (hu.keeping ?_) (hu.keeping ?_)
  · rw [State.secEnd_fuse, State.showKeys_fuse]
  · rw [State.secEnd_fuse, State.log1_fuse, State.dmEvent_fuse, State.showKeys_fuse]

theorem State.secOwnerFw_burns (s : State) (missed : List (Nat × Nat)) : s.Burns (s.secOwnerFw missed) :=
  .ite (.of_eq (s.secEnd_fuse _)) ((s.burnWord_burns ..).keeping (by rw [State.secEnd_fuse, State.showKeys_fuse]))

theorem State.secRun_burns (s : State) (op slot : Nat) (missed : List (Nat × Nat)) :
    s.Burns (s.secRun op slot missed) := by
  unfold State.secRun
  refine .ite (.of_eq s.secReport_fuse) (.ite (.of_eq (s.secEnd_fuse _)) ?_)
  refine .keeping (.ite (.of_eq (s.secEnd_fuse _)) ?_) (State.randomWords_fuse ..)
  split
  · exact s.secEnrol_burns ..
  · exact s.secRevoke_burns ..
  · exact s.secOwnerFw_burns ..

theorem State.secCmd_burns (s : State) (q : Requester) (data : Word) (missed : List (Nat × Nat)) :
    s.Burns (s.secCmd q data missed) :=
  (s.mediated_fusesBy ..).burns fun u => .ite (.refl u) (u.secRun_burns ..)

theorem State.advanceArb_burns (s : State) : s.Burns s.advanceArb := by
  unfold State.advanceArb
  split
  · exact .refl s
  next m _ =>
    have h : s.Burns (s.burnArb (min 64 m.svn)) := .each (fun u i => .ite (u.burnWord_burns ..) (.refl u)) ..
    exact .ite (.refl s) (h.keeping (by rw [State.log1_fuse, State.showKeys_fuse]))

theorem State.confirm_burns (s : State) : s.Burns s.confirm := by
  unfold State.confirm
  split
  · exact .refl s
  next k _ =>
    extract_lets u x v
    have hu : u.fuse = s.fuse := s.programWord_fuse ..
    have hv : v.fuse = u.fuse := (u.setSec_only _).fuse rfl
    exact .ite (.refl s) ((State.advanceArb_burns _).after (by rw [State.put_fuse, State.put_fuse, hv, hu]))

theorem State.requestActivate_burns (s : State) : s.Burns s.requestActivate := by
  unfold State.requestActivate
  split
  · exact .ite (.refl s) ((State.pulseReset_burns ..).after (by rw [State.showSess_fuse, State.programWord_fuse]))
  · exact .refl s

theorem State.rollback_burns (s : State) (owner : Bool) : s.Burns (s.rollback owner) := by
  unfold State.rollback
  split
  · exact .refl s
  split
  · exact .ite (.refl s) (.of_eq (s.log1_fuse ..))
  · exact .ite ((State.pulseReset_burns ..).after (by rfl)) (.ite (.refl s)
      (.ite (.of_eq (s.log1_fuse ..)) ((State.pulseReset_burns ..).after (s.programWord_fuse ..))))

theorem State.updCtl_burns (s : State) (q : Requester) (data : Word) : s.Burns (s.updCtl q data) := by
  refine (s.mediated_fusesBy ..).burns fun u => ?_
  split
  · exact u.requestActivate_burns
  · exact u.confirm_burns
  · exact u.rollback_burns _
  · exact .of_eq u.endSess_fuse
  · exact .of_eq (State.showSess_fuse _)
  · exact .refl u

/-- One link of the chain of registers in `State.command?`. -/
theorem State.Burns.orElse {s t : State} {c : Prop} [Decidable c] {o : Option State} (ht : s.Burns t)
    (ho : ∀ u ∈ o, s.Burns u) : ∀ u ∈ (if c then some t else o), s.Burns u := by
  split
  · rintro u ⟨⟩
    exact ht
  · exact ho

theorem State.command?_burns (s : State) (q : Requester) (h : RegHit) (data : Word) (ph : Phys) :
    ∀ t ∈ s.command? q h data ph, s.Burns t :=
  .orElse (s.rstCtl_burns ..) <| .orElse (.of_eq (s.chorCtl_fuse ..)) <| .orElse (.of_eq (s.tcommit_fuse ..)) <|
  .orElse (.of_eq (s.spmbCtl_fuse ..)) <|
  .orElse ((s.cmdWrite_fusesBy ..).burns fun u => .of_eq (u.doqCtl_fuse _)) <|
  .orElse (.of_eq (s.goWrite_fuse ..)) <| .orElse (.of_eq (s.calCommit_fuse ..)) <|
  .orElse (.of_eq (s.calStart_fuse ..)) <| .orElse (.of_eq (s.calBurn_fuse ..)) <|
  .orElse (.of_eq (s.goWrite_fuse ..)) <| .orElse (.of_eq (s.goWrite_fuse ..)) <|
  .orElse (.of_eq (s.goWrite_fuse ..)) <| .orElse (.of_eq (s.slotCtl_fuse ..)) <|
  .orElse (.of_eq (s.sctl_fuse ..)) <| .orElse (.of_eq (s.goWrite_fuse ..)) <|
  .orElse (.of_eq (s.parSwap_fuse ..)) <| .orElse (.of_eq (s.goWrite_fuse ..)) <|
  .orElse (.of_eq (s.dmCtl_fuse ..)) <| .orElse (s.secCmd_burns ..) <| .orElse (s.updCtl_burns ..) <|
  .orElse (.of_eq (s.confTmr_fuse ..)) <| .orElse (.of_eq (s.rcvCtl_fuse ..)) <| fun _ h => by cases h

/-! The bus -/

@[simp] theorem State.plainWrite_fuse (s : State) (q : Requester) (h : RegHit) (a : Nat) (w : Word) :
    (s.plainWrite q h a w).fuse = s.fuse := by
  have hf : ∀ u : State, (u.writeReg h a w).fuse = u.fuse := fun u => u.writeReg_fuse ..
  unfold State.plainWrite
  extract_lets f id host
  split
  · split
    · exact s.writeFields_fuse ..
    · rfl
  split
  · exact (s.pl0Write_fusesBy ..).keeps hf
  split
  · exact (s.mediated_fusesBy ..).keeps hf
  split
  · exact (s.mediated_fusesBy ..).keeps hf
  split
  · exact (s.mediated_fusesBy ..).keeps hf
  · exact (s.cmdWrite_fusesBy ..).keeps hf

theorem State.busWrite_burns (s : State) (q : Requester) (a size data : Nat) (ph : Phys) :
    s.Burns (s.busWrite q a size data ph) := by
  unfold State.busWrite
  generalize (if a % 4 = 0 ∧ size = 4 then regAt? a else none) = hit
  rcases hit with _ | h
  · dsimp only
    refine .ite (.of_eq rfl) ?_
    rcases dramOffset? a size with _ | o
    · exact .ite (.of_eq rfl) (.of_eq rfl)
    · exact .of_eq (s.dramWrite_fuse ..)
  · dsimp only
    generalize BitVec.ofNat 32 data = w
    have hc := s.command?_burns q h w ph
    generalize s.command? q h w ph = o at hc ⊢
    rcases o with _ | t
    · exact .of_eq (s.plainWrite_fuse ..)
    · exact (hc t rfl).keeping rfl

theorem writeWords_burns (q : Requester) (l : List (Nat × Word)) (k : Nat) (s : State) :
    s.Burns (writeWords q l k s).1 := by
  induction l generalizing k s with
  | nil => exact .refl s
  | cons x l ih =>
    unfold writeWords
    split
    · exact .refl s
    extract_lets u
    have hu : s.Burns u := s.busWrite_burns ..
    split
    · exact hu
    · exact hu.trans (ih ..)

theorem finishWords_burns (q : Requester) (ph : Phys) (l : List (Nat × Word)) (k : Nat) (s : State) :
    s.Burns (finishWords q ph l k s).1 := by
  induction l generalizing k s with
  | nil => exact .refl s
  | cons x l ih =>
    unfold finishWords
    extract_lets u
    have hu : s.Burns u := s.busWrite_burns ..
    split
    · exact hu
    split
    · exact hu
    · exact hu.trans (ih ..)

/-! Frames of the host -/

theorem State.hostFrame_burns (s : State) (header addr : Word) (data : List Word) (crc : Word) (late early : Bool) :
    s.Burns (s.hostFrame header addr data crc late early) := by
  unfold State.hostFrame
  have hstatus := s.hostStatus_fuse
  generalize s.hostStatus = r at hstatus ⊢
  obtain ⟨u, status⟩ := r
  dsimp -zeta only at hstatus ⊢
  extract_lets op n sent front show_ fault placed as
  have hu : s.Burns u := .of_eq hstatus
  have hread : s.Burns (u.readWords .host as).1 := hu.keeping (u.readWords_fuse ..)
  have hwrite : s.Burns (writeWords .host (as.zip data) 0 u).1 := hu.trans (writeWords_burns ..)
  have hshow : ∀ {v : State} (l : List Word), s.Burns v → s.Burns (show_ v l) := fun l hv =>
    hv.keeping (State.modHost_fuse ..)
  have hend : ∀ {v : State} (c : Nat) (l : List Word), s.Burns v → s.Burns (show_ (v.hostEnd c early) l) :=
    fun c l hv => hshow l (hv.keeping (State.hostEnd_fuse ..))
  clear_value show_
  exact .ite (hend _ _ hu) <| .ite (hend _ _ hu) <| .ite (hend _ _ hu) <| .ite
    (.ite (hend _ _ (hread.keeping (State.draw_fuse _))) (hend _ _ hread))
    (.ite (hend _ _ hwrite) (hshow _ (hwrite.keeping (State.modHost_fuse ..))))

/-! The firmware's start, and an image that is stored -/

theorem State.loadSettings_burns (s : State) (x : Settings) : s.Burns (s.loadSettings x) := by
  unfold State.loadSettings
  extract_lets sec u trial v
  have hu : s.Burns u := .of_eq ((s.setSec_only _).fuse rfl)
  clear_value u
  have hv : v.fuse = u.fuse := by
    unfold v
    rcases x.slot with _ | k
    · rfl
    dsimp only
    rcases x.migrated with _ | b
    · exact u.useSettings_fuse _
    · dsimp only
      rw [State.ite_fuse, State.migrate_fuse, ite_self, State.useSettings_fuse]
  clear_value v
  refine .ite (hu.trans ((State.rollback_burns ..).after (u.log1_fuse ..))) ((hu.keeping hv).trans ?_)
  exact .each (fun s e => s.busWrite_burns ..) ..

theorem State.installBoot_burns (s : State) (m : Manifest) : s.Burns (s.installBoot m) := by
  unfold State.installBoot
  extract_lets run b cert u v
  have hu : u.fuse = s.fuse := (State.flashProgram_fuse ..).trans (s.flashErase_fuse ..)
  clear_value u
  have hv : v.fuse = u.fuse := (State.flashProgram_fuse ..).trans (u.flashCopy_fuse ..)
  have hsame : s.Burns v := .of_eq (hv.trans hu)
  exact .ite (hsame.trans (v.pulseReset_burns 4)) hsame

end Sys2Proof.Machine
end

section
namespace Sys2Proof.Machine

/-! PROOF. A command leaves the fuses, or it burns (R131 to R134, R345 to R349). -/

/-! What commands leave -/

section Frames

variable {p : Parts} {now : Nat} {f : State → State} {s t u : State}

theorem always_burns (h : always p now s f = .next t) (hf : ∀ u : State, u.Burns (f u)) : s.Burns t := by
  cases h
  have hs : (s.tick now).fuse = s.fuse := s.tick_fuse now
  have hu : (s.tick now).Burns (f (s.tick now)) := hf _
  cases hp : p.fuse
  case true => exact (hu.after hs).keeping (by rw [keep_fuse, hp, if_pos rfl]; rfl)
  case false => exact .of_eq (by rw [keep_fuse, hp, if_neg Bool.false_ne_true])

theorem act_burns (h : act p now s f = .next t) (hf : ∀ u : State, u.Burns (f u)) : s.Burns t :=
  always_burns h fun u => .ite (.refl u) (hf u)

theorem always_keeps_fuse (h : always p now s f = .next t) (hf : ∀ u, (f u).fuse = u.fuse) : t.fuse = s.fuse := by
  cases h
  rw [keep_fuse, hf, ite_self]

theorem act_keeps_fuse (h : act p now s f = .next t) (hf : ∀ u, (f u).fuse = u.fuse) : t.fuse = s.fuse :=
  always_keeps_fuse h fun u => by rw [State.ite_fuse, hf, ite_self]

/-- A command whose parts leave out the fuses leaves them, whatever it does: its meaning answers `keep`. -/
theorem keep_off_fuse (h : (.next (keep p (s.tick now) u) : Out) = .next t) (hp : p.fuse = false) :
    t.fuse = s.fuse := by
  cases h
  rw [keep_fuse, hp, if_neg Bool.false_ne_true, State.tick_fuse]

end Frames

/-! The commands that leave the fuses -/

theorem execResetRelease_fuse {now n : Nat} {role : Bool} {s t : State} (h : execResetRelease now n role s = .next t) :
    t.fuse = s.fuse := by
  unfold execResetRelease at h
  refine always_keeps_fuse h fun u => ?_
  rw [State.ite_fuse, State.runRom_fuse, State.putBit_fuse, State.putBit_fuse, State.putBit_fuse, State.putBit_fuse]
  exact ite_self _

theorem execMgmtReadReq_fuse {now : Nat} {rx : Rx} {s t : State} (h : execMgmtReadReq now rx s = .next t) :
    t.fuse = s.fuse := by
  unfold execMgmtReadReq at h
  exact act_keeps_fuse h fun u => (u.receive_fusesBy ..).keeps fun u =>
    (u.mgmtRequest_fusesBy ..).keeps fun u => (State.mgmtReply_fuse ..).trans (u.readWords_fuse ..)

theorem execCalBurn_fuse {now vdd18 : Nat} {q : Requester} {data : Word} {s t : State}
    (h : execCalBurn now q data vdd18 s = .next t) : t.fuse = s.fuse := by
  unfold execCalBurn at h
  exact act_keeps_fuse h fun u => u.calBurn_fuse ..

/-- Every command that is neither wide nor in the list mayFuse leaves the fuses. -/
theorem exec_fuse {i : Instr} {s t : State} (hw : i.wide = false) (hm : i.mayFuse = false) (h : exec i s = .next t) :
    t.fuse = s.fuse := by
  cases i
  case resetRelease => exact execResetRelease_fuse h
  case mgmtReadReq => exact execMgmtReadReq_fuse h
  case calBurn => exact execCalBurn_fuse h
  case registerWrite | powerOnReset | logicSupplyFall | thermalReset | refclkLoss | resetNAssert | watchdogReset
    | softReset | bootStageStart | bootWatchdog | firmwareStart | mgmtWriteReq | mediatedWriteDone | hostWrite
    | hostFrameAbort | hostLegacyWrite | updBlockStored | updActivate | updConfirm | updRollback | updAbort
    | updClrconf | confirmWindowExpiry => cases hw
  case calBurnEnd | secReport | secEnrol | secRevoke | secSetOwnerFw | secBadOp => cases hm
  all_goals exact keep_off_fuse h rfl

/-! The commands that may burn -/

theorem State.setSys_fuse (s : State) (x : SysSt) : { s with sys := x }.fuse = s.fuse := rfl
theorem State.setSec_fuse (s : State) (x : SecSt) : { s with sec := x }.fuse = s.fuse := rfl
theorem State.setChor_fuse (s : State) (x : ChorSt) : { s with chor := x }.fuse = s.fuse := rfl
theorem State.setCal_fuse (s : State) (x : CalSt) : { s with cal := x }.fuse = s.fuse := rfl

section Burning

variable {now : Nat} {s t : State}

theorem execRegisterWrite_burns {q : Requester} {a size data : Nat} {ph : Phys}
    (h : execRegisterWrite now q a size data ph s = .next t) : s.Burns t := by
  unfold execRegisterWrite at h
  exact act_burns h fun u => u.busWrite_burns ..

theorem execPowerOnReset_burns (h : execPowerOnReset now s = .next t) : s.Burns t := by
  unfold execPowerOnReset at h
  exact always_burns h fun u => (u.coldReset_burns 0).keeping (State.setSys_fuse ..)

theorem execLogicSupplyFall_burns {n : Fin 3} (h : execLogicSupplyFall now n s = .next t) : s.Burns t := by
  unfold execLogicSupplyFall at h
  exact always_burns h fun u => (u.coldReset_burns 1).keeping (State.setSys_fuse ..)

theorem execThermalReset_burns (h : execThermalReset now s = .next t) : s.Burns t := by
  unfold execThermalReset at h
  exact always_burns h fun u => .ite (.refl u) ((u.warmReset_burns 7).keeping (State.setSys_fuse ..))

theorem execRefclkLoss_burns (h : execRefclkLoss now s = .next t) : s.Burns t := by
  unfold execRefclkLoss at h
  exact always_burns h fun u => .ite (.refl u) ((u.warmReset_burns 6).keeping (State.setSys_fuse ..))

theorem execResetNAssert_burns {ns : Nat} (h : execResetNAssert now ns s = .next t) : s.Burns t := by
  unfold execResetNAssert at h
  exact always_burns h fun u => .ite (.refl u) (.ite
    (.ite (.of_eq u.draw_fuse)
      (((State.warmReset_burns _ 2).after u.draw_fuse).keeping (State.setSys_fuse ..)))
    ((u.warmReset_burns 2).keeping (State.setSys_fuse ..)))

theorem execWatchdogReset_burns (h : execWatchdogReset now s = .next t) : s.Burns t := by
  unfold execWatchdogReset at h
  exact act_burns h fun u => u.pulseReset_burns 3

theorem execSoftReset_burns {q : Requester} {data : Word} (h : execSoftReset now q data s = .next t) : s.Burns t := by
  unfold execSoftReset at h
  exact act_burns h fun u => u.rstCtl_burns ..

theorem execBootStageStart_burns (h : execBootStageStart now s = .next t) : s.Burns t := by
  unfold execBootStageStart at h
  refine act_burns h fun u => ?_
  split
  · split
    · exact (State.pulseReset_burns _ 4).after (State.programWord_fuse ..)
    · refine .of_eq ((State.setSys_fuse ..).trans ?_)
      rw [State.put_fuse, State.put_fuse, State.put_fuse, State.extendDm_fuse]
  · exact .refl u

theorem execBootWatchdog_burns (h : execBootWatchdog now s = .next t) : s.Burns t := by
  unfold execBootWatchdog at h
  exact act_burns h fun u => .ite (.refl u) ((State.pulseReset_burns _ 3).after (State.setSec_fuse ..))

theorem execFirmwareStart_burns {x : Settings} (h : execFirmwareStart now x s = .next t) : s.Burns t := by
  unfold execFirmwareStart at h
  refine act_burns h fun u => .ite (.refl u) ?_
  extract_lets v w y
  have hload : u.Burns v := u.loadSettings_burns x
  clear_value v
  have hsess : w.fuse = v.fuse := v.resumeSess_fuse
  clear_value w
  refine .ite hload (hload.trans (.after ?_ hsess))
  have harb : w.Burns y := by
    unfold y
    split
    · exact .ite w.advanceArb_burns (.refl w)
    · exact .refl w
  clear_value y
  have htry := tryImages_fuse y.imageOrder y
  generalize tryImages y.imageOrder y = r at htry ⊢
  obtain ⟨z, _ | ⟨k, i⟩⟩ := r
  all_goals dsimp -zeta only at htry ⊢
  · exact harb.keeping ((State.setChor_fuse ..).trans ((State.log1_fuse ..).trans htry))
  · exact harb.keeping ((State.afterImage_fuse ..).trans ((State.startImage_fuse ..).trans htry))

theorem execMgmtWriteReq_burns {rx : Rx} (h : execMgmtWriteReq now rx s = .next t) : s.Burns t := by
  unfold execMgmtWriteReq at h
  refine act_burns h fun u => (u.receive_fusesBy ..).burns fun u => (u.mgmtRequest_fusesBy ..).burns fun u => ?_
  extract_lets as ws
  have hw := writeWords_burns (.mgmt (Fin.ofNat 4 (rx.frame.body.getD 0 0).toNat)) (as.zip ws) 0 u
  generalize writeWords _ (as.zip ws) 0 u = r at hw ⊢
  obtain ⟨v, k, bad, left⟩ := r
  exact .ite (hw.keeping (State.mgmtReply_fuse ..)) (hw.keeping (State.toFirmware_fuse ..))

theorem execMediatedWriteDone_burns {ph : Phys} (h : execMediatedWriteDone now ph s = .next t) : s.Burns t := by
  unfold execMediatedWriteDone at h
  refine act_burns h fun u => ?_
  split
  · exact .refl u
  next m rest _ =>
    extract_lets v
    have hv : v.fuse = u.fuse := u.modHost_fuse _
    clear_value v
    refine .after ?_ hv
    have hw := finishWords_burns m.req ph m.words m.index v
    generalize finishWords m.req ph m.words m.index v = r at hw ⊢
    obtain ⟨w, bad⟩ := r
    dsimp only at hw ⊢
    refine .ite hw ?_
    split
    · split
      · exact hw.keeping (State.mgmtReply_fuse ..)
      · exact hw.keeping (State.mgmtReply_fuse ..)
    · have hend : ∀ c, w.Burns (w.hostEnd c m.early) := fun c => .of_eq (w.hostEnd_fuse ..)
      exact .ite hw (hw.trans (.ite (hend _) ((hend _).keeping (State.modHost_fuse ..))))

theorem execHostWrite_burns {header addr : Word} {data : List Word} {crc : Word}
    (h : execHostWrite now header addr data crc s = .next t) : s.Burns t := by
  unfold execHostWrite at h
  exact always_burns h fun u => .ite (u.hostFrame_burns ..) (.refl u)

theorem execHostFrameAbort_burns {request : Option (Word × Word × List Word × Word)} {late : Bool}
    (h : execHostFrameAbort now request late s = .next t) : s.Burns t := by
  unfold execHostFrameAbort at h
  refine always_burns h fun u => .ite (.refl u) ?_
  split
  · exact u.hostFrame_burns ..
  · have hstatus := u.hostStatus_fuse
    generalize u.hostStatus = r at hstatus ⊢
    obtain ⟨v, status⟩ := r
    exact .of_eq ((State.modHost_fuse ..).trans ((State.bump_fuse ..).trans (v.draw_fuse.trans hstatus)))

theorem execHostLegacyWrite_burns {half : Fin 8192} {data : BitVec 16} {clocks : Nat}
    (h : execHostLegacyWrite now half data clocks s = .next t) : s.Burns t := by
  unfold execHostLegacyWrite at h
  refine always_burns h fun u => .ite (.refl u) ((u.legacyFrame_fusesBy ..).burns fun u => ?_)
  extract_lets low v w
  have hmod : v.fuse = u.fuse := u.modHost_fuse _
  have hw : v.Burns w := .of_eq (v.bump_fuse ..)
  clear_value v w low
  refine .after ?_ hmod
  have hbump : ∀ f, v.Burns (v.bump f) := fun f => .of_eq (v.bump_fuse f _)
  split
  · exact hbump _
  refine .ite ((hbump _).keeping (State.modHost_fuse ..)) ?_
  split
  · exact hbump _
  · exact .ite (hbump _) (.ite (hw.keeping (State.modHost_fuse ..)) (hw.trans (State.busWrite_burns ..)))

theorem execUpdBlockStored_burns {block : Nat} {ok : Bool} (h : execUpdBlockStored now block ok s = .next t) :
    s.Burns t := by
  unfold execUpdBlockStored at h
  refine act_burns h fun u => ?_
  split
  · split
    · exact .refl u
    refine .ite (.refl u) ?_
    extract_lets at_ v w x y z
    have hv : v.fuse = u.fuse := u.flashErase_fuse ..
    clear_value v
    have hw : w.fuse = v.fuse := (State.clearWritten_fuse ..).trans (v.flashProgram_fuse ..)
    clear_value w
    have hx : x.fuse = w.fuse := w.modSess_fuse _
    clear_value x
    have hy : y.fuse = x.fuse := (State.modSess_fuse ..).trans (x.programWord_fuse ..)
    clear_value y
    have hz : z.fuse = y.fuse := (State.showSess_fuse _).trans (y.log1_fuse ..)
    clear_value z
    have hstored : u.Burns x := .of_eq (hx.trans (hw.trans hv))
    have hall : u.Burns z := hstored.keeping (hz.trans hy)
    exact .ite (.of_eq ((State.flashProgram_fuse ..).trans (v.draw_fuse.trans hv)))
      (.ite hstored (.ite (hall.trans (z.installBoot_burns _)) hall))
  · exact .refl u

/-- The five commands that UPD_CTL carries mean one operation. -/
theorem execUpdActivate_burns {q : Requester} {data : Word} (h : execUpdActivate now q data s = .next t) :
    s.Burns t := by
  unfold execUpdActivate at h
  exact act_burns h fun u => u.updCtl_burns ..

/-- The five commands that SEC_CMD carries mean one operation. -/
theorem execSecReport_burns {q : Requester} {data : Word} {missed : List (Nat × Nat)}
    (h : execSecReport now q data missed s = .next t) : s.Burns t := by
  unfold execSecReport at h
  exact act_burns h fun u => u.secCmd_burns ..

theorem execConfirmWindowExpiry_burns (h : execConfirmWindowExpiry now s = .next t) : s.Burns t := by
  unfold execConfirmWindowExpiry at h
  refine act_burns h fun u => ?_
  split
  · exact .refl u
  · exact .ite (.refl u) ((State.pulseReset_burns _ 3).after (State.setSec_fuse ..))

theorem execCalBurnEnd_burns {missed : List (Nat × Nat)} (h : execCalBurnEnd now missed s = .next t) : s.Burns t := by
  unfold execCalBurnEnd at h
  refine act_burns h fun u => ?_
  split
  · exact .refl u
  refine .ite (.refl u) ?_
  extract_lets ws b v ok c w g x y
  have hv : u.Burns v := .each (fun s x => s.burnWord_burns ..) ..
  clear_value v
  have hw : w.fuse = v.fuse := v.setCal_fuse _
  clear_value w ok g
  refine hv.keeping (Eq.trans ?_ hw)
  rw [State.log1_fuse, State.put_fuse, State.put_fuse, State.put_fuse]

end Burning

/-- No command turns a burned bit back: those that may reach the fuses burn, the others leave them. -/
theorem exec_burns {i : Instr} {s t : State} (h : exec i s = .next t) : s.Burns t := by
  by_cases hk : i.wide = false ∧ i.mayFuse = false
  · exact .of_eq (exec_fuse hk.1 hk.2 h)
  cases i
  case registerWrite => exact execRegisterWrite_burns h
  case powerOnReset => exact execPowerOnReset_burns h
  case logicSupplyFall _ n => exact execLogicSupplyFall_burns (n := n) h
  case thermalReset => exact execThermalReset_burns h
  case refclkLoss => exact execRefclkLoss_burns h
  case resetNAssert => exact execResetNAssert_burns h
  case watchdogReset => exact execWatchdogReset_burns h
  case softReset => exact execSoftReset_burns h
  case bootStageStart => exact execBootStageStart_burns h
  case bootWatchdog => exact execBootWatchdog_burns h
  case firmwareStart _ x => exact execFirmwareStart_burns (x := x) h
  case mgmtWriteReq => exact execMgmtWriteReq_burns h
  case mediatedWriteDone => exact execMediatedWriteDone_burns h
  case hostWrite => exact execHostWrite_burns h
  case hostFrameAbort => exact execHostFrameAbort_burns h
  case hostLegacyWrite => exact execHostLegacyWrite_burns h
  case updBlockStored => exact execUpdBlockStored_burns h
  case updActivate | updConfirm | updRollback | updAbort | updClrconf => exact execUpdActivate_burns h
  case confirmWindowExpiry => exact execConfirmWindowExpiry_burns h
  case calBurnEnd => exact execCalBurnEnd_burns h
  case secReport | secEnrol | secRevoke | secSetOwnerFw | secBadOp => exact execSecReport_burns h
  all_goals exact absurd ⟨rfl, rfl⟩ hk

theorem step_burns {s t : State} (h : step s = .next t) : s.Burns t := by
  unfold step at h
  split at h
  · cases h
    exact .refl s
  next i rest _ =>
    have hpop : { s with pending := rest }.fuse = s.fuse := rfl
    exact (exec_burns h).after hpop

/-- Settles O45: a command reaches the fuse array by burns alone, and a burn sets bits. -/
theorem fusesOnlyBurn : Obligations.FusesOnlyBurn := by
  unfold Obligations.FusesOnlyBurn
  exact fun _ _ h => (step_burns h).bits

end Sys2Proof.Machine
end

section
namespace Sys2Proof.Machine

/-! PROOF. A burn of calibration pairs starts and ends (R134, Table 5.10). -/

/-- A tile that gives its pairs reaches the calibration alone. -/
theorem State.takePairs_only (s : State) (t : Nat) :
    State.Only { regs := false, log := false, cal := true } s (s.takePairs t) := by
  unfold State.takePairs
  refine .ite (.refl ..) ?_
  extract_lets v c u
  have hu : State.Only { regs := false, log := false, cal := true } s u := rfl
  exact hu.trans (.each (fun s e => s.setCal_only _) ..)

/-- The burn in progress goes on while a tile gives its pairs. -/
theorem State.takePairs_burn (s : State) (t : Nat) : (s.takePairs t).cal.burn = s.cal.burn := by
  unfold State.takePairs
  split
  · rfl
  · exact State.each_keeps (fun s => s.cal.burn) (fun _ _ => by rfl) ..

theorem State.genState_congr {s t : State} (h : t.fuse = s.fuse) (k : Nat) : t.genState k = s.genState k := by
  have hw : t.fuseWord = s.fuseWord := funext fun w => by rw [State.fuseWord, h, State.fuseWord]
  rw [State.genState, hw, State.genState]

/-- The tiles without frames, which give their pairs at once when a burn starts. -/
def State.takeUnframed (s : State) : State :=
  s.each tiles4 fun s t => if (s.tile t).framed then s else s.takePairs t

theorem State.takeUnframed_regs (s : State) : s.takeUnframed.regs = s.regs :=
  State.Only.regs (p := { regs := false, log := false, cal := true })
    (.each (fun s t => .ite (.refl ..) (s.takePairs_only t)) ..) rfl

theorem State.takeUnframed_burn (s : State) : s.takeUnframed.cal.burn = s.cal.burn :=
  State.each_keeps (fun s => s.cal.burn) (fun s t => by
    split
    · rfl
    · exact s.takePairs_burn t) ..

/-- What a burn of generation `k` starts from: the key and GO in the word, and the conditions of R134. -/
structure State.BurnReady (s : State) (data : Word) (vdd18 k : Nat) : Prop where
  key : data.toNat = 0x16E5D
  idle : s.on R.CAL_BURNST.BUSY = false
  free : ([1, 2, 3].find? fun k => s.genState k == 0) = some k
  supply : 1750 ≤ vdd18
  noPairs : s.commits.cal = 0
  cool : ∀ u : Fin 4, 0 ≤ (s.tile u).tj ∧ (s.tile u).tj ≤ 8500

/-- The state in which a burn of generation `k` has started. -/
def State.burning (s : State) (k : Nat) : State :=
  let u := (s.put R.CAL_BURNST.BUSY 1).put R.CAL_BURNST.GEN k
  { u with cal := { u.cal with burn := some (k, u.now), burnTiles := 15, taken := [] } }

theorem tiles4_any {p : Nat → Bool} (h : ∀ u : Fin 4, p u = false) : tiles4.any p = false := by
  simpa using ⟨h 0, h 1, h 2, h 3⟩

theorem State.calBurn_starts {s : State} {pl : Fin 4} {data : Word} {vdd18 k : Nat}
    (hp : s.permits (.core0 pl) R.CAL_BURN.addr 4 true = true) (hr : s.BurnReady data vdd18 k) :
    s.calBurn (.core0 pl) data vdd18 = (s.burning k).takeUnframed.answer (.core0 pl) false 0 := by
  obtain ⟨hkey, hidle, hfree, hsupply, hnone, hcool⟩ := hr
  have hres : ¬ (data &&& ~~~ 0x1FFFF ≠ 0) := by rw [show data = 0x16E5D from BitVec.eq_of_toNat_eq hkey]; decide
  have hany : tiles4.any (fun t => decide ((s.tile t).tj < 0) || decide (8500 < (s.tile t).tj)) = false :=
    tiles4_any fun u => by simp [hcool u]
  unfold State.calBurn
  rw [State.mediated_core0, State.cmdWrite_taken (State.accepts_of_permits hp (by decide)), if_neg hres]
  extract_lets v
  have hv : v = 0x16E5D := hkey
  rw [if_neg (by simp [hv, hidle, hasBit, bit]), hfree]
  dsimp -zeta only
  rw [if_neg (by simp [hany, hnone, hsupply])]
  rfl

theorem State.BurnReady.tick {s : State} {data : Word} {vdd18 k : Nat} (h : s.BurnReady data vdd18 k) (now : Nat) :
    (s.tick now).BurnReady data vdd18 k where
  key := h.key
  idle := h.idle
  free := by simpa only [State.genState_congr (s.tick_fuse now)] using h.free
  supply := h.supply
  noPairs := h.noPairs
  cool := h.cool

/-- A generation has one of the numbers 1 to 3. -/
theorem State.BurnReady.generation_lt {s : State} {data : Word} {vdd18 k : Nat} (h : s.BurnReady data vdd18 k) :
    k < 4 := by
  have hmem := List.mem_of_find?_eq_some h.free
  simp only [List.mem_cons, List.not_mem_nil, or_false] at hmem
  omega

theorem exec_calBurn (now : Nat) (q : Requester) (data : Word) (vdd18 : Nat) (s : State) :
    exec (.calBurn now q data vdd18) s =
      act { boundaryParts with fuse := true } now s fun s => s.calBurn q data vdd18 := rfl

theorem calBurn_starts (now : Nat) {pl : Fin 4} {data : Word} {vdd18 k : Nat} {s : State} (hs : s.Running)
    (hp : s.permits (.core0 pl) R.CAL_BURN.addr 4 true = true) (hr : s.BurnReady data vdd18 k) :
    Completes (.calBurn now (.core0 pl) data vdd18) s fun t => t.Answered (.core0 pl) 0 ∧
      t.cal.burn = some (k, t.now) ∧ t.get R.CAL_BURNST.BUSY = 1 ∧ t.get R.CAL_BURNST.GEN = k := by
  have hk : k % 2 ^ 2 = k := Nat.mod_eq_of_lt hr.generation_lt
  refine completes_act (exec_calBurn ..) hs ?_
  rw [State.calBurn_starts (s := s.tick now) hp (hr.tick now)]
  generalize s.tick now = u
  have hregs : ∀ f, (u.burning k).takeUnframed.get f = ((u.put R.CAL_BURNST.BUSY 1).put R.CAL_BURNST.GEN k).get f :=
    State.get_congr (State.takeUnframed_regs _)
  have hburn : (u.burning k).takeUnframed.cal.burn = some (k, u.now) := State.takeUnframed_burn _
  generalize (u.burning k).takeUnframed = v at hregs hburn ⊢
  have hget : ∀ f, (keep { boundaryParts with fuse := true } u (v.answer (.core0 pl) false 0)).get f = v.get f :=
    fun f => State.get_keep rfl ..
  refine ⟨State.answered_of_resp rfl, hburn, ?_, ?_⟩
  · rw [hget, hregs, State.get_put_ne _ _ (by decide), State.get_put _ _ _ (by decide)]
    rfl
  · rw [hget, hregs, State.get_put _ _ _ (by decide)]
    exact hk

/-- The end of a burn: the fuses hold what they hold, and the result says whether they agree with the words. -/
theorem calBurnEnd_ends (now : Nat) {k a : Nat} (missed : List (Nat × Nat)) {s : State} (hs : s.Running)
    (hb : s.cal.burn = some (k, a)) (ht : s.cal.burnTiles = 0) : Completes (.calBurnEnd now missed) s fun t =>
      t.cal.burn = none ∧ t.get R.CAL_BURNST.BUSY = 0 ∧
        (t.get R.CAL_BURNST.RESULT = 1 ∨ t.get R.CAL_BURNST.RESULT = 4) := by
  have he : exec (.calBurnEnd now missed) s = execCalBurnEnd now missed s := rfl
  unfold execCalBurnEnd at he
  refine completes_act he hs ?_
  replace hb : (s.tick now).cal.burn = some (k, a) := hb
  replace ht : ¬ (s.tick now).cal.burnTiles ≠ 0 := not_not.2 ht
  generalize s.tick now = u at hb ht ⊢
  rw [hb]
  dsimp -zeta only
  rw [if_neg ht]
  extract_lets parts ws b v ok c w g x y
  have hw : w.cal.burn = none := rfl
  clear_value w ok g
  have hbusy : y.get R.CAL_BURNST.BUSY = 0 := by
    rw [State.get_put_ne _ _ (by decide), State.get_put _ _ _ (by decide)]
    rfl
  have hresult : y.get R.CAL_BURNST.RESULT = if ok then 1 else 4 := by
    rw [State.get_put _ _ _ (by decide)]
    split <;> rfl
  have hy : y.cal.burn = none := hw
  clear_value y
  rw [State.get_keep rfl, State.get_keep rfl, State.get_log1 _ _ _ _ _ _ (by decide),
    State.get_log1 _ _ _ _ _ _ (by decide), keep_cal, if_pos rfl, State.log1_cal]
  refine ⟨hy, hbusy, ?_⟩
  rw [hresult]
  cases ok
  · exact .inr rfl
  · exact .inl rfl

/-- Settles O9, by what a burn starts from and by what its end puts. -/
theorem fuseBurnsComplete : Obligations.FuseBurnsComplete := by
  unfold Obligations.FuseBurnsComplete
  exact ⟨fun now _ _ _ _ _ hs hp hkey hidle hfree hsupply hnone hcool =>
      calBurn_starts now hs hp ⟨hkey, hidle, hfree, hsupply, hnone, hcool⟩,
    fun now _ _ missed _ hs hb ht => calBurnEnd_ends now missed hs hb ht⟩

end Sys2Proof.Machine
end

section
namespace Sys2Proof.Machine

/-! PROOF. A block that ends under HOLD (R116, R117). -/

/-- Freezing the slices of a tile drops the pairs that wait. -/
theorem State.freezeSlices_slices (s : State) (t : Nat) : ((s.freezeSlices t).tile t).slices = none := by
  rw [State.freezeSlices, State.tile_congr (State.put_tiles ..), State.tile_modTile]

/-- A whole block that ends under HOLD freezes the slices of its tile, and pairs that wait for a frame boundary go. -/
theorem sliceBlockEnd_hold (now : Nat) {tile : Fin 4} {s : State} (hs : s.Running)
    (hlen : 2 ^ s.get R.CAL_SLCCFG.SBLK ≤ (s.tile tile).block.length) (hhold : s.on R.CAL_SLCCFG.HOLD = true) :
    Completes (.sliceBlockEnd now tile) s fun t => (t.tile tile).slices = none := by
  have he : exec (.sliceBlockEnd now tile) s = execSliceBlockEnd now tile s := rfl
  unfold execSliceBlockEnd at he
  refine completes_act he hs ?_
  replace hlen : ¬ ((s.tick now).tile tile).block.length < 2 ^ (s.tick now).get R.CAL_SLCCFG.SBLK := Nat.not_lt.2 hlen
  replace hhold : (s.tick now).on R.CAL_SLCCFG.HOLD = true := hhold
  generalize s.tick now = u at hlen hhold ⊢
  extract_lets t x n old l y
  rw [if_neg hlen, if_pos hhold, State.tile_keep rfl, State.freezeSlices_slices]

/-- A whole block of the smallest size, and pairs that wait for the next frame boundary. -/
def waitingSlices : TileSt := { block := List.replicate (2 ^ 20) (0, 1), slices := some (List.replicate 8 (0, 2 ^ 30)) }

/-- A running hub under HOLD, with such a block on tile 2. -/
def heldSlices : State :=
  ((State.reset.put R.CAL_SLCCFG.SBLK 20).put R.CAL_SLCCFG.HOLD 1).setTile 2 waitingSlices

theorem heldSlices_tile : heldSlices.tile (2 : Fin 4) = waitingSlices := State.tile_setTile ..

theorem heldSlices_regs : heldSlices.on R.CAL_SLCCFG.HOLD = true ∧ heldSlices.get R.CAL_SLCCFG.SBLK = 20 := by decide

theorem heldSlices_whole : 2 ^ heldSlices.get R.CAL_SLCCFG.SBLK ≤ (heldSlices.tile (2 : Fin 4)).block.length := by
  rw [heldSlices_tile, heldSlices_regs.2, waitingSlices, List.length_replicate]

/-- Refutes O8: the clause of HOLD says that the waiting pairs of the tile stay, and freezing the slices drops them. -/
theorem not_calibrationEventsComplete : ¬ Obligations.CalibrationEventsComplete := by
  unfold Obligations.CalibrationEventsComplete
  rintro ⟨-, hkeeps, -⟩
  have hrun : heldSlices.Running := rfl
  obtain ⟨t, ht, -, hsame, -⟩ := hkeeps 5 2 heldSlices hrun heldSlices_whole heldSlices_regs.1
  obtain ⟨u, hu, hnone⟩ := sliceBlockEnd_hold 5 hrun heldSlices_whole heldSlices_regs.1
  obtain rfl : t = u := Host.Outcome.next.inj (ht.symm.trans hu)
  rw [hnone, heldSlices_tile] at hsame
  cases hsame

end Sys2Proof.Machine
end

section
namespace Sys2Proof.Machine

/-! PROOF. Commit requests of a hub that is not one of a pair (R155, R160, R194, R226, R278, R344, R387, R419). -/

/-- GO is neither held up by an apply in progress (R387) nor shared with a partner (R333). -/
structure State.CommitsAlone (s : State) : Prop where
  idle : s.applying = false
  single : s.isPaired = false

theorem State.CommitsAlone.congr {s t : State} (h : s.CommitsAlone) (hr : t.regs = s.regs) : t.CommitsAlone where
  idle := by rw [State.applying, State.get_congr hr]; exact h.idle
  single := by rw [State.isPaired, State.on, State.get_congr hr]; exact h.single

theorem FldAt.apart_rsvd_choreography (q : Requester) : FldAt.Apart R.SYS_CHOR_ST.STATE (R.SYS_REQERR2.RSVD q.no) := by
  refine .inl ?_
  simp only [R.SYS_CHOR_ST.STATE, R.SYS_CHOR_ST, R.SYS_REQERR2.RSVD, R.SYS_REQERR2]
  omega

/-- Counting a reserved bit touches neither the state of the choreography nor the wiring. -/
theorem State.CommitsAlone.rsvd {s : State} (h : s.CommitsAlone) (q : Requester) :
    (s.bump (R.SYS_REQERR2.RSVD q.no)).CommitsAlone where
  idle := by rw [State.applying, State.get_bump_ne _ _ (FldAt.apart_rsvd_choreography q)]; exact h.idle
  single := by rw [State.isPaired, State.on, State.get_bump_ne _ _ (FldAt.apart_rsvd q _ rfl)]; exact h.single

/-- A GO adds its blocks to the pending commits and changes nothing else. -/
theorem State.CommitsAlone.requestCommit {s : State} (h : s.CommitsAlone) (c : CommitSt) :
    s.requestCommit c = { s with commits := s.commits.plus c } := by
  rw [State.requestCommit, if_neg (by simp [h.idle]), if_pos (by simp [h.single])]

/-! Writes of commit registers -/

/-- A command that is an accepted write, whose effect adds `c` to the pending commits, is answered and does so. -/
theorem completes_commitWrite {i : Instr} {now a : Nat} {req : Requester} {mask data : Word} {f : State → State}
    {c : CommitSt} {s : State} (he : exec i s = act goParts now s fun s => s.cmdWrite req a mask data f) (hs : s.Running)
    (hp : s.Accepts req a) (hc : s.CommitsAlone)
    (hf : ∀ u : State, u.CommitsAlone → (f u).commits = u.commits.plus c) :
    Completes i s fun t => t.Answered req 0 ∧ t.commits = s.commits.plus c := by
  refine completes_act he hs ?_
  rw [State.cmdWrite_taken (s := s.tick now) hp]
  refine ⟨State.answered_of_resp rfl, ?_⟩
  have hc' : (s.tick now).CommitsAlone := hc.congr rfl
  split
  · exact hf _ (hc'.rsvd req)
  · exact hf _ hc'

/-- A write of GO to a commit register. -/
theorem completes_goWrite {i : Instr} {now a : Nat} {req : Requester} {mask data : Word} {c : CommitSt} {s : State}
    (he : exec i s = act goParts now s fun s => s.goWrite req a mask data c) (hs : s.Running) (hp : s.Accepts req a)
    (hg : hasBit data.toNat 0 = true) (hc : s.CommitsAlone) :
    Completes i s fun t => t.Answered req 0 ∧ t.commits = s.commits.plus c :=
  completes_commitWrite he hs hp hc fun u hu => by rw [if_pos hg, hu.requestCommit]

/-- A write of GO and REANCHOR to TIM_COMMIT. -/
theorem timReanchor_commits (now : Nat) {req : Requester} {data : Word} {s : State} (hs : s.Running)
    (hp : s.Accepts req R.TIM_COMMIT.addr) (hg : data.toNat % 4 = 3) (hc : s.CommitsAlone) :
    Completes (.timReanchor now req data) s fun t =>
      t.Answered req 0 ∧ t.commits = s.commits.plus { tim := true, reanchor := true } :=
  completes_commitWrite rfl hs hp hc fun u hu => by rw [if_pos hg, hu.requestCommit]

/-! SYS_TCOMMIT, where one write names blocks of both kinds (R419) -/

theorem CommitSt.plus_empty (c : CommitSt) : c.plus {} = c := by simp [CommitSt.plus]

theorem CommitSt.plus_tile_calcfg (c : CommitSt) (m n : Nat) :
    (c.plus { tile := m }).plus { calcfg := n } = c.plus { tile := m, calcfg := n } := by simp [CommitSt.plus]

/-- A set without blocks makes nothing pending, so leaving out its GO is no exception. -/
theorem State.CommitsAlone.requestUnless {s : State} (h : s.CommitsAlone) {p : Prop} [Decidable p] {c : CommitSt}
    (hc : p → c = {}) : (if p then s else s.requestCommit c) = { s with commits := s.commits.plus c } := by
  split
  case isTrue hp => rw [hc hp, CommitSt.plus_empty]
  case isFalse => exact h.requestCommit c

/-- A write of SYS_TCOMMIT, by either command. -/
theorem completes_tcommit {i : Instr} {now : Nat} {req : Requester} {data : Word} {s : State}
    (he : exec i s = act goParts now s fun s => s.tcommit req data) (hs : s.Running)
    (hp : s.Accepts req R.SYS_TCOMMIT.addr) (hc : s.CommitsAlone) : Completes i s fun t => t.Answered req 0 ∧
      t.commits = s.commits.plus { tile := data.toNat % 16, calcfg := data.toNat / 16 % 16 } := by
  refine completes_commitWrite he hs hp hc fun u hu => ?_
  have htile := hu.requestUnless (p := data.toNat % 16 = 0) (c := { tile := data.toNat % 16 }) fun h => by rw [h]
  have hboth : ({ u with commits := u.commits.plus { tile := data.toNat % 16 } } : State).CommitsAlone := hu.congr rfl
  rw [htile, hboth.requestUnless fun h => by rw [h]]
  exact CommitSt.plus_tile_calcfg ..

/-- Settles O3, by what a write of a commit register does on a hub that commits alone. -/
theorem commitCommandsComplete : Obligations.CommitCommandsComplete := by
  unfold Obligations.CommitCommandsComplete
  exact ⟨fun _ _ _ _ hs hp hg ha hn => completes_goWrite rfl hs hp hg ⟨ha, hn⟩,
    fun now _ _ _ hs hp hg ha hn => timReanchor_commits now hs hp hg ⟨ha, hn⟩,
    fun _ _ _ _ hs hp hg ha hn => completes_goWrite rfl hs hp hg ⟨ha, hn⟩,
    fun _ _ _ _ hs hp hg ha hn => completes_goWrite rfl hs hp hg ⟨ha, hn⟩,
    fun _ _ _ _ hs hp hg ha hn => completes_goWrite rfl hs hp hg ⟨ha, hn⟩,
    fun _ _ _ _ hs hp hg ha hn => completes_goWrite rfl hs hp hg ⟨ha, hn⟩,
    fun _ _ _ _ hs hp hg ha hn => completes_goWrite rfl hs hp hg ⟨ha, hn⟩,
    fun _ _ _ _ hs hp ha hn => completes_tcommit rfl hs hp ⟨ha, hn⟩,
    fun _ _ _ _ hs hp ha hn => completes_tcommit rfl hs hp ⟨ha, hn⟩⟩

end Sys2Proof.Machine
end

section
/-! PROOF. The control cycle and the monitor units (R172, R412, R413). -/
namespace Sys2Proof.Machine

/-! What the parts of a control cycle reach -/

theorem State.Only.time {p : Parts} {s t : State} (h : State.Only p s t) (hp : p.time = false) : t.time = s.time := by
  rw [h, keep_time, hp, if_neg Bool.false_ne_true]
theorem State.Only.commits {p : Parts} {s t : State} (h : State.Only p s t) (hp : p.commits = false) :
    t.commits = s.commits := by
  rw [h, keep_commits, hp, if_neg Bool.false_ne_true]

theorem State.Only.logRep {s t : State} (h : State.Only {} s t) (a c k i d x n : Nat) :
    State.Only {} s (t.logRep a c k i d x n) :=
  h.trans (by obtain ⟨r, l, hu⟩ := t.logRep_only a c k i d x n; rw [hu]; rfl)

theorem State.logCycleEnd_only (s : State) : State.Only {} s s.logCycleEnd :=
  .trans (.each (fun _ _ => .logRep (.refl ..) ..) ..) (by exact rfl)

theorem State.blankEdge_only (s : State) (d : Nat) (level scheduled : Bool) (t : Int) :
    State.Only { regs := false, log := false, dio := true } s (s.blankEdge d level scheduled t) := .ite (.refl ..) rfl

theorem State.setDo_only (s : State) (d : Nat) (x : DoSt) : State.Only { dio := true } s (s.setDo d x) :=
  .andThen (by exact rfl) (.putBit (.put (.refl ..) ..) ..) (by rfl)

theorem State.driveDo_only (s : State) (d : Nat) (level scheduled : Bool) :
    State.Only { dio := true } s (s.driveDo d level scheduled) :=
  .ite (.refl ..) (.ite (s.setDo_only ..) (.andThen (s.setDo_only ..) (State.blankEdge_only ..) (by rfl)))

theorem State.docmdCycle_only (s : State) (running : Bool) : State.Only { dio := true } s (s.docmdCycle running) := by
  have hcmd : State.Only { dio := true } s (if !s.dio.docmd then s else
      State.each { s with dio := { s.dio with docmd := false } } (List.range 32) fun t d =>
        if t.doHeld then t.setDo d { t.doSt d with level := hasBit (s.get R.IOT_DOCMD.LEVEL) d }
        else if t.ranAtBoundary d then t else t.driveDo d (hasBit (s.get R.IOT_DOCMD.LEVEL) d) false) :=
    .ite (.refl ..) (.trans (by exact rfl)
      (.each (fun t d => .ite (t.setDo_only ..) (.ite (.refl ..) (t.driveDo_only ..))) ..))
  exact .ite (hcmd.trans (by exact rfl)) hcmd

theorem monCycle_only (s : State) : State.Only { mon := true } s (monCycle s) :=
  .each (fun s _ => .ite (.refl ..) (s.setMon_only ..)) ..

theorem State.enqueue_only (s : State) (p : Nat) (i : TxItem) :
    State.Only { regs := false, log := false, ports := true } s (s.enqueue p i) := rfl

theorem State.sendOwn_only (s : State) (p : Nat) (f : Frame) :
    State.Only { log := false, ports := true } s (s.sendOwn p f) :=
  .ite (by exact rfl) ((s.enqueue_only ..).widen (by rfl))

theorem State.sendBoth_only (s : State) (f : Frame) : State.Only { log := false, ports := true } s (s.sendBoth f) :=
  (s.sendOwn_only ..).trans (State.sendOwn_only ..)

theorem State.sendCopy_only (s : State) : State.Only { regs := false, log := false, pair := true } s s.sendCopy :=
  .ite (.refl ..) rfl

theorem State.pushEvents_only (s : State) : State.Only { log := false, ports := true, host := true } s s.pushEvents := by
  unfold State.pushEvents
  extract_lets p es
  refine .ite (.refl ..) ?_
  split
  · exact .trans (.widen (.trans (s.sendOwn_only ..) (State.sendOwn_only ..)) (by rfl)) (by exact rfl)
  · exact .refl ..

/-- Messages of tempo bases leave the control cycle as it is. -/
theorem State.publishTempo_cycle (s : State) : s.publishTempo.time.cycleIdx = s.time.cycleIdx ∧
    s.publishTempo.time.cycleNo = s.time.cycleNo := by
  unfold State.publishTempo
  split
  · exact ⟨rfl, rfl⟩
  refine State.each_inv (fun t => t.time.cycleIdx = s.time.cycleIdx ∧ t.time.cycleNo = s.time.cycleNo)
    (fun t n ht => ?_) s _ ⟨rfl, rfl⟩
  extract_lets src q f
  split
  · exact ht
  · rw [(State.sendBoth_only _ f).time rfl]
    exact ht

/-! The commits of a control cycle without one -/

theorem CommitSt.kinds_of_noBlock {c : CommitSt} (h : c.blocks.noBlock = true) : c.kinds = 0 := by
  simp only [CommitSt.noBlock, CommitSt.blocks, Bool.and_eq_true, Bool.not_eq_true', beq_iff_eq] at h
  obtain ⟨⟨⟨⟨⟨⟨⟨⟨htim, -⟩, hiot⟩, hque⟩, -⟩, hpar⟩, htile⟩, -⟩, hflt⟩ := h
  simp [CommitSt.kinds, htim, hiot, hque, hpar, htile, hflt]

theorem State.unconfirmed_of_noBlock {s : State} (h : s.commits.blocks.noBlock = true) : s.unconfirmed = s := by
  rw [State.unconfirmed, CommitSt.kinds_of_noBlock h]
  simp

theorem State.cycleCommits_of_noBlock {s : State} (h : s.commits.blocks.noBlock = true) (b : Int) :
    s.cycleCommits b = s := if_pos h

/-! The control cycle -/

theorem State.cycleU_congr {s t : State} (h : t.live = s.live) : t.cycleU = s.cycleU := by
  rw [State.cycleU, State.inUse_congr h, State.cycleU]

/-- What happens at a boundary without commits once its cycle has been entered leaves the cycle as it is. -/
theorem State.boundary_cycle {s : State} (h : s.commits.blocks.noBlock = true) (b : Int) (running : Bool) :
    (monCycle ((s.unconfirmed.cycleCommits b).docmdCycle running)).publishTempo.sendCopy.pushEvents.time.cycleIdx =
        s.time.cycleIdx ∧
      (monCycle ((s.unconfirmed.cycleCommits b).docmdCycle running)).publishTempo.sendCopy.pushEvents.time.cycleNo =
        s.time.cycleNo := by
  rw [State.unconfirmed_of_noBlock h, State.cycleCommits_of_noBlock h]
  have hw : (monCycle (s.docmdCycle running)).time = s.time :=
    ((monCycle_only _).time rfl).trans ((s.docmdCycle_only running).time rfl)
  generalize monCycle (s.docmdCycle running) = w at hw
  rw [(State.pushEvents_only _).time rfl, (State.sendCopy_only _).time rfl, w.publishTempo_cycle.1,
    w.publishTempo_cycle.2, hw]
  exact ⟨rfl, rfl⟩

/-- A boundary without commits enters the cycle of its instant and counts it (R172). -/
theorem controlCycle_counts (now : Nat) {s : State} (hr : s.Running) (hlen : s.cycleU ≠ 0)
    (hnew : s.time.cycleNo = 0 ∨ (s.wbAt 0 (max s.now now) / (s.cycleU : Int)).toNat ≠ s.time.cycleIdx)
    (hnone : s.commits.blocks.noBlock = true) : Completes (.controlCycle now) s fun t =>
      t.time.cycleIdx = (s.wbAt 0 t.now / (s.cycleU : Int)).toNat ∧ t.time.cycleNo = s.time.cycleNo + 1 := by
  have he : exec (.controlCycle now) s = execControlCycle now s := rfl
  unfold execControlCycle at he
  refine completes_act he hr ?_
  have hcyc : (s.tick now).cycleU = s.cycleU := State.cycleU_congr (s.tick_live now)
  have hgo : ¬ ((s.tick now).cycleU = 0 ∨ (s.tick now).time.cycleNo ≠ 0 ∧
      ((s.tick now).wbNow 0 / ((s.tick now).cycleU : Int)).toNat = (s.tick now).time.cycleIdx) := by
    rw [hcyc]
    rintro (h | ⟨h, h'⟩)
    · exact hlen h
    · rcases hnew with hn | hn
      · exact h hn
      · exact hn h'
  rw [if_neg hgo, keep_time, if_pos rfl, keep_now]
  extract_lets b u _ v w
  have hu : u.time = s.time ∧ u.commits = s.commits :=
    ⟨(State.logCycleEnd_only _).time rfl, (State.logCycleEnd_only _).commits rfl⟩
  have hv : v.commits.blocks.noBlock = true := by rw [show v.commits = s.commits from hu.2]; exact hnone
  obtain ⟨hidx, hno⟩ := State.boundary_cycle hv b (v.sys.stage == .running)
  refine ⟨hidx.trans ?_, hno.trans (congrArg (fun x : TimeSt => x.cycleNo + 1) hu.1)⟩
  rw [← hcyc]
  rfl

/-! The monitor units -/

theorem State.monSt_congr {s t : State} (h : t.mon = s.mon) (u : Nat) : t.monSt u = s.monSt u := by
  rw [State.monSt, h, State.monSt]

theorem State.monSt_keep {p : Parts} (hp : p.mon = true) (s t : State) (u : Nat) : (keep p s t).monSt u = t.monSt u :=
  State.monSt_congr (by rw [keep_mon, if_pos hp]) u

@[simp] theorem State.monSt_setMon (s : State) (u : Nat) (m : MonSt) : (s.setMon u m).monSt u = m := Tbl.get_set_self ..

/-- A measurement enters the count and the sum of its unit (R413). -/
theorem monSt_monAdd (s : State) (u : Nat) (v : Int) : ((monAdd s u v).monSt u).count = satAdd 32 (s.monSt u).count 1 ∧
    ((monAdd s u v).monSt u).sum = (s.monSt u).sum + v := by
  unfold monAdd
  extract_lets m b m' beyond
  split
  · rw [State.monSt_setMon]
    exact ⟨rfl, rfl⟩
  split
  · rw [State.monSt_setMon]
    exact ⟨rfl, rfl⟩
  · rw [State.monSt_setMon]
    exact ⟨rfl, rfl⟩

theorem monitorSample_adds (now : Nat) {u : Fin 32} (v : Int) {s : State} (hr : s.Running)
    (hqty : s.get (R.MON_CFG.QTY u) = 6 ∨ s.get (R.MON_CFG.QTY u) = 7) (hon : s.get (R.MON_INT.INTERVAL u) ≠ 0) :
    Completes (.monitorSample now u v) s fun t =>
      (t.monSt u).count = satAdd 32 (s.monSt u).count 1 ∧ (t.monSt u).sum = (s.monSt u).sum + v := by
  have he : exec (.monitorSample now u v) s = execMonitorSample now u v s := rfl
  unfold execMonitorSample at he
  refine completes_act he hr ?_
  extract_lets q
  rw [if_pos (show (q = 6 ∨ q = 7) ∧ (s.tick now).get (R.MON_INT.INTERVAL u) ≠ 0 from ⟨hqty, hon⟩)]
  rw [State.monSt_keep rfl]
  exact monSt_monAdd (s.tick now) u v

theorem monCount_apart (u : Nat) {g : FldAt} (h : g.reg.addr ≠ 0xc100020 + u * 0x200) : (R.MON_COUNT.COUNT u).Apart g :=
  .inl (Ne.symm h)

theorem State.get_setMon (s : State) (u : Nat) (m : MonSt) (f : FldAt) : (s.setMon u m).get f = s.get f := rfl

/-- The bins of a unit lie beside its count. -/
theorem State.get_put_bins (s : State) (u : Nat) (f : Nat → Nat) :
    (s.each (List.range 64) fun s b => s.put (R.MON_BIN.BIN u b) (f b)).get (R.MON_COUNT.COUNT u) =
      s.get (R.MON_COUNT.COUNT u) :=
  State.each_keeps (fun s => s.get (R.MON_COUNT.COUNT u))
    (fun s b => State.get_put_ne _ _ (monCount_apart u (by simp only [R.MON_BIN.BIN, R.MON_BIN]; omega))) ..

/-- What is published shows the count of the unit's bank (R413). -/
theorem get_monPublish (s : State) (u : Nat) :
    (monPublish s u).get (R.MON_COUNT.COUNT u) = (s.monSt u).count % 2 ^ 32 := by
  unfold monPublish
  rw [State.get_setMon, State.get_put_ne _ _ (monCount_apart u (by simp only [R.MON_INT.EPOCH, R.MON_INT]; omega)),
    State.get_put_bins]
  iterate 5 rw [State.get_put_ne _ _ (monCount_apart u (by simp only [R.MON_MIN.MIN, R.MON_MIN, R.MON_MAX.MAX,
    R.MON_MAX, R.MON_SUML.SUM, R.MON_SUML, R.MON_SUMH.SUM, R.MON_SUMH, R.MON_MEAN.MEAN, R.MON_MEAN]; omega))]
  exact State.get_put _ _ _ (show 0 + 32 ≤ 32 by decide)

/-- The bank that has been published begins anew. -/
theorem monSt_monPublish (s : State) (u : Nat) : (monPublish s u).monSt u = {} := State.monSt_setMon ..

theorem monitorIntervalEnd_publishes (now : Nat) {u : Fin 32} {s : State} (hr : s.Running)
    (hon : s.get (R.MON_INT.INTERVAL u) ≠ 0) (hran : s.get (R.MON_INT.INTERVAL u) ≤ (s.monSt u).ran) :
    Completes (.monitorIntervalEnd now u) s fun t =>
      t.get (R.MON_COUNT.COUNT u) = (s.monSt u).count % 2 ^ 32 ∧ t.monSt u = {} := by
  have he : exec (.monitorIntervalEnd now u) s = execMonitorIntervalEnd now u s := rfl
  unfold execMonitorIntervalEnd at he
  refine completes_act he hr ?_
  have hdue : ¬ ((s.tick now).get (R.MON_INT.INTERVAL u) = 0 ∨
      ((s.tick now).monSt u).ran < (s.tick now).get (R.MON_INT.INTERVAL u)) := by
    rintro (h | h)
    · exact hon h
    · exact absurd h (not_lt.2 hran)
  rw [if_neg hdue]
  rw [State.get_keep rfl, State.monSt_keep rfl, get_monPublish, monSt_monPublish]
  exact ⟨rfl, rfl⟩

/-- Settles O4, by the lemma of each event. -/
theorem cycleAndMonitorEventsComplete : Obligations.CycleAndMonitorEventsComplete :=
  ⟨fun now _ hr hlen hnew hnone => controlCycle_counts now hr hlen hnew hnone,
    fun now _ v _ hr hqty hon => monitorSample_adds now v hr hqty hon,
    fun now _ _ hr hon hran => monitorIntervalEnd_publishes now hr hon hran⟩

end Sys2Proof.Machine
end

section
/-! PROOF. The events of the wide and narrow bases and of PTP (R159 to R170). -/
namespace Sys2Proof.Machine

/-! The wide bases -/

@[simp] theorem State.wbSt_setWb (s : State) (k : Nat) (b : WbSt) : (s.setWb k b).wbSt k = b := Tbl.get_set_self ..

theorem State.wbSt_congr {s t : State} (h : t.time = s.time) (k : Nat) : t.wbSt k = s.wbSt k := by
  rw [State.wbSt, h, State.wbSt]

theorem State.wbSt_keep {p : Parts} (hp : p.time = true) (s t : State) (k : Nat) : (keep p s t).wbSt k = t.wbSt k :=
  State.wbSt_congr (by rw [keep_time, if_pos hp]) k

theorem State.wbState_keep {p : Parts} (hp : p.regs = true) (s t : State) (k : Nat) :
    (keep p s t).wbState k = t.wbState k := State.get_keep hp ..

/-- The state of a wide base after an entry of the log is the one before it. -/
theorem State.wbState_log1 (s : State) (c d i x y : Nat) {k : Nat} (hk : k < 2) :
    (s.log1 c d i x y).wbState k = s.wbState k :=
  State.get_log1 _ _ _ _ _ _ (FldAt.offLog_of_between (f := R.TIM_WB_STAT.STATE k)
    (by simp only [R.TIM_WB_STAT.STATE, R.TIM_WB_STAT]; omega) (by simp only [R.TIM_WB_STAT.STATE, R.TIM_WB_STAT]; omega))

/-- A base that enters a state of Table 7.1 is in it. -/
theorem State.wbState_enterWb (s : State) {k st : Nat} (hk : k < 2) (hst : st < 4) : (s.enterWb k st).wbState k = st := by
  unfold State.enterWb
  extract_lets old u b
  split
  next h => exact h
  have hu : u.wbState k = st := (State.get_put _ _ _ (show 0 + 2 ≤ 32 by decide)).trans (Nat.mod_eq_of_lt hst)
  have hset : ∀ (v : State) (x : WbSt), (v.setWb k x).wbState k = v.wbState k := fun _ _ => rfl
  split
  · rw [State.wbState_log1 _ _ _ _ _ _ hk, hset, hu]
  split
  · dsimp only [State.draw]
    rw [State.wbState_log1 _ _ _ _ _ _ hk, hset]
    exact hu
  · exact (hset ..).trans hu

theorem State.wbState_loseSource {s : State} {k : Nat} (hk : k < 2) (h : s.wbState k ≠ 0) :
    (s.loseSource k).wbState k = 3 := by
  rw [State.loseSource, if_neg h, State.wbState_enterWb _ hk (by decide)]

theorem holdLimitExceeded_logs (now : Nat) {k : Fin 2} {s : State} (hr : s.Running)
    (hon : s.inUse (R.TIM_WB_HOCFG.HOLIM k) ≠ 0) (hnew : (s.wbSt k).holdLogged = false)
    (hbeyond : s.inUse (R.TIM_WB_HOCFG.HOLIM k) < s.hoErr k (max s.now now)) :
    Completes (.holdLimitExceeded now k) s fun t =>
      (t.wbSt k).holdLogged = true ∧ s.Logs L.TIM_HOLD_LIMIT 7 k t := by
  have he : exec (.holdLimitExceeded now k) s = execHoldLimitExceeded now k s := rfl
  unfold execHoldLimitExceeded at he
  refine completes_act he hr ?_
  extract_lets b lim
  have hdue : ¬ (lim = 0 ∨ b.holdLogged = true ∨ (s.tick now).hoErr k (s.tick now).now ≤ lim) := by
    rintro (h | h | h)
    · exact hon h
    · exact absurd (hnew.symm.trans h) Bool.false_ne_true
    · exact absurd h (not_le.2 hbeyond)
  rw [if_neg hdue, State.wbSt_keep rfl, State.wbSt_congr (State.log1_time ..), State.wbSt_setWb]
  exact ⟨rfl, State.logs_keep rfl rfl (State.logs_log1 s _ L.TIM_HOLD_LIMIT 7 k 0 0 rfl)⟩

theorem timOffsetLarge_logs (now : Nat) {s : State} (hr : s.Running) (hstrobed : s.time.strobed = true)
    (hlarge : s.inUse (R.TIM_WB_STEPLIM.STEPLIM 0) * usU < (s.wbSt 0).left.natAbs)
    (hdue : ∀ x ∈ (s.wbSt 0).largeAt, x + 60 * secU ≤ max s.now now) :
    Completes (.timOffsetLarge now) s fun t =>
      (t.wbSt 0).largeAt = some t.now ∧ s.Logs L.TIM_OFFSET_LARGE 7 0 t := by
  have he : exec (.timOffsetLarge now) s = execTimOffsetLarge now s := rfl
  unfold execTimOffsetLarge at he
  refine completes_act he hr ?_
  extract_lets b lim due
  have hdue' : due = true := by
    unfold due
    rcases hb : b.largeAt with _ | x
    · rfl
    · exact decide_eq_true (hdue x hb)
  have hgo : ¬ ((!(s.tick now).time.strobed) = true ∨ b.left.natAbs ≤ lim ∨ (!due) = true) := by
    rw [hdue', State.tick_time, hstrobed]
    rintro (h | h | h)
    · cases h
    · exact absurd h (not_le.2 hlarge)
    · cases h
  rw [if_neg hgo, State.wbSt_keep rfl, State.wbSt_congr (State.log1_time ..), State.wbSt_setWb]
  exact ⟨rfl, State.logs_keep rfl rfl (State.logs_log1 s _ L.TIM_OFFSET_LARGE 7 0 0 0 rfl)⟩

/-! The narrow bases and PPS -/

theorem State.owe_only (s : State) (n sync epoch : Nat) :
    State.Only { ports := true, strm := true } s (s.owe n sync epoch) := .each (fun _ _ => State.modStrm_only ..) ..

theorem nbWrap_takes (now : Nat) {n : Fin 6} {s : State} (hr : s.Running) : Completes (.nbWrap now n) s fun t =>
    Tbl.get 0 t.time.epochs n = wholeNs (s.wbAt (s.nbSrc n) t.now) / 2 ^ 32 := by
  have he : exec (.nbWrap now n) s = execNbWrap now n s := rfl
  unfold execNbWrap at he
  refine completes_act he hr ?_
  rw [keep_time, if_pos rfl, keep_now]
  extract_lets e _ u
  split
  next h => exact h
  next h =>
    rw [(u.owe_only ..).time rfl]
    exact Tbl.get_set_self ..

theorem ppsOutPulse_raises (now : Nat) {s : State} (hr : s.Running) (hstate : s.wbState (s.get R.TIM_PPS.PPS_SRC) ≠ 0)
    (hwidth : s.get R.TIM_PPS.WIDTH ≠ 0)
    (hsec : s.time.ppsSec ≠ some (secOf (s.wbAt (s.get R.TIM_PPS.PPS_SRC) (max s.now now)))) :
    Completes (.ppsOutPulse now) s fun t => t.time.ppsHigh = some (t.now + s.get R.TIM_PPS.WIDTH * 10 * usU) := by
  have he : exec (.ppsOutPulse now) s = execPpsOutPulse now s := rfl
  unfold execPpsOutPulse at he
  refine completes_act he hr ?_
  rw [keep_time, if_pos rfl, keep_now]
  extract_lets k w sec
  have hdue : ¬ ((s.tick now).wbState k = 0 ∨ w = 0 ∨ (s.tick now).time.ppsSec = some sec) := by
    rintro (h | h | h)
    · exact hstate h
    · exact hwidth h
    · exact hsec h
  rw [if_neg hdue]
  rfl

/-- The captures of a PPS edge (R169). -/
def State.capturePps (s : State) : State :=
  ((s.put (R.TIM_PPSIN.CAP 0) (nsOf (s.wbNow 0))).put (R.TIM_PPSIN.CAP 1) (nsOf (s.wbNow 1))).put (R.TIM_PPSIN.CAP 2)
    (secOf (s.wbNow 0) % 2 ^ 16)

theorem nsOf_lt (x : Int) : nsOf x < 2 ^ 32 := (Nat.mod_lt _ (by decide)).trans (by decide)

theorem State.capturePps_caps (s : State) : s.capturePps.get (R.TIM_PPSIN.CAP 0) = nsOf (s.wbNow 0) ∧
    s.capturePps.get (R.TIM_PPSIN.CAP 1) = nsOf (s.wbNow 1) ∧
    s.capturePps.get (R.TIM_PPSIN.CAP 2) = secOf (s.wbNow 0) % 2 ^ 16 := by
  unfold State.capturePps
  refine ⟨?_, ?_, ?_⟩
  · rw [State.get_put_ne _ _ (by decide), State.get_put_ne _ _ (by decide), State.get_put _ _ _ (by decide)]
    exact Nat.mod_eq_of_lt (nsOf_lt _)
  · rw [State.get_put_ne _ _ (by decide), State.get_put _ _ _ (by decide)]
    exact Nat.mod_eq_of_lt (nsOf_lt _)
  · rw [State.get_put _ _ _ (by decide)]
    exact Nat.mod_eq_of_lt ((Nat.mod_lt _ (by decide)).trans (by decide))

/-- An edge of PPS_IN is captured on both bases; under another source it does nothing else (R169). -/
theorem ppsInEdge_captures (now : Nat) {s : State} (hr : s.Running) (hsrc : s.inUse (R.TIM_WB_CFG.SRC 1) ≠ 1) :
    Completes (.ppsInEdge now) s fun t => t.time.ppsIn = some t.now ∧ t.get (R.TIM_PPSIN.CAP 0) = nsOf (s.wbAt 0 t.now) ∧
      t.get (R.TIM_PPSIN.CAP 1) = nsOf (s.wbAt 1 t.now) ∧
      t.get (R.TIM_PPSIN.CAP 2) = secOf (s.wbAt 0 t.now) % 2 ^ 16 := by
  have he : exec (.ppsInEdge now) s = execPpsInEdge now s := rfl
  unfold execPpsInEdge at he
  refine completes_act he hr ?_
  extract_lets x0 x1 u v w _ y
  rw [if_pos (show y.inUse (R.TIM_WB_CFG.SRC 1) ≠ 1 from hsrc), keep_time, if_pos rfl, keep_now, State.get_keep rfl,
    State.get_keep rfl, State.get_keep rfl]
  have hy : ∀ f, y.get f = (s.tick now).capturePps.get f := State.get_congr rfl
  rw [hy, hy, hy]
  exact ⟨rfl, (s.tick now).capturePps_caps⟩

theorem ppsInLoss_holds (now : Nat) {x : Nat} {s : State} (hr : s.Running) (hedge : s.time.ppsIn = some x)
    (hsrc : s.inUse (R.TIM_WB_CFG.SRC 1) = 1) (hlate : x + 3 * secU ≤ max s.now now) (hstate : s.wbState 1 ≠ 0) :
    Completes (.ppsInLoss now) s fun t => t.wbState 1 = 3 := by
  have he : exec (.ppsInLoss now) s = execPpsInLoss now s := rfl
  unfold execPpsInLoss at he
  refine completes_act he hr ?_
  rw [State.wbState_keep rfl, State.tick_time, hedge]
  dsimp -zeta only
  rw [if_pos (show (s.tick now).inUse (R.TIM_WB_CFG.SRC 1) = 1 ∧ x + 3 * secU ≤ (s.tick now).now from ⟨hsrc, hlate⟩)]
  exact State.wbState_loseSource (s := s.tick now) (by decide) hstate

/-- Settles O5, by the lemma of each event. -/
theorem baseEventsComplete : Obligations.BaseEventsComplete :=
  ⟨fun now _ _ hr hon hnew hbeyond => holdLimitExceeded_logs now hr hon hnew hbeyond,
    fun now _ hr hstrobed hlarge hdue => timOffsetLarge_logs now hr hstrobed hlarge hdue,
    fun now _ _ hr => nbWrap_takes now hr,
    fun now _ hr hstate hwidth hsec => ppsOutPulse_raises now hr hstate hwidth hsec,
    fun now _ hr hsrc => ppsInEdge_captures now hr hsrc,
    fun now _ _ hr hedge hsrc hlate hstate => ppsInLoss_holds now hr hedge hsrc hlate hstate⟩

end Sys2Proof.Machine
end

section
/-! PROOF. The events of PTP (R159, R165, R166, R170). -/
namespace Sys2Proof.Machine

/-! Messages that leave: they wait at ports and change nothing else -/

/-- What puts items at egress ports alone. -/
abbrev egressParts : Parts := { regs := false, log := false, ports := true }

theorem State.sendPtp_only (s : State) (p : Nat) (m : PtpMsg) (rx own : Option Nat) :
    State.Only egressParts s (s.sendPtp p m rx own) := .ite (.refl ..) (s.enqueue_only ..)

theorem State.ptpOthers_only (s : State) (k p : Nat) (m : PtpMsg) (rx : Nat) :
    State.Only egressParts s (s.ptpOthers k p m rx) := .each (fun _ _ => State.sendPtp_only ..) ..

theorem State.ptpRelay_only (s : State) (k p : Nat) (m : PtpMsg) (rx : Nat) :
    State.Only egressParts s (s.ptpRelay k p m rx) := by
  unfold State.ptpRelay
  extract_lets one u
  split
  · exact .ite (.ite (.refl ..) (s.ptpOthers_only ..))
      (.ite (s.ptpOthers_only ..) ((s.ptpOthers_only ..).trans (State.ptpOthers_only ..)))
  · refine .ite (s.ptpOthers_only ..) ?_
    split
    · exact .ite (s.ptpOthers_only ..) (.refl ..)
    · exact .refl ..
  · exact s.ptpOthers_only ..

theorem State.ptpForward_only (s : State) (k p : Nat) (m : PtpMsg) : State.Only egressParts s (s.ptpForward k p m) :=
  .ite (.refl ..) (.ite (.ite (s.ptpRelay_only ..) (.refl ..)) (s.ptpOthers_only ..))

/-! What a clock keeps -/

@[simp] theorem State.ptp_setPtp (s : State) (k : Nat) (x : PtpSt) : (s.setPtp k x).ptp k = x := Tbl.get_set_self ..

@[simp] theorem PtpSt.at_setAt (x : PtpSt) (p : Nat) (y : PtpPort) : (x.setAt p y).at_ p = y := Tbl.get_set_self ..

theorem State.ptp_congr {s t : State} (h : t.time = s.time) (k : Nat) : t.ptp k = s.ptp k := by
  rw [State.ptp, h, State.ptp]

theorem State.ptp_keep {p : Parts} (hp : p.time = true) (s t : State) (k : Nat) : (keep p s t).ptp k = t.ptp k :=
  State.ptp_congr (by rw [keep_time, if_pos hp]) k

/-! The time of a received message: it is the base's with the compensations of R170, none of which a count of frames
touches. -/

/-- The registers that give the time of a message on port `p`. -/
abbrev tsFields (p : Nat) : List FldAt :=
  [R.TIM_PORT_ING.ING p, R.TIM_PORT_PCS.PCS p, R.TIM_PORT_EXT.EXTING p, R.TIM_PORT_ASYM.ASYM p]

theorem State.ingTs_congr {s t : State} {p : Nat} (hsys : t.sys = s.sys) (htime : t.time = s.time) (hlive : t.live = s.live)
    (hget : ∀ f ∈ tsFields p, t.get f = s.get f) (k n : Nat) : t.ingTs k p n = s.ingTs k p n := by
  have hcomp : t.ingComp p = s.ingComp p := by
    unfold State.ingComp
    rw [hget (R.TIM_PORT_ING.ING p) (by simp), hget (R.TIM_PORT_PCS.PCS p) (by simp),
      hget (R.TIM_PORT_EXT.EXTING p) (by simp), State.inUse_congr hlive]
  rw [State.ingTs, State.ingTs, hcomp, State.wbAt, State.wbAt, hsys, State.wbSt_congr htime]

theorem State.asym_congr {s t : State} {p : Nat} (hget : ∀ f ∈ tsFields p, t.get f = s.get f) : t.asym p = s.asym p := by
  rw [State.asym, hget (R.TIM_PORT_ASYM.ASYM p) (by simp), State.asym]

theorem tsFields_apart_rxfrm {p : Nat} (hp : p < 4) : ∀ f ∈ tsFields p, f.Apart (R.PRT_P_CNT0.RXFRM p) := by
  intro f hf
  simp only [List.mem_cons, List.not_mem_nil, or_false] at hf
  rcases hf with rfl | rfl | rfl | rfl
  · exact .inl (show 0x4000204 + p * 0x20 ≠ 0x7000040 + p * 0x1000 by omega)
  · exact .inl (show 0x4000208 + p * 0x20 ≠ 0x7000040 + p * 0x1000 by omega)
  · exact .inl (show 0x400020c + p * 0x20 ≠ 0x7000040 + p * 0x1000 by omega)
  · exact .inl (show 0x4000210 + p * 0x20 ≠ 0x7000040 + p * 0x1000 by omega)

theorem portUp_apart_rxfrm (p : Nat) : (R.PRT_P_STAT.UP p).Apart (R.PRT_P_CNT0.RXFRM p) :=
  .inl (show 0x7000004 + p * 0x1000 ≠ 0x7000040 + p * 0x1000 by omega)

/-! The commands -/

/-- A two-step Sync is kept with its corrected time until its Follow_Up (R166, R170). -/
theorem State.ptpUse_twoStep (s : State) (k p : Nat) {m : PtpMsg} (hkind : m.kind = .sync) (htwo : m.twoStep = true) :
    (((s.ptpUse k p m).ptp k).at_ p).pend = some (m.seq, s.ingTs k p s.now, m.corr + s.asym p) := by
  unfold State.ptpUse
  extract_lets x y t c
  rw [hkind]
  dsimp -zeta only
  rw [if_pos htwo, State.ptp_setPtp, PtpSt.at_setAt]

theorem ptpRx_keeps (now : Nat) {port : Fin 4} {m : PtpMsg} {k : Nat} {s : State} (hr : s.Running) (hport : port.val < 2)
    (hlink : s.on (R.PRT_P_STAT.LINK port) = true) (hup : s.portUp port = true) (hinst : s.instanceOf m = some k)
    (hform : m.malformed = false) (hkind : m.kind = .sync) (htwo : m.twoStep = true) :
    Completes (.ptpRx now port m) s fun t =>
      ((t.ptp k).at_ port).pend = some (m.seq, s.ingTs k port t.now, m.corr + s.asym port) := by
  have he : exec (.ptpRx now port m) s = execPtpRx now port m s := rfl
  unfold execPtpRx at he
  refine completes_act he hr ?_
  rw [State.ptp_keep rfl, keep_now]
  extract_lets p u
  have hup' : u.portUp p = true := by
    rw [State.portUp, State.on, State.get_bump_ne _ _ (portUp_apart_rxfrm p)]
    exact hup
  have hinst' : u.instanceOf m = some k := hinst
  rw [if_neg (show ¬ (!(s.tick now).on (R.PRT_P_STAT.LINK p)) = true by
    rw [show (s.tick now).on (R.PRT_P_STAT.LINK p) = true from hlink]; decide), hup', if_neg (by decide), hinst']
  dsimp -zeta only
  have hget : ∀ f ∈ tsFields p, u.get f = s.get f := fun f hf => State.get_bump_ne _ _ (tsFields_apart_rxfrm port.2 f hf)
  have hlive : u.live = s.live := rfl
  have htime : u.time = s.time := rfl
  have hsys : u.sys = s.sys := rfl
  have hnow : u.now = (s.tick now).now := rfl
  have hpath : u.inPath k p = true := by rw [State.inPath, decide_eq_true (show p < 2 from hport), Bool.true_or]
  have hreq : ¬ (m.kind = .pdelayReq ∧ (!u.endToEnd k) = true) := by rw [hkind]; simp
  rw [hform, if_neg (by decide), hpath, if_neg (by decide), if_neg hreq, if_pos hport]
  clear_value u
  have hf := u.ptpForward_only k p m
  generalize u.ptpForward k p m = v at hf
  have hvget : ∀ f ∈ tsFields p, v.get f = s.get f := fun f hm => (State.get_congr (hf.regs rfl) f).trans (hget f hm)
  rw [v.ptpUse_twoStep k p hkind htwo, hf.now, hnow, State.asym_congr hvget,
    State.ingTs_congr ((hf.sys rfl).trans hsys) ((hf.time rfl).trans htime) ((hf.live rfl).trans hlive) hvget]

theorem ptpDelayReqSend_counts (now : Nat) {k : Fin 2} {s : State} (hr : s.Running)
    (hen : s.inUse (R.TIM_PTP_CFG.EN k) = 1) : Completes (.ptpDelayReqSend now k) s fun t =>
      (t.ptp k).dseq = ((s.ptp k).dseq + 1) % 2 ^ 16 := by
  have he : exec (.ptpDelayReqSend now k) s = execPtpDelayReqSend now k s := rfl
  unfold execPtpDelayReqSend at he
  refine completes_act he hr ?_
  rw [State.ptp_keep rfl]
  extract_lets x u m
  have hon : ¬ (s.tick now).inUse (R.TIM_PTP_CFG.EN k) = 0 := by
    rw [State.inUse_tick, hen]
    decide
  rw [if_neg hon]
  have hsent : State.Only egressParts u (if u.endToEnd k then u.sendPtp (u.ptpPort k) (m (u.ptpPort k) .delayReq) none (some k)
      else u.each ([0, 1, 2, 3].filter fun p => u.inPath k p) fun s p => s.sendPtp p (m p .pdelayReq) none (some k)) :=
    .ite (u.sendPtp_only ..) (.each (fun _ _ => State.sendPtp_only ..) ..)
  rw [State.ptp_congr (hsent.time rfl), State.ptp_setPtp]
  rfl

theorem ptpSyncLoss_holds (now : Nat) {k : Fin 2} {s : State} (hr : s.Running) (hen : s.inUse (R.TIM_PTP_CFG.EN k) = 1)
    (hport : (s.tick now).delivers k (s.ptpPort k) = false)
    (hother : (s.tick now).delivers k (otherPort (s.ptpPort k)) = false)
    (hpps : k.val = 1 → s.inUse (R.TIM_WB_CFG.SRC 1) ≠ 1) (hstate : s.wbState k ≠ 0) :
    Completes (.ptpSyncLoss now k) s fun t => t.wbState k = 3 := by
  have he : exec (.ptpSyncLoss now k) s = execPtpSyncLoss now k s := rfl
  unfold execPtpSyncLoss at he
  refine completes_act he hr ?_
  rw [State.wbState_keep rfl]
  extract_lets p
  have hp : (s.tick now).delivers k p = false := hport
  have hq : (s.tick now).delivers k (otherPort p) = false := hother
  have hon : ¬ ((s.tick now).inUse (R.TIM_PTP_CFG.EN k) = 0 ∨ (s.tick now).delivers k p = true) := by
    rw [State.inUse_tick, hen, hp]
    decide
  rw [if_neg hon, hq, if_neg Bool.false_ne_true,
    if_neg (show ¬ (k.val = 1 ∧ (s.tick now).inUse (R.TIM_WB_CFG.SRC 1) = 1) from fun h => hpps h.1 h.2)]
  exact State.wbState_loseSource (s := s.tick now) k.2 hstate

/-- Settles O23, by the lemma of each event. -/
theorem ptpEventsComplete : Obligations.PtpEventsComplete :=
  ⟨fun now _ _ _ _ hr hport hlink hup hinst hform hkind htwo => ptpRx_keeps now hr hport hlink hup hinst hform hkind htwo,
    fun now _ _ hr hen => ptpDelayReqSend_counts now hr hen,
    fun now _ _ hr hen hport hother hpps hstate => ptpSyncLoss_holds now hr hen hport hother hpps hstate⟩

end Sys2Proof.Machine
end

section
/-! PROOF. The scheduled outputs (R189 to R192). -/
namespace Sys2Proof.Machine

/-! A digital output and its queue -/

theorem State.doSt_congr {s t : State} (h : t.dio = s.dio) (d : Nat) : t.doSt d = s.doSt d := by
  rw [State.doSt, h, State.doSt]

theorem State.doSt_keep {p : Parts} (hp : p.dio = true) (s t : State) (d : Nat) : (keep p s t).doSt d = t.doSt d :=
  State.doSt_congr (by rw [keep_dio, if_pos hp]) d

@[simp] theorem State.doSt_setDo (s : State) (d : Nat) (x : DoSt) : (s.setDo d x).doSt d = x := Tbl.get_set_self ..

/-- Blanking around an edge leaves the outputs themselves. -/
theorem State.doSt_blankEdge (s : State) (d : Nat) (level scheduled : Bool) (t : Int) (n : Nat) :
    (s.blankEdge d level scheduled t).doSt n = s.doSt n := by
  unfold State.blankEdge
  split
  · rfl
  · rfl

/-- An output that is driven has the level, and its queue as before. -/
theorem State.doSt_driveDo (s : State) (d : Nat) (level scheduled : Bool) :
    (s.driveDo d level scheduled).doSt d = { s.doSt d with level := level } := by
  unfold State.driveDo
  extract_lets x u
  split
  next h => rw [← h]
  next h =>
    split
    · exact s.doSt_setDo ..
    · rw [State.doSt_blankEdge]
      exact s.doSt_setDo ..

theorem State.mirror_only (s : State) (m : Mirror) :
    State.Only { regs := false, log := false, pair := true } s (s.mirror m) := .ite rfl (.refl ..)

/-! Pushing and clearing -/

/-- CLEAR leaves the entries that are fixed (R189). -/
theorem State.doqCtl_clear (s : State) {v : Nat} (h : hasBit v 10 = true) :
    ((s.doqCtl v).doSt (v % 32)).queue = (s.doSt (v % 32)).queue.filter (·.fixed.isSome) := by
  unfold State.doqCtl
  extract_lets d x u
  rw [if_pos h, State.doSt_setDo]

/-- A push to a queue with room appends its entry (R189). -/
theorem State.doqCtl_push (s : State) {v : Nat} (h : hasBit v 10 = false) (hroom : (s.doSt (v % 32)).queue.length < 16) :
    ((s.doqCtl v).doSt (v % 32)).queue = (s.doSt (v % 32)).queue ++ [s.newEntry v] := by
  unfold State.doqCtl
  extract_lets d x u lo hi byPos target e w
  have hm : State.Only { regs := false, log := false, pair := true } s u := s.mirror_only _
  have he : e = s.newEntry v := by
    unfold e target byPos lo hi State.newEntry
    rw [hm.dio rfl, State.get_congr (hm.regs rfl), State.get_congr (hm.regs rfl)]
  rw [if_neg (by simp [h]), if_neg (not_le.2 hroom), State.doSt_setDo, he]

theorem doq_apart_rsvd (q : Requester) : R.IOT_DOQ_P0.P.Apart (R.SYS_REQERR2.RSVD q.no) ∧
    R.IOT_DOQ_P1.P.Apart (R.SYS_REQERR2.RSVD q.no) := by
  have hq : (R.SYS_REQERR2.RSVD q.no).reg.addr = 0x444 + q.no * 0x8 := rfl
  have hno : q.no < 4 := by cases q <;> simp [Requester.no]
  refine ⟨.inl ?_, .inl ?_⟩
  · rw [hq, show R.IOT_DOQ_P0.P.reg.addr = 0x1100900 from rfl]
    omega
  · rw [hq, show R.IOT_DOQ_P1.P.reg.addr = 0x1100904 from rfl]
    omega

/-- Counting a reserved bit leaves what a push appends. -/
theorem State.newEntry_rsvd (s : State) (q : Requester) (v : Nat) :
    (s.bump (R.SYS_REQERR2.RSVD q.no)).newEntry v = s.newEntry v := by
  unfold State.newEntry
  rw [State.get_bump_ne _ _ (doq_apart_rsvd q).1, State.get_bump_ne _ _ (doq_apart_rsvd q).2]
  rfl

/-- An accepted write of IOT_DOQ_CTL is answered, and does to the queues what it does in the state at the write or in the
one in which a reserved bit has been counted. -/
theorem completes_doqCtl {i : Instr} {now : Nat} {req : Requester} {data : Word} {s : State} {P : DoSt → Prop}
    (he : exec i s = act { dioParts with pair := true } now s fun s =>
      s.cmdWrite req R.IOT_DOQ_CTL.addr 0x7FF data fun s => s.doqCtl data.toNat) (hr : s.Running)
    (hp : s.Accepts req R.IOT_DOQ_CTL.addr)
    (h : ∀ u : State, u.dio = s.dio → u.newEntry data.toNat = s.newEntry data.toNat →
      P ((u.doqCtl data.toNat).doSt (data.toNat % 32))) :
    Completes i s fun t => t.Answered req 0 ∧ P (t.doSt (data.toNat % 32)) := by
  refine completes_act he hr ?_
  rw [State.cmdWrite_taken (s := s.tick now) hp, State.doSt_keep rfl]
  refine ⟨State.answered_of_resp rfl, ?_⟩
  rw [State.doSt_congr (State.answer_dio ..)]
  split
  · exact h _ rfl ((s.tick now).newEntry_rsvd req _)
  · exact h _ rfl rfl

theorem doPush_appends (now : Nat) {req : Requester} {data : Word} {s : State} (hr : s.Running)
    (hp : s.Accepts req R.IOT_DOQ_CTL.addr) (hpush : hasBit data.toNat 10 = false)
    (hroom : (s.doSt (data.toNat % 32)).queue.length < 16) : Completes (.doPush now req data) s fun t =>
      t.Answered req 0 ∧ (t.doSt (data.toNat % 32)).queue =
        (s.doSt (data.toNat % 32)).queue ++ [s.newEntry data.toNat] := by
  refine completes_doqCtl
    (P := fun x => x.queue = (s.doSt (data.toNat % 32)).queue ++ [s.newEntry data.toNat]) rfl hr hp fun u hdio hnew => ?_
  rw [← State.doSt_congr hdio] at hroom ⊢
  rw [u.doqCtl_push hpush hroom, hnew]

theorem doClear_filters (now : Nat) {req : Requester} {data : Word} {s : State} (hr : s.Running)
    (hp : s.Accepts req R.IOT_DOQ_CTL.addr) (hclear : hasBit data.toNat 10 = true) :
    Completes (.doClear now req data) s fun t => t.Answered req 0 ∧
      (t.doSt (data.toNat % 32)).queue = (s.doSt (data.toNat % 32)).queue.filter (·.fixed.isSome) := by
  refine completes_doqCtl
    (P := fun x => x.queue = (s.doSt (data.toNat % 32)).queue.filter (·.fixed.isSome)) rfl hr hp fun u hdio _ => ?_
  rw [← State.doSt_congr hdio]
  exact u.doqCtl_clear hclear

/-! Fixing and executing the only entry of a queue -/

/-- The only entry of a queue, fixed in time, keeps its place with its edge time (R191, R192). -/
theorem State.fixEntry_only_entry {s : State} {d : Nat} {e : DoEntry} {x : Int} (hq : (s.doSt d).queue = [e])
    (hn : s.wbNow 0 ≤ x) : ((s.fixEntry d e x).doSt d).queue.map (·.fixed) = [some x] := by
  unfold State.fixEntry
  extract_lets now late y _ _ same others u y' edge v
  have hlate : ¬ 0 < late := not_lt.2 (Int.sub_nonpos_of_le hn)
  have hy : y.queue = [e] := hq
  have hsame : same e = false := by
    unfold same
    simp
  have hothers : others = [] := by
    unfold others
    rw [hy, List.filter_cons_of_neg (by simp [hsame]), List.filter_nil]
  rw [if_neg hlate, hothers, List.any_nil, if_neg Bool.false_ne_true]
  have hy' : y'.queue = [e] := by
    show y.queue.filter (fun o => !same o) = [e]
    rw [hy, List.filter_cons_of_pos (by simp [hsame]), List.filter_nil]
  have hv : (v.doSt d).queue.map (·.fixed) = [some x] := by
    rw [State.doSt_setDo, hy']
    simp
  split
  · rw [State.doSt_blankEdge]
    exact hv
  · exact hv

theorem doFix_fixes (now : Nat) {d : Fin 32} {e : DoEntry} {x : Int} {s : State} (hr : s.Running)
    (hq : (s.doSt d).queue = [e]) (hdue : (s.tick now).fixDue d e = some x) (hn : s.wbAt 0 (max s.now now) ≤ x) :
    Completes (.doFix now d) s fun t => (t.doSt d).queue.map (·.fixed) = [some x] := by
  have he : exec (.doFix now d) s = execDoFix now d s := rfl
  unfold execDoFix at he
  refine completes_act he hr ?_
  have hq' : ((s.tick now).doSt d).queue = [e] := hq
  rw [State.doSt_keep rfl]
  extract_lets due
  have hdue' : due = [(x, e)] := by
    unfold due
    rw [hq', List.filterMap_cons_some (b := (x, e)) (by rw [hdue]; rfl)]
    rfl
  rw [hdue']
  exact State.fixEntry_only_entry hq' hn

theorem State.runEntry_only_entry {s : State} {d : Nat} {e : DoEntry} (hq : (s.doSt d).queue = [e])
    (hheld : s.doHeld = false) : ((s.runEntry d e).doSt d).queue = [] ∧ ((s.runEntry d e).doSt d).level = e.level := by
  unfold State.runEntry
  extract_lets x
  have hx : x.queue = [e] := hq
  rw [hheld, if_neg Bool.false_ne_true, State.doSt_driveDo, State.doSt_setDo, hx]
  exact ⟨by simp, rfl⟩

theorem doEdge_executes (now : Nat) {d : Fin 32} {e : DoEntry} {x : Int} {s : State} (hr : s.Running)
    (hq : (s.doSt d).queue = [e]) (hfix : e.fixed = some x) (hn : x ≤ s.wbAt 0 (max s.now now))
    (hheld : s.doHeld = false) :
    Completes (.doEdge now d) s fun t => (t.doSt d).queue = [] ∧ (t.doSt d).level = e.level := by
  have he : exec (.doEdge now d) s = execDoEdge now d s := rfl
  unfold execDoEdge at he
  refine completes_act he hr ?_
  have hq' : ((s.tick now).doSt d).queue = [e] := hq
  rw [State.doSt_keep rfl]
  extract_lets t due
  have hdue : due = [(x, e)] := by
    unfold due
    rw [hq', List.filterMap_cons_some (b := (x, e)) (by rw [hfix]; exact if_pos hn)]
    rfl
  rw [hdue]
  exact State.runEntry_only_entry (s := s.tick now) hq' hheld

/-- Settles O13, by the lemma of each command. -/
theorem outputCommandsComplete : Obligations.OutputCommandsComplete :=
  ⟨fun now _ _ _ hr hp hpush hroom => doPush_appends now hr hp hpush hroom,
    fun now _ _ _ hr hp hclear => doClear_filters now hr hp hclear,
    fun now _ _ _ _ hr hq hdue hn => doFix_fixes now hr hq hdue hn,
    fun now _ _ _ _ hr hq hfix hn hheld => doEdge_executes now hr hq hfix hn hheld⟩

end Sys2Proof.Machine
end

section
/-! PROOF. A tempo base among the others: what a command does to one of them (R176 to R182). -/
namespace Sys2Proof.Machine

/-! A tempo base and its registers -/

@[simp] theorem State.tempo_setTempo (s : State) (n : Nat) (x : TmpSt) : (s.setTempo n x).tempo n = x :=
  Tbl.get_set_self ..

theorem State.tempo_setTempo_ne (s : State) {n m : Nat} (x : TmpSt) (h : n ≠ m) : (s.setTempo m x).tempo n = s.tempo n :=
  Tbl.get_set_ne _ _ _ h

theorem State.tempo_congr {s t : State} (h : t.time = s.time) (n : Nat) : t.tempo n = s.tempo n := by
  rw [State.tempo, h, State.tempo]

theorem State.tempo_keep {p : Parts} (hp : p.time = true) (s t : State) (n : Nat) : (keep p s t).tempo n = t.tempo n :=
  State.tempo_congr (by rw [keep_time, if_pos hp]) n

theorem State.tempoState_keep {p : Parts} (hp : p.regs = true) (s t : State) (n : Nat) :
    (keep p s t).tempoState n = t.tempoState n := State.get_keep hp ..

/-- A field of one of the registers of tempo base `n`. -/
abbrev FldAt.OfTempo (f : FldAt) (n : Nat) : Prop := f.reg.addr / 0x40 = 0x100030 + n

theorem FldAt.OfTempo.apart {f g : FldAt} {n m : Nat} (hf : f.OfTempo n) (hg : g.OfTempo m) (h : m ≠ n) : f.Apart g :=
  .inl fun ha => h (by rw [FldAt.OfTempo, ha, hg] at hf; omega)

theorem FldAt.OfTempo.offLog {f : FldAt} {n : Nat} (hf : f.OfTempo n) (hn : n < 4) : f.OffLog :=
  FldAt.offLog_of_between (by rw [FldAt.OfTempo] at hf; omega) (by rw [FldAt.OfTempo] at hf; omega)

theorem tmpState_ofTempo (n : Nat) : (R.TIM_TMP_STAT.STATE n).OfTempo n := by
  show (0x4000c1c + n * 0x40) / 0x40 = 0x100030 + n
  omega
theorem tmpEncErr_ofTempo (n : Nat) : (R.TIM_TMP_STAT.ENCERR n).OfTempo n := by
  show (0x4000c1c + n * 0x40) / 0x40 = 0x100030 + n
  omega
theorem tmpDiscard_ofTempo (n : Nat) : (R.TIM_TMP_STAT.DISCARD n).OfTempo n := by
  show (0x4000c1c + n * 0x40) / 0x40 = 0x100030 + n
  omega
theorem tmpErr_ofTempo (n : Nat) : (R.TIM_TMP_ERR.TPERR n).OfTempo n := by
  show (0x4000c18 + n * 0x40) / 0x40 = 0x100030 + n
  omega
theorem tmpZposL_ofTempo (n : Nat) : (R.TIM_TMP_ZPOSL.ZPOS n).OfTempo n := by
  show (0x4000c20 + n * 0x40) / 0x40 = 0x100030 + n
  omega
theorem tmpZposH_ofTempo (n : Nat) : (R.TIM_TMP_ZPOSH.ZPOS n).OfTempo n := by
  show (0x4000c24 + n * 0x40) / 0x40 = 0x100030 + n
  omega

/-- A measurement leaves the fields that no entry of the log writes. -/
theorem get_monAdd (s : State) (u : Nat) (v : Int) {f : FldAt} (h : f.OffLog) : (monAdd s u v).get f = s.get f := by
  unfold monAdd
  extract_lets m b m' beyond
  split
  · rfl
  split
  · rw [State.get_setMon, State.hint_get_ne _ _ h.2.2.2, State.get_log1 _ _ _ _ _ _ h]
  · rw [State.get_setMon]
    split
    · rfl
    · rfl

theorem State.get_measure (s : State) (q i : Nat) (v : Int) {f : FldAt} (h : f.OffLog) :
    (s.measure q i v).get f = s.get f :=
  State.each_keeps (fun s => s.get f) (fun s u => by
    split
    · exact get_monAdd _ _ _ h
    · rfl) ..

/-! Two states with the same base -/

/-- Tempo base `n`, and what its position and its commands look at, are in `t` as they are in `s`. -/
structure State.SameBase (n : Nat) (s t : State) : Prop where
  now : t.now = s.now
  live : t.live = s.live
  sys : t.sys = s.sys
  wb : t.time.wb = s.time.wb
  base : t.tempo n = s.tempo n
  regs : ∀ f : FldAt, f.OfTempo n → t.get f = s.get f

namespace State.SameBase

variable {n m : Nat} {s t u : State}

theorem refl (n : Nat) (s : State) : SameBase n s s := ⟨rfl, rfl, rfl, rfl, rfl, fun _ _ => rfl⟩

theorem trans (h : SameBase n s t) (h' : SameBase n t u) : SameBase n s u where
  now := h'.now.trans h.now
  live := h'.live.trans h.live
  sys := h'.sys.trans h.sys
  wb := h'.wb.trans h.wb
  base := h'.base.trans h.base
  regs := fun f hf => (h'.regs f hf).trans (h.regs f hf)

theorem ite {c : Prop} [Decidable c] (ht : SameBase n s t) (hu : SameBase n s u) : SameBase n s (if c then t else u) := by
  split
  · exact ht
  · exact hu

theorem tempoState (h : SameBase n s t) : t.tempoState n = s.tempoState n := h.regs _ (tmpState_ofTempo n)
theorem inUse (h : SameBase n s t) (f : FldAt) : t.inUse f = s.inUse f := State.inUse_congr h.live f
theorem tempoSrc (h : SameBase n s t) : t.tempoSrc n = s.tempoSrc n := h.inUse _

theorem encVel (h : SameBase n s t) (x : Nat) : t.encVel n x = s.encVel n x := by
  unfold State.encVel
  rw [h.base]

theorem wbAt (h : SameBase n s t) (k x : Nat) : t.wbAt k x = s.wbAt k x := by
  rw [State.wbAt, State.wbAt, State.wbSt, State.wbSt, h.sys, h.wb]

/-- The position of a base is a matter of the base, its settings and the time. -/
theorem tempoPos (h : SameBase n s t) (x : Nat) : t.tempoPos n x = s.tempoPos n x := by
  unfold State.tempoPos
  rw [h.base, h.tempoState, h.tempoSrc, h.encVel, h.inUse, State.cycleU_congr h.live, h.wbAt]

/-! What is done to another base, and what is logged, leaves base `n`. -/

theorem setTempo (s : State) (x : TmpSt) (h : m ≠ n) : SameBase n s (s.setTempo m x) :=
  ⟨rfl, rfl, rfl, rfl, s.tempo_setTempo_ne x (Ne.symm h), fun _ _ => rfl⟩

theorem put (s : State) {f : FldAt} (v : Nat) (hf : f.OfTempo m) (h : m ≠ n) : SameBase n s (s.put f v) :=
  ⟨rfl, rfl, rfl, rfl, rfl, fun _ hg => s.get_put_ne v (hg.apart hf h)⟩

theorem bump (s : State) {f : FldAt} (v : Nat) (hf : f.OfTempo m) (h : m ≠ n) : SameBase n s (s.bump f v) :=
  put s _ hf h

theorem log1 (s : State) (c k i d x : Nat) (hn : n < 4) : SameBase n s (s.log1 c k i d x) where
  now := s.log1_now ..
  live := s.log1_live ..
  sys := s.log1_sys ..
  wb := by rw [s.log1_time]
  base := State.tempo_congr (s.log1_time ..) n
  regs := fun _ hf => s.get_log1 _ _ _ _ _ (hf.offLog hn)

theorem measure (s : State) (q i : Nat) (v : Int) (hn : n < 4) : SameBase n s (s.measure q i v) where
  now := (s.measure_only ..).now
  live := (s.measure_only ..).live rfl
  sys := (s.measure_only ..).sys rfl
  wb := by rw [(s.measure_only ..).time rfl]
  base := State.tempo_congr ((s.measure_only ..).time rfl) n
  regs := fun _ hf => s.get_measure _ _ _ (hf.offLog hn)

theorem enterTempo (s : State) (st : Nat) (hn : n < 4) (h : m ≠ n) : SameBase n s (s.enterTempo m st) := by
  unfold State.enterTempo
  extract_lets _ u v
  have hu : SameBase n s u := .ite (setTempo s _ h) (.refl ..)
  have hv : SameBase n s v := hu.trans (put u st (tmpState_ofTempo m) h)
  exact .ite (.refl ..) (.ite hv (.ite (hv.trans (log1 v _ _ _ _ _ hn)) (.ite (hv.trans (log1 v _ _ _ _ _ hn)) hv)))

/-- The frame of a time command keeps the base that its effect leaves. -/
theorem keep (h : t.now = s.now) (hl : t.live = s.live) (hs : t.sys = s.sys) (n : Nat) :
    SameBase n t (keep timeParts s t) :=
  ⟨h.symm, hl.symm, hs.symm, rfl, rfl, fun _ _ => rfl⟩

end State.SameBase

/-! One base of those that a command runs over -/

theorem State.each_others {n : Nat} {f : State → Nat → State} (hother : ∀ s m, m ≠ n → State.SameBase n s (f s m))
    (s : State) {l : List Nat} (hn : n ∉ l) : State.SameBase n s (s.each l f) := by
  induction l generalizing s with
  | nil => exact .refl ..
  | cons m l ih =>
    obtain ⟨hm, hl⟩ := not_or.1 (mt List.mem_cons.2 hn)
    exact (hother s m (Ne.symm hm)).trans (ih (f s m) hl)

/-- Run over several bases, an operation that leaves the others does to base `n` what it does to it alone. -/
theorem State.each_base {n : Nat} {f : State → Nat → State} (hother : ∀ s m, m ≠ n → State.SameBase n s (f s m))
    (s : State) {l : List Nat} (hl : l.Nodup) (hn : n ∈ l) :
    ∃ u, State.SameBase n s u ∧ State.SameBase n (f u n) (s.each l f) := by
  induction l generalizing s with
  | nil => exact absurd hn List.not_mem_nil
  | cons m l ih =>
    obtain ⟨hm, hl⟩ := List.nodup_cons.1 hl
    by_cases h : m = n
    · subst h
      exact ⟨s, .refl .., (f s m).each_others hother hm⟩
    · obtain ⟨u, hu, hv⟩ := ih (f s m) hl ((List.mem_cons.1 hn).resolve_left (Ne.symm h))
      exact ⟨u, (hother s m h).trans hu, hv⟩

theorem State.tempoOf_nodup (s : State) (src e : Nat) : (s.tempoOf src e).Nodup := List.Nodup.filter _ (by decide)

theorem State.mem_tempoOf {s : State} {n src e : Nat} (hn : n < 4) (hsrc : s.tempoSrc n = src)
    (henc : src = 1 → s.inUse (R.TIM_TMP_CFG.ENC n) = e) : n ∈ s.tempoOf src e := by
  refine List.mem_filter.2 ⟨by simp only [List.mem_cons, List.not_mem_nil, or_false]; omega, ?_⟩
  by_cases h : src = 1
  · simp [hsrc, henc h]
  · simp [hsrc, h]

/-- A command that runs over the bases of a source does to base `n` of them what it does to it alone. -/
theorem completes_tempoOf {i : Instr} {now n src e : Nat} {s : State} {pre : State → State} {f : State → Nat → State}
    (he : exec i s = act timeParts now s fun s => (pre s).each (s.tempoOf src e) f) (hr : s.Running) (hn : n < 4)
    (hsrc : s.tempoSrc n = src) (henc : src = 1 → s.inUse (R.TIM_TMP_CFG.ENC n) = e)
    (hpre : State.SameBase n (s.tick now) (pre (s.tick now))) (hother : ∀ s m, m ≠ n → State.SameBase n s (f s m))
    (hself : ∀ s, (f s n).now = s.now ∧ (f s n).live = s.live ∧ (f s n).sys = s.sys) :
    Completes i s fun t => ∃ u, State.SameBase n (s.tick now) u ∧ State.SameBase n (f u n) t := by
  refine completes_act he hr ?_
  obtain ⟨u, hu, hv⟩ := (pre (s.tick now)).each_base hother ((s.tick now).tempoOf_nodup src e)
    (State.mem_tempoOf hn hsrc henc)
  obtain ⟨hnow, hlive, hsys⟩ := hself u
  have hu := hpre.trans hu
  exact ⟨u, hu, hv.trans (.keep (hv.now.trans (hnow.trans hu.now)) (hv.live.trans (hlive.trans hu.live))
    (hv.sys.trans (hsys.trans hu.sys)) n)⟩

/-! Entering a state of R182 -/

theorem State.enterTempo_only (s : State) (n st : Nat) : State.Only { time := true } s (s.enterTempo n st) := by
  unfold State.enterTempo
  extract_lets _ u v
  have hu : State.Only { time := true } s u := .ite (by exact rfl) (.refl ..)
  have hv : State.Only { time := true } s v := hu.trans (by exact rfl)
  have hlog : ∀ c, State.Only { time := true } s (v.log1 c 7 n) := fun c => hv.andThen (.log1 (.refl ..) c) (by rfl)
  exact .ite (.refl ..) (.ite hv (.ite (hlog _) (.ite (hlog _) hv)))

/-- Entering a state changes nothing of the base but the position that it holds when it is lost. -/
theorem State.enterTempo_tempo (s : State) (n st : Nat) :
    ∃ p, (s.enterTempo n st).tempo n = { s.tempo n with held := p } ∧ (st ≠ 3 → p = (s.tempo n).held) := by
  unfold State.enterTempo
  extract_lets _ u v
  have hu : ∃ p, u.tempo n = { s.tempo n with held := p } ∧ (st ≠ 3 → p = (s.tempo n).held) := by
    unfold u
    split
    next h => exact ⟨_, s.tempo_setTempo .., fun h' => absurd h h'⟩
    next h => exact ⟨_, rfl, fun _ => rfl⟩
  have hlog : ∀ c, (v.log1 c 7 n).tempo n = u.tempo n := fun c => State.tempo_congr (State.log1_time ..) n
  split_ifs
  · exact ⟨_, rfl, fun _ => rfl⟩
  · exact hu
  · rw [hlog]
    exact hu
  · rw [hlog]
    exact hu
  · exact hu

theorem State.enterTempo_tempo_of_ne (s : State) (n : Nat) {st : Nat} (h : st ≠ 3) :
    (s.enterTempo n st).tempo n = s.tempo n := by
  obtain ⟨p, hp, hheld⟩ := s.enterTempo_tempo n st
  rw [hp, hheld h]

theorem State.tempoState_enterTempo (s : State) {n st : Nat} (hn : n < 4) (hst : st < 4) :
    (s.enterTempo n st).tempoState n = st := by
  unfold State.enterTempo
  extract_lets _ u v
  have hv : v.tempoState n = st := (State.get_put _ _ _ (show 0 + 2 ≤ 32 by decide)).trans (Nat.mod_eq_of_lt hst)
  have hlog : ∀ c, (v.log1 c 7 n).tempoState n = st := fun c =>
    (State.SameBase.log1 v c 7 n 0 0 hn).tempoState.trans hv
  split_ifs with h
  · exact h
  · exact hv
  · exact hlog _
  · exact hlog _
  · exact hv

end Sys2Proof.Machine
end

section
/-! PROOF. The events of encoders and of the mains (R177, R178, R182). -/
namespace Sys2Proof.Machine

/-! An edge of an encoder -/

/-- A decoded edge moves a base on its encoder by `d` (R177). -/
def State.moveBase (s : State) (n : Nat) (d : Int) : State :=
  let b := s.tempo n
  let es := (s.now, d) :: b.edges
  let recent := es.filter fun e => decide (s.now < e.1 + msU)
  s.setTempo n { b with pos := b.pos + d, edges := if recent.length < 2 then es.take 2 else recent }

theorem State.moveBase_pos (s : State) (n : Nat) (d : Int) : ((s.moveBase n d).tempo n).pos = (s.tempo n).pos + d := by
  unfold State.moveBase
  extract_lets
  rw [State.tempo_setTempo]

/-- SCALE of a base in use. -/
def State.tempoScale (s : State) (n : Nat) : Int := sgn 32 (s.inUse (R.TIM_TMP_SCALE.SCALE n))

theorem exec_encoderEdge_up (now : Nat) (enc : Fin 4) (s : State) : exec (.encoderEdge now enc .up) s =
    act timeParts now s fun s => (s.rawEdge enc .up).each (s.tempoOf 1 enc) fun s n => s.moveBase n (s.tempoScale n) := rfl
theorem exec_encoderEdge_down (now : Nat) (enc : Fin 4) (s : State) : exec (.encoderEdge now enc .down) s =
    act timeParts now s fun s => (s.rawEdge enc .down).each (s.tempoOf 1 enc) fun s n => s.moveBase n (-s.tempoScale n) := rfl
theorem exec_encoderEdge_illegal (now : Nat) (enc : Fin 4) (s : State) : exec (.encoderEdge now enc .illegal) s =
    act timeParts now s fun s => (s.rawEdge enc .illegal).each (s.tempoOf 1 enc) fun s n =>
      (s.bump (R.TIM_TMP_STAT.ENCERR n)).logCycle L.ENC_ERR 7 n := rfl

/-- The raw count of an encoder is no part of a tempo base. -/
theorem State.SameBase.rawEdge (n : Nat) (s : State) (enc : Nat) (edge : QuadEdge) :
    State.SameBase n s (s.rawEdge enc edge) := by
  cases edge with
  | up => exact ⟨rfl, rfl, rfl, rfl, rfl, fun _ _ => rfl⟩
  | down => exact ⟨rfl, rfl, rfl, rfl, rfl, fun _ _ => rfl⟩
  | illegal => exact ⟨rfl, rfl, rfl, rfl, rfl, fun _ _ => rfl⟩

theorem State.SameBase.tempoScale {n : Nat} {s t : State} (h : State.SameBase n s t) : t.tempoScale n = s.tempoScale n :=
  congrArg (sgn 32) (h.inUse _)

/-- A counted edge, whose meaning moves each base of its encoder by `d` of its SCALE, does so to base `n`. -/
theorem completes_count {i : Instr} {now : Nat} {enc n : Fin 4} {edge : QuadEdge} {d : Int → Int} {s : State}
    (he : exec i s = act timeParts now s fun s =>
      (s.rawEdge enc edge).each (s.tempoOf 1 enc) fun s n => s.moveBase n (d (s.tempoScale n))) (hr : s.Running)
    (hsrc : s.tempoSrc n = 1) (henc : s.inUse (R.TIM_TMP_CFG.ENC n) = enc.val) :
    Completes i s fun t => (t.tempo n).pos = (s.tempo n).pos + d (s.tempoScale n) := by
  obtain ⟨t, ht, u, hu, hv⟩ := completes_tempoOf he hr n.2 hsrc (fun _ => henc) (.rawEdge n _ enc edge)
    (fun s m hm => .setTempo s _ hm) (fun s => ⟨rfl, rfl, rfl⟩)
  refine ⟨t, ht, ?_⟩
  beta_reduce
  rw [hv.base, State.moveBase_pos, hu.base, hu.tempoScale]
  rfl

theorem encoderEdge_moves (now : Nat) {enc n : Fin 4} {edge : QuadEdge} {s : State} (hr : s.Running)
    (hsrc : s.tempoSrc n = 1) (henc : s.inUse (R.TIM_TMP_CFG.ENC n) = enc.val) (hedge : edge ≠ .illegal) :
    Completes (.encoderEdge now enc edge) s fun t => (t.tempo n).pos = (s.tempo n).pos +
      (if edge = .up then sgn 32 (s.inUse (R.TIM_TMP_SCALE.SCALE n)) else -sgn 32 (s.inUse (R.TIM_TMP_SCALE.SCALE n))) := by
  cases edge with
  | up => exact completes_count (d := fun x => x) (exec_encoderEdge_up ..) hr hsrc henc
  | down => exact completes_count (d := fun x => -x) (exec_encoderEdge_down ..) hr hsrc henc
  | illegal => exact absurd rfl hedge

theorem encoderEdge_counts_illegal (now : Nat) {enc n : Fin 4} {s : State} (hr : s.Running) (hsrc : s.tempoSrc n = 1)
    (henc : s.inUse (R.TIM_TMP_CFG.ENC n) = enc.val) : Completes (.encoderEdge now enc .illegal) s fun t =>
      (t.tempo n).pos = (s.tempo n).pos ∧
        t.get (R.TIM_TMP_STAT.ENCERR n) = satAdd 8 (s.get (R.TIM_TMP_STAT.ENCERR n)) 1 := by
  have hcycle : ∀ (s : State) (m : Nat), State.SameBase n s (s.logCycle L.ENC_ERR 7 m) := fun s m =>
    ⟨rfl, rfl, rfl, rfl, rfl, fun _ _ => rfl⟩
  obtain ⟨t, ht, u, hu, hv⟩ := completes_tempoOf (exec_encoderEdge_illegal now enc s) hr n.2 hsrc (fun _ => henc)
    (.rawEdge n _ enc .illegal) (fun s m hm => (State.SameBase.bump s 1 (tmpEncErr_ofTempo m) hm).trans (hcycle _ m))
    (fun s => ⟨rfl, rfl, rfl⟩)
  have hv := (hcycle _ n).trans hv
  refine ⟨t, ht, ?_, ?_⟩
  · rw [hv.base, show (u.bump (R.TIM_TMP_STAT.ENCERR n)).tempo n = u.tempo n from rfl, hu.base]
    rfl
  · rw [hv.regs _ (tmpEncErr_ofTempo n), State.get_bump _ _ _ (show 16 + 8 ≤ 32 by decide),
      hu.regs _ (tmpEncErr_ofTempo n)]
    rfl

/-! The index of an encoder -/

/-- ZPOS of base `n` takes a position. -/
def State.putZpos (s : State) (n : Nat) (p : Nat) : State :=
  (s.put (R.TIM_TMP_ZPOSL.ZPOS n) p).put (R.TIM_TMP_ZPOSH.ZPOS n) (p / 2 ^ 32)

theorem exec_encoderIndex (now : Nat) (enc : Fin 4) (s : State) : exec (.encoderIndex now enc) s =
    act timeParts now s fun s => s.each (s.tempoOf 1 enc) fun s n => s.putZpos n (unsgn 64 (s.tempoPos n s.now)) := rfl

theorem State.putZpos_get (s : State) (n p : Nat) : (s.putZpos n p).get (R.TIM_TMP_ZPOSL.ZPOS n) = p % 2 ^ 32 ∧
    (s.putZpos n p).get (R.TIM_TMP_ZPOSH.ZPOS n) = p / 2 ^ 32 % 2 ^ 32 := by
  have hapart : (R.TIM_TMP_ZPOSL.ZPOS n).Apart (R.TIM_TMP_ZPOSH.ZPOS n) :=
    .inl (show 0x4000c20 + n * 0x40 ≠ 0x4000c24 + n * 0x40 by omega)
  unfold State.putZpos
  refine ⟨?_, State.get_put _ _ _ (show 0 + 32 ≤ 32 by decide)⟩
  rw [State.get_put_ne _ _ hapart]
  exact State.get_put _ _ _ (show 0 + 32 ≤ 32 by decide)

theorem encoderIndex_captures (now : Nat) {enc n : Fin 4} {s : State} (hr : s.Running) (hsrc : s.tempoSrc n = 1)
    (henc : s.inUse (R.TIM_TMP_CFG.ENC n) = enc.val) : Completes (.encoderIndex now enc) s fun t =>
      t.get (R.TIM_TMP_ZPOSL.ZPOS n) = unsgn 64 ((s.tick now).tempoPos n t.now) % 2 ^ 32 ∧
        t.get (R.TIM_TMP_ZPOSH.ZPOS n) = unsgn 64 ((s.tick now).tempoPos n t.now) / 2 ^ 32 % 2 ^ 32 := by
  obtain ⟨t, ht, u, hu, hv⟩ := completes_tempoOf (pre := fun s => s) (exec_encoderIndex now enc s) hr n.2 hsrc
    (fun _ => henc) (.refl ..)
    (fun s m hm => (State.SameBase.put s _ (tmpZposL_ofTempo m) hm).trans (.put _ _ (tmpZposH_ofTempo m) hm))
    (fun s => ⟨rfl, rfl, rfl⟩)
  have hnow : t.now = u.now := hv.now
  have hpos : u.tempoPos n u.now = (s.tick now).tempoPos n t.now := by rw [hnow, hu.tempoPos]
  refine ⟨t, ht, ?_⟩
  beta_reduce
  rw [← hpos]
  obtain ⟨hlow, hhigh⟩ := u.putZpos_get n (unsgn 64 (u.tempoPos n u.now))
  exact ⟨(hv.regs _ (tmpZposL_ofTempo n)).trans hlow, (hv.regs _ (tmpZposH_ofTempo n)).trans hhigh⟩

/-! The mains -/

/-- What an edge of the mains does to a base that follows them (R178). -/
def State.mainsCount (s : State) (n : Nat) : State :=
  let b := s.tempo n
  match b.mainsAt with
  | none => s.setTempo n { b with cnt := b.cnt + 1, mainsAt := some s.now }
  | some t =>
    let d := s.now - t
    if b.mainsPer = 0 then
      let b := { b with cnt := b.cnt + 1, mainsAt := some s.now }
      if 65 * d < secU ∨ secU < 45 * d then s.setTempo n b
      else (s.setTempo n { b with mainsPer := d }).enterTempo n 1
    else
      let k := max 1 ((d + b.mainsPer / 2) / b.mainsPer)
      let far := if k * b.mainsPer ≤ d then d - k * b.mainsPer else k * b.mainsPer - d
      if b.mainsPer < 20 * far then s.bump (R.TIM_TMP_STAT.DISCARD n)
      else (s.setTempo n { b with cnt := b.cnt + k, mainsAt := some s.now, mainsPer := d / k }).enterTempo n 1

theorem exec_mainsEdge (now : Nat) (s : State) : exec (.mainsEdge now) s =
    act timeParts now s fun s => s.each (s.tempoOf 3 0) State.mainsCount := rfl

theorem State.SameBase.mainsCount (s : State) {n m : Nat} (hn : n < 4) (h : m ≠ n) :
    State.SameBase n s (s.mainsCount m) := by
  have hset : ∀ x, State.SameBase n s ((s.setTempo m x).enterTempo m 1) := fun x =>
    (State.SameBase.setTempo s x h).trans (.enterTempo _ 1 hn h)
  unfold State.mainsCount
  dsimp only
  split
  · exact .setTempo s _ h
  · exact .ite (.ite (.setTempo s _ h) (hset _)) (.ite (.bump s 1 (tmpDiscard_ofTempo m) h) (hset _))

theorem State.mainsCount_only (s : State) (n : Nat) : State.Only { time := true } s (s.mainsCount n) := by
  have hset : ∀ x, State.Only { time := true } s ((s.setTempo n x).enterTempo n 1) := fun x =>
    State.Only.trans (by exact rfl) (State.enterTempo_only ..)
  unfold State.mainsCount
  dsimp only
  split
  · exact rfl
  · exact .ite (.ite (by exact rfl) (hset _)) (.ite (by exact rfl) (hset _))

/-- A command that runs a frame of the time part over the bases on the mains does to base `n` what it does to it alone. -/
theorem completes_onMains {i : Instr} {now : Nat} {n : Fin 4} {f : State → Nat → State} {s : State}
    (he : exec i s = act timeParts now s fun s => s.each (s.tempoOf 3 0) f) (hr : s.Running) (hsrc : s.tempoSrc n = 3)
    (hother : ∀ s m, m ≠ n.val → State.SameBase n s (f s m)) (honly : ∀ s, State.Only { time := true } s (f s n)) :
    Completes i s fun t => ∃ u, State.SameBase n (s.tick now) u ∧ State.SameBase n (f u n) t :=
  completes_tempoOf (pre := fun s => s) he hr n.2 hsrc (fun h => absurd h (by decide)) (.refl ..) hother fun s =>
    ⟨(honly s).now, (honly s).live rfl, (honly s).sys rfl⟩

theorem mainsEdge_base (now : Nat) {n : Fin 4} {s : State} (hr : s.Running) (hsrc : s.tempoSrc n = 3) :
    Completes (.mainsEdge now) s fun t =>
      ∃ u, State.SameBase n (s.tick now) u ∧ State.SameBase n (u.mainsCount n) t :=
  completes_onMains (exec_mainsEdge now s) hr hsrc (fun s _ h => .mainsCount s n.2 h) fun s => s.mainsCount_only n

theorem mainsEdge_first (now : Nat) {n : Fin 4} {s : State} (hr : s.Running) (hsrc : s.tempoSrc n = 3)
    (hfirst : (s.tempo n).mainsAt = none) : Completes (.mainsEdge now) s fun t =>
      (t.tempo n).cnt = (s.tempo n).cnt + 1 ∧ (t.tempo n).mainsAt = some t.now := by
  obtain ⟨t, ht, u, hu, hv⟩ := mainsEdge_base now hr hsrc
  have hbase : u.tempo n = s.tempo n := hu.base
  unfold State.mainsCount at hv
  simp only [hbase, hfirst] at hv
  refine ⟨t, ht, ?_⟩
  beta_reduce
  rw [hv.base, State.tempo_setTempo, hv.now]
  exact ⟨rfl, rfl⟩

/-- An edge one whole period after the last one is where it is predicted, and counts once. -/
theorem State.mainsCount_periodic {s : State} {n x : Nat} (hat : (s.tempo n).mainsAt = some x)
    (hper : (s.tempo n).mainsPer ≠ 0) (hnow : s.now = x + (s.tempo n).mainsPer) :
    s.mainsCount n = (s.setTempo n { s.tempo n with cnt := (s.tempo n).cnt + 1, mainsAt := some s.now }).enterTempo n 1 := by
  have hd : s.now - x = (s.tempo n).mainsPer := by omega
  have hk : max 1 (((s.tempo n).mainsPer + (s.tempo n).mainsPer / 2) / (s.tempo n).mainsPer) = 1 := by
    have hlt : (s.tempo n).mainsPer / 2 < (s.tempo n).mainsPer := by omega
    rw [Nat.add_div_left _ (Nat.pos_of_ne_zero hper), Nat.div_eq_of_lt hlt]
    rfl
  unfold State.mainsCount
  simp only [hat, hd, hk, hper, if_false, Nat.one_mul, le_refl, if_true, Nat.sub_self, Nat.mul_zero, Nat.not_lt_zero,
    Nat.div_one]

theorem mainsEdge_periodic (now : Nat) {n : Fin 4} {x : Nat} {s : State} (hr : s.Running) (hsrc : s.tempoSrc n = 3)
    (hat : (s.tempo n).mainsAt = some x) (hper : (s.tempo n).mainsPer ≠ 0)
    (hdue : max s.now now = x + (s.tempo n).mainsPer) : Completes (.mainsEdge now) s fun t =>
      (t.tempo n).cnt = (s.tempo n).cnt + 1 ∧ (t.tempo n).mainsAt = some t.now ∧ t.tempoState n = 1 := by
  obtain ⟨t, ht, u, hu, hv⟩ := mainsEdge_base now hr hsrc
  have hbase : u.tempo n = s.tempo n := hu.base
  have hnow : u.now = x + (s.tempo n).mainsPer := hu.now.trans hdue
  rw [← hbase] at hat hper hnow
  rw [State.mainsCount_periodic hat hper hnow] at hv
  have htnow : t.now = u.now := hv.now.trans (State.enterTempo_only ..).now
  refine ⟨t, ht, ?_⟩
  beta_reduce
  rw [hv.tempoState, State.tempoState_enterTempo _ n.2 (by decide), hv.base,
    State.enterTempo_tempo_of_ne _ _ (by decide), State.tempo_setTempo, htnow, hbase]
  exact ⟨rfl, rfl, rfl⟩

/-- Three cycles of the mains without an edge: a base that tracks them goes into HOLDOVER. -/
theorem mainsHoldover_enters (now : Nat) {n : Fin 4} {x : Nat} {s : State} (hr : s.Running) (hsrc : s.tempoSrc n = 3)
    (hat : (s.tempo n).mainsAt = some x) (hstate : s.tempoState n = 1) (hper : (s.tempo n).mainsPer ≠ 0)
    (hdue : x + 3 * (s.tempo n).mainsPer ≤ max s.now now) :
    Completes (.mainsHoldover now) s fun t => t.tempoState n = 2 := by
  have he : exec (.mainsHoldover now) s = execMainsHoldover now s := rfl
  unfold execMainsHoldover at he
  obtain ⟨t, ht, u, hu, hv⟩ := completes_onMains he hr hsrc
    (fun s m h => by
      dsimp only
      split
      · exact .refl ..
      · exact .ite (.enterTempo s 2 n.2 h) (.refl ..))
    (fun s => by
      dsimp only
      split
      · exact .refl ..
      · exact .ite (s.enterTempo_only ..) (.refl ..))
  have hbase : u.tempo n = s.tempo n := hu.base
  have hmet : u.tempoState n = 1 ∧ (s.tempo n).mainsPer ≠ 0 ∧ x + 3 * (s.tempo n).mainsPer ≤ u.now :=
    ⟨hu.tempoState.trans hstate, hper, hdue.trans_eq hu.now.symm⟩
  simp only [hbase, hat, if_pos hmet] at hv
  exact ⟨t, ht, hv.tempoState.trans (u.tempoState_enterTempo n.2 (by decide))⟩

/-- A second without an edge of the mains: a base that ran on them is LOST, and forgets their period. -/
theorem mainsLost_enters (now : Nat) {n : Fin 4} {x : Nat} {s : State} (hr : s.Running) (hsrc : s.tempoSrc n = 3)
    (hat : (s.tempo n).mainsAt = some x) (hstate : s.tempoState n = 1 ∨ s.tempoState n = 2)
    (hdue : x + secU ≤ max s.now now) : Completes (.mainsLost now) s fun t =>
      t.tempoState n = 3 ∧ (t.tempo n).mainsPer = 0 ∧ (t.tempo n).mainsAt = none := by
  have he : exec (.mainsLost now) s = execMainsLost now s := rfl
  unfold execMainsLost at he
  obtain ⟨t, ht, u, hu, hv⟩ := completes_onMains he hr hsrc
    (fun s m h => by
      dsimp only
      split
      · exact .refl ..
      · exact .ite ((State.SameBase.enterTempo s 3 n.2 h).trans (.setTempo _ _ h)) (.refl ..))
    (fun s => by
      dsimp only
      split
      · exact .refl ..
      · exact .ite ((s.enterTempo_only n 3).trans (by exact rfl)) (.refl ..))
  have hat' : (u.tempo n).mainsAt = some x := (congrArg TmpSt.mainsAt hu.base).trans hat
  have hmet : (u.tempoState n = 1 ∨ u.tempoState n = 2) ∧ x + secU ≤ u.now :=
    ⟨hu.tempoState ▸ hstate, hdue.trans_eq hu.now.symm⟩
  simp only [hat', if_pos hmet] at hv
  refine ⟨t, ht, ?_⟩
  beta_reduce
  rw [hv.tempoState, hv.base, State.tempo_setTempo]
  exact ⟨u.tempoState_enterTempo n.2 (by decide), rfl, rfl⟩

/-- Settles O10, by the lemma of each event. -/
theorem encoderAndMainsEventsComplete : Obligations.EncoderAndMainsEventsComplete := by
  unfold Obligations.EncoderAndMainsEventsComplete
  exact ⟨fun now _ _ _ _ => encoderEdge_moves now, fun now _ _ _ => encoderEdge_counts_illegal now,
    fun now _ _ _ => encoderIndex_captures now, fun now _ _ => mainsEdge_first now, fun now _ _ _ => mainsEdge_periodic now,
    fun now _ _ _ => mainsHoldover_enters now, fun now _ _ _ => mainsLost_enters now⟩

end Sys2Proof.Machine
end

section
/-! PROOF. The network tempo bases (R179 to R183), and what a received frame changes before its command. -/
namespace Sys2Proof.Machine

/-! A received frame that this chip consumes: only ports change around its effect -/

theorem State.secCheck_only (s : State) (p : Nat) (sec : Option SecTag) :
    State.Only { ports := true } s (s.secCheck p sec).1 := by
  unfold State.secCheck
  split
  · split
    · exact .refl ..
    · exact rfl
  split
  · exact rfl
  extract_lets x
  split
  · exact rfl
  split
  · exact rfl
  split
  · exact rfl
  · exact rfl

theorem State.gated_only (s : State) (rx : Rx) : State.Only { ports := true } s (s.gated rx) := by
  unfold State.gated State.rxGate
  extract_lets p u
  have hu : State.Only { ports := true } s u := rfl
  split
  · exact .refl ..
  split
  · exact rfl
  split
  · exact rfl
  have hsec := hu.trans (u.secCheck_only p rx.eth.sec)
  generalize u.secCheck p rx.eth.sec = r at hsec
  obtain ⟨v, ok⟩ := r
  dsimp only at hsec ⊢
  split
  · exact hsec
  split
  · exact hsec.trans (by exact rfl)
  split
  · exact hsec.trans (by exact rfl)
  · exact hsec

theorem State.sendTransit_only (s : State) (p : Nat) (f : Frame) : State.Only { ports := true } s (s.sendTransit p f) :=
  .ite (by exact rfl) (.ite (by exact rfl) ((s.enqueue_only ..).widen (by rfl)))

/-- A consumed frame of the kind that a command takes has its effect; it may go on at the other chain port besides. -/
theorem State.receive_consumed {s : State} {rx : Rx} {mine : Frame → Bool} {h : State → State}
    (hc : s.consumes rx = true) (hmine : mine rx.frame = true) :
    State.Only { ports := true } (h (s.gated rx)) (s.receive rx mine h) := by
  obtain ⟨hok, hfate⟩ := Bool.and_eq_true_iff.1 hc
  unfold State.receive
  unfold State.gated at *
  generalize s.rxGate rx = r at *
  obtain ⟨u, ok⟩ := r
  dsimp only at hok hfate ⊢
  rw [hok, if_neg (by decide), hmine, if_pos rfl]
  split
  next heq => rw [heq] at hfate; cases hfate
  next heq => rw [heq] at hfate; cases hfate
  · exact .refl ..
  · exact State.sendTransit_only ..

/-! A message that a network base accepts -/

theorem State.tempo_measure (s : State) (q i : Nat) (v : Int) (n : Nat) : (s.measure q i v).tempo n = s.tempo n :=
  State.tempo_congr ((s.measure_only ..).time rfl) n

theorem State.tempo_log1 (s : State) (c k i d x n : Nat) : (s.log1 c k i d x).tempo n = s.tempo n :=
  State.tempo_congr (s.log1_time ..) n

/-- An accepted message gives the base its sequence number, time and position (R179, R181). -/
theorem State.tempoAccept_takes (s : State) (n : Nat) (m : TempoMsg) :
    ((s.tempoAccept n m).tempo n).seq = some m.seq ∧ ((s.tempoAccept n m).tempo n).lastT = some m.t ∧
      ((s.tempoAccept n m).tempo n).p0 = m.pos ∧ ((s.tempoAccept n m).tempo n).trx = s.now := by
  unfold State.tempoAccept
  extract_lets b tau e mag u step a errs v w w' most
  have hv : (v.tempo n).seq = some m.seq ∧ (v.tempo n).lastT = some m.t ∧ (v.tempo n).p0 = m.pos ∧
      (v.tempo n).trx = s.now := by
    unfold v
    rw [State.tempo_setTempo, show u.now = s.now from (s.measure_only ..).now]
    exact ⟨rfl, rfl, rfl, rfl⟩
  have hw : w.tempo n = v.tempo n := by
    unfold w
    split
    · exact v.tempo_log1 ..
    · rfl
  have hstay : ∀ st ≠ 3, (w.enterTempo n st).tempo n = v.tempo n := fun _ h => (w.enterTempo_tempo_of_ne n h).trans hw
  split
  · rw [hstay 2 (by decide)]
    exact hv
  · rw [show (w'.put _ _).tempo n = v.tempo n from hstay 1 (by decide)]
    exact hv

theorem State.SameBase.tempoAccept (s : State) {n m : Nat} (x : TempoMsg) (hn : n < 4) (h : m ≠ n) :
    State.SameBase n s (s.tempoAccept m x) := by
  unfold State.tempoAccept
  extract_lets b tau e mag u step a errs v w w' most
  have hv : State.SameBase n s v := (State.SameBase.measure s _ _ _ hn).trans (.setTempo u _ h)
  have hw : State.SameBase n s w := .ite (hv.trans (.log1 v _ _ _ _ _ hn)) hv
  exact .ite (hw.trans (.enterTempo w 2 hn h))
    ((hw.trans (.enterTempo w 1 hn h)).trans (.put w' _ (tmpErr_ofTempo m) h))

theorem tempoRx_takes (now : Nat) {rx : Rx} {n : Fin 4} {s : State} (hr : s.Running)
    (hc : (s.tick now).consumes rx = true) (hflow : rx.frame.flow = 5) (htype : rx.frame.type = 0)
    (hlen : 40 ≤ rx.frame.length) (hsrc : s.tempoSrc n = 2)
    (htid : s.inUse (R.TIM_TMP_CFG.TID n) = (tempoMsg rx.frame.body).tid)
    (hacc : (s.tempo n).accepts (tempoMsg rx.frame.body) = true) : Completes (.tempoRx now rx) s fun t =>
      (t.tempo n).seq = some (tempoMsg rx.frame.body).seq ∧ (t.tempo n).lastT = some (tempoMsg rx.frame.body).t ∧
        (t.tempo n).p0 = (tempoMsg rx.frame.body).pos ∧ (t.tempo n).trx = t.now := by
  have he : exec (.tempoRx now rx) s = execTempoRx now rx s := rfl
  unfold execTempoRx at he
  refine completes_act he hr ?_
  have hgate := (s.tick now).gated_only rx
  have hlive : ((s.tick now).gated rx).live = s.live := hgate.live rfl
  rw [State.tempo_keep rfl, keep_now,
    State.tempo_congr ((State.receive_consumed hc (by simp [hflow, htype])).time rfl), if_neg (not_lt.2 hlen)]
  extract_lets m
  have hmem : n.val ∈ (((s.tick now).gated rx).tempoOf 2 0).filter fun n =>
      ((s.tick now).gated rx).inUse (R.TIM_TMP_CFG.TID n) == m.tid :=
    List.mem_filter.2 ⟨State.mem_tempoOf n.2 ((State.inUse_congr hlive _).trans hsrc) fun h => absurd h (by decide),
      beq_iff_eq.2 ((State.inUse_congr hlive _).trans htid)⟩
  obtain ⟨u, hu, hv⟩ := State.each_base (f := fun s n => if (s.tempo n).accepts m then s.tempoAccept n m
    else s.bump (R.TIM_TMP_STAT.DISCARD n)) (fun s k h => .ite (.tempoAccept s m n.2 h) (.bump s 1 (tmpDiscard_ofTempo k) h))
    ((s.tick now).gated rx) ((State.tempoOf_nodup ..).filter _) hmem
  have hbase : u.tempo n = s.tempo n := hu.base.trans (State.tempo_congr (hgate.time rfl) n)
  rw [hbase, if_pos hacc] at hv
  rw [hv.base, ← hgate.now, ← hu.now]
  exact u.tempoAccept_takes n m

/-! Holdover and loss of a network base -/

theorem minsev_put_tempo (s : State) {f : FldAt} {n : Nat} (hf : f.OfTempo n) (hn : n < 4) (v : Nat) :
    (s.put f v).get R.LOG_CFG.MINSEV = s.get R.LOG_CFG.MINSEV :=
  State.get_put_ne _ _ (.inl fun h => by
    rw [FldAt.OfTempo, ← h, show R.LOG_CFG.MINSEV.reg.addr / 0x40 = 0x301000 by rfl] at hf
    omega)

theorem State.get_setTempo (s : State) (n : Nat) (x : TmpSt) (f : FldAt) : (s.setTempo n x).get f = s.get f := rfl
theorem State.tempoSrc_setTempo (s : State) (n m : Nat) (x : TmpSt) : (s.setTempo n x).tempoSrc m = s.tempoSrc m := rfl
theorem State.tempoSrc_put (s : State) (f : FldAt) (v m : Nat) : (s.put f v).tempoSrc m = s.tempoSrc m := rfl

/-- A network base that enters HOLDOVER or LOST says so in the log (R182). -/
theorem State.logs_enterTempo {s u : State} {n st c : Nat} (hn : n < 4)
    (hmin : u.get R.LOG_CFG.MINSEV = s.get R.LOG_CFG.MINSEV) (hsrc : u.tempoSrc n = 2) (hne : u.tempoState n ≠ st)
    (hst : st = 2 ∧ c = L.TEMPO_HOLD ∨ st = 3 ∧ c = L.TEMPO_LOST) : s.Logs c 7 n (u.enterTempo n st) := by
  unfold State.enterTempo
  extract_lets _ v w
  have hmin : v.get R.LOG_CFG.MINSEV = s.get R.LOG_CFG.MINSEV := by
    unfold v
    split
    · rw [State.get_setTempo, hmin]
    · exact hmin
  have hsrc : v.tempoSrc n = 2 := by
    unfold v
    split
    · rw [State.tempoSrc_setTempo, hsrc]
    · exact hsrc
  have hlog : s.Logs c 7 n (w.log1 c 7 n) :=
    State.logs_log1 s w c 7 n 0 0 ((minsev_put_tempo v (tmpState_ofTempo n) hn st).trans hmin)
  have hsrc : ¬ w.tempoSrc n ≠ 2 := not_not.2 ((v.tempoSrc_put ..).trans hsrc)
  clear_value w
  rw [if_neg hne, if_neg hsrc]
  rcases hst with ⟨rfl, rfl⟩ | ⟨rfl, rfl⟩
  · rw [if_pos rfl]
    exact hlog
  · rw [if_neg (by decide), if_pos rfl]
    exact hlog

theorem State.logs_setTempo {s t : State} {c k i : Nat} (n : Nat) (x : TmpSt) (h : s.Logs c k i t) :
    s.Logs c k i (t.setTempo n x) := fun hs => by
  have he : (t.setTempo n x).newestEntry = t.newestEntry := State.newestEntry_congr rfl rfl
  rw [he]
  exact h hs

theorem tempoHoldover_holds (now : Nat) {n : Fin 4} {s : State} (hr : s.Running) (hsrc : s.tempoSrc n = 2)
    (hstate : s.tempoState n = 1) (hdue : (s.tempo n).trx + s.inUse (R.TIM_TMP_HOLD.HOLDT n) * usU ≤ max s.now now) :
    Completes (.tempoHoldover now n) s fun t =>
      t.tempoState n = 2 ∧ (t.tempo n).a = 0 ∧ s.Logs L.TEMPO_HOLD 7 n t := by
  have he : exec (.tempoHoldover now n) s = execTempoHoldover now n s := rfl
  unfold execTempoHoldover at he
  refine completes_act he hr ?_
  extract_lets b x u
  have hgo : ¬ ((s.tick now).tempoSrc n ≠ 2 ∨ (s.tick now).tempoState n = 0 ∨ (s.tick now).tempoState n = 3 ∨
      (s.tick now).tempoState n = 2 ∧ b.a = 0 ∨
      (s.tick now).now < b.trx + (s.tick now).inUse (R.TIM_TMP_HOLD.HOLDT n) * usU) := by
    rw [show (s.tick now).tempoSrc n = 2 from hsrc, show (s.tick now).tempoState n = 1 from hstate, State.inUse_tick,
      State.tick_now]
    rintro (h | h | h | ⟨h, -⟩ | h)
    · exact h rfl
    · cases h
    · cases h
    · cases h
    · exact absurd h (not_lt.2 hdue)
  rw [if_neg hgo, State.tempoState_keep rfl, State.tempo_keep rfl, u.tempoState_enterTempo n.2 (by decide),
    u.enterTempo_tempo_of_ne _ (by decide), State.tempo_setTempo]
  have hne : u.tempoState n ≠ 2 := by
    rw [show u.tempoState n = 1 from hstate]
    decide
  exact ⟨rfl, rfl, State.logs_keep rfl rfl (State.logs_enterTempo (u := u) n.2 rfl hsrc hne (.inl ⟨rfl, rfl⟩))⟩

theorem tempoLost_rests (now : Nat) {n : Fin 4} {s : State} (hr : s.Running) (hsrc : s.tempoSrc n = 2)
    (hstate : s.tempoState n ≠ 3) (hdue : (s.tempo n).trx + s.inUse (R.TIM_TMP_HOLD.LOSST n) * msU ≤ max s.now now) :
    Completes (.tempoLost now n) s fun t =>
      t.tempoState n = 3 ∧ (t.tempo n).v0 = 0 ∧ (t.tempo n).a = 0 ∧ s.Logs L.TEMPO_LOST 7 n t := by
  have he : exec (.tempoLost now n) s = execTempoLost now n s := rfl
  unfold execTempoLost at he
  refine completes_act he hr ?_
  extract_lets b u b'
  have hgo : ¬ ((s.tick now).tempoSrc n ≠ 2 ∨ (s.tick now).tempoState n = 3 ∨
      (s.tick now).now < b.trx + (s.tick now).inUse (R.TIM_TMP_HOLD.LOSST n) * msU) := by
    rw [show (s.tick now).tempoSrc n = 2 from hsrc, State.inUse_tick, State.tick_now]
    rintro (h | h | h)
    · exact h rfl
    · exact hstate h
    · exact absurd h (not_lt.2 hdue)
  rw [if_neg hgo, State.tempoState_keep rfl, State.tempo_keep rfl, State.tempo_setTempo]
  exact ⟨(s.tick now).tempoState_enterTempo n.2 (by decide), rfl, rfl,
    State.logs_keep rfl rfl (State.logs_setTempo _ _ 
      (State.logs_enterTempo (u := s.tick now) n.2 rfl hsrc hstate (.inr ⟨rfl, rfl⟩)))⟩

/-! The position record -/

theorem State.recEvery_tick (s : State) (now n : Nat) : (s.tick now).recEvery n = s.recEvery n := by
  rw [State.recEvery, State.inUse_tick, State.recEvery]

theorem tempoRecordWrite_enters (now : Nat) {n : Fin 4} {s : State} (hr : s.Running) (hsrc : s.tempoSrc n ≠ 0) :
    Completes (.tempoRecordWrite now n) s fun t =>
      Tbl.get (0, 0) (Tbl.get [] t.time.tmpRec n) ((s.wbAt 0 t.now).toNat / s.recEvery n % 65536) =
        ((s.wbAt 0 t.now).toNat / s.recEvery n, (s.tick now).tempoPos n
          (s.localOf 0 (((s.wbAt 0 t.now).toNat / s.recEvery n * s.recEvery n : Nat) : Int)).toNat) := by
  have he : exec (.tempoRecordWrite now n) s = execTempoRecordWrite now n s := rfl
  unfold execTempoRecordWrite at he
  refine completes_act he hr ?_
  rw [if_neg (show ¬ (s.tick now).tempoSrc n = 0 from hsrc), keep_time, if_pos rfl, keep_now, State.recEvery_tick,
    State.wbNow, show (s.tick now).wbAt 0 = s.wbAt 0 from rfl]
  dsimp only
  rw [Tbl.get_set_self, Tbl.get_ins_self]
  rfl

/-- Settles O11, by the lemma of each event. -/
theorem networkTempoEventsComplete : Obligations.NetworkTempoEventsComplete := by
  unfold Obligations.NetworkTempoEventsComplete
  exact ⟨fun now _ _ _ => tempoRx_takes now, fun now _ _ => tempoHoldover_holds now, fun now _ _ => tempoLost_rests now,
    fun now _ _ => tempoRecordWrite_enters now⟩

end Sys2Proof.Machine
end

section
namespace Sys2Proof.Machine

/-! PROOF. What an operation leaves, the codes of the cycle apart: the event log and those codes are told apart here. -/

/-- The parts `p` from `t`, with the count of free values and the codes of the control cycle, and the others from `s`. -/
def keepCyc (p : Parts) (s t : State) : State := { keep p s t with cyc := t.cyc }

theorem keepCyc_self (p : Parts) (s : State) : keepCyc p s s = s := by simp [keepCyc, keep]

theorem keepCyc_keepCyc (p : Parts) (s t u : State) : keepCyc p (keepCyc p s t) u = keepCyc p s u := by
  simp only [keepCyc, keep]
  congr 1 <;> split <;> rfl

theorem keepCyc_meet (p q : Parts) (s t : State) : keepCyc p s (keepCyc q s t) = keepCyc (p.meet q) s t := by
  simp only [keepCyc, keep, Parts.meet, Bool.and_eq_true, ite_and]

/-- `t` differs from `s` in the parts `p` alone, in the count of free values, and in the codes of the control cycle. -/
def State.Within (p : Parts) (s t : State) : Prop := t = keepCyc p s t

/-- The parts that the run of the ROM and the release reach, those that a supply coming back does, a change of the
bases, and a lost partner without and with a takeover; those of the samples of a frame, of a commit, of a strobe, a
rehearsal, the end of a swap and a control cycle. -/
abbrev romParts : Parts := { sys := true, tiles := true, cal := true, sec := true, flash := true }
abbrev releaseParts : Parts := { romParts with time := true }
abbrev supplyParts : Parts := { log := false, sys := true, dio := true, tiles := true, chains := true, safe := true }
abbrev baseParts : Parts := { time := true, dio := true, strm := true, ports := true, mon := true, cmp := true }
abbrev deathParts : Parts := { strm := true, ports := true, safe := true, pair := true, chor := true }
abbrev takeoverParts : Parts := { deathParts with tiles := true, chains := true }
abbrev frameParts : Parts := { strm := true, ports := true, mon := true, tiles := true, chains := true }
abbrev calFrameParts : Parts := { frameParts with cal := true }
abbrev hubParts : Parts :=
  { frameParts with live := true, sys := true, commits := true, time := true, dio := true, cmp := true }
abbrev strobeParts : Parts := { hubParts with cal := true, safe := true, chor := true }
abbrev pairHubParts : Parts := { hubParts with pair := true }
abbrev swapParts : Parts := { pairHubParts with safe := true, chor := true }
abbrev controlParts : Parts := { pairHubParts with chor := true, host := true }

theorem Parts.regs_of_le {p q : Parts} (hle : p.meet q = q) (hq : q.regs = true) : p.regs = true := by
  have h := congrArg Parts.regs hle
  simp only [Parts.meet, hq, Bool.and_true] at h
  exact h

namespace State.Within

variable {p q : Parts} {s t u : State}

theorem refl (p : Parts) (s : State) : Within p s s := (keepCyc_self p s).symm

theorem trans (h : Within p s t) (h' : Within p t u) : Within p s u := by
  have hk : keepCyc p t u = keepCyc p s u := by
    rw [h]
    exact keepCyc_keepCyc ..
  exact Eq.trans h' hk

/-- What stays within the parts `q` stays within `p`, where `p` takes in `q`. -/
theorem widen (h : Within q s t) (hle : p.meet q = q := by rfl) : Within p s t := by
  have hk := keepCyc_meet p q s t
  rw [hle, ← h] at hk
  exact hk.symm

/-- An operation that stays within `p` may follow. -/
theorem andThen (h : Within p s t) (h' : Within q t u) (hle : p.meet q = q := by rfl) : Within p s u :=
  h.trans (h'.widen hle)

/-- A plain update of a part of `p` may follow. -/
theorem upd (h : Within p s t) (h' : Within p t u := by exact rfl) : Within p s u := h.trans h'

theorem ofOnly (h : Only p s t) : Within p s t := by
  have hc : t.cyc = (keep p s t).cyc := congrArg State.cyc h
  rw [Within, keepCyc, hc]
  exact h

theorem ite {c : Prop} [Decidable c] (ht : Within p s t) (hu : Within p s u) : Within p s (if c then t else u) := by
  split
  · exact ht
  · exact hu

theorem when {c : Bool} {f : State → State} (ht : Within p s t) (hf : Within p s (f t)) : Within p s (t.when c f) :=
  .ite hf ht

theorem fst {β : Type} {b : β} (h : Within p s t) : Within p s (t, b).1 := h

theorem ofFst {β : Type} {r : State × β} {b : β} (he : r = (t, b)) (h : Within p s r.1) : Within p s t := by
  simpa only [he] using h

theorem ofSnd {β : Type} {r : β × State} {b : β} (he : r = (b, t)) (h : Within p s r.2) : Within p s t := by
  simpa only [he] using h

theorem iteFst {β : Type} {c : Prop} [Decidable c] {a b : State × β} (ha : Within p s a.1) (hb : Within p s b.1) :
    Within p s (if c then a else b).1 := by
  split
  · exact ha
  · exact hb

theorem each {α : Type} {f : State → α → State} {l : List α} (h : Within p s t)
    (hf : ∀ v x, Within p s v → Within p s (f v x)) :
    Within p s (t.each l f) :=
  t.each_inv (Within p s) hf l h

theorem foldlFst {α β : Type} {f : State × β → α → State × β} {l : List α} {r : State × β}
    (h : Within p s r.1) (hf : ∀ v b x, Within p s v → Within p s (f (v, b) x).1) : Within p s (l.foldl f r).1 := by
  induction l generalizing r with
  | nil => exact h
  | cons x l ih => exact ih (hf _ _ _ h)

theorem foldlSnd {α β : Type} {f : β × State → α → β × State} {l : List α} {r : β × State}
    (h : Within p s r.2) (hf : ∀ b v x, Within p s v → Within p s (f (b, v) x).2) : Within p s (l.foldl f r).2 := by
  induction l generalizing r with
  | nil => exact h
  | cons x l ih => exact ih (hf _ _ _ h)

theorem put {f : FldAt} {v : Nat} (h : Within p s t) (hp : p.regs = true := by rfl) : Within p s (t.put f v) := by
  refine h.trans ?_
  simp [Within, keepCyc, keep, State.put, State.setWord, hp]

theorem putBit {f : FldAt} {b : Bool} (h : Within p s t) (hp : p.regs = true := by rfl) : Within p s (t.putBit f b) :=
  h.put hp

theorem bump {f : FldAt} {n : Nat} (h : Within p s t) (hp : p.regs = true := by rfl) : Within p s (t.bump f n) := h.put hp

theorem hint {n : Nat} (h : Within p s t) (hp : p.regs = true := by rfl) : Within p s (t.hint n) := h.put hp

theorem logRep {a c k i d x n : Nat} (h : Within p s t) (hle : p.meet {} = {} := by rfl) :
    Within p s (t.logRep a c k i d x n) :=
  h.andThen (.ofOnly (by obtain ⟨r, l, hu⟩ := t.logRep_only a c k i d x n; rw [hu]; rfl)) hle

theorem log1 {c k i d x : Nat} (h : Within p s t) (hle : p.meet {} = {} := by rfl) : Within p s (t.log1 c k i d x) :=
  h.logRep hle

theorem logAt {a c k i d x : Nat} (h : Within p s t) (hle : p.meet {} = {} := by rfl) :
    Within p s (t.logAt a c k i d x) :=
  h.logRep hle

theorem logCycle {c k i d x n : Nat} (h : Within p s t) : Within p s (t.logCycle c k i d x n) := by
  refine h.trans ?_
  simp [Within, keepCyc, keep, State.logCycle]

/-- A command takes the parts `p` of what an operation leaves. -/
theorem keeping (h : Within q s t) : Within (p.meet q) s (keep p s t) := by
  have hk : keep p s t = keep p s (keepCyc q s t) := congrArg (keep p s) h
  rw [Within, hk]
  simp only [keepCyc, keep, Parts.meet, Bool.and_eq_true, ite_and]
  congr 1 <;> split_ifs <;> rfl

/-! Updates of one part -/

section

variable (h : Within p s t)
include h

theorem setLive {x : Tbl Word} (hp : p.live = true := by rfl) : Within p s { t with live := x } := by
  refine h.trans ?_
  simp [Within, keepCyc, keep, hp]

theorem setLog {x : Tbl LogEntry} (hp : p.log = true := by rfl) : Within p s { t with log := x } := by
  refine h.trans ?_
  simp [Within, keepCyc, keep, hp]

theorem setSys {x : SysSt} (hp : p.sys = true := by rfl) : Within p s { t with sys := x } := by
  refine h.trans ?_
  simp [Within, keepCyc, keep, hp]

theorem setCommits {x : CommitSt} (hp : p.commits = true := by rfl) : Within p s { t with commits := x } := by
  refine h.trans ?_
  simp [Within, keepCyc, keep, hp]

theorem setTime {x : TimeSt} (hp : p.time = true := by rfl) : Within p s { t with time := x } := by
  refine h.trans ?_
  simp [Within, keepCyc, keep, hp]

theorem setDio {x : DioSt} (hp : p.dio = true := by rfl) : Within p s { t with dio := x } := by
  refine h.trans ?_
  simp [Within, keepCyc, keep, hp]

theorem setStrm {x : StrmSt} (hp : p.strm = true := by rfl) : Within p s { t with strm := x } := by
  refine h.trans ?_
  simp [Within, keepCyc, keep, hp]

theorem setRegs {x : Tbl Word} (hp : p.regs = true := by rfl) : Within p s { t with regs := x } := by
  refine h.trans ?_
  simp [Within, keepCyc, keep, hp]

theorem setCmp {x : CmpSt} (hp : p.cmp = true := by rfl) : Within p s { t with cmp := x } := by
  refine h.trans ?_
  simp [Within, keepCyc, keep, hp]

theorem setCal {x : CalSt} (hp : p.cal = true := by rfl) : Within p s { t with cal := x } := by
  refine h.trans ?_
  simp [Within, keepCyc, keep, hp]

theorem setPair {x : PairSt} (hp : p.pair = true := by rfl) : Within p s { t with pair := x } := by
  refine h.trans ?_
  simp [Within, keepCyc, keep, hp]

theorem setSec {x : SecSt} (hp : p.sec = true := by rfl) : Within p s { t with sec := x } := by
  refine h.trans ?_
  simp [Within, keepCyc, keep, hp]

theorem setChor {x : ChorSt} (hp : p.chor = true := by rfl) : Within p s { t with chor := x } := by
  refine h.trans ?_
  simp [Within, keepCyc, keep, hp]

theorem setSafe {x : SafeSt} (hp : p.safe = true := by rfl) : Within p s { t with safe := x } := by
  refine h.trans ?_
  simp [Within, keepCyc, keep, hp]

end

/-! What stays, part by part -/

section

variable (h : Within p s t)
include h

theorem log (hp : p.log = false) : t.log = s.log := by
  rw [h, keepCyc, keep_log, hp, if_neg Bool.false_ne_true]
theorem dram (hp : p.dram = false) : t.dram = s.dram := by
  rw [h, keepCyc, keep_dram, hp, if_neg Bool.false_ne_true]
theorem resp (hp : p.resp = false) : t.resp = s.resp := by
  rw [h, keepCyc, keep_resp, hp, if_neg Bool.false_ne_true]
theorem safe (hp : p.safe = false) : t.safe = s.safe := by
  rw [h, keepCyc, keep_safe, hp, if_neg Bool.false_ne_true]
theorem pair (hp : p.pair = false) : t.pair = s.pair := by
  rw [h, keepCyc, keep_pair, hp, if_neg Bool.false_ne_true]
theorem mon (hp : p.mon = false) : t.mon = s.mon := by
  rw [h, keepCyc, keep_mon, hp, if_neg Bool.false_ne_true]
theorem strm (hp : p.strm = false) : t.strm = s.strm := by
  rw [h, keepCyc, keep_strm, hp, if_neg Bool.false_ne_true]
theorem ports (hp : p.ports = false) : t.ports = s.ports := by
  rw [h, keepCyc, keep_ports, hp, if_neg Bool.false_ne_true]
theorem flash (hp : p.flash = false) : t.flash = s.flash := by
  rw [h, keepCyc, keep_flash, hp, if_neg Bool.false_ne_true]

end

end State.Within

/-- What a command leaves is what its effect leaves, in the parts that the command may write. -/
theorem always_cut {p q r : Parts} {now : Nat} {s t : State} {f : State → State} (h : always p now s f = .next t)
    (hf : ∀ u, State.Within q u (f u)) (hle : r.meet (p.meet q) = p.meet q := by rfl) : State.Within r (s.tick now) t := by
  cases h
  exact (hf _).keeping.widen hle

theorem act_cut {p q r : Parts} {now : Nat} {s t : State} {f : State → State} (h : act p now s f = .next t)
    (hf : ∀ u, State.Within q u (f u)) (hle : r.meet (p.meet q) = p.meet q := by rfl) : State.Within r (s.tick now) t :=
  always_cut h (fun u => .ite (.refl ..) (hf u)) hle

/-- A command stays within its parts, whatever its effect. -/
theorem within_of_parts {p r : Parts} {now : Nat} {s t u : State} (h : (.next (keep p (s.tick now) u) : Out) = .next t)
    (hle : r.meet p = p := by rfl) : State.Within r (s.tick now) t := by
  cases h
  refine .widen (q := p) ?_ hle
  simp only [State.Within, keepCyc, keep]
  congr 1 <;> split <;> rfl

theorem Parts.meet_meet_self (p q : Parts) : q.meet (p.meet q) = p.meet q := by
  simp only [Parts.meet, Bool.and_left_comm, Bool.and_self]

theorem always_within {p r : Parts} {now : Nat} {s t : State} {f : State → State} (h : always p now s f = .next t)
    (hf : ∀ u, State.Within r u (f u)) : State.Within r (s.tick now) t := always_cut h hf (p.meet_meet_self r)

theorem act_within {p r : Parts} {now : Nat} {s t : State} {f : State → State} (h : act p now s f = .next t)
    (hf : ∀ u, State.Within r u (f u)) : State.Within r (s.tick now) t := act_cut h hf (p.meet_meet_self r)

end Sys2Proof.Machine
end

section
namespace Sys2Proof.Machine

/-! PROOF. The parts that each operation of the model reaches, in the order of the model: a lemma per operation, from those of the
operations that it is made of. -/

-- So many short proofs, elaborated at a time, would hold more threads than the box allows.
set_option Elab.async false

/-! The state operations -/

theorem State.setWord_within (s : State) (r : RegAt) (v : Word) :
    State.Within { log := false } s (s.setWord r v) := rfl

theorem State.setWb_within (s : State) (k : Nat) (b : WbSt) :
    State.Within { log := false, time := true } s (s.setWb k b) := rfl

theorem State.logStore_within (s : State) (e : LogEntry) :
    State.Within {} s (s.logStore e) :=
  .ite (.hint (.put (.setLog (.ite (.bump (.refl ..)) (.refl ..)))))
    (.put (.setLog (.ite (.bump (.refl ..)) (.refl ..))))

/-! Monitors -/

theorem State.setMon_within (s : State) (u : Nat) (m : MonSt) :
    State.Within { log := false, mon := true } s (s.setMon u m) := rfl

theorem monPublish_within (s : State) (u : Nat) :
    State.Within { log := false, mon := true } s (monPublish s u) :=
  .andThen (.put (.each (.put (.put (.put (.put (.put (.put (.refl ..))))))) fun _ _ h => .put h))
    (State.setMon_within ..)

theorem monCycle_within (s : State) :
    State.Within { log := false, mon := true } s (monCycle s) :=
  .each (.refl ..) fun _ _ h => .ite h (.andThen h (State.setMon_within ..))

/-! Egress (10) -/

theorem State.setPort_within (s : State) (p : Nat) (x : PortSt) :
    State.Within { log := false, ports := true } s (s.setPort p x) := rfl

theorem State.modPort_within (s : State) (p : Nat) (f : PortSt → PortSt) :
    State.Within { log := false, ports := true } s (s.modPort p f) :=
  .widen (State.setPort_within ..)

theorem State.sendLink_within (s : State) (p : Nat) (f : Frame) :
    State.Within { log := false, ports := true } s (s.sendLink p f) :=
  .widen (.ofOnly (State.enqueue_only ..))

theorem State.sendTransit_within (s : State) (p : Nat) (f : Frame) :
    State.Within { log := false, ports := true } s (s.sendTransit p f) := by
  unfold State.sendTransit
  exact .ite (.bump (.refl ..)) (.ite (.bump (.refl ..)) (.widen (.ofOnly (State.enqueue_only ..))))

/-! Queues and streams (08) -/

theorem State.setStrm_within (s : State) (n : Nat) (x : StreamSt) :
    State.Within { log := false, strm := true } s (s.setStrm n x) := rfl

theorem State.modStrm_within (s : State) (n : Nat) (f : StreamSt → StreamSt) :
    State.Within { log := false, strm := true } s (s.modStrm n f) :=
  .widen (State.setStrm_within ..)

theorem State.setQueue_within (s : State) (q : Nat) (x : QueueSt) :
    State.Within { log := false, strm := true } s (s.setQueue q x) :=
  .put (.setStrm (.refl ..))

theorem State.loseRanges_within (s : State) (n : Nat) (rs : List (Nat × Nat × Nat)) :
    State.Within { log := false, strm := true } s (s.loseRanges n rs) :=
  .ite (.refl ..) (.widen (State.modStrm_within ..))

theorem State.countLost_within (s : State) (q : Nat) (p : Packet) :
    State.Within { log := false, strm := true } s (s.countLost q p) :=
  .ite (.andThen (.andThen (.bump (.bump (.refl ..))) (State.modStrm_within ..)) (State.loseRanges_within ..))
    (.bump (.bump (.refl ..)))

theorem discardFor_within (q need reserved fuel : Nat) (s : State) :
    State.Within { log := false, strm := true } s (discardFor q need reserved fuel s) := by
  induction fuel generalizing s with
  | zero => exact .refl ..
  | succ fuel ih =>
    unfold discardFor
    refine .ite (.refl ..) ?_
    split
    · exact .refl ..
    · exact .trans (.andThen (.widen (State.setQueue_within ..)) (State.countLost_within ..)) (ih _)

theorem State.makeRoom_within (s : State) (q need reserved : Nat) :
    State.Within { log := false, strm := true } s (s.makeRoom q need reserved) :=
  .widen (discardFor_within ..)

theorem State.strmReady_within (s : State) (n : Nat) :
    State.Within { log := false, ports := true } s (s.strmReady n) := by
  unfold State.strmReady
  extract_lets p₁
  refine .ite (.refl ..) ?_
  split
  · exact .refl ..
  · exact .widen (.ofOnly (State.enqueue_only ..))

theorem State.resend_within (s : State) (n : Nat) :
    State.Within { log := false, strm := true, ports := true } s (s.resend n) := by
  unfold State.resend
  extract_lets u
  have hu : State.Within { log := false, strm := true, ports := true } s u := by
    unfold u
    split
    · exact .widen (State.modStrm_within ..)
    · exact .refl ..
  exact .andThen hu (State.strmReady_within ..)

theorem State.unqueueStrm_within (s : State) (n : Nat) :
    State.Within { log := false, ports := true } s (s.unqueueStrm n) :=
  .each (.refl ..) fun _ _ h => .andThen h (State.modPort_within ..)

theorem State.commitStrmPkt_within (s : State) (n : Nat) (p : Packet) :
    State.Within { log := false, strm := true, ports := true } s (s.commitStrmPkt n p) :=
  .andThen (.andThen (.put (.refl ..)) (State.setQueue_within ..)) (State.strmReady_within ..)

theorem State.closePacket_within (s : State) (n : Nat) :
    State.Within { log := false, strm := true, ports := true } s (s.closePacket n) := by
  unfold State.closePacket
  extract_lets x
  split
  · extract_lets p₁
    exact .andThen (.widen (State.setStrm_within ..)) (State.commitStrmPkt_within ..)
  · exact .refl ..

theorem State.nak_within (s : State) (n psn runid : Nat) :
    State.Within { log := false, strm := true, ports := true } s (s.nak n psn runid) :=
  .ite (.bump (.refl ..)) (.ite (.andThen (.widen (State.modStrm_within ..)) (State.strmReady_within ..)) (.refl ..))

/-! Time bases (06) -/

theorem State.owe_within (s : State) (n sync epoch : Nat) :
    State.Within { log := false, strm := true } s (s.owe n sync epoch) :=
  .each (.refl ..) fun _ _ h => .andThen h (State.modStrm_within ..)

theorem State.stepBase_within (s : State) (k : Nat) (d : Int) :
    State.Within { time := true, strm := true } s (s.stepBase k d) :=
  .each (.log1 (.widen (State.setWb_within ..))) fun _ _ h => .andThen (.setTime h) (State.owe_within ..)

theorem State.freshCounts_within (s : State) (k : Nat) :
    State.Within { log := false, time := true } s (s.freshCounts k) :=
  .widen (State.setWb_within ..)

theorem State.enterWb_within (s : State) (k st : Nat) :
    State.Within { time := true } s (s.enterWb k st) := by
  unfold State.enterWb
  extract_lets old u b
  have hu : State.Within { time := true } s u := .put (.refl ..)
  refine .ite (.refl ..) ?_
  refine .ite (.log1 (.andThen hu (State.setWb_within ..))) ?_
  refine .ite ?_ (.andThen hu (State.freshCounts_within ..))
  split
  next f v hev =>
  have hv : State.Within { time := true } s v := .ofSnd hev (.andThen hu (.ofOnly (State.draw_only ..)))
  extract_lets b₁ w
  exact .log1 (.andThen hv (State.setWb_within ..))

theorem State.correct_within (s : State) (k : Nat) (x : Int) (since : Nat) :
    State.Within { time := true, strm := true } s (s.correct k x since) := by
  unfold State.correct
  extract_lets lim most
  refine .ite (.ite (.refl ..) (.widen (State.stepBase_within ..))) ?_
  split
  next f u heu =>
  have hu : State.Within { time := true, strm := true } s u := .ofSnd heu (.widen (.ofOnly (State.draw_only ..)))
  extract_lets d b
  exact .andThen hu (State.setWb_within ..)

theorem State.offset_within (s : State) (k : Nat) (x : Int) :
    State.Within { time := true, strm := true, mon := true } s (s.offset k x) := by
  unfold State.offset
  extract_lets u v w b inside since y b₁ z
  have hv : State.Within { time := true, strm := true, mon := true } s v :=
    .andThen (.put (.refl ..)) (.ofOnly (State.measure_only ..))
  have hy : State.Within { time := true, strm := true, mon := true } s y :=
    .andThen (.ite (.andThen hv (State.enterWb_within ..)) hv) (State.setWb_within ..)
  have hz : State.Within { time := true, strm := true, mon := true } s z :=
    .ite (.andThen hy (State.enterWb_within ..)) (.ite (.andThen hy (State.enterWb_within ..)) hy)
  exact .andThen hz (State.correct_within ..)

theorem State.loseSource_within (s : State) (k : Nat) :
    State.Within { time := true } s (s.loseSource k) :=
  .ite (.refl ..) (.widen (State.enterWb_within ..))

theorem State.setWb1_within (s : State) (hi : Nat) :
    State.Within { log := false, time := true } s (s.setWb1 hi) := rfl

/-! History (08) -/

theorem State.setHist_within (s : State) (e : Nat) (h : HistEp) :
    State.Within { log := false, strm := true } s (s.setHist e h) := rfl

theorem State.setFree_within (s : State) (n : Nat) :
    State.Within { log := false, strm := true } s (s.setFree n) :=
  .put (.setStrm (.refl ..))

theorem State.closeBlock_within (s : State) (e : Nat) :
    State.Within { log := false, strm := true } s (s.closeBlock e) :=
  .widen (State.setHist_within ..)

theorem State.setSsn_within (s : State) (e n : Nat) :
    State.Within { log := false, strm := true } s (s.setSsn e n) := rfl

theorem State.clearRes_within (s : State) (e : Nat) :
    State.Within { log := false, strm := true } s (s.clearRes e) := rfl

theorem State.resizeHistory_within (s : State) :
    State.Within { log := false, strm := true } s s.resizeHistory :=
  .each
    (.andThen (.each (.put (.refl ..)) fun _ _ h => .ite h (.andThen (.put h) (State.setHist_within ..)))
      (State.setFree_within ..)) fun _ _ h => .ite (.put h) (.put h)

/-! Received frames (10) -/

theorem State.secCheck_within (s : State) (p : Nat) (sec : Option SecTag) :
    State.Within { log := false, ports := true } s (s.secCheck p sec).1 := by
  unfold State.secCheck
  split
  · split
    · exact .refl ..
    · exact .bump (.refl ..)
  · split
    · exact .bump (.refl ..)
    · extract_lets x old
      split
      · exact .bump (.refl ..)
      · split
        · exact .bump (.refl ..)
        · split
          · exact .bump (.refl ..)
          · extract_lets sas sas₁ u
            exact .bump (.widen (State.setPort_within ..))

theorem State.rxGate_within (s : State) (rx : Rx) :
    State.Within { log := false, ports := true } s (s.rxGate rx).1 := by
  unfold State.rxGate
  extract_lets p u
  refine .iteFst (.refl ..) (.iteFst (.bump (.refl ..)) (.iteFst (.bump (.bump (.refl ..))) ?_))
  split
  next v ok he =>
  have hv : State.Within { log := false, ports := true } s v :=
    .ofFst he (.andThen (.bump (.refl ..)) (State.secCheck_within ..))
  exact .iteFst hv (.iteFst (.bump (.andThen hv (State.modPort_within ..))) (.iteFst (.bump hv) hv))

/-- A received frame: the checks and the transit reach the ports, and what this chip does with it stays within `p`. -/
theorem State.Within.receive {p : Parts} {s t : State} {rx : Rx} {mine : Frame → Bool} {f : State → State}
    (h : Within p s t) (hf : ∀ v, Within p s v → Within p s (f v))
    (hle : p.meet { log := false, ports := true } = { log := false, ports := true } := by rfl) :
    Within p s (t.receive rx mine f) := by
  unfold State.receive
  split
  next u ok he =>
  have hu : Within p s u := .ofFst he (h.andThen (t.rxGate_within rx) hle)
  have hmine : Within p s (if mine rx.frame then f u else u) := .ite (hf u hu) hu
  refine .ite hu ?_
  split
  · exact hu.bump (Parts.regs_of_le hle rfl)
  · exact hu.andThen (State.sendTransit_within ..) hle
  · exact hmine
  · exact hmine.andThen (State.sendTransit_within ..) hle

/-! Tempo bases (06) -/

theorem State.setTempo_within (s : State) (n : Nat) (x : TmpSt) :
    State.Within { log := false, time := true } s (s.setTempo n x) := rfl

theorem State.rawEdge_within (s : State) (enc : Nat) (edge : QuadEdge) :
    State.Within { log := false, time := true } s (s.rawEdge enc edge) := by
  unfold State.rawEdge
  extract_lets t c
  split
  · exact .setTime (.refl ..)
  · exact .setTime (.refl ..)
  · exact .setTime (.refl ..)

theorem State.tempoAccept_within (s : State) (n : Nat) (m : TempoMsg) :
    State.Within { time := true, mon := true } s (s.tempoAccept n m) := by
  unfold State.tempoAccept
  extract_lets b tau e mag u step a errs v w x most
  have hv : State.Within { time := true, mon := true } s v :=
    .andThen (.widen (.ofOnly (State.measure_only ..))) (State.setTempo_within ..)
  have hw : State.Within { time := true, mon := true } s w := .ite (.log1 hv) hv
  exact .ite (.andThen hw (.ofOnly (State.enterTempo_only ..)))
    (.put (.andThen hw (.ofOnly (State.enterTempo_only ..))))

theorem State.publishTempo_within (s : State) :
    State.Within { log := false, time := true, ports := true } s s.publishTempo :=
  .ite (.refl ..)
    (.each (.refl ..) fun _ _ h => .ite h
      (.andThen (.andThen h (State.setTempo_within ..)) (.ofOnly (State.sendBoth_only ..))))

/-! Filter chains (04) -/

theorem State.setChain_within (s : State) (e : Nat) (x : ChainSt) :
    State.Within { log := false, chains := true } s (s.setChain e x) := rfl

theorem State.chainOut_within (s : State) (e : Nat) (c : ChainCfg) (r : FrameRec) (v grid : Int) :
    State.Within { strm := true, ports := true, mon := true, chains := true } s (s.chainOut e c r v grid) := by
  unfold State.chainOut
  extract_lets t x curr opn
  split
  · extract_lets u w y z u₁
    have hy : State.Within { strm := true, ports := true, mon := true, chains := true } s y :=
      .putBit (.put (.when (.widen (State.setChain_within ..)) (.bump (.widen (State.setChain_within ..)))))
    exact .andThen (.putBit (.putBit (.putBit (.putBit hy)))) (.ofOnly (State.output_only ..))

theorem State.feed_within (s : State) (e : Nat) (r : FrameRec) (v : Int) (flags : Nat) :
    State.Within { strm := true, ports := true, mon := true, chains := true } s (s.feed e r v flags) := by
  unfold State.feed
  extract_lets c x x₁ t pos
  split
  · exact .widen (State.setChain_within ..)
  · refine .ite (.andThen (.widen (State.setChain_within ..)) (State.chainOut_within ..)) ?_
    split
    · exact .widen (State.setChain_within ..)
    · extract_lets u w
      have hu : State.Within { strm := true, ports := true, mon := true, chains := true } s u :=
        .widen (State.setChain_within ..)
      exact .andThen (.ite hu (.logCycle (.bump hu))) (State.chainOut_within ..)

/-! Excitation monitor (03) -/

theorem State.deny_within (s : State) (cls a : Nat) :
    State.Within { log := false } s (s.deny cls a) :=
  .logCycle (.put (.put (.bump (.refl ..))))

theorem State.answer_within (s : State) (q : Requester) (err : Bool) (data : Nat) :
    State.Within { log := false, resp := true } s (s.answer q err data) := rfl

/-- A write that carries a command: a denial or the counted write, the effect within `p`, and the answer. -/
theorem State.Within.cmdWrite {p : Parts} {s t : State} {q : Requester} {a : Nat} {mask data : Word}
    {f : State → State} (h : Within p s t) (hf : ∀ v, Within p s v → Within p s (f v))
    (hle : p.meet { log := false, resp := true } = { log := false, resp := true } := by rfl) :
    Within p s (t.cmdWrite q a mask data f) := by
  have hp : p.regs = true := Parts.regs_of_le hle rfl
  refine .ite (h.andThen (.andThen (.widen (t.deny_within ..)) (State.answer_within ..)) hle) ?_
  extract_lets u
  have hu : Within p s u := .ite (h.bump hp) h
  exact .andThen (.ite hu (hf u hu)) (State.answer_within ..) hle

theorem State.Within.mediated {p : Parts} {s t : State} {q : Requester} {a : Nat} {mask data : Word} {ok : Bool}
    {f : State → State} (h : Within p s t) (hf : ∀ v, Within p s v → Within p s (f v))
    (hle : p.meet { log := false, resp := true } = { log := false, resp := true } := by rfl) :
    Within p s (t.mediated q a mask data ok f) := by
  unfold State.mediated
  split
  · exact h.cmdWrite hf hle
  · exact h.cmdWrite hf hle
  · exact .ite ((hf t h).andThen (State.answer_within ..) hle) (h.andThen (State.answer_within ..) hle)

theorem State.Within.cmdRead {p : Parts} {s t : State} {q : Requester} {a : Nat} {f : State → State × Nat}
    (h : Within p s t) (hf : Within p s (f t).1)
    (hle : p.meet { log := false, resp := true } = { log := false, resp := true } := by rfl) :
    Within p s (t.cmdRead q a f) :=
  .ite (h.andThen (.andThen (.widen (t.deny_within ..)) (State.answer_within ..)) hle)
    (.andThen hf (State.answer_within ..) hle)

/-! Digital inputs and outputs (07) -/

theorem State.setDi_within (s : State) (i : Nat) (x : DiSt) :
    State.Within { log := false, dio := true } s (s.setDi i x) := rfl

theorem State.setDo_within (s : State) (d : Nat) (x : DoSt) :
    State.Within { log := false, dio := true } s (s.setDo d x) :=
  .putBit (.put (.setDio (.refl ..)))

theorem State.diEdge_within (s : State) (i : Nat) (e : DiEdge) :
    State.Within { dio := true, strm := true, ports := true, mon := true } s (s.diEdge i e) :=
  .ite (.widen (State.setDi_within ..))
    (.ite (.logCycle (.bump (.widen (State.setDi_within ..))))
      (.andThen (.widen (State.setDi_within ..)) (.ofOnly (State.output_only ..))))

theorem State.diFlush_within (s : State) (i : Nat) :
    State.Within { dio := true, strm := true, ports := true, mon := true } s (s.diFlush i) :=
  .each (.widen (State.setDi_within ..)) fun _ _ h => .andThen h (State.diEdge_within ..)

theorem State.diChanged_within (s : State) (i p : Nat) (b : Int) (wasOn isOn : Bool) :
    State.Within { log := false, dio := true } s (s.diChanged i p b wasOn isOn) :=
  .ite (.widen (State.setDi_within ..)) (.ite (.widen (State.setDi_within ..)) (.widen (State.setDi_within ..)))

theorem State.driveDo_within (s : State) (d : Nat) (level scheduled : Bool) :
    State.Within { log := false, dio := true } s (s.driveDo d level scheduled) :=
  .ite (.refl ..)
    (.ite (.widen (State.setDo_within ..))
      (.andThen (.widen (State.setDo_within ..)) (.ofOnly (State.blankEdge_only ..))))

theorem State.doqCtl_within (s : State) (v : Nat) :
    State.Within { dio := true, pair := true } s (s.doqCtl v) :=
  .ite (.andThen (.widen (.ofOnly (State.mirror_only ..))) (State.setDo_within ..))
    (.ite (.log1 (.bump (.widen (.ofOnly (State.mirror_only ..)))))
      (.andThen (.setDio (.widen (.ofOnly (State.mirror_only ..)))) (State.setDo_within ..)))

theorem State.missEntry_within (s : State) (d : Nat) (e : DoEntry) :
    State.Within { log := false, dio := true } s (s.missEntry d e) :=
  .bump (.widen (State.setDo_within ..))

theorem State.fixEntry_within (s : State) (d : Nat) (e : DoEntry) (t : Int) :
    State.Within { dio := true } s (s.fixEntry d e t) := by
  unfold State.fixEntry
  extract_lets now late x u v same others w x₁ edge y
  have hw : State.Within { dio := true } s w := .bump (.refl ..)
  have hy : State.Within { dio := true } s y := .andThen hw (State.setDo_within ..)
  refine .ite ?_ ?_
  · exact .ite (.widen (State.missEntry_within ..))
      (.ite (.andThen (.log1 (.bump (.widen (State.setDo_within ..)))) (State.driveDo_within ..))
        (.log1 (.widen (State.missEntry_within ..))))
  · exact .ite (.andThen hw (State.setDo_within ..)) (.ite (.andThen hy (.ofOnly (State.blankEdge_only ..))) hy)

theorem State.runEntry_within (s : State) (d : Nat) (e : DoEntry) :
    State.Within { log := false, dio := true } s (s.runEntry d e) :=
  .ite (.widen (State.missEntry_within ..)) (.andThen (.widen (State.setDo_within ..)) (State.driveDo_within ..))

theorem State.docmdCycle_within (s : State) (running : Bool) :
    State.Within { log := false, dio := true } s (s.docmdCycle running) := by
  unfold State.docmdCycle
  extract_lets v src u w src₁
  have hw : State.Within { log := false, dio := true } s w :=
    .ite (.refl ..)
      (.each (.setDio (.refl ..)) fun _ _ h => .ite (.andThen h (State.setDo_within ..))
        (.ite h (.andThen h (State.driveDo_within ..))))
  exact .ite (.setDio hw) hw

/-! PTP (06) -/

theorem State.setPtp_within (s : State) (k : Nat) (x : PtpSt) :
    State.Within { log := false, time := true } s (s.setPtp k x) := rfl

theorem State.takePort_within (s : State) (k p : Nat) :
    State.Within { time := true } s (s.takePort k p) :=
  .ite (.refl ..)
    (.ite (.andThen (.andThen (.put (.refl ..)) (State.setPtp_within ..)) (State.loseSource_within ..))
      (.andThen (.put (.refl ..)) (State.setPtp_within ..)))

theorem State.ptpDown_within (s : State) (p : Nat) :
    State.Within { time := true } s (s.ptpDown p) :=
  .each (.refl ..) fun _ _ h => .ite (.andThen (.andThen h (State.setPtp_within ..)) (State.takePort_within ..))
    (.andThen h (State.setPtp_within ..))

theorem State.setDelay_within (s : State) (k p : Nat) (d : Int) :
    State.Within { mon := true } s (s.setDelay k p d) :=
  .andThen (.put (.refl ..)) (.ofOnly (State.measure_only ..))

theorem State.ptpOffset_within (s : State) (k : Nat) :
    State.Within { time := true, strm := true, mon := true } s (s.ptpOffset k) := by
  unfold State.ptpOffset
  split
  · exact .ite (.refl ..) (.widen (State.offset_within ..))
  · exact .refl ..

theorem State.validSync_within (s : State) (k p : Nat) (t1 t2 : Int) :
    State.Within { time := true, strm := true, mon := true } s (s.validSync k p t1 t2) := by
  unfold State.validSync
  extract_lets f src u run x src₁ v w y src₂
  have hv : State.Within { time := true, strm := true, mon := true } s v :=
    .andThen (.ite (.refl ..) (.put (.widen (State.setPtp_within ..)))) (State.setPtp_within ..)
  have hw : State.Within { time := true, strm := true, mon := true } s w :=
    .ite (.andThen hv (State.takePort_within ..)) hv
  exact .ite hw (.andThen (.andThen (.bump hw) (State.setPtp_within ..)) (State.ptpOffset_within ..))

theorem State.ptpUse_within (s : State) (k p : Nat) (m : PtpMsg) :
    State.Within { time := true, strm := true, mon := true } s (s.ptpUse k p m) := by
  unfold State.ptpUse
  extract_lets x y t c fresh
  split
  · exact .ite (.widen (State.setPtp_within ..)) (.widen (State.validSync_within ..))
  · split
    · exact .ite (.andThen (.widen (State.setPtp_within ..)) (State.validSync_within ..)) (.refl ..)
    · exact .refl ..
  · refine .ite (.refl ..) ?_
    split
    · exact .ite (.refl ..)
        (.ite
          (.andThen (.andThen (.widen (State.setDelay_within ..)) (State.setPtp_within ..))
            (State.ptpOffset_within ..)) (.andThen (.widen (State.setDelay_within ..)) (State.setPtp_within ..)))
    · exact .refl ..
  · refine .ite (.refl ..) ?_
    split
    · exact .ite (.refl ..)
        (.ite (.widen (State.setPtp_within ..))
          (.andThen (.widen (State.setPtp_within ..)) (State.setDelay_within ..)))
    · exact .refl ..
  · refine .ite (.refl ..) ?_
    split
    · exact .ite (.refl ..) (.andThen (.widen (State.setPtp_within ..)) (State.setDelay_within ..))
    · exact .refl ..
  · exact .refl ..

theorem State.ptpPass_within (s : State) (p : Nat) (m : PtpMsg) :
    State.Within { log := false, ports := true } s (s.ptpPass p m) :=
  .ite (.refl ..) (.each (.refl ..) fun _ _ h => .andThen h (.ofOnly (State.sendPtp_only ..)))

/-! Pulls (08) -/

theorem State.setPulls_within (s : State) (l : List PullSt) :
    State.Within { log := false, strm := true } s (s.setPulls l) :=
  .put (.setStrm (.refl ..))

theorem State.setPull_within (s : State) (p : PullSt) :
    State.Within { log := false, strm := true } s (s.setPull p) :=
  .widen (State.setPulls_within ..)

theorem State.delPull_within (s : State) (id : Nat) :
    State.Within { log := false, strm := true } s (s.delPull id) :=
  .widen (State.setPulls_within ..)

theorem State.pullReady_within (s : State) (p : Nat) :
    State.Within { log := false, ports := true } s (s.pullReady p) := by
  unfold State.pullReady
  refine .ite (.refl ..) ?_
  split
  · exact .refl ..
  · exact .widen (.ofOnly (State.enqueue_only ..))

theorem State.settleWires_within (s : State) :
    State.Within { strm := true, ports := true, mon := true } s s.settleWires := by
  unfold State.settleWires
  refine .each (.refl ..) fun u p hu => ?_
  split
  · exact hu
  · refine .ite hu ?_
    extract_lets v w q
    have hv : State.Within { strm := true, ports := true, mon := true } s v := .andThen hu (State.modPort_within ..)
    have hw : State.Within { strm := true, ports := true, mon := true } s w := by
      unfold w
      split
      · exact .andThen hv (State.makeRoom_within ..)
      · exact hv
    refine .ite hw ?_
    split
    · exact hw
    · exact .ite hw (.andThen (.andThen hw (State.setQueue_within ..)) (.ofOnly (State.measure_only ..)))

theorem State.endPull_within (s : State) (p : PullSt) :
    State.Within { strm := true, mon := true } s (s.endPull p) :=
  .ite (.ite (.bump (.widen (State.delPull_within ..))) (.widen (State.delPull_within ..)))
    (.andThen (.ite (.bump (.widen (State.delPull_within ..))) (.widen (State.delPull_within ..)))
      (.ofOnly (State.measure_only ..)))

theorem State.pushSegment_within (s : State) (p : PullSt) (ws : List Nat) (last : Bool) :
    State.Within { strm := true, ports := true, mon := true } s (s.pushSegment p ws last) := by
  unfold State.pushSegment
  exact .ite (.andThen (.bump (.refl ..)) (State.setPull_within ..))
    (.andThen
      (.ite (.andThen (.widen (State.setQueue_within ..)) (State.endPull_within ..))
        (.andThen (.widen (State.setQueue_within ..)) (State.setPull_within ..))) (State.pullReady_within ..))

theorem State.partGone_within (s : State) (p : PullSt) (j : SegJob) :
    State.Within { log := false, strm := true } s (s.partGone p j) :=
  .andThen (.bump (.refl ..)) (State.setPull_within ..)

/-! Links (10) -/

theorem State.moveStrm_within (s : State) (n q : Nat) :
    State.Within { log := false, strm := true, ports := true } s (s.moveStrm n q) :=
  .andThen
    (.when (.andThen (.widen (State.unqueueStrm_within ..)) (State.modStrm_within ..))
      (.bump (.andThen (.widen (State.unqueueStrm_within ..)) (State.modStrm_within ..)))) (State.resend_within ..)

theorem State.rerouteFrom_within (s : State) (p : Nat) :
    State.Within { log := false, strm := true, ports := true } s (s.rerouteFrom p) :=
  .ite (.refl ..) (.each (.refl ..) fun _ _ h => .andThen h (State.moveStrm_within ..))

theorem State.chainBack_within (s : State) (p : Nat) :
    State.Within { log := false, strm := true, ports := true } s (s.chainBack p) :=
  .ite (.refl ..)
    (.ite (.each (.refl ..) fun _ _ h => .andThen h (State.resend_within ..))
      (.each (.each (.refl ..) fun _ _ h => .andThen h (State.resend_within ..)) fun _ _ h => .andThen h
        (State.moveStrm_within ..)))

theorem State.repair_within (s : State) (p : Nat) :
    State.Within { log := false, strm := true, ports := true } s (s.repair p) :=
  .ite (.refl ..)
    (.each (.refl ..) fun _ _ h => .andThen
      (.bump (.andThen (.andThen h (State.unqueueStrm_within ..)) (State.modStrm_within ..)))
      (State.strmReady_within ..))

theorem State.endPulls_within (s : State) (p : Nat) :
    State.Within { log := false, strm := true, ports := true, cmp := true } s (s.endPulls p) := by
  unfold State.endPulls
  exact .andThen (.andThen (.put (.setCmp (.widen (State.setPulls_within ..)))) (State.setQueue_within ..))
    (State.modPort_within ..)

theorem State.fellDown_within (s : State) (p : Nat) :
    State.Within { time := true, strm := true, ports := true, cmp := true } s (s.fellDown p) :=
  .andThen
    (.andThen (.andThen (.andThen (.bump (.refl ..)) (State.endPulls_within ..)) (State.modPort_within ..))
      (State.rerouteFrom_within ..)) (State.ptpDown_within ..)

theorem State.sendArp_within (s : State) (p : Nat) (request : Bool) (ip : Nat) :
    State.Within { log := false, ports := true } s (s.sendArp p request ip) :=
  .widen (.ofOnly (State.enqueue_only ..))

theorem State.cameUp_within (s : State) (p : Nat) :
    State.Within { log := false, strm := true, ports := true } s (s.cameUp p) :=
  .ite (.widen (State.chainBack_within ..)) (.andThen (.widen (State.chainBack_within ..)) (State.sendArp_within ..))

theorem State.evalUp_within (s : State) (p : Nat) :
    State.Within { time := true, strm := true, ports := true, cmp := true } s (s.evalUp p) :=
  .ite (.refl ..)
    (.ite (.andThen (.putBit (.refl ..)) (State.cameUp_within ..))
      (.andThen (.putBit (.refl ..)) (State.fellDown_within ..)))

theorem State.rootLost_within (s : State) (p : Nat) :
    State.Within { time := true, strm := true, ports := true, cmp := true } s (s.rootLost p) :=
  .andThen
    (.andThen (.andThen (.andThen (.bump (.put (.refl ..))) (State.modPort_within ..)) (State.endPulls_within ..))
      (State.rerouteFrom_within ..)) (State.ptpDown_within ..)

theorem State.showSec_within (s : State) (p : Nat) :
    State.Within { log := false } s (s.showSec p) :=
  .putBit (.putBit (.put (.refl ..)))

theorem State.installSa_within (s : State) (p an key salt : Nat) :
    State.Within { time := true, strm := true, ports := true, cmp := true } s (s.installSa p an key salt) :=
  .andThen (.andThen (.putBit (.widen (State.modPort_within ..))) (State.showSec_within ..)) (State.evalUp_within ..)

theorem State.sendMkpdu_within (s : State) (p : Nat) :
    State.Within { log := false, ports := true } s (s.sendMkpdu p) :=
  .widen (.ofOnly (State.enqueue_only ..))

theorem State.newSak_within (s : State) (p : Nat) :
    State.Within { time := true, strm := true, ports := true, cmp := true } s (s.newSak p) := by
  unfold State.newSak
  split
  next k u heu =>
  have hu : State.Within { time := true, strm := true, ports := true, cmp := true } s u :=
    .ofSnd heu (.widen (.ofOnly (State.draw_only ..)))
  extract_lets x v
  exact .andThen (.andThen (.andThen hu (State.modPort_within ..)) (State.installSa_within ..))
    (State.sendMkpdu_within ..)

theorem State.peersChanged_within (s : State) (p : Nat) :
    State.Within { time := true, strm := true, ports := true, cmp := true } s (s.peersChanged p) :=
  .ite
    (.andThen (.andThen (.putBit (.widen (State.modPort_within ..))) (State.showSec_within ..))
      (State.evalUp_within ..)) (.ite (.widen (State.newSak_within ..)) (.widen (State.showSec_within ..)))

theorem State.endMka_within (s : State) (p : Nat) :
    State.Within { log := false, ports := true } s (s.endMka p) :=
  .ite (.andThen (.widen (State.modPort_within ..)) (State.showSec_within ..))
    (.andThen (.putBit (.andThen (.widen (State.modPort_within ..)) (State.modPort_within ..)))
      (State.showSec_within ..))

theorem State.mkaUse_within (s : State) (p : Nat) (m : Mkpdu) :
    State.Within { time := true, strm := true, ports := true, cmp := true } s (s.mkaUse p m) := by
  unfold State.mkaUse
  extract_lets x known u v best
  have hu : State.Within { time := true, strm := true, ports := true, cmp := true } s u :=
    .ite (.refl ..) (.widen (State.setPort_within ..))
  have hv : State.Within { time := true, strm := true, ports := true, cmp := true } s v :=
    .ite (.andThen hu (State.showSec_within ..)) (.andThen hu (State.peersChanged_within ..))
  split
  · exact hv
  · exact .ite hv (.andThen hv (State.installSa_within ..))

theorem State.sctl_within (s : State) (q : Requester) (p : Nat) (data : Word) :
    State.Within { resp := true, time := true, strm := true, ports := true, cmp := true } s (s.sctl q p data) :=
  .cmdWrite (.refl ..) (fun _ h => .ite h (.andThen h (State.installSa_within ..)))

theorem State.linkLost_within (s : State) (p : Nat) :
    State.Within { time := true, strm := true, ports := true, mon := true, cmp := true } s (s.linkLost p) := by
  unfold State.linkLost
  exact .ite (.refl ..)
    (.andThen
      (.andThen
        (.put (.put (.put (.put (.put (.put (.put (.put (.put (.put (.andThen
          (.putBit (.bump (.widen (State.settleWires_within ..)))) (State.modPort_within ..))))))))))))
        (State.endMka_within ..)) (State.evalUp_within ..))

theorem State.setRole_within (s : State) (follow : Bool) :
    State.Within { log := false } s (s.setRole follow) :=
  .putBit (.putBit (.ite (.refl ..) (.hint (.refl ..))))

theorem State.stopOriginating_within (s : State) :
    State.Within { log := false, ports := true } s s.stopOriginating :=
  .each (.refl ..) fun _ _ h => .andThen h (State.modPort_within ..)

theorem State.split_within (s : State) :
    State.Within { ports := true, pair := true } s s.split :=
  .andThen (.log1 (.bump (.setPair (.put (.put (.widen (State.setRole_within ..)))))))
    (State.stopOriginating_within ..)

theorem State.helloRx_within (s : State) (p : Nat) (f : Frame) :
    State.Within { time := true, strm := true, ports := true, cmp := true, pair := true } s (s.helloRx p f) := by
  unfold State.helloRx
  refine .ite (.refl ..) ?_
  extract_lets h vmax lver bad dup first u v w x y z u₁ v₁ w₁
  have hw : State.Within { time := true, strm := true, ports := true, cmp := true, pair := true } s w :=
    .when (.when (.when (.refl ..) (.log1 (.refl ..))) (.log1 (.when (.refl ..) (.log1 (.refl ..)))))
      (.log1 (.when (.when (.refl ..) (.log1 (.refl ..))) (.log1 (.when (.refl ..) (.log1 (.refl ..))))))
  have hv₁ : State.Within { time := true, strm := true, ports := true, cmp := true, pair := true } s v₁ :=
    .andThen (.putBit (.putBit (.put (.putBit (.putBit (.put hw)))))) (State.modPort_within ..)
  have hw₁ : State.Within { time := true, strm := true, ports := true, cmp := true, pair := true } s w₁ :=
    .andThen hv₁ (State.evalUp_within ..)
  exact .ite (.andThen hw₁ (State.split_within ..)) hw₁

theorem State.rootHello_within (s : State) (p : Nat) (f : Frame) :
    State.Within { log := false, strm := true, ports := true } s (s.rootHello p f) := by
  unfold State.rootHello
  extract_lets hops ver was u v w q src x y
  have hx : State.Within { log := false, strm := true, ports := true } s x :=
    .andThen (.andThen (.put (.put (.refl ..))) (State.modPort_within ..)) (State.sendTransit_within ..)
  exact .andThen (.ite hx (.andThen hx (State.chainBack_within ..))) (State.repair_within ..)

/-! Commits (04, 14) -/

theorem State.setTile_within (s : State) (t : Nat) (x : TileSt) :
    State.Within { log := false, tiles := true } s (s.setTile t x) := rfl

theorem State.modTile_within (s : State) (t : Nat) (f : TileSt → TileSt) :
    State.Within { log := false, tiles := true } s (s.modTile t f) :=
  .widen (State.setTile_within ..)

theorem State.dropCommits_within (s : State) (d : CommitSt) :
    State.Within { log := false, commits := true } s (s.dropCommits d) := rfl

theorem State.applyShadows_within (s : State) (c : CommitSt) :
    State.Within { log := false, live := true } s (s.applyShadows c) := by
  unfold State.applyShadows
  refine .each (.refl ..) fun u a hu => ?_
  split
  · exact hu
  · exact .ite (.setLive hu) hu

theorem settleChecks_within (fuel : Nat) (s : State) (c : CommitSt) :
    State.Within { commits := true } s (settleChecks fuel s c).1 := by
  induction fuel generalizing s c with
  | zero => exact .refl ..
  | succ fuel ih =>
    unfold settleChecks
    split
    · exact .refl ..
    · exact (State.Within.log1 (.widen (State.dropCommits_within ..))).trans (ih ..)

theorem State.showSrc_within (s : State) (e : Nat) :
    State.Within { log := false } s (s.showSrc e) :=
  .putBit (.put (.refl ..))

theorem State.showTile_within (s : State) (t : Nat) :
    State.Within { log := false } s (s.showTile t) :=
  .each (.put (.put (.put (.put (.refl ..))))) fun _ _ h => .andThen (.put (.put (.put h))) (State.showSrc_within ..)

theorem State.showRates_within (s : State) :
    State.Within { log := false, strm := true } s s.showRates :=
  .andThen (.put (.refl ..)) (State.resizeHistory_within ..)

theorem State.passOver_within (s : State) (t : Nat) :
    State.Within { log := false, tiles := true } s (s.passOver t) :=
  .ite (.put (.widen (State.setTile_within ..))) (.refl ..)

theorem State.abandonRun_within (s : State) (t : Nat) (hit : Nat → Bool) :
    State.Within { log := false, tiles := true } s (s.abandonRun t hit) := by
  unfold State.abandonRun
  split
  · exact .refl ..
  · extract_lets gone left again u
    exact .ite (.refl ..) (.putBit (.bump (.widen (State.modTile_within ..))))

theorem State.changedTile_within (s : State) (old : View) (t : Nat) :
    State.Within { log := false, strm := true, tiles := true, chains := true } s (s.changedTile old t) := by
  unfold State.changedTile
  extract_lets v steps frame chan u cal w mode x y
  have hu : State.Within { log := false, strm := true, tiles := true, chains := true } s u :=
    .each (.refl ..) fun _ _ h => .ite
      (.andThen
        (.ite (.andThen (.ite (.andThen h (State.setChain_within ..)) h) (State.clearRes_within ..))
          (.ite (.andThen h (State.setChain_within ..)) h)) (.ofOnly (State.armSettle_only ..)))
      (.ite (.andThen (.ite (.andThen h (State.setChain_within ..)) h) (State.clearRes_within ..))
        (.ite (.andThen h (State.setChain_within ..)) h))
  exact .andThen
    (.andThen (.andThen (.putBit (.andThen hu (State.abandonRun_within ..))) (State.modTile_within ..))
      (State.passOver_within ..)) (State.showTile_within ..)

theorem State.applySlices_within (s : State) (t : Nat) :
    State.Within { log := false, tiles := true } s (s.applySlices t) := by
  unfold State.applySlices
  split
  · exact .refl ..
  · extract_lets u
    exact .andThen (.each (.refl ..) fun _ _ h => .put (.put h)) (State.modTile_within ..)

theorem State.setMark_within (s : State) (e i m : Nat) :
    State.Within { log := false, cal := true } s (s.setMark e i m) := rfl

theorem State.applyPairs_within (s : State) (t : Nat) :
    State.Within { commits := true, cal := true } s (s.applyPairs t) := by
  unfold State.applyPairs
  refine .ite (.refl ..) ?_
  extract_lets u src v
  have hu : State.Within { commits := true, cal := true } s u := .put (.widen (State.dropCommits_within ..))
  have hv : State.Within { commits := true, cal := true } s v := by
    unfold v
    refine .each hu fun w p hw => ?_
    split
    · extract_lets x src y
      exact .andThen (.setCal (.put (.put hw))) (State.setMark_within ..)
  split
  · exact .log1 (.bump hu)
  · split
    · exact .log1 hu
    · exact .each hv fun _ _ h => .andThen h (State.showSrc_within ..)

theorem State.tempoChanged_within (s : State) (old : View) :
    State.Within { log := false, time := true } s (s.tempoChanged old) :=
  .each (.refl ..) fun _ _ h => .ite h (.put (.setTime (.andThen h (State.setTempo_within ..))))

theorem State.refit_within (s : State) (q : Nat) :
    State.Within { log := false, strm := true } s (s.refit q) :=
  .ite (.widen (State.makeRoom_within ..)) (.andThen (.widen (State.makeRoom_within ..)) (State.setQueue_within ..))

theorem State.raiseFloor_within (s : State) (n : Nat) (es : List Nat) :
    State.Within { log := false, strm := true } s (s.raiseFloor n es) := by
  unfold State.raiseFloor
  split
  · exact .refl ..
  · extract_lets top
    exact .widen (State.modStrm_within ..)

theorem State.streamsChanged_within (s : State) (old : View) :
    State.Within { log := false, strm := true, ports := true } s (s.streamsChanged old) := by
  unfold State.streamsChanged
  refine .each (.refl ..) fun u n hu => ?_
  extract_lets home v w
  have hv : State.Within { log := false, strm := true, ports := true } s v :=
    .ite (.andThen hu (State.raiseFloor_within ..)) hu
  have hw : State.Within { log := false, strm := true, ports := true } s w :=
    .andThen (.andThen hv (State.unqueueStrm_within ..)) (State.modStrm_within ..)
  exact .ite (.andThen (.andThen hv (State.modStrm_within ..)) (State.unqueueStrm_within ..))
    (.ite hv (.ite (.andThen hw (State.moveStrm_within ..)) (.andThen hw (State.strmReady_within ..))))

theorem State.changedHub_within (s : State) (old : View) (c : CommitSt) (b : Int) :
    State.Within baseParts s (s.changedHub old c b) := by
  unfold State.changedHub
  extract_lets u v src w x work y z
  have hw : State.Within baseParts s w :=
    .ite (.refl ..) (.setTime (.each (.widen (State.tempoChanged_within ..)) fun _ _ h => .ite h (.setTime h)))
  have hx : State.Within baseParts s x :=
    .ite hw (.each hw fun _ _ h => .ite (.andThen h (State.diChanged_within ..)) h)
  have hz : State.Within baseParts s z :=
    .ite hx
      (.andThen (.put (.each hx fun _ _ h => .andThen h (State.refit_within ..))) (State.streamsChanged_within ..))
  exact .ite hz (.each hz fun _ _ h => .ite (.andThen h (State.linkLost_within ..)) h)

theorem State.applyCommits_within (s : State) (c : CommitSt) (b from_ : Int) :
    State.Within hubParts s (s.applyCommits c b from_) := by
  unfold State.applyCommits
  extract_lets old dirty u v ts w x y src z
  have hv : State.Within hubParts s v :=
    .andThen (.andThen (.widen (State.dropCommits_within ..)) (State.applyShadows_within ..))
      (State.changedHub_within ..)
  have hw : State.Within hubParts s w :=
    .each hv fun _ _ h => .ite (.andThen (.andThen h (State.changedTile_within ..)) (State.setTile_within ..))
      (.andThen h (State.changedTile_within ..))
  have hx : State.Within hubParts s x := .ite (.each hw fun _ _ h => .andThen h (State.showTile_within ..)) hw
  have hz : State.Within hubParts s z := .ite hx (.setSys (.andThen hx (State.showRates_within ..)))
  exact .ite (.put hz) hz

theorem State.stopAll_within (s : State) :
    State.Within { log := false, strm := true, ports := true, tiles := true, chains := true } s s.stopAll := by
  unfold State.stopAll
  extract_lets u v w
  have hv : State.Within { log := false, strm := true, ports := true, tiles := true, chains := true } s v :=
    .each (.each (.refl ..) fun _ _ h => .andThen h (State.modTile_within ..)) fun _ _ h => .andThen h
      (State.setChain_within ..)
  have hw : State.Within { log := false, strm := true, ports := true, tiles := true, chains := true } s w :=
    .each hv fun _ _ h => .andThen (.andThen h (State.closePacket_within ..)) (State.modStrm_within ..)
  exact .each hw fun _ _ h => .ite h (.andThen h (State.closeBlock_within ..))

theorem State.alignSsns_within (s : State) :
    State.Within { log := false, strm := true } s s.alignSsns := by
  unfold State.alignSsns
  refine .each (.refl ..) fun u n hu => ?_
  refine .ite hu ?_
  extract_lets es
  clear_value es
  split
  · exact hu
  · extract_lets top
    exact .each hu fun _ _ h => .andThen h (State.setSsn_within ..)

theorem State.Within.restart {p : Parts} {s t : State} {c : CommitSt} {b : Int} {pre : State → State}
    (h : Within p s t)
    (hpre : ∀ v, Within p s v → Within p s (pre v)) (hle : p.meet hubParts = hubParts := by rfl) :
    Within p s (t.restart c b pre) := by
  unfold State.restart
  extract_lets was u v from_ w x y z
  have hv : Within p s v := hpre u (.ite (h.andThen (.widen (State.stopAll_within ..)) hle) h)
  have hx : Within hubParts v x :=
    .each (.andThen (.widen (State.applyCommits_within ..)) (State.alignSsns_within ..))
    fun _ _ h => .ite (.andThen h (State.modStrm_within ..)) h
  have hz : Within hubParts x z := .each (.each (.refl ..) fun _ _ h => .andThen h (State.modTile_within ..))
    fun _ _ h => .andThen h (.ofOnly (State.armSettle_only ..))
  exact .ite (hv.andThen hx hle) (hv.andThen (hx.trans hz.setCommits) hle)

theorem State.reanchor_within (s : State) :
    State.Within { time := true, strm := true } s s.reanchor :=
  .widen (State.stepBase_within ..)

theorem State.frameBoundary_within (s : State) (t : Nat) :
    State.Within strobeParts s (s.frameBoundary t) := by
  unfold State.frameBoundary
  extract_lets u c
  have hu : State.Within strobeParts s u :=
    .andThen (.widen (State.applySlices_within ..)) (State.applyPairs_within ..)
  refine .ite hu ?_
  split
  next v c₁ hev =>
  have hv : State.Within strobeParts s v := .ofFst hev (.andThen hu (settleChecks_within ..))
  exact .ite hv (.andThen hv (State.applyCommits_within ..))

theorem State.cycleCommits_within (s : State) (b : Int) :
    State.Within hubParts s (s.cycleCommits b) := by
  unfold State.cycleCommits
  refine .ite (.refl ..) ?_
  extract_lets all
  split
  next u c1 heu =>
  have hu : State.Within hubParts s u := .ofFst heu (.widen (settleChecks_within ..))
  refine .ite (.restart hu (fun _ h => .ite (.andThen h (State.reanchor_within ..)) h)) ?_
  split
  next v c hev =>
  have hv : State.Within hubParts s v := .ofFst hev (.widen (settleChecks_within ..))
  exact .ite hv (.andThen hv (State.applyCommits_within ..))

/-! Capture (03) -/

theorem State.beginRun_within (s : State) (t : Nat) :
    State.Within { log := false, tiles := true } s (s.beginRun t) := by
  unfold State.beginRun
  extract_lets v x bpf again x₁
  refine .ite (.refl ..) ?_
  split
  · exact .refl ..
  · extract_lets run x₂
    exact .put (.widen (State.setTile_within ..))

theorem State.pinsAt_within (s : State) (t : Nat) (at_ : Int) :
    State.Within { log := false } s (s.pinsAt t at_).2 := by
  unfold State.pinsAt
  refine .foldlSnd (.refl ..) fun on u i hu => ?_
  dsimp -zeta only
  split
  · exact hu
  extract_lets now near
  split
  · exact hu
  · exact .andThen hu (.ofOnly (State.draw_only ..))

theorem State.pruneSpans_within (s : State) :
    State.Within { log := false, dio := true } s s.pruneSpans :=
  .setDio (.refl ..)

theorem State.blanked_within (s : State) (t : Nat) (at_ : Int) :
    State.Within { log := false, dio := true, tiles := true } s (s.blanked t at_).2 :=
  .andThen (.andThen (.widen (State.pinsAt_within ..)) (State.setTile_within ..)) (State.pruneSpans_within ..)

theorem State.countTest_within (s : State) (t : Nat) (taken : Bool) :
    State.Within { log := false, tiles := true } s (s.countTest t taken) := by
  unfold State.countTest
  exact .widen (State.modTile_within ..)

theorem State.strobe_within (s : State) (t : Nat) (at_ : Int) (f : Nat) :
    State.Within strobeParts s (s.strobe t at_ f) := by
  unfold State.strobe
  extract_lets u
  split
  next blank v hev =>
  have hv : State.Within strobeParts s v :=
    .ofSnd hev
      (.andThen (.andThen (.widen (State.frameBoundary_within ..)) (.ofOnly (State.takePairs_only ..)))
        (State.blanked_within ..))
  extract_lets fault taken loc k stamp x arm w fr src y z u₁ src₁ v₁ src₂ w₁ x₁
  have hy : State.Within strobeParts s y :=
    .andThen (.when hv (.each hv fun _ _ h => .andThen h (.ofOnly (State.armSettle_only ..))))
      (State.setTile_within ..)
  have hu₁ : State.Within strobeParts s u₁ :=
    .when (.andThen hy (State.countTest_within ..)) (.bump (.andThen hy (State.countTest_within ..)))
  have hv₁ : State.Within strobeParts s v₁ := .setTime hu₁
  have hx₁ : State.Within strobeParts s x₁ := by
    unfold x₁
    split
    · exact hv₁
    · exact .log1 (.setCommits hv₁)
  exact .andThen hx₁ (State.beginRun_within ..)

/-! Conversion (03, 04) -/

theorem State.setExc_within (s : State) (t src : Nat) (e : ExcSt) :
    State.Within { log := false, tiles := true } s (s.setExc t src e) :=
  .ite (.putBit (.put (.widen (State.modTile_within ..)))) (.put (.widen (State.modTile_within ..)))

theorem State.reportExc_within (s : State) (t src cls onset : Nat) :
    State.Within { tiles := true, cal := true } s (s.reportExc t src cls onset) := by
  unfold State.reportExc
  extract_lets e known cs u v w safe src
  have hu : State.Within { tiles := true, cal := true } s u := .widen (State.setExc_within ..)
  have hv : State.Within { tiles := true, cal := true } s v := .ite (.put hu) (.put hu)
  exact .setCal (.ite hv (.ite (.logAt hv) (.logAt hv)))

theorem State.excSwitch_within (s : State) (t src : Nat) :
    State.Within { log := false, tiles := true, chains := true } s (s.excSwitch t src) :=
  .andThen (.each (.refl ..) fun _ _ h => .ite (.andThen h (.ofOnly (State.armSettle_only ..))) h)
    (State.abandonRun_within ..)

theorem State.closeWindows_within (s : State) (t : Nat) (fr : FrameRec) (sts : List Step) (exc : List (Nat × Nat)) :
    State.Within { tiles := true, cal := true } s (s.closeWindows t fr sts exc) :=
  .each (.each (.refl ..) fun _ _ h => .andThen h (State.reportExc_within ..)) fun _ _ h => .ite h
    (.andThen h (State.setExc_within ..))

theorem State.conversions_within (s : State) (t : Nat) (fr : FrameRec) (r : TileRes) :
    State.Within { log := false, tiles := true } s (s.conversions t fr r).1 :=
  .foldlFst (.refl ..) fun _ _ _ h => .bump (.andThen h (State.setTile_within ..))

theorem State.deliver_within (s : State) (t : Nat) (fr : FrameRec) (r : TileRes) (cs : List Conv) (xck : Bool) :
    State.Within frameParts s (s.deliver t fr r cs xck) := by
  unfold State.deliver
  extract_lets v lost good exc base
  split
  next w any he =>
  have hw : State.Within frameParts s w := by
    refine .ofFst he (.foldlFst (.refl ..) fun u any st hu => ?_)
    dsimp -zeta only
    refine .iteFst (.iteFst hu (.put hu)) (.iteFst hu ?_)
    extract_lets c e exf flags
    refine .iteFst (.andThen hu (State.feed_within ..)) ?_
    exact .andThen (.andThen hu (State.modTile_within ..)) (State.feed_within ..)
  exact .when hw (.bump hw)

theorem State.reserved_within (s : State) (t : Nat) (fr : FrameRec) (r : TileRes) (cs : List Conv) :
    State.Within { tiles := true } s (s.reserved t fr r cs) := by
  unfold State.reserved
  extract_lets v x one vref p₁ u w b bad vals x₁
  have hu : State.Within { tiles := true } s u := .widen (State.modTile_within ..)
  have hw : State.Within { tiles := true } s w := by
    unfold w
    clear_value one
    split
    · exact .ite (.refl ..) (.ite (.ite hu (.log1 (.put hu))) (.widen (State.modTile_within ..)))
    · exact .widen (State.modTile_within ..)
    · exact .refl ..
  exact .ite hw (.andThen hw (State.modTile_within ..))

theorem State.estimate_within (s : State) (t : Nat) (cs : List Conv) :
    State.Within { log := false, tiles := true } s (s.estimate t cs) := by
  unfold State.estimate
  exact .widen (State.modTile_within ..)

theorem State.beacon_within (s : State) (t : Nat) (dev : Option Int) :
    State.Within { tiles := true } s (s.beacon t dev).1 := by
  unfold State.beacon
  extract_lets tol
  refine .iteFst (.fst (.andThen (.put (.refl ..)) (State.modTile_within ..))) ?_
  split
  · exact .fst (.andThen (.bump (.put (.refl ..))) (State.modTile_within ..))
  extract_lets u v w
  have hu : State.Within { tiles := true } s u := .put (.refl ..)
  have hv : State.Within { tiles := true } s v := .bump (.put (.put hu))
  have hw : State.Within { tiles := true } s w := .ite hv (.log1 hv)
  exact .iteFst (.fst (.andThen (.put hu) (State.modTile_within ..))) (.fst (.andThen hw (State.modTile_within ..)))

theorem State.finishFrame_within (s : State) (t : Nat) (dev : Option Int) :
    State.Within calFrameParts s (s.finishFrame t dev) := by
  unfold State.finishFrame
  extract_lets x
  split
  · extract_lets lost u v w
    have hw : State.Within calFrameParts s w :=
      .when (.when (.bump (.refl ..)) (.bump (.bump (.refl ..))))
        (.bump (.when (.bump (.refl ..)) (.bump (.bump (.refl ..)))))
    split
    next y cs hey =>
    have hy : State.Within calFrameParts s y := .ofFst hey (.andThen hw (State.conversions_within ..))
    split
    next z xck hez =>
    have hz : State.Within calFrameParts s z := .ofFst hez (.andThen hy (State.beacon_within ..))
    extract_lets u₁ v₁ w₁ steps mean x₁
    have hv₁ : State.Within calFrameParts s v₁ :=
      .andThen (.ite hz (.andThen hz (State.closeWindows_within ..))) (State.deliver_within ..)
    have hw₁ : State.Within calFrameParts s w₁ :=
      .ite hv₁ (.andThen (.andThen hv₁ (State.estimate_within ..)) (State.reserved_within ..))
    exact .andThen (.ite hw₁ (.andThen hw₁ (State.modTile_within ..))) (State.modTile_within ..)
  · exact .refl ..

theorem State.settleGroup_within (s : State) (t : Nat) :
    State.Within calFrameParts s (s.settleGroup t) :=
  .ite (.refl ..) (.each (.refl ..) fun _ _ h => .andThen h (State.finishFrame_within ..))

/-! Calibration (05) -/

theorem State.freezeSlices_within (s : State) (t : Nat) :
    State.Within { log := false, tiles := true } s (s.freezeSlices t) :=
  .put (.widen (State.modTile_within ..))

theorem State.endChan_within (s : State) (t : Nat) (r : CalRun) (c : Nat) :
    State.Within { commits := true, tiles := true, cal := true } s (s.endChan t r c) := by
  unfold State.endChan
  extract_lets e i u v
  have hu : State.Within { commits := true, tiles := true, cal := true } s u := .bump (.refl ..)
  split
  · exact .ite hu (.log1 (.andThen hu (State.modTile_within ..)))
  · extract_lets w x y src
    exact .put (.setCommits (.put (.bump (.andThen (.put (.put (.refl ..))) (State.setMark_within ..)))))

theorem State.calStart_within (s : State) (q : Requester) (data : Word) :
    State.Within { log := false, resp := true, tiles := true } s (s.calStart q data) :=
  .cmdWrite (.refl ..)
    (fun _ h => .each h fun _ _ h => .ite h
      (.andThen (.andThen h (State.modTile_within ..)) (State.passOver_within ..)))

theorem State.calCommit_within (s : State) (q : Requester) (data : Word) :
    State.Within { log := false, resp := true, commits := true } s (s.calCommit q data) :=
  .cmdWrite (.refl ..) (fun _ h => .each h fun _ _ h => .ite h (.ite (.bump h) (.put (.setCommits h))))

theorem State.calBurn_within (s : State) (q : Requester) (data : Word) (vdd18 : Nat) :
    State.Within { resp := true, cal := true } s (s.calBurn q data vdd18) := by
  unfold State.calBurn
  refine .mediated (.refl ..) fun u hu => ?_
  extract_lets v
  refine .ite hu ?_
  split
  · exact .log1 (.put hu)
  · exact .ite (.put hu)
      (.each (.setCal (.put (.put hu))) fun _ _ h => .ite h (.andThen h (.ofOnly (State.takePairs_only ..))))

/-! Compression (09) -/

theorem State.cmpStat_within (s : State) :
    State.Within { log := false } s s.cmpStat :=
  .put (.put (.put (.refl ..)))

theorem State.setEngine_within (s : State) (e : Nat) (j : Option EngJob) :
    State.Within { log := false, cmp := true } s (s.setEngine e j) :=
  .andThen (.setCmp (.refl ..)) (State.cmpStat_within ..)

theorem State.countJob_within (s : State) (slot : Option Nat) (code : Nat) :
    State.Within { log := false } s (s.countJob slot code) := by
  unfold State.countJob
  refine .ite (.bump (.refl ..)) ?_
  extract_lets u v
  have hu : State.Within { log := false } s u := .bump (.refl ..)
  have hv : State.Within { log := false } s v := .ite (.bump hu) hu
  refine .ite hv ?_
  split
  · exact .logCycle hv
  · exact .logCycle hv

theorem State.finishSlot_within (s : State) (j code outlen consumed spare aux : Nat) :
    State.Within { log := false } s (s.finishSlot j code outlen consumed spare aux) := by
  unfold State.finishSlot
  exact .andThen (.hint (.put (.put (.put (.put (.put (.put (.put (.refl ..))))))))) (State.countJob_within ..)

theorem State.goSlot_within (s : State) (q : Requester) (j : Nat) :
    State.Within { log := false, cmp := true } s (s.goSlot q j) := by
  unfold State.goSlot
  extract_lets st bad denied u src v
  have hu : State.Within { log := false, cmp := true } s u := .ite (.widen (State.deny_within ..)) (.refl ..)
  refine .ite (.bump (.refl ..)) ?_
  refine .ite ?_ (.put (.setCmp hu))
  split
  next b w hew =>
  have hw : State.Within { log := false, cmp := true } s w := .ofSnd hew (.andThen hu (.ofOnly (State.draw_only ..)))
  exact .andThen hw (State.finishSlot_within ..)

theorem State.cancelSlot_within (s : State) (j : Nat) :
    State.Within { log := false, cmp := true } s (s.cancelSlot j) := by
  unfold State.cancelSlot
  split
  · extract_lets src u
    split
    next b v hev =>
    have hv : State.Within { log := false, cmp := true } s v :=
      .ofSnd hev (.andThen (.setCmp (.refl ..)) (.ofOnly (State.draw_only ..)))
    exact .andThen hv (State.finishSlot_within ..)
  · refine .ite (.refl ..) ?_
    split
    · exact .refl ..
    · split
      next b u heu =>
      have hu : State.Within { log := false, cmp := true } s u := .ofSnd heu (.widen (.ofOnly (State.draw_only ..)))
      split
      next y v hev =>
      have hv : State.Within { log := false, cmp := true } s v :=
        .ofSnd hev (.andThen hu (.ofOnly (State.draw_only ..)))
      extract_lets read src w
      exact .andThen (.andThen (.setCmp hv) (State.setEngine_within ..)) (State.finishSlot_within ..)
  · exact .refl ..

theorem State.slotCtl_within (s : State) (q : Requester) (j : Nat) (data : Word) :
    State.Within { log := false, resp := true, cmp := true } s (s.slotCtl q j data) :=
  .cmdWrite (.refl ..)
    (fun _ h => .ite (.andThen (.ite (.andThen h (State.goSlot_within ..)) h) (State.cancelSlot_within ..))
      (.ite (.andThen h (State.goSlot_within ..)) h))

theorem State.takeSlot_within (s : State) (e j : Nat) :
    State.Within { log := false, cmp := true } s (s.takeSlot e j) :=
  .andThen (.put (.put (.setCmp (.refl ..)))) (State.setEngine_within ..)

theorem State.pushPacket_within (s : State) (q : Nat) (ws : List Nat) :
    State.Within { log := false, strm := true } s (s.pushPacket q ws) :=
  .widen (State.setQueue_within ..)

theorem State.finishPush_within (s : State) (w : PushWait) :
    State.Within { log := false, strm := true, cmp := true } s (s.finishPush w) :=
  .andThen (.andThen (.widen (State.pushPacket_within ..)) (State.setEngine_within ..)) (State.finishSlot_within ..)

theorem State.pushSlot_within (s : State) (w : PushWait) :
    State.Within { log := false, strm := true, cmp := true } s (s.pushSlot w) := by
  unfold State.pushSlot
  extract_lets need held u v src x
  have hu : State.Within { log := false, strm := true, cmp := true } s u :=
    .ite (.refl ..) (.widen (State.makeRoom_within ..))
  exact .ite (.ite (.andThen hu (State.finishPush_within ..)) (.setCmp (.ite (.bump hu) hu)))
    (.ite (.widen (State.finishPush_within ..))
      (.andThen (.andThen (.bump (.refl ..)) (State.setEngine_within ..)) (State.finishSlot_within ..)))

theorem State.endSlot_within (s : State) (e j : Nat) :
    State.Within { log := false, strm := true, cmp := true } s (s.endSlot e j) := by
  unfold State.endSlot
  extract_lets r q src u
  split
  next b v hev =>
  have hv : State.Within { log := false, strm := true, cmp := true } s v :=
    .ofSnd hev (.andThen (.setCmp (.refl ..)) (.ofOnly (State.draw_only ..)))
  exact .ite (.andThen (.andThen hv (State.setEngine_within ..)) (State.finishSlot_within ..))
    (.ite (.andThen (.andThen (.bump hv) (State.setEngine_within ..)) (State.finishSlot_within ..))
      (.andThen hv (State.pushSlot_within ..)))

theorem State.endPullJob_within (s : State) (e id : Nat) :
    State.Within { strm := true, ports := true, mon := true, cmp := true } s (s.endPullJob e id) := by
  unfold State.endPullJob
  extract_lets u src
  have hu : State.Within { strm := true, ports := true, mon := true, cmp := true } s u :=
    .widen (State.setEngine_within ..)
  split
  · exact .andThen hu (State.countJob_within ..)
  · split
    · exact .andThen hu (State.countJob_within ..)
    · exact .ite (.andThen hu (State.countJob_within ..))
        (.ite (.andThen (.setCmp hu) (State.partGone_within ..))
          (.andThen (.andThen (.setCmp hu) (State.countJob_within ..)) (State.pushSegment_within ..)))

/-! The control cycle -/

theorem State.unconfirmed_within (s : State) :
    State.Within { commits := true } s s.unconfirmed :=
  .ite (.log1 (.widen (State.dropCommits_within ..))) (.refl ..)

/-! Daymarks (13) -/

theorem State.putBytes_within (s : State) (f : Nat → FldAt) (bs : List Byte) :
    State.Within { log := false } s (s.putBytes f bs) :=
  .each (.refl ..) fun _ _ h => .put h

theorem State.extendDm_within (s : State) (k : Nat) (v : List Byte) :
    State.Within { log := false } s (s.extendDm k v) :=
  .widen (State.putBytes_within ..)

theorem State.dmEvent_within (s : State) (code arg : Nat) :
    State.Within { log := false } s (s.dmEvent code arg) :=
  .widen (State.extendDm_within ..)

theorem State.flashErase_within (s : State) (a b : Nat) :
    State.Within { log := false, flash := true } s (s.flashErase a b) := rfl

/-! Choreography images (14) -/

theorem State.writeImage_within (s : State) (ty : FldTy) (words : Tbl Word) :
    State.Within { log := false } s (s.writeImage ty words) := by
  unfold State.writeImage
  refine .each (.refl ..) fun u a hu => ?_
  split
  · exact hu
  · exact .ite (.setRegs hu) hu

theorem State.loadIdent_within (s : State) (ident : List Byte) :
    State.Within { log := false } s (s.loadIdent ident) :=
  .put (.put (.put (.put (.refl ..))))

theorem State.candidate_within (s : State) (i : Img) :
    State.Within { log := false } s (s.candidate i) :=
  .andThen (.andThen (.widen (State.writeImage_within ..)) (State.writeImage_within ..)) (State.loadIdent_within ..)

/-! Choreography (14) -/

theorem State.chorState_within (s : State) (n : Nat) :
    State.Within { log := false } s (s.chorState n) :=
  .ite (.refl ..) (.hint (.put (.refl ..)))

theorem State.showPending_within (s : State) :
    State.Within { log := false } s s.showPending := by
  unfold State.showPending
  split
  · exact .andThen (.put (.refl ..)) (State.putBytes_within ..)
  · exact .andThen (.put (.refl ..)) (State.putBytes_within ..)

theorem State.chorCode_within (s : State) (n : Nat) :
    State.Within { log := false } s (s.chorCode n) :=
  .put (.refl ..)

theorem State.chorErr_within (s : State) (sect row : Nat) :
    State.Within { log := false } s (s.chorErr sect row) :=
  .put (.put (.refl ..))

theorem State.loadFails_within (s : State) (code sect row : Nat) :
    State.Within {} s (s.loadFails code sect row) :=
  .log1 (.andThen (.widen (State.chorCode_within ..)) (State.chorErr_within ..))

theorem State.loadImage_within (s : State) (raw : List Byte) :
    State.Within { chor := true } s (s.loadImage raw) := by
  unfold State.loadImage
  split
  · exact .widen (State.loadFails_within ..)
  · split
    · exact .widen (State.loadFails_within ..)
    · extract_lets src u v
      have hv : State.Within { chor := true } s v :=
        .put (.andThen (.andThen (.setChor (.refl ..)) (State.chorState_within ..)) (State.chorCode_within ..))
      exact .log1 (.andThen hv (State.showPending_within ..))

theorem State.chorLoad_within (s : State) :
    State.Within { chor := true } s s.chorLoad :=
  .ite (.widen (State.chorCode_within ..)) (.widen (State.loadImage_within ..))

theorem State.handSafety_within (s : State) (body : Option (List Byte)) :
    State.Within { safe := true } s (s.handSafety body) := by
  unfold State.handSafety
  split
  · exact .refl ..
  · exact .ite (.refl ..) (.log1 (.hint (.put (.setSafe (.refl ..)))))

theorem State.finishApply_within (s : State) (i : Img) :
    State.Within { safe := true, chor := true } s (s.finishApply i) := by
  unfold State.finishApply
  extract_lets slot u d v w x
  have hv : State.Within { safe := true, chor := true } s v :=
    .andThen (.andThen (.andThen (.setChor (.refl ..)) (State.chorState_within ..)) (State.chorCode_within ..))
      (State.showPending_within ..)
  have hx : State.Within { safe := true, chor := true } s x :=
    .andThen (.andThen (.put (.put (.put (.put hv)))) (State.putBytes_within ..)) (State.extendDm_within ..)
  exact .andThen (.bump hx) (State.handSafety_within ..)

theorem State.endApply_within (s : State) (code : Nat) :
    State.Within { log := false, chor := true } s (s.endApply code) :=
  .andThen (.andThen (.andThen (.setChor (.refl ..)) (State.chorState_within ..)) (State.chorCode_within ..))
    (State.showPending_within ..)

theorem State.beginApply_within (s : State) (i : Img) (b : Nat) :
    State.Within { log := false, chor := true } s (s.beginApply i b) :=
  .andThen
    (.andThen (.andThen (.setChor (.widen (State.writeImage_within ..))) (State.chorState_within ..))
      (State.chorCode_within ..)) (State.showPending_within ..)

theorem State.chorApply_within (s : State) :
    State.Within { log := false, pair := true, chor := true } s s.chorApply := by
  unfold State.chorApply
  refine .ite (.widen (State.chorCode_within ..)) ?_
  refine .ite (.widen (State.chorCode_within ..)) ?_
  split
  · exact .widen (State.chorCode_within ..)
  · split
    · exact .widen (State.chorCode_within ..)
    · extract_lets cls b u src
      have hu : State.Within { log := false, pair := true, chor := true } s u := .widen (State.beginApply_within ..)
      exact .ite (.widen (State.chorCode_within ..))
        (.ite (.widen (State.chorCode_within ..)) (.ite (.widen (State.chorCode_within ..)) (.ite (.setPair hu) hu)))

theorem State.chorDiscard_within (s : State) :
    State.Within { log := false, chor := true } s s.chorDiscard := by
  unfold State.chorDiscard
  exact .ite (.widen (State.chorCode_within ..))
    (.ite (.widen (State.chorCode_within ..))
      (.andThen
        (.put (.andThen (.andThen (.setChor (.refl ..)) (State.chorState_within ..)) (State.chorCode_within ..)))
        (State.showPending_within ..)))

theorem State.chorCtl_within (s : State) (q : Requester) (data : Word) :
    State.Within { resp := true, pair := true, chor := true } s (s.chorCtl q data) := by
  unfold State.chorCtl
  extract_lets host
  refine .mediated (.refl ..) fun u hu => ?_
  refine .ite hu ?_
  split
  · exact .ite hu (.andThen hu (State.chorLoad_within ..))
  · exact .ite hu (.andThen hu (State.chorApply_within ..))
  · exact .andThen hu (State.chorDiscard_within ..)
  · exact hu

theorem State.runExpect_within (s : State) :
    State.Within { chor := true } s s.runExpect := by
  unfold State.runExpect
  extract_lets src u
  have hu : State.Within { chor := true } s u := .setChor (.refl ..)
  split
  · exact hu
  · split
    · exact hu
    · split
      · exact hu
      · exact .log1 (.put hu)

theorem State.chorFrame_within (s : State) (t : Nat) :
    State.Within strobeParts s (s.chorFrame t) := by
  unfold State.chorFrame
  extract_lets u v src w
  have hu : State.Within strobeParts s u := .ite (.widen (State.runExpect_within ..)) (.refl ..)
  have hw : State.Within strobeParts s w := .setChor (.andThen hu (State.applyCommits_within ..))
  refine .ite hu ?_
  refine .ite hw ?_
  split
  · exact .andThen hw (State.finishApply_within ..)
  · exact hw

/-! Safety functions (11) -/

theorem State.setSafe_within (s : State) (x : SafeSt) :
    State.Within { log := false, safe := true } s (s.setSafe x) := rfl

theorem State.setBk_within (s : State) (n : Nat) (x : BkSt) :
    State.Within { log := false, safe := true } s (s.setBk n x) :=
  .widen (State.setSafe_within ..)

theorem State.bothUnits_within (s : State) (f : SafeUnit → SafeUnit) :
    State.Within { log := false, safe := true } s (s.bothUnits f) :=
  .widen (State.setSafe_within ..)

theorem State.safeHint_within (s old : State) :
    State.Within { log := false } s (s.safeHint old) :=
  .ite (.refl ..) (.hint (.refl ..))

theorem State.setCross_within (s : State) (b : Bool) :
    State.Within { log := false, safe := true } s (s.setCross b) :=
  .putBit (.widen (State.setSafe_within ..))

theorem State.setKclk_within (s : State) (b : Bool) :
    State.Within { log := false, safe := true } s (s.setKclk b) :=
  .putBit (.widen (State.setSafe_within ..))

theorem State.showBk_within (s : State) (n : Nat) :
    State.Within { log := false } s (s.showBk n) :=
  .put (.putBit (.putBit (.putBit (.putBit (.putBit (.refl ..))))))

theorem State.dropHigh_within (s : State) (n : Nat) :
    State.Within { log := false, safe := true } s (s.dropHigh n) :=
  .andThen (.andThen (.widen (State.setSafe_within ..)) (State.setBk_within ..)) (State.showBk_within ..)

theorem State.dropLow_within (s : State) (n : Nat) :
    State.Within { log := false, safe := true } s (s.dropLow n) :=
  .andThen (.andThen (.widen (State.setSafe_within ..)) (State.setBk_within ..)) (State.showBk_within ..)

theorem State.drivesOff_within (s : State) :
    State.Within { log := false, safe := true } s s.drivesOff :=
  .each (.refl ..) fun _ _ h => .andThen (.andThen h (State.setBk_within ..)) (State.showBk_within ..)

theorem State.raiseBk_within (s : State) (n f : Nat) :
    State.Within { safe := true } s (s.raiseBk n f) :=
  .ite (.refl ..)
    (.andThen (.ite (.log1 (.widen (State.setBk_within ..))) (.widen (State.setBk_within ..)))
      (State.dropHigh_within ..))

theorem State.clearBk_within (s : State) (n f : Nat) :
    State.Within { log := false, safe := true } s (s.clearBk n f) :=
  .andThen (.widen (State.setBk_within ..)) (State.showBk_within ..)

theorem State.dropHeld_within (s : State) :
    State.Within { log := false, safe := true } s s.dropHeld :=
  .each (.refl ..) fun _ _ h => .ite (.andThen h (State.dropHigh_within ..)) h

theorem State.readBk_within (s : State) (n : Nat) (t : TickIn) :
    State.Within { log := false, safe := true } s (s.readBk n t) := by
  unfold State.readBk
  extract_lets x sbv sbi own u v sum ton
  have hv : State.Within { log := false, safe := true } s v := .putBit (.put (.put (.refl ..)))
  refine .ite (.andThen hv (State.setBk_within ..)) ?_
  split
  · extract_lets okAt
    exact .andThen hv (State.setBk_within ..)

theorem State.endTest_within (s : State) (h : HoldTest) (result : Nat) :
    State.Within { safe := true } s (s.endTest h result) :=
  .log1 (.ite (.andThen (.andThen (.put (.put (.refl ..))) (State.setSafe_within ..)) (State.raiseBk_within ..))
    (.andThen (.put (.put (.refl ..))) (State.setSafe_within ..)))

theorem State.testTick_within (s : State) :
    State.Within { safe := true } s s.testTick := by
  unfold State.testTick
  split
  · exact .refl ..
  · refine .ite (.refl ..) ?_
    refine .ite (.widen (State.endTest_within ..)) ?_
    refine .ite (.refl ..) ?_
    extract_lets enc creep h bad src
    refine .ite (.widen (State.endTest_within ..)) ?_
    refine .ite (.widen (State.endTest_within ..)) ?_
    split
    · exact .ite (.widen (State.endTest_within ..)) (.widen (State.setSafe_within ..))
    · exact .widen (State.endTest_within ..)

theorem State.showInputs_within (s : State) :
    State.Within { log := false } s s.showInputs :=
  .each (.refl ..) fun _ _ h => .put (.putBit (.putBit (.putBit (.put (.put h)))))

theorem State.driveBk_within (s : State) (n : Nat) :
    State.Within { log := false, safe := true } s (s.driveBk n) :=
  .andThen (.widen (State.setBk_within ..)) (State.showBk_within ..)

theorem State.safetyTick_within (s : State) (t : TickIn) :
    State.Within { dio := true, safe := true } s (s.safetyTick t) := by
  unfold State.safetyTick
  extract_lets vs was
  split
  · extract_lets src sp src₁ kp u src₂ v w x stop src₃ sp₁ src₄ kp₁ bad run prun src₉ y z u₁
    have hu : State.Within { dio := true, safe := true } s u := .widen (State.setSafe_within ..)
    have hx : State.Within { dio := true, safe := true } s x :=
      .andThen (.each (.ite (.setDio hu) hu) fun _ _ h => .ite (.andThen h (State.raiseBk_within ..)) h)
        (State.testTick_within ..)
    have hu₁ : State.Within { dio := true, safe := true } s u₁ :=
      .andThen (.putBit (.put (.andThen hx (State.setSafe_within ..)))) (State.showInputs_within ..)
    exact .each hu₁ fun _ _ h => .andThen (.andThen h (State.driveBk_within ..)) (State.readBk_within ..)

/-! Brakes (11) -/

theorem State.withdrawAll_within (s : State) :
    State.Within { log := false, safe := true } s s.withdrawAll :=
  .andThen (.widen (State.bothUnits_within ..)) (State.drivesOff_within ..)

theorem State.startZc_within (s : State) (c : Nat) :
    State.Within { log := false, safe := true } s (s.startZc c) :=
  .put (.put (.put (.put (.put (.put (.widen (State.setSafe_within ..)))))))

theorem State.startZcs_within (s : State) :
    State.Within { log := false, safe := true } s s.startZcs :=
  .each (.widen (State.setSafe_within ..)) fun _ _ h => .andThen h (State.startZc_within ..)

theorem State.noTest_within (s : State) :
    State.Within { log := false, safe := true } s s.noTest := by
  unfold State.noTest
  split
  · exact .refl ..
  · exact .put (.put (.widen (State.setSafe_within ..)))

theorem State.startSp_within (s : State) :
    State.Within { log := false, safe := true } s s.startSp :=
  .andThen
    (.each (.andThen (.widen (State.noTest_within ..)) (State.setSafe_within ..)) fun _ _ h => .andThen h
      (State.dropHigh_within ..)) (State.startZcs_within ..)

theorem State.ackBk_within (s : State) (n : Nat) :
    State.Within { log := false, safe := true } s (s.ackBk n) := by
  unfold State.ackBk
  extract_lets x held u src v src₁
  have hu : State.Within { log := false, safe := true } s u :=
    .each (.refl ..) fun _ _ h => .ite (.andThen h (State.clearBk_within ..)) h
  exact .andThen (.ite (.andThen (.andThen hu (State.setBk_within ..)) (State.clearBk_within ..)) hu)
    (State.setBk_within ..)

theorem State.logChange_within (s : State) (mid digest : List Byte) (ok : Bool) :
    State.Within { log := false, flash := true } s (s.logChange mid digest ok).1 := by
  unfold State.logChange
  extract_lets n e
  split
  · exact .put (.widen (.ofOnly (State.flashProgram_only ..)))
  · exact .andThen (.widen (.ofOnly (State.draw_only ..))) (.ofOnly (State.flashProgram_only ..))

theorem State.setMode_within (s : State) (m : Nat) :
    State.Within { safe := true } s (s.setMode m) :=
  .ite (.put (.widen (State.setSafe_within ..))) (.log1 (.put (.widen (State.setSafe_within ..))))

theorem State.toService_within (s : State) :
    State.Within { safe := true, flash := true } s s.toService := by
  unfold State.toService
  refine .ite (.refl ..) ?_
  split
  next r u heu =>
  have hu : State.Within { safe := true, flash := true } s u := .ofSnd heu (.widen (.ofOnly (State.draw_only ..)))
  extract_lets mid v
  exact .andThen (.ite (.andThen hu (State.logChange_within ..)) hu) (State.setMode_within ..)

theorem State.switchPass_within (s : State) (n : Nat) (high : Bool) :
    State.Within { log := false, safe := true } s (s.switchPass n high) :=
  .ite (.widen (State.clearBk_within ..)) (.refl ..)

theorem State.startTest_within (s : State) (n : Nat) :
    State.Within { log := false, safe := true } s (s.startTest n) :=
  .andThen (.put (.andThen (.widen (State.setSafe_within ..)) (State.setBk_within ..))) (State.showBk_within ..)

/-! ZHOCY (11) -/

theorem State.setZc_within (s : State) (c : Nat) (x : ZcSt) :
    State.Within { log := false, safe := true } s (s.setZc c x) :=
  .widen (State.setSafe_within ..)

theorem State.zcTest_within (s : State) (c flags n : Nat) :
    State.Within { safe := true } s (s.zcTest c flags n) := by
  unfold State.zcTest
  refine .ite (.refl ..) ?_
  extract_lets u
  have hu : State.Within { safe := true } s u := .ite (.widen (State.startTest_within ..)) (.refl ..)
  split
  · exact .ite (.andThen hu (State.endTest_within ..)) hu
  · exact hu

theorem State.zcAccept_within (s : State) (c : Nat) (b : List Byte) :
    State.Within { safe := true } s (s.zcAccept c b) := by
  unfold State.zcAccept
  extract_lets f inc src u v w wait src₁ x flags y z
  have hx : State.Within { safe := true } s x :=
    .andThen (.put (.ite (.refl ..) (.put (.put (.widen (State.setSafe_within ..)))))) (State.setZc_within ..)
  have hy : State.Within { safe := true } s y := .put hx
  exact .ite hx (.andThen (.andThen (.ite (.put hy) hy) (State.zcTest_within ..)) (State.dropHeld_within ..))

theorem State.zhocy_within (s : State) (b : List Byte) :
    State.Within { safe := true, pair := true } s (s.zhocy b) := by
  unfold State.zhocy
  extract_lets len
  refine .ite (.refl ..) ?_
  refine .ite (.bump (.refl ..)) ?_
  split
  · exact .bump (.refl ..)
  · split
    · exact .bump (.refl ..)
    · extract_lets u
      exact .andThen (.widen (State.zcAccept_within ..)) (.ofOnly (State.mirror_only ..))

/-! The safety mailbox (11) -/

theorem State.configure_within (s : State) (cfg : Tbl Nat) (load : Bool) :
    State.Within { log := false, safe := true } s (s.configure cfg load) := by
  unfold State.configure
  extract_lets was src u v w x src₁ y
  have hw : State.Within { log := false, safe := true } s w :=
    .andThen (.andThen (.widen (State.setSafe_within ..)) (State.putBytes_within ..)) (State.bothUnits_within ..)
  have hx : State.Within { log := false, safe := true } s x :=
    .ite (.andThen hw (State.startZcs_within ..))
      (.each hw fun _ _ h => .ite (.andThen h (State.startZc_within ..)) h)
  have hy : State.Within { log := false, safe := true } s y := by
    unfold y
    split
    · exact .ite (.put (.andThen hx (State.setSafe_within ..))) hx
    · exact hx
  exact .andThen (.andThen hy (State.showInputs_within ..)) (State.dropHeld_within ..)

theorem State.spmbEnd_within (s : State) (code : Nat) :
    State.Within { log := false } s (s.spmbEnd code) :=
  .andThen (.put (.put (.refl ..))) (State.putBytes_within ..)

theorem State.password_within (s : State) : State.Within { safe := true } s s.password.1 := by
  unfold State.password
  refine .iteFst (.refl ..) ?_
  extract_lets n right src u k src₁ v
  have hu : State.Within { safe := true } s u := .bump (.refl ..)
  refine .iteFst (.fst (.widen (State.setSafe_within ..))) (.iteFst (.refl ..) (.iteFst (.fst ?_) (.fst ?_)))
  · exact .andThen hu (State.setSafe_within ..)
  · exact .log1 (.put (.andThen hu (State.setSafe_within ..)))

theorem State.entryMid_within (s : State) (q : Requester) (id old new : Nat) :
    State.Within { log := false } s (s.entryMid q id old new).1 := by
  unfold State.entryMid
  dsimp only
  split
  · exact .refl ..
  · exact .refl ..
  · exact .widen (.ofOnly (State.draw_only ..))

theorem State.agreeCfg_within (s : State) (q : Requester) (cfg : Tbl Nat) (load : Bool) (id old new : Nat) :
    State.Within { log := false, safe := true, pair := true } s (s.agreeCfg q cfg load id old new) := by
  unfold State.agreeCfg
  split
  next u mid heu =>
  have hu : State.Within { log := false, safe := true, pair := true } s u :=
    .ofFst heu (.widen (State.entryMid_within ..))
  extract_lets t c src v
  exact .andThen (.put (.andThen hu (State.setSafe_within ..))) (.ofOnly (State.mirror_only ..))

theorem State.mayChange_within (s : State) (sealed pw room : Bool) :
    State.Within { safe := true } s (s.mayChange sealed pw room).1 := by
  unfold State.mayChange
  refine .iteFst (.refl ..) ?_
  split
  next u code he =>
  have hu : State.Within { safe := true } s u := .ofFst he (.iteFst s.password_within (.refl ..))
  exact .iteFst hu (.iteFst hu hu)

theorem State.loadSafety_within (s : State) (q : Requester) :
    State.Within { safe := true, pair := true } s (s.loadSafety q) := by
  unfold State.loadSafety
  split
  next u code heu =>
  have hu : State.Within { safe := true, pair := true } s u := .ofFst heu (.widen (State.mayChange_within ..))
  refine .ite (.andThen hu (State.spmbEnd_within ..)) ?_
  extract_lets n b key body cfg units
  exact .ite (.andThen hu (State.spmbEnd_within ..))
    (.ite (.andThen hu (State.spmbEnd_within ..))
      (.ite (.andThen hu (State.spmbEnd_within ..))
        (.ite (.andThen hu (State.spmbEnd_within ..)) (.andThen hu (State.agreeCfg_within ..)))))

theorem State.setParam_within (s : State) (q : Requester) :
    State.Within { safe := true, pair := true } s (s.setParam q) := by
  unfold State.setParam
  extract_lets id v
  split
  next u code heu =>
  have hu : State.Within { safe := true, pair := true } s u := .ofFst heu (.widen (State.mayChange_within ..))
  exact .ite (.andThen hu (State.spmbEnd_within ..))
    (.ite (.andThen hu (State.spmbEnd_within ..))
      (.ite (.andThen hu (State.spmbEnd_within ..)) (.andThen hu (State.agreeCfg_within ..))))

theorem State.setPassword_within (s : State) (q : Requester) (flashOk : Bool) :
    State.Within { safe := true, flash := true } s (s.setPassword q flashOk) := by
  unfold State.setPassword
  split
  next u code he =>
  have hu : State.Within { safe := true, flash := true } s u := .ofFst he (.widen (State.mayChange_within ..))
  extract_lets n
  refine .ite (.andThen hu (State.spmbEnd_within ..)) (.ite (.andThen hu (State.spmbEnd_within ..)) ?_)
  split
  next v mid he =>
  have hv : State.Within { safe := true, flash := true } s v := .ofFst he (.andThen hu (State.entryMid_within ..))
  split
  next w ok he =>
  have hw : State.Within { safe := true, flash := true } s w := .ofFst he (.andThen hv (State.logChange_within ..))
  refine .ite (.andThen hw (State.spmbEnd_within ..)) ?_
  split
  next salt x he =>
  have hx : State.Within { safe := true, flash := true } s x :=
    .ofSnd he (.foldlSnd hw fun _ _ _ h => .andThen h (.ofOnly (State.draw_only ..)))
  exact .andThen (.andThen hx (State.setSafe_within ..)) (State.spmbEnd_within ..)

theorem State.clearLog_within (s : State) (q : Requester) (flashOk : Bool) :
    State.Within { safe := true, flash := true } s (s.clearLog q flashOk) := by
  unfold State.clearLog
  split
  next u code heu =>
  have hu : State.Within { safe := true, flash := true } s u := .ofFst heu (.widen (State.mayChange_within ..))
  refine .ite (.andThen hu (State.spmbEnd_within ..)) ?_
  extract_lets old
  split
  next v mid hev =>
  have hv : State.Within { safe := true, flash := true } s v := .ofFst hev (.andThen hu (State.entryMid_within ..))
  extract_lets e w
  exact .ite (.andThen hv (State.spmbEnd_within ..))
    (.andThen (.put (.andThen (.andThen hv (State.flashErase_within ..)) (.ofOnly (State.flashProgram_only ..))))
      (State.spmbEnd_within ..))

theorem State.reqTest_within (s : State) (start : Bool) :
    State.Within { safe := true } s (s.reqTest start) := by
  unfold State.reqTest
  extract_lets n
  refine .ite (.widen (State.spmbEnd_within ..)) ?_
  refine .ite (.widen (State.spmbEnd_within ..)) ?_
  refine .ite
    (.ite (.andThen (.widen (State.startTest_within ..)) (State.spmbEnd_within ..))
      (.widen (State.spmbEnd_within ..))) ?_
  split
  · exact .ite (.andThen (.widen (State.endTest_within ..)) (State.spmbEnd_within ..))
      (.widen (State.spmbEnd_within ..))
  · exact .widen (State.spmbEnd_within ..)

theorem State.readLog_within (s : State) :
    State.Within { log := false } s s.readLog :=
  .ite (.widen (State.spmbEnd_within ..))
    (.ite (.widen (State.spmbEnd_within ..))
      (.andThen (.widen (State.spmbEnd_within ..)) (State.putBytes_within ..)))

theorem State.spmbRun_within (s : State) (q : Requester) (flashOk : Bool) :
    State.Within { safe := true, pair := true, flash := true } s (s.spmbRun q flashOk) := by
  unfold State.spmbRun
  split
  · exact .widen (State.loadSafety_within ..)
  · exact .widen (State.setParam_within ..)
  · exact .widen (State.setPassword_within ..)
  · exact .widen (State.clearLog_within ..)
  · exact .widen (State.reqTest_within ..)
  · exact .widen (State.reqTest_within ..)
  · exact .widen (State.readLog_within ..)
  · exact .widen (State.spmbEnd_within ..)

theorem State.spmbCtl_within (s : State) (q : Requester) (data : Word) (flashOk : Bool) :
    State.Within { resp := true, safe := true, pair := true, flash := true } s (s.spmbCtl q data flashOk) :=
  .mediated (.refl ..)
    (fun _ h => .ite h
      (.andThen (.ite (.andThen h (State.spmbRun_within ..)) (.hint (.andThen h (State.spmbRun_within ..))))
        (State.safeHint_within ..)))

/-! The start (13) -/

theorem State.showKeys_within (s : State) :
    State.Within { log := false } s s.showKeys :=
  .put (.putBit (.putBit (.put (.put (.each (.refl ..) fun _ _ h => .each h fun _ _ h => .put h)))))

theorem State.showIdentity_within (s : State) :
    State.Within { log := false } s s.showIdentity :=
  .andThen (.andThen (.put (.put (.put (.put (.put (.put (.refl ..))))))) (State.showKeys_within ..))
    (State.putBytes_within ..)

theorem State.recover_within (s : State) :
    State.Within { log := false, sys := true } s s.recover :=
  .setSys (.put (.refl ..))

theorem State.runActive_within (s : State) (k : Nat) (fall : Option Nat) :
    State.Within { log := false, sec := true, flash := true } s (s.runActive k fall) := by
  unfold State.runActive
  extract_lets b src u
  have hu : State.Within { log := false, sec := true, flash := true } s u := .setSec (.refl ..)
  split
  · exact hu
  · extract_lets v w left x y src₁
    have hv : State.Within { log := false, sec := true, flash := true } s v := .put (.put hu)
    have hx : State.Within { log := false, sec := true, flash := true } s x := by
      unfold x
      clear_value left
      split
      · exact .andThen hv (.ofOnly (State.programWord_only ..))
      · exact hv
    exact .ite hv (.setSec (.put (.put hx)))

theorem State.resolveSlots_within (s : State) :
    State.Within { sys := true, sec := true, flash := true } s s.resolveSlots := by
  unfold State.resolveSlots
  split
  · exact .widen (State.recover_within ..)
  · refine .ite (.widen (State.runActive_within ..)) ?_
    split
    · exact .andThen (.log1 (.refl ..)) (State.runActive_within ..)
    · exact .ite
        (.andThen (.log1 (.andThen (.put (.widen (.ofOnly (State.programWord_only ..)))) (State.dmEvent_within ..)))
          (State.runActive_within ..)) (.widen (State.runActive_within ..))

theorem State.runRom_within (s : State) :
    State.Within romParts s s.runRom := by
  unfold State.runRom
  extract_lets u v w x y
  have hv : State.Within romParts s v :=
    .andThen (.andThen (.andThen (.widen (.ofOnly (State.loadFuses_only ..))) (State.showIdentity_within ..))
      (.ofOnly (State.seedRotation_only ..))) (State.extendDm_within ..)
  have hy : State.Within romParts s y :=
    .ite (.put (.put (.andThen hv (.ofOnly (State.randomWords_only ..)))))
      (.put (.andThen hv (.ofOnly (State.randomWords_only ..))))
  refine .ite (.andThen hy (State.recover_within ..)) ?_
  split
  next z he => exact .andThen (.ofFst he (.andThen hy (.ofOnly (tryBoot_only ..)))) (State.recover_within ..)
  next z c m he =>
    refine .setSec (.andThen ?_ (State.resolveSlots_within ..))
    have hz : State.Within romParts s z :=
      .ofFst he (.andThen hy (.ofOnly (tryBoot_only ..)))
    split
    · exact .ite (.andThen (.andThen (.putBit (.put hz)) (State.extendDm_within ..))
        (.ofOnly (State.activate_only ..)))
        (.andThen (.putBit (.put hz)) (State.extendDm_within ..))
    · exact .andThen (.putBit (.put hz)) (State.extendDm_within ..)

/-! Trust unit (13) -/

theorem State.Within.pl0Write {p : Parts} {s t : State} {q : Requester} {a : Nat} {mask data : Word}
    {f : State → State}
    (h : Within p s t) (hf : ∀ v, Within p s v → Within p s (f v))
    (hle : p.meet { log := false, resp := true } = { log := false, resp := true } := by rfl) :
    Within p s (t.pl0Write q a mask data f) := by
  refine .ite (h.cmdWrite hf hle) ?_
  split
  · exact h.andThen (State.answer_within ..) hle
  · exact h.andThen (State.answer_within ..) hle
  · exact .ite (h.andThen (State.answer_within ..) hle)
      (h.andThen (.andThen (.widen (t.deny_within ..)) (State.answer_within ..)) hle)

theorem State.dmCtl_within (s : State) (q : Requester) (data : Word) :
    State.Within { log := false, resp := true } s (s.dmCtl q data) :=
  .pl0Write (.refl ..)
    (fun _ h => .ite (.put (.ite (.andThen h (State.extendDm_within ..)) h))
      (.ite (.andThen h (State.extendDm_within ..)) h))

/-! Update (13) -/

theorem State.showSess_within (s : State) :
    State.Within { log := false } s s.showSess := by
  unfold State.showSess
  extract_lets n u
  have hu : State.Within { log := false } s u := .ite (.refl ..) (.hint (.put (.refl ..)))
  split
  · extract_lets v w
    exact .putBit (.put (.put (.put (.put hu))))

theorem State.setSess_within (s : State) (x : Option SessSt) :
    State.Within { log := false, sec := true } s (s.setSess x) := rfl

theorem State.modSess_within (s : State) (f : SessSt → SessSt) :
    State.Within { log := false, sec := true } s (s.modSess f) :=
  .widen (State.setSess_within ..)

theorem State.endSess_within (s : State) :
    State.Within { log := false, sec := true } s s.endSess :=
  .andThen (.setSec (.refl ..)) (State.showSess_within ..)

theorem State.sendUpd_within (s : State) (p key type a b : Nat) (payload : List Byte) :
    State.Within { log := false, ports := true } s (s.sendUpd p key type a b payload) :=
  .widen (.ofOnly (State.sendOwn_only ..))

theorem State.refuse_within (s : State) (p key img reason : Nat) :
    State.Within { log := false, ports := true } s (s.refuse p key img reason) :=
  .andThen (.bump (.refl ..)) (State.sendUpd_within ..)

theorem State.askManifest_within (s : State) (f : ManFetch) :
    State.Within { log := false, ports := true, sec := true } s (s.askManifest f) := by
  unfold State.askManifest
  split
  · extract_lets src u
    exact .andThen (.andThen (.setSec (.refl ..)) (State.sendUpd_within ..)) (State.showSess_within ..)
  · extract_lets keep_ src
    exact .andThen (.setSec (.refl ..)) (State.showSess_within ..)

theorem State.askBlock_within (s : State) (img p b : Nat) (tried : List Nat) :
    State.Within { log := false, ports := true, sec := true } s (s.askBlock img p b tried) := by
  unfold State.askBlock
  split
  · extract_lets src x
    exact .andThen (.widen (State.setSess_within ..)) (State.sendUpd_within ..)
  · exact .widen (State.modSess_within ..)

theorem State.fetchNext_within (s : State) (p : Nat) :
    State.Within { log := false, ports := true, sec := true } s (s.fetchNext p) := by
  unfold State.fetchNext
  split
  · refine .ite (.refl ..) ?_
    extract_lets busy want
    clear_value want
    split
    · exact .refl ..
    · exact .widen (State.askBlock_within ..)
  · exact .refl ..

theorem State.fetchBoth_within (s : State) :
    State.Within { log := false, ports := true, sec := true } s s.fetchBoth :=
  .andThen (.widen (State.fetchNext_within ..)) (State.fetchNext_within ..)

theorem State.moveFetch_within (s : State) (p : Nat) (f : FetchSt) :
    State.Within { log := false, ports := true, sec := true } s (s.moveFetch p f) := by
  unfold State.moveFetch
  split
  · exact .refl ..
  · extract_lets u
    exact .andThen (.andThen (.bump (.refl ..)) (State.askBlock_within ..)) (State.fetchBoth_within ..)

theorem State.pushToFollow_within (s : State) (img : Nat) (b : Option Nat) (bytes : List Byte) :
    State.Within { log := false, ports := true } s (s.pushToFollow img b bytes) := by
  unfold State.pushToFollow
  split
  · exact .refl ..
  · exact .ite (.refl ..) (.each (.refl ..) fun _ _ h => .andThen h (.ofOnly (State.sendOwn_only ..)))

theorem State.startSess_within (s : State) (m : Manifest) :
    State.Within { log := false, ports := true, sec := true, flash := true } s (s.startSess m) :=
  .andThen
    (.andThen
      (.andThen (.setSec (.andThen (.widen (State.flashErase_within ..)) (.ofOnly (State.flashProgram_only ..))))
        (State.pushToFollow_within ..)) (State.showSess_within ..)) (State.fetchBoth_within ..)

theorem State.conflict_within (s : State) (a b : Manifest) :
    State.Within { sec := true } s (s.conflict a b) :=
  .andThen (.log1 (.bump (.setSec (.refl ..)))) (State.showSess_within ..)

theorem State.badManifest_within (s : State) (bytes : List Byte) :
    State.Within { sec := true } s (s.badManifest bytes) :=
  .andThen
    (.setSec (.ite (.log1 (.ite (.bump (.refl ..)) (.log1 (.bump (.refl ..)))))
      (.ite (.bump (.refl ..)) (.log1 (.bump (.refl ..)))))) (State.showSess_within ..)

theorem State.takeManifest_within (s : State) (m : Manifest) (named : Bool) :
    State.Within { ports := true, sec := true, flash := true } s (s.takeManifest m named) := by
  unfold State.takeManifest
  extract_lets src u
  have hu : State.Within { ports := true, sec := true, flash := true } s u :=
    .andThen (.setSec (.refl ..)) (State.showSess_within ..)
  refine .ite hu ?_
  split
  · exact .ite hu
      (.ite (.andThen (.log1 (.bump hu)) (State.startSess_within ..))
        (.ite
          (.andThen (.andThen (.andThen hu (.ofOnly (State.programWord_only ..))) (State.endSess_within ..))
            (State.conflict_within ..)) hu))
  · exact .ite hu (.ite (.andThen hu (State.conflict_within ..)) (.ite hu (.andThen hu (State.startSess_within ..))))
  · exact .andThen hu (State.startSess_within ..)

theorem State.judgeManifest_within (s : State) (img : Nat) (named : Option Nat) (bytes : List Byte) :
    State.Within { ports := true, sec := true, flash := true } s (s.judgeManifest img named bytes) := by
  unfold State.judgeManifest
  extract_lets d
  refine .ite (.widen (State.badManifest_within ..)) ?_
  split
  · exact .widen (State.badManifest_within ..)
  · exact .ite (.widen (State.badManifest_within ..)) (.widen (State.takeManifest_within ..))

theorem State.offerRx_within (s : State) (p : Nat) (f : Frame) :
    State.Within { log := false, ports := true, sec := true } s (s.offerRx p f) := by
  unfold State.offerRx
  refine .ite (.refl ..) ?_
  extract_lets key b rank port old h src u fresh
  have hu : State.Within { log := false, ports := true, sec := true } s u := .setSec (.refl ..)
  split
  · exact .ite (.andThen hu (State.askManifest_within ..)) (.andThen hu (State.fetchBoth_within ..))
  · exact .ite (.andThen hu (State.fetchBoth_within ..)) (.ite (.andThen hu (State.askManifest_within ..)) hu)
  · exact .ite (.andThen hu (State.askManifest_within ..)) hu

theorem State.serve_within (s : State) (img p key block rid : Nat) (mask : Option Nat) (bytes : List Byte) :
    State.Within { log := false, ports := true } s (s.serve img p key block rid mask bytes) :=
  .bump (.each (.refl ..) fun _ _ h => .andThen h (State.sendUpd_within ..))

theorem State.blkReq_within (s : State) (p : Nat) (f : Frame) :
    State.Within { log := false, ports := true, sec := true } s (s.blkReq p f) := by
  unfold State.blkReq
  extract_lets key block rid mask src
  split
  · refine .ite (.bump (.refl ..)) ?_
    refine .ite (.widen (State.refuse_within ..)) ?_
    split
    · exact .widen (State.serve_within ..)
    · exact .ite (.setSec (.refl ..)) (.widen (State.refuse_within ..))
  · exact .widen (State.refuse_within ..)

theorem State.manRx_within (s : State) (f : Frame) :
    State.Within { ports := true, sec := true, flash := true } s (s.manRx f) := by
  unfold State.manRx
  split
  · exact .refl ..
  · refine .ite (.refl ..) ?_
    extract_lets n count m src u
    have hu : State.Within { ports := true, sec := true, flash := true } s u := .setSec (.refl ..)
    split
    · exact hu
    · exact .andThen hu (State.judgeManifest_within ..)

theorem State.blockGood_within (s : State) (m : Manifest) (b : Nat) (bytes : List Byte) :
    State.Within { log := false, ports := true, sec := true } s (s.blockGood m b bytes) :=
  .andThen
    (.andThen (.each (.setSec (.widen (State.modSess_within ..))) fun _ _ h => .andThen h (State.serve_within ..))
      (State.pushToFollow_within ..)) (State.showSess_within ..)

theorem State.blkFrag_within (s : State) (m : Manifest) (p : Nat) (f : FetchSt) (n : Nat) (body : List Byte) :
    State.Within { log := false, ports := true, sec := true } s (s.blkFrag m p f n body) := by
  unfold State.blkFrag
  extract_lets count f₁ u h
  have hu : State.Within { log := false, ports := true, sec := true } s u := .widen (State.modSess_within ..)
  refine .ite (.refl ..) ?_
  split
  · exact .widen (State.modSess_within ..)
  · extract_lets v
    have hv : State.Within { log := false, ports := true, sec := true } s v :=
      .ite (.andThen hu (State.blockGood_within ..)) (.setSec (.andThen (.bump hu) (State.modSess_within ..)))
    exact .andThen hv (State.fetchBoth_within ..)

theorem State.blkRx_within (s : State) (f : Frame) :
    State.Within { log := false, ports := true, sec := true } s (s.blkRx f) := by
  unfold State.blkRx
  split
  · extract_lets mine
    split
    · exact .refl ..
    · split
      · exact .refl ..
      · exact .ite (.widen (State.blkFrag_within ..)) (.refl ..)
  · exact .refl ..

theorem State.refuseRx_within (s : State) (f : Frame) :
    State.Within { log := false, ports := true, sec := true } s (s.refuseRx f) := by
  unfold State.refuseRx
  extract_lets key
  split
  · exact .ite (.andThen (.bump (.refl ..)) (State.askManifest_within ..)) (.refl ..)
  · split
    · refine .ite (.refl ..) ?_
      split
      · exact .refl ..
      · split
        · exact .refl ..
        · exact .widen (State.moveFetch_within ..)
    · exact .refl ..

theorem State.retryBlock_within (s : State) (p : Nat) :
    State.Within { log := false, ports := true, sec := true } s (s.retryBlock p) := by
  unfold State.retryBlock
  split
  · split
    · exact .widen (State.fetchNext_within ..)
    · exact .ite (.refl ..)
        (.ite (.widen (State.moveFetch_within ..))
          (.andThen (.andThen (.bump (.refl ..)) (State.modSess_within ..)) (State.sendUpd_within ..)))
  · exact .refl ..

theorem State.retryManifest_within (s : State) :
    State.Within { log := false, ports := true, sec := true } s s.retryManifest := by
  unfold State.retryManifest
  split
  · exact .refl ..
  · split
    · exact .refl ..
    · extract_lets h src u
      exact .ite (.refl ..)
        (.ite (.andThen (.bump (.refl ..)) (State.askManifest_within ..))
          (.andThen (.bump (.setSec (.refl ..))) (State.sendUpd_within ..)))

theorem State.pushedMan_within (s : State) (f : Frame) :
    State.Within { ports := true, sec := true, flash := true } s (s.pushedMan f) := by
  unfold State.pushedMan
  extract_lets n src
  split
  · extract_lets frags count u src₁ v
    have hu : State.Within { ports := true, sec := true, flash := true } s u := .setSec (.refl ..)
    have hv : State.Within { ports := true, sec := true, flash := true } s v := .setSec hu
    split
    · exact hu
    · split
      · exact .ite (.andThen hv (State.badManifest_within ..)) (.ite hv (.andThen hv (State.startSess_within ..)))
      · exact .andThen hv (State.badManifest_within ..)

theorem State.pushedBlk_within (s : State) (f : Frame) :
    State.Within { log := false, ports := true, sec := true } s (s.pushedBlk f) := by
  unfold State.pushedBlk
  split
  · extract_lets b frags frags₁ src u src₁ v
    have hu : State.Within { log := false, ports := true, sec := true } s u := .setSec (.refl ..)
    have hv : State.Within { log := false, ports := true, sec := true } s v := .setSec hu
    refine .ite (.refl ..) ?_
    split
    · exact hu
    · exact .ite (.andThen hv (State.blockGood_within ..)) (.bump hv)
  · exact .refl ..

/-! Update control (13) -/

theorem State.rcvCtl_within (s : State) (q : Requester) (data : Word) :
    State.Within { log := false, resp := true, sec := true } s (s.rcvCtl q data) :=
  .ite (.widen (State.answer_within ..))
    (.andThen (.ite (.ite (.bump (.refl ..)) (.refl ..)) (.setSec (.put (.ite (.bump (.refl ..)) (.refl ..)))))
      (State.answer_within ..))

/-! The pair (12) -/

theorem State.parState_within (s : State) (n : Nat) :
    State.Within { log := false } s (s.parState n) :=
  .put (.refl ..)

theorem State.modPair_within (s : State) (f : PairSt → PairSt) :
    State.Within { log := false, pair := true } s (s.modPair f) := rfl

theorem State.stepIepe_within (s : State) :
    State.Within { log := false, tiles := true, chains := true } s s.stepIepe :=
  .each (.refl ..) fun _ _ h => .andThen
    (.andThen (.andThen h (.ofOnly (State.armSettle_only ..))) (State.setChain_within ..))
    (State.abandonRun_within ..)

theorem State.endSwap_within (s : State) (result : Nat) :
    State.Within { pair := true } s (s.endSwap result) :=
  .ite (.log1 (.put (.put (.put (.widen (State.modPair_within ..))))))
    (.log1 (.put (.put (.put (.widen (State.modPair_within ..))))))

theorem State.partnerGone_within (s : State) (newLead : Bool) :
    State.Within { pair := true, chor := true } s (s.partnerGone newLead) := by
  unfold State.partnerGone
  extract_lets u v
  have hu : State.Within { pair := true, chor := true } s u := by
    unfold u
    split
    · exact .ite (.widen (State.endSwap_within ..)) (.refl ..)
    · exact .refl ..
  have hv : State.Within { pair := true, chor := true } s v := .andThen hu (State.modPair_within ..)
  exact .ite (.andThen hv (State.endApply_within ..)) hv

theorem State.takeStrm_within (s : State) (n : Nat) :
    State.Within { log := false, strm := true, ports := true } s (s.takeStrm n) :=
  .andThen
    (.andThen (.andThen (.put (.widen (State.setQueue_within ..))) (State.modStrm_within ..))
      (State.modStrm_within ..)) (State.strmReady_within ..)

theorem State.takeZhocy_within (s : State) :
    State.Within { log := false, safe := true } s s.takeZhocy := by
  unfold State.takeZhocy
  refine .each (.refl ..) fun u c hu => ?_
  extract_lets v per src
  have hv : State.Within { log := false, safe := true } s v := by
    unfold v
    split
    · exact hu
    · exact .put (.put hu)
  exact .ite hv (.andThen hv (State.setZc_within ..))

theorem State.declare_within (s : State) (cause : Nat) (cut : List Nat) :
    State.Within takeoverParts s (s.declare cause cut) := by
  unfold State.declare
  extract_lets u v w x src y z u₁
  have hw : State.Within takeoverParts s w :=
    .andThen (.andThen (.andThen (.log1 (.refl ..)) (State.modPair_within ..)) (State.partnerGone_within ..))
      (State.setRole_within ..)
  have hu₁ : State.Within takeoverParts s u₁ :=
    .each (.andThen (.andThen (.bump (.put hw)) (State.setSafe_within ..)) (State.stepIepe_within ..)) fun _ _ h =>
      .andThen h (State.setChain_within ..)
  exact .andThen (.each hu₁ fun _ _ h => .andThen h (State.takeStrm_within ..)) (State.takeZhocy_within ..)

theorem State.followLost_within (s : State) :
    State.Within { tiles := true, chains := true, pair := true, chor := true } s s.followLost :=
  .andThen
    (.andThen (.andThen (.andThen (.log1 (.refl ..)) (State.modPair_within ..)) (State.partnerGone_within ..))
      (State.stepIepe_within ..)) (State.parState_within ..)

theorem State.pushSession_within (s : State) :
    State.Within { log := false, ports := true } s s.pushSession := by
  unfold State.pushSession
  split
  · exact .each (.widen (State.pushToFollow_within ..)) fun _ _ h => .andThen h (State.pushToFollow_within ..)
  · exact .refl ..

theorem State.beat_within (s : State) (follow : Bool) (unit cycle state : Nat) :
    State.Within { ports := true, pair := true } s (s.beat follow unit cycle state) := by
  unfold State.beat
  extract_lets was u v w
  have hu : State.Within { ports := true, pair := true } s u := .widen (State.modPair_within ..)
  have hv : State.Within { ports := true, pair := true } s v := .andThen hu (State.parState_within ..)
  have hw : State.Within { ports := true, pair := true } s w := .ite (.log1 hv) hv
  exact .ite hu
    (.ite (.ite (.andThen hw (State.pushSession_within ..)) hw) (.ite (.andThen hu (State.parState_within ..)) hu))

theorem State.testFault_within (s : State) :
    State.Within { log := false, pair := true } s s.testFault :=
  .ite (.andThen (.widen (State.modPair_within ..)) (State.parState_within ..)) (.widen (State.modPair_within ..))

theorem State.compareDigest_within (s : State) (t f : Nat) (mean beacon : Int) :
    State.Within { log := false, pair := true } s (s.compareDigest t f mean beacon) := by
  unfold State.compareDigest
  split
  · exact .refl ..
  · exact .ite (.refl ..)
      (.ite
        (.andThen (.andThen (.ite (.bump (.refl ..)) (.refl ..)) (State.modPair_within ..))
          (State.testFault_within ..)) (.andThen (.ite (.bump (.refl ..)) (.refl ..)) (State.modPair_within ..)))

theorem State.alignSsn_within (s : State) (e ssn w : Nat) :
    State.Within { strm := true, pair := true } s (s.alignSsn e ssn w) := by
  unfold State.alignSsn
  split
  · exact .refl ..
  · exact .ite (.refl ..)
      (.log1 (.bump (.andThen (.andThen (.widen (State.closeBlock_within ..)) (State.setSsn_within ..))
        (State.modPair_within ..))))

theorem State.trimStrm_within (s : State) (c : StateCopy) (n : Nat) (oldest : Option Int) :
    State.Within { log := false, strm := true } s (s.trimStrm c n oldest) :=
  .widen (State.setQueue_within ..)

theorem State.alignTempo_within (s : State) (n at_ : Nat) (pos : Int) (vel : ℚ) :
    State.Within { log := false, time := true } s (s.alignTempo n at_ pos vel) := by
  unfold State.alignTempo
  extract_lets x d
  split
  · exact .widen (State.setTempo_within ..)
  · exact .widen (State.setTempo_within ..)
  · exact .widen (State.setTempo_within ..)
  · exact .refl ..

theorem State.copyEntry_within (s : State) (e : LogEntry) :
    State.Within {} s (s.copyEntry e) :=
  .widen (State.logStore_within ..)

theorem State.useCopy_within (s : State) (c : StateCopy) :
    State.Within { time := true, strm := true, pair := true } s (s.useCopy c) := by
  unfold State.useCopy
  extract_lets u v w x at_ y z u₁ v₁
  have hv : State.Within { time := true, strm := true, pair := true } s v :=
    .each (.widen (State.modPair_within ..)) fun _ _ h => .andThen h (State.alignSsn_within ..)
  have hy : State.Within { time := true, strm := true, pair := true } s y :=
    .each (.each (.put hv) fun _ _ h => .andThen h (State.trimStrm_within ..)) fun _ _ h => .andThen h
      (State.alignTempo_within ..)
  have hz : State.Within { time := true, strm := true, pair := true } s z :=
    .each hy fun _ _ h => .andThen h (State.copyEntry_within ..)
  have hu₁ : State.Within { time := true, strm := true, pair := true } s u₁ := .ite hz (.log1 hz)
  have hv₁ : State.Within { time := true, strm := true, pair := true } s v₁ :=
    .ite (.andThen hu₁ (State.modPair_within ..)) hu₁
  exact .ite (.andThen hv₁ (State.parState_within ..)) hv₁

theorem State.shadowWords_within (s : State) (ws : List (Nat × Word)) :
    State.Within { log := false } s (s.shadowWords ws) := by
  unfold State.shadowWords
  refine .each (.refl ..) fun u w hu => ?_
  split
  · exact hu
  · exact .setRegs hu

/-! Swaps (12) -/

theorem State.swapStep_within (s : State) (n : Nat) :
    State.Within { log := false, pair := true } s (s.swapStep n) :=
  .put (.widen (State.modPair_within ..))

theorem State.rehearseImage_within (s : State) (b : List Byte) :
    State.Within pairHubParts s (s.rehearseImage b) := by
  unfold State.rehearseImage
  split
  · exact .refl ..
  · extract_lets old u v
    exact .andThen (.andThen (.widen (State.candidate_within ..)) (State.applyCommits_within ..))
      (State.modPair_within ..)

theorem State.rehearse_within (s : State) (image : Bool) :
    State.Within pairHubParts s (s.rehearse image) := by
  unfold State.rehearse
  extract_lets u v
  have hv : State.Within pairHubParts s v := .put (.put (.widen (State.modPair_within ..)))
  split
  · exact .andThen hv (State.rehearseImage_within ..)
  · exact hv

theorem State.rehearseBack_within (s : State) :
    State.Within pairHubParts s s.rehearseBack := by
  unfold State.rehearseBack
  split
  · exact .refl ..
  · extract_lets u
    have hu : State.Within pairHubParts s u := .widen (State.endSwap_within ..)
    split
    · exact .andThen hu (State.rehearseImage_within ..)
    · exact hu

theorem State.swapRole_within (s : State) (follow : Bool) :
    State.Within { log := false, pair := true } s (s.swapRole follow) :=
  .andThen (.put (.widen (State.setRole_within ..))) (State.swapStep_within ..)

theorem State.swapOut_within (s : State) (image : Bool) :
    State.Within swapParts s (s.swapOut image) := by
  unfold State.swapOut
  extract_lets u v w x b src
  have hv : State.Within swapParts s v :=
    .andThen (.each (.refl ..) fun _ _ h => .andThen h (State.closePacket_within ..)) (State.modPair_within ..)
  have hw : State.Within swapParts s w :=
    .andThen (.andThen (.andThen hv (State.swapRole_within ..)) (State.parState_within ..))
      (State.stopOriginating_within ..)
  have hx : State.Within swapParts s x := .each hw fun _ _ h => .andThen h (State.setQueue_within ..)
  split
  · extract_lets y re z
    exact .andThen
      (.restart (.andThen (.andThen hx (State.candidate_within ..)) (State.dropCommits_within ..))
        (fun _ h => .ite (.andThen h (State.reanchor_within ..)) h)) (State.finishApply_within ..)
  · exact hx

theorem State.takeHandover_within (s : State) (n : Nat) (pkts : List Packet) (psn : Nat) (changed : Bool) :
    State.Within { log := false, strm := true, ports := true } s (s.takeHandover n pkts psn changed) :=
  .andThen (.andThen (.put (.widen (State.setQueue_within ..))) (State.modStrm_within ..)) (State.strmReady_within ..)

theorem State.swapIn_within (s : State) (image : Bool) (h : Handover) :
    State.Within deathParts s (s.swapIn image h) := by
  unfold State.swapIn
  extract_lets old muted u v w x y
  have hv : State.Within deathParts s v :=
    .andThen (.andThen (.widen (State.modPair_within ..)) (State.swapRole_within ..)) (State.parState_within ..)
  have hx : State.Within deathParts s x := by
    unfold x
    refine .each (.each hv fun _ _ h => .andThen h (State.setSsn_within ..)) fun z n hz => ?_
    split
    · exact .andThen hz (State.takeHandover_within ..)
  have hy : State.Within deathParts s y := .andThen hx (State.takeZhocy_within ..)
  split
  · exact .andThen hy (State.finishApply_within ..)
  · exact hy

/-! The register bus (15) -/

theorem State.setLatched_within (s : State) (q : Requester) (kind : Nat) (l : List Nat) :
    State.Within { log := false, latch := true } s (s.setLatched q kind l) := rfl

theorem State.consume_within (s : State) (q : Requester) (kind i b live : Nat) :
    State.Within { log := false, latch := true } s (s.consume q kind i b live).1 := by
  unfold State.consume
  split
  · exact .iteFst (.widen (State.setLatched_within ..)) (.refl ..)
  · exact .refl ..

theorem State.clearRoc_within (s : State) (h : RegHit) (a : Nat) :
    State.Within { log := false } s (s.clearRoc h a) :=
  .setRegs (.refl ..)

theorem State.readReg_within (s : State) (q : Requester) (h : RegHit) (a : Nat) :
    State.Within { log := false, latch := true } s (s.readReg q h a).1 := by
  unfold State.readReg
  extract_lets i v id x w n
  have hw : State.Within { log := false, latch := true } s w := .put (.refl ..)
  refine .iteFst (.widen (State.setLatched_within ..)) (.iteFst (.widen (State.consume_within ..)) ?_)
  refine .iteFst (.widen (State.setLatched_within ..))
    (.iteFst (.refl ..) (.iteFst (.refl ..) (.iteFst (.refl ..) ?_)))
  refine .iteFst (.widen (State.setLatched_within ..)) (.iteFst (.widen (State.consume_within ..)) ?_)
  refine .iteFst (.put hw)
    (.iteFst (.iteFst (.widen (State.setLatched_within ..)) (.refl ..)) (.iteFst (.refl ..) ?_))
  refine .iteFst (.put (.put (.refl ..))) (.iteFst (.iteFst (.widen (State.setLatched_within ..)) (.refl ..)) ?_)
  exact .widen (State.clearRoc_within ..)

theorem State.misaligned_within (s : State) (q : Requester) :
    State.Within { log := false, resp := true } s (s.misaligned q) :=
  .andThen (.bump (.refl ..)) (State.answer_within ..)

theorem State.unmapped_within (s : State) (q : Requester) :
    State.Within { log := false, resp := true } s (s.unmapped q) :=
  .andThen (.bump (.refl ..)) (State.answer_within ..)

theorem State.busRead_within (s : State) (q : Requester) (a size : Nat) :
    State.Within { log := false, resp := true, latch := true } s (s.busRead q a size) := by
  unfold State.busRead
  extract_lets hit
  refine .ite (.ite (.widen (State.answer_within ..)) (.widen (State.answer_within ..))) ?_
  refine .ite (.andThen (.widen (State.deny_within ..)) (State.answer_within ..)) ?_
  split
  · exact .widen (State.answer_within ..)
  · refine .ite (.widen (State.misaligned_within ..)) ?_
    clear_value hit
    split
    · exact .widen (State.unmapped_within ..)
    · split
      next u v heu =>
      have hu : State.Within { log := false, resp := true, latch := true } s u :=
        .ofFst heu (.widen (State.readReg_within ..))
      exact .andThen hu (State.answer_within ..)

/-! Host port and management (15) -/

theorem State.readWords_within (s : State) (q : Requester) (as : List Nat) :
    State.Within { log := false, resp := true, latch := true } s (s.readWords q as).1 :=
  .foldlFst (.refl ..) fun _ _ _ h => .andThen h (State.busRead_within ..)

theorem State.modHost_within (s : State) (f : HostSt → HostSt) :
    State.Within { log := false, host := true } s (s.modHost f) := rfl

theorem State.Within.legacyFrame {p : Parts} {s t : State} {clocks : Nat} {f : State → State}
    (h : Within p s t) (hf : ∀ v, Within p s v → Within p s (f v))
    (hle : p.meet { log := false, host := true } = { log := false, host := true } := by rfl) :
    Within p s (t.legacyFrame clocks f) :=
  .ite (h.bump (Parts.regs_of_le hle rfl)) (hf _ (h.andThen (t.modHost_within _) hle))

theorem State.mgmtReply_within (s : State) (p : Nat) (f : Frame) (code index : Nat) (words : List Nat) :
    State.Within { log := false, ports := true } s (s.mgmtReply p f code index words) :=
  .widen (.ofOnly (State.sendOwn_only ..))

theorem State.Within.mgmtRequest {p : Parts} {s t : State} {port : Nat} {f : Frame} {run : Requester → State → State}
    (h : Within p s t) (hf : ∀ q v, Within p s v → Within p s (run q v))
    (hle : p.meet { log := false, ports := true } = { log := false, ports := true } := by rfl) :
    Within p s (t.mgmtRequest port f run) := by
  have hp : p.regs = true := Parts.regs_of_le hle rfl
  refine .ite (h.andThen (State.mgmtReply_within ..) hle) ?_
  refine .ite ((h.bump hp).andThen (State.mgmtReply_within ..) hle) ?_
  exact .ite ((h.bump hp).logCycle.andThen (State.mgmtReply_within ..) hle) (hf _ _ ((h.bump hp).put hp))

end Sys2Proof.Machine
end

section
namespace Sys2Proof.Machine

/-! PROOF. The parts that a command reaches, where its meaning may write more than its effect does. -/

set_option Elab.async false

section Effects

variable {now : Nat} {s t : State}

theorem execRocRead_within {req : Requester} {addr size : Nat} (h : execRocRead now req addr size s = .next t) :
    State.Within { log := false, resp := true, latch := true } (s.tick now) t :=
  act_within h fun u => .widen (State.busRead_within ..)

theorem execFieldSupplyFault_within {which : Fin 4} (h : execFieldSupplyFault now which s = .next t) :
    State.Within { sys := true, dio := true, safe := true, pair := true } (s.tick now) t := by
  refine always_within h fun u => ?_
  extract_lets v w src src₁ x y
  have hv : State.Within { sys := true, dio := true, safe := true, pair := true } u v := by
    unfold v
    split
    · exact .put (.refl ..)
    · exact .put (.put (.refl ..))
    · exact .put (.refl ..)
    · exact .put (.refl ..)
  have hw : State.Within { sys := true, dio := true, safe := true, pair := true } u w := .put hv
  have hy : State.Within { sys := true, dio := true, safe := true, pair := true } u y :=
    .andThen (.upd (t := w) hw) (State.withdrawAll_within ..)
  exact .ite hw (.ite hy (.andThen (.log1 (.bump hy)) (.ofOnly (State.faultBeat_only ..))))

theorem execFieldSupplyGood_within (h : execFieldSupplyGood now s = .next t) :
    State.Within supplyParts
      (s.tick now) t := by
  refine always_within h fun u => ?_
  extract_lets v w a b x y
  have hw : State.Within supplyParts u w :=
    .put (.put (.put (.put (.put (.refl ..)))))
  have hx : State.Within supplyParts u x :=
    .upd hw
  have hy : State.Within supplyParts u y :=
    .andThen hx (State.bothUnits_within ..)
  exact .ite hw (.ite hy (.each hy fun _ _ h => .each h fun _ _ h => .andThen h (State.excSwitch_within ..)))

theorem execLogicTrafficLoss_within (h : execLogicTrafficLoss now s = .next t) :
    State.Within { log := false, dio := true, safe := true } (s.tick now) t :=
  always_within h fun u => .andThen (.setDio (.refl ..)) (State.drivesOff_within ..)

theorem execResetRelease_within {refEdges : Nat} {role : Bool} (h : execResetRelease now refEdges role s = .next t) :
    State.Within releaseParts
      (s.tick now) t := by
  refine always_within h fun u => .ite (.refl ..) ?_
  extract_lets src v w
  have hv : State.Within releaseParts u v := rfl
  exact .andThen (.putBit (.putBit (.putBit (.putBit hv)))) (State.runRom_within ..)

theorem execControlCycle_within (h : execControlCycle now s = .next t) : State.Within controlParts
    (s.tick now) t := by
  refine act_cut (q := { controlParts with safe := true }) h fun u => .ite (.refl ..) ?_
  refine .andThen (.andThen ?_ (.ofOnly (State.sendCopy_only ..))) (.ofOnly (State.pushEvents_only ..))
  refine .andThen (.andThen (.andThen ?_ (State.docmdCycle_within ..)) (monCycle_within ..))
    (State.publishTempo_within ..)
  refine .andThen (.andThen ?_ (State.unconfirmed_within ..)) (State.cycleCommits_within ..)
  exact .setTime (.widen (.ofOnly (State.logCycleEnd_only ..)))

theorem execFrameStrobe_within {tile : Fin 4} (h : execFrameStrobe now tile s = .next t) :
    State.Within strobeParts (s.tick now) t := by
  refine act_within h fun u => ?_
  extract_lets t v
  have hv : State.Within strobeParts u v :=
    .andThen (.each (.refl ..) fun _ _ h => .andThen h (State.modTile_within ..)) (State.settleGroup_within ..)
  split
  · exact .refl ..
  · refine .ite (.refl ..) ?_
    split
    · exact hv
    · exact .andThen (.ite (.andThen hv (State.chorFrame_within ..)) hv) (State.strobe_within ..)

theorem execTempoStrobeFix_within {tile : Fin 4} (h : execTempoStrobeFix now tile s = .next t) :
    State.Within { log := false, tiles := true } (s.tick now) t := by
  refine act_within h fun u => ?_
  extract_lets t x k
  split
  · exact .ite (.refl ..)
      (.ite (.logCycle (.bump (.widen (State.setTile_within ..))))
        (.andThen (.when (.widen (State.setTile_within ..)) (.bump (.widen (State.setTile_within ..))))
          (State.setTile_within ..)))
  · exact .refl ..

theorem execTileResultTransfer_within {tile : Fin 4} {res : TileRes}
    (h : execTileResultTransfer now tile res s = .next t) :
    State.Within calFrameParts (s.tick now) t :=
  act_within h fun u => .ite (.refl ..) (.andThen (.widen (State.setTile_within ..)) (State.settleGroup_within ..))

theorem execExcFault_within {tile : Fin 4} {src : Fin 120} {cls : Fin 9} {onset : Nat}
    (h : execExcFault now tile src cls onset s = .next t) :
    State.Within { tiles := true, cal := true } (s.tick now) t :=
  act_within h fun u => .ite (.refl ..) (.widen (State.reportExc_within ..))

theorem execExcTrip_within {tile : Fin 4} {group : Fin 24} (h : execExcTrip now tile group s = .next t) :
    State.Within { tiles := true, cal := true } (s.tick now) t :=
  act_within h fun u => .ite (.refl ..)
    (.andThen (.bump (.widen (State.setExc_within ..))) (State.reportExc_within ..))

theorem execExcTripRetry_within {tile : Fin 4} {group : Fin 24} {limited : Bool}
    (h : execExcTripRetry now tile group limited s = .next t) :
    State.Within { log := false, tiles := true, chains := true } (s.tick now) t := by
  refine act_within h fun u => ?_
  extract_lets t g e cs
  split
  · exact .refl ..
  · exact .ite (.refl ..)
      (.ite (.widen (State.setExc_within ..))
        (.andThen (.widen (State.setExc_within ..)) (State.excSwitch_within ..)))

theorem execExcClear_within {tile : Fin 4} {src : Fin 120} (h : execExcClear now tile src s = .next t) :
    State.Within { tiles := true } (s.tick now) t :=
  act_within h fun u => .each (.widen (State.setExc_within ..)) fun _ _ h => .ite (.log1 h) (.log1 h)

theorem execOpenInputTest_within {tile : Fin 4} {failed : List Nat}
    (h : execOpenInputTest now tile failed s = .next t) :
    State.Within { log := false, tiles := true } (s.tick now) t :=
  act_within h fun u => .ite (.refl ..)
    (.each (.widen (State.modTile_within ..)) fun _ _ h => .putBit
      (.when (.andThen h (State.modTile_within ..)) (.bump (.andThen h (State.modTile_within ..)))))

theorem execBlankPinEdge_within {pin : Fin 4} {on : Bool} (h : execBlankPinEdge now pin on s = .next t) :
    State.Within { log := false, dio := true, tiles := true } (s.tick now) t :=
  act_within h fun u => .ite (.refl ..)
    (.ite (.put (.setDio (.refl ..)))
      (.each (.put (.setDio (.refl ..))) fun _ _ h => .ite (.andThen h (State.modTile_within ..)) h))

theorem execBcnClear_within {tile : Fin 4} (h : execBcnClear now tile s = .next t) :
    State.Within { tiles := true } (s.tick now) t :=
  act_within h fun u => .ite (.refl ..) (.log1 (.widen (State.setTile_within ..)))

theorem execCalRefRecover_within {tile : Fin 4} (h : execCalRefRecover now tile s = .next t) :
    State.Within { log := false } (s.tick now) t :=
  act_within h fun u => .ite (.refl ..) (.put (.refl ..))

theorem execSliceBlockEnd_within {tile : Fin 4} (h : execSliceBlockEnd now tile s = .next t) :
    State.Within { tiles := true } (s.tick now) t := by
  refine act_within h fun u => ?_
  extract_lets t x n old l x₁ v
  refine .ite (.refl ..) ?_
  refine .ite (.andThen (.widen (State.setTile_within ..)) (State.freezeSlices_within ..)) ?_
  exact .ite
    (.andThen (.andThen (.ite (.refl ..) (.log1 (.refl ..))) (State.setTile_within ..))
      (State.freezeSlices_within ..))
    (.ite (.widen (State.setTile_within ..)) (.put (.widen (State.setTile_within ..))))

theorem execCalRunEnd_within {tile : Fin 4} (h : execCalRunEnd now tile s = .next t) :
    State.Within { commits := true, tiles := true, cal := true } (s.tick now) t := by
  refine act_within h fun u => ?_
  extract_lets t
  split
  · exact .refl ..
  · exact .ite (.refl ..)
      (.andThen
        (.put (.andThen (.each (.refl ..) fun _ _ h => .andThen h (State.endChan_within ..))
          (State.modTile_within ..))) (State.passOver_within ..))

theorem execCalStart_within {req : Requester} {data : Word} (h : execCalStart now req data s = .next t) :
    State.Within { log := false, resp := true, tiles := true } (s.tick now) t :=
  act_within h fun u => .widen (State.calStart_within ..)

theorem execCalCommit_within {req : Requester} {data : Word} (h : execCalCommit now req data s = .next t) :
    State.Within { log := false, resp := true, commits := true } (s.tick now) t :=
  act_within h fun u => .widen (State.calCommit_within ..)

theorem execCalTempCheck_within (h : execCalTempCheck now s = .next t) :
    State.Within { tiles := true, cal := true } (s.tick now) t :=
  act_within h fun u => .ite (.refl ..)
    (.each (.setCal (.refl ..)) fun _ _ h => .andThen (.ite (.log1 h) h) (State.modTile_within ..))

theorem execCalBurn_within {req : Requester} {data : Word} {vdd18 : Nat}
    (h : execCalBurn now req data vdd18 s = .next t) :
    State.Within { resp := true, cal := true } (s.tick now) t :=
  act_within h fun u => .widen (State.calBurn_within ..)

theorem execCalBurnEnd_within {missed : List (Nat × Nat)} (h : execCalBurnEnd now missed s = .next t) :
    State.Within { cal := true, fuse := true } (s.tick now) t := by
  refine act_within h fun u => ?_
  split
  · exact .refl ..
  · exact .ite (.refl ..)
      (.log1 (.put (.put (.put (.setCal (.each (.refl ..) fun _ _ h => .andThen h (.ofOnly (State.burnWord_only ..))))))))

theorem execResLoRead_within {req : Requester} {e : Fin 512} (h : execResLoRead now req e s = .next t) :
    State.Within { log := false, resp := true, latch := true } (s.tick now) t :=
  act_within h fun u => .widen (State.busRead_within ..)

theorem execResHiRead_within {req : Requester} {e : Fin 512} (h : execResHiRead now req e s = .next t) :
    State.Within { log := false, resp := true, latch := true } (s.tick now) t :=
  act_within h fun u => .widen (State.busRead_within ..)

theorem execWbNsRead_within {req : Requester} {k : Fin 2} (h : execWbNsRead now req k s = .next t) :
    State.Within { log := false, resp := true, latch := true } (s.tick now) t :=
  act_within h fun u => .widen (State.busRead_within ..)

theorem execNbNsRead_within {req : Requester} {n : Fin 6} (h : execNbNsRead now req n s = .next t) :
    State.Within { log := false, resp := true, latch := true } (s.tick now) t :=
  act_within h fun u => .widen (State.busRead_within ..)

theorem execTempoPosRead_within {req : Requester} {n : Fin 4} (h : execTempoPosRead now req n s = .next t) :
    State.Within { log := false, resp := true, latch := true } (s.tick now) t :=
  act_within h fun u => .widen (State.busRead_within ..)

theorem execLedgerRead_within {req : Requester} {st : Fin 64} (h : execLedgerRead now req st s = .next t) :
    State.Within { log := false, resp := true, latch := true } (s.tick now) t :=
  act_within h fun u => .widen (State.busRead_within ..)

theorem execCmpInbytesRead_within {req : Requester} (h : execCmpInbytesRead now req s = .next t) :
    State.Within { log := false, resp := true } (s.tick now) t :=
  act_within h fun _ => .cmdRead (.refl ..) (.fst (.put (.put (.refl ..))))

theorem execLogEntryRead_within {req : Requester} {slot : Fin 8192} (h : execLogEntryRead now req slot s = .next t) :
    State.Within { log := false, resp := true, latch := true } (s.tick now) t :=
  act_within h fun u => .widen (State.busRead_within ..)

theorem execPtpRx_within {port : Fin 4} {m : PtpMsg} (h : execPtpRx now port m s = .next t) :
    State.Within { time := true, strm := true, ports := true, mon := true } (s.tick now) t := by
  refine act_within h fun u => ?_
  extract_lets p₁ v
  have hv : State.Within { time := true, strm := true, ports := true, mon := true } u v := .bump (.refl ..)
  refine .ite (.refl ..) ?_
  refine .ite (.bump hv) ?_
  split
  · exact .ite hv (.andThen hv (State.ptpPass_within ..))
  · exact .ite (.bump hv)
      (.ite hv
        (.ite
          (.andThen
            (.andThen (.ite (.andThen hv (.ofOnly (State.sendPtp_only ..))) hv) (.ofOnly (State.ptpForward_only ..)))
            (State.ptpUse_within ..))
          (.andThen (.ite (.andThen hv (.ofOnly (State.sendPtp_only ..))) hv) (.ofOnly (State.ptpForward_only ..)))))

theorem execPtpDelayReqSend_within {k : Fin 2} (h : execPtpDelayReqSend now k s = .next t) :
    State.Within { log := false, time := true, ports := true } (s.tick now) t :=
  act_within h fun u => .ite (.refl ..)
    (.ite (.andThen (.widen (State.setPtp_within ..)) (.ofOnly (State.sendPtp_only ..)))
      (.each (.widen (State.setPtp_within ..)) fun _ _ h => .andThen h (.ofOnly (State.sendPtp_only ..))))

theorem execPtpSyncLoss_within {k : Fin 2} (h : execPtpSyncLoss now k s = .next t) :
    State.Within { time := true } (s.tick now) t :=
  act_within h fun u => .ite (.refl ..)
    (.ite (.widen (State.takePort_within ..)) (.ite (.refl ..) (.widen (State.loseSource_within ..))))

theorem execHoldLimitExceeded_within {k : Fin 2} (h : execHoldLimitExceeded now k s = .next t) :
    State.Within { time := true } (s.tick now) t :=
  act_within h fun u => .ite (.refl ..) (.log1 (.widen (State.setWb_within ..)))

theorem execTimOffsetLarge_within (h : execTimOffsetLarge now s = .next t) :
    State.Within { time := true } (s.tick now) t :=
  act_within h fun u => .ite (.refl ..) (.log1 (.widen (State.setWb_within ..)))

theorem execNbWrap_within {n : Fin 6} (h : execNbWrap now n s = .next t) :
    State.Within { log := false, time := true, strm := true } (s.tick now) t :=
  act_within h fun u => .ite (.refl ..) (.andThen (.setTime (.refl ..)) (State.owe_within ..))

theorem execPpsOutPulse_within (h : execPpsOutPulse now s = .next t) :
    State.Within { log := false, time := true } (s.tick now) t :=
  act_within h fun u => .ite (.refl ..) (.setTime (.refl ..))

theorem execPpsInEdge_within (h : execPpsInEdge now s = .next t) :
    State.Within { time := true, strm := true, mon := true } (s.tick now) t := by
  refine act_within h fun u => ?_
  extract_lets x0 x1 v w x src y near src₁ z u₁
  have hy : State.Within { time := true, strm := true, mon := true } u y := .setTime (.put (.put (.put (.refl ..))))
  have hz : State.Within { time := true, strm := true, mon := true } u z := .setTime hy
  have hu₁ : State.Within { time := true, strm := true, mon := true } u u₁ := by
    unfold u₁
    split
    · exact hy
    · extract_lets d
      exact .ite hz (.andThen hz (State.stepBase_within ..))
  exact .ite hy (.andThen hu₁ (State.offset_within ..))

theorem execPpsInLoss_within (h : execPpsInLoss now s = .next t) :
    State.Within { time := true } (s.tick now) t := by
  refine act_within h fun u => ?_
  split
  · exact .refl ..
  · exact .ite (.widen (State.loseSource_within ..)) (.refl ..)

theorem execWb1Set_within {req : Requester} {data : Word} (h : execWb1Set now req data s = .next t) :
    State.Within { log := false, resp := true, time := true } (s.tick now) t :=
  act_within h fun u => .cmdWrite (.refl ..) (fun _ h => .andThen h (State.setWb1_within ..))

theorem execEncoderEdge_within {enc : Fin 4} {edge : QuadEdge} (h : execEncoderEdge now enc edge s = .next t) :
    State.Within { log := false, time := true } (s.tick now) t := by
  refine act_within h fun u => ?_
  refine .each (.widen (State.rawEdge_within ..)) fun v n hv => ?_
  split
  · exact .andThen hv (State.setTempo_within ..)
  · exact .andThen hv (State.setTempo_within ..)
  · exact .logCycle (.bump hv)

theorem execEncoderIndex_within {enc : Fin 4} (h : execEncoderIndex now enc s = .next t) :
    State.Within { log := false } (s.tick now) t :=
  act_within h fun u => .each (.refl ..) fun _ _ h => .put (.put h)

theorem execMainsEdge_within (h : execMainsEdge now s = .next t) :
    State.Within { time := true } (s.tick now) t := by
  refine act_within h fun u => ?_
  refine .each (.refl ..) fun v n hv => ?_
  extract_lets b b₁
  split
  · exact .andThen hv (State.setTempo_within ..)
  · extract_lets d k far
    exact .ite
      (.ite (.andThen hv (State.setTempo_within ..))
        (.andThen (.andThen hv (State.setTempo_within ..)) (.ofOnly (State.enterTempo_only ..))))
      (.ite (.bump hv) (.andThen (.andThen hv (State.setTempo_within ..)) (.ofOnly (State.enterTempo_only ..))))

theorem execMainsHoldover_within (h : execMainsHoldover now s = .next t) :
    State.Within { time := true } (s.tick now) t := by
  refine act_within h fun u => ?_
  refine .each (.refl ..) fun v n hv => ?_
  extract_lets b
  split
  · exact hv
  · exact .ite (.andThen hv (.ofOnly (State.enterTempo_only ..))) hv

theorem execMainsLost_within (h : execMainsLost now s = .next t) :
    State.Within { time := true } (s.tick now) t := by
  refine act_within h fun u => ?_
  refine .each (.refl ..) fun v n hv => ?_
  split
  · exact hv
  · exact .ite (.andThen (.andThen hv (.ofOnly (State.enterTempo_only ..))) (State.setTempo_within ..)) hv

theorem execTempoRx_within {rx : Rx} (h : execTempoRx now rx s = .next t) :
    State.Within { time := true, ports := true, mon := true } (s.tick now) t :=
  act_within h fun u => .receive (.refl ..)
    (fun _ h => .ite h (.each h fun _ _ h => .ite (.andThen h (State.tempoAccept_within ..)) (.bump h)))

theorem execTempoHoldover_within {n : Fin 4} (h : execTempoHoldover now n s = .next t) :
    State.Within { time := true } (s.tick now) t :=
  act_within h fun u => .ite (.refl ..)
    (.andThen (.widen (State.setTempo_within ..)) (.ofOnly (State.enterTempo_only ..)))

theorem execTempoLost_within {n : Fin 4} (h : execTempoLost now n s = .next t) :
    State.Within { time := true } (s.tick now) t :=
  act_within h fun u => .ite (.refl ..)
    (.andThen (.widen (.ofOnly (State.enterTempo_only ..))) (State.setTempo_within ..))

theorem execTempoRecordWrite_within {n : Fin 4} (h : execTempoRecordWrite now n s = .next t) :
    State.Within { log := false, time := true } (s.tick now) t :=
  act_within h fun u => .ite (.refl ..) (.setTime (.refl ..))

theorem execDiLevelAccept_within {i : Fin 128} {level : Bool} {since : Nat}
    (h : execDiLevelAccept now i level since s = .next t) :
    State.Within { dio := true, strm := true, ports := true, mon := true } (s.tick now) t :=
  act_within h fun u => .ite (.refl ..)
    (.ite (.widen (State.setDi_within ..))
      (.andThen (.andThen (.ite (.put (.put (.refl ..))) (.refl ..)) (State.setDi_within ..))
        (State.diFlush_within ..)))

theorem execDiLevelSample_within {i : Fin 128} {transferFailed : Bool}
    (h : execDiLevelSample now i transferFailed s = .next t) :
    State.Within { dio := true, strm := true, ports := true, mon := true } (s.tick now) t :=
  act_within h fun u => .ite (.refl ..)
    (.andThen (.andThen (.widen (State.setDi_within ..)) (.ofOnly (State.output_only ..))) (State.diFlush_within ..))

theorem execDoPush_within {req : Requester} {data : Word} (h : execDoPush now req data s = .next t) :
    State.Within { resp := true, dio := true, pair := true } (s.tick now) t :=
  act_within h fun u => .cmdWrite (.refl ..) (fun _ h => .andThen h (State.doqCtl_within ..))

theorem execDoClear_within {req : Requester} {data : Word} (h : execDoClear now req data s = .next t) :
    State.Within { resp := true, dio := true, pair := true } (s.tick now) t :=
  act_within h fun u => .cmdWrite (.refl ..) (fun _ h => .andThen h (State.doqCtl_within ..))

theorem execDoFix_within {d : Fin 32} (h : execDoFix now d s = .next t) :
    State.Within { dio := true } (s.tick now) t :=
  act_within h fun u => .each (.refl ..) fun _ _ h => .andThen h (State.fixEntry_within ..)

theorem execDoEdge_within {d : Fin 32} (h : execDoEdge now d s = .next t) :
    State.Within { log := false, dio := true } (s.tick now) t :=
  act_within h fun u => .each (.refl ..) fun _ _ h => .andThen h (State.runEntry_within ..)

theorem execStreamFlush_within {st : Fin 64} (h : execStreamFlush now st s = .next t) :
    State.Within { log := false, strm := true, ports := true } (s.tick now) t :=
  act_within h fun u => .ite (.refl ..) (.widen (State.closePacket_within ..))

theorem execQueueStallResume_within {q : Fin 80} (h : execQueueStallResume now q s = .next t) :
    State.Within { log := false, strm := true, cmp := true } (s.tick now) t := by
  refine act_within h fun u => ?_
  split
  · exact .refl ..
  · extract_lets need v src
    have hv : State.Within { log := false, strm := true, cmp := true } u v :=
      .ite (.refl ..) (.widen (State.makeRoom_within ..))
    exact .ite hv (.andThen (.setCmp hv) (State.finishPush_within ..))

theorem execStreamSkipResume_within {st : Fin 64} (h : execStreamSkipResume now st s = .next t) :
    State.Within { log := false, strm := true } (s.tick now) t :=
  act_within h fun u => .ite (.widen (State.setStrm_within ..)) (.refl ..)

theorem execHistoryBlockRelease_within {e : Fin 512} (h : execHistoryBlockRelease now e s = .next t) :
    State.Within { log := false, strm := true } (s.tick now) t := by
  refine act_within h fun u => ?_
  extract_lets h
  split
  · exact .refl ..
  · exact .ite (.andThen (.widen (State.setHist_within ..)) (State.setFree_within ..)) (.refl ..)

theorem execStreamNakRx_within {rx : Rx} (h : execStreamNakRx now rx s = .next t) :
    State.Within { log := false, strm := true, ports := true } (s.tick now) t :=
  act_within h fun u => .receive (.refl ..) (fun _ h => .andThen h (State.nak_within ..))

theorem execCmpJobSubmit_within {req : Requester} {j : Fin 32} {data : Word}
    (h : execCmpJobSubmit now req j data s = .next t) :
    State.Within { log := false, resp := true, cmp := true } (s.tick now) t :=
  act_within h fun u => .widen (State.slotCtl_within ..)

theorem execCmpJobCancel_within {req : Requester} {j : Fin 32} {data : Word}
    (h : execCmpJobCancel now req j data s = .next t) :
    State.Within { log := false, resp := true, cmp := true } (s.tick now) t :=
  act_within h fun u => .widen (State.slotCtl_within ..)

theorem execCmpJobStart_within {e : Fin 6} (h : execCmpJobStart now e s = .next t) :
    State.Within { log := false, cmp := true } (s.tick now) t := by
  refine act_within h fun u => ?_
  refine .ite (.refl ..) ?_
  refine .ite ?_ ?_
  · split
    · exact .widen (State.takeSlot_within ..)
    · exact .refl ..
  · split
    · refine .ite (.andThen (.setCmp (.refl ..)) (State.setEngine_within ..)) ?_
      split
      · exact .widen (State.takeSlot_within ..)
      · exact .refl ..
    · split
      · exact .widen (State.takeSlot_within ..)
      · exact .refl ..

theorem execCmpJobEnd_within {e : Fin 6} (h : execCmpJobEnd now e s = .next t) :
    State.Within { strm := true, ports := true, mon := true, cmp := true } (s.tick now) t := by
  refine act_within h fun u => ?_
  extract_lets v
  have hv : State.Within { strm := true, ports := true, mon := true, cmp := true } u v :=
    .widen (State.settleWires_within ..)
  split
  · exact hv
  · exact .ite hv (.andThen hv (State.endSlot_within ..))
  · exact .andThen hv (State.endPullJob_within ..)

theorem execPhyLinkUp_within {port : Fin 4} {pcs : Nat} {master : Bool} {snr : Nat} {peerOk : Bool}
    (h : execPhyLinkUp now port pcs master snr peerOk s = .next t) :
    State.Within { log := false, ports := true } (s.tick now) t :=
  act_within h fun u => .ite (.refl ..)
    (.andThen (.put (.put (.put (.putBit (.put (.putBit (.putBit (.refl ..)))))))) (State.modPort_within ..))

theorem execSgmiiControlWord_within {port : Fin 4} {link fullDuplex : Bool} {speed : Nat}
    (h : execSgmiiControlWord now port link fullDuplex speed s = .next t) :
    State.Within { time := true, strm := true, ports := true, cmp := true } (s.tick now) t :=
  act_within h fun u => .ite (.refl ..) (.andThen (.widen (State.modPort_within ..)) (State.evalUp_within ..))

theorem execLinkHelloSend_within {port : Fin 4} (h : execLinkHelloSend now port s = .next t) :
    State.Within { log := false, ports := true } (s.tick now) t :=
  act_within h fun u => .ite (.refl ..)
    (.ite (.widen (State.setPort_within ..))
      (.andThen (.widen (State.setPort_within ..)) (State.sendLink_within ..)))

theorem execLinkHelloRx_within {rx : Rx} (h : execLinkHelloRx now rx s = .next t) :
    State.Within { time := true, strm := true, ports := true, cmp := true, pair := true } (s.tick now) t :=
  act_within h fun u => .receive (.refl ..) (fun _ h => .andThen h (State.helloRx_within ..))

theorem execHelloMiss_within {port : Fin 4} (h : execHelloMiss now port s = .next t) :
    State.Within { time := true, strm := true, ports := true, cmp := true } (s.tick now) t := by
  refine act_within h fun u => ?_
  extract_lets p₁ x
  split
  · exact .refl ..
  · exact .ite (.refl ..)
      (.ite (.widen (State.setPort_within ..))
        (.andThen (.bump (.widen (State.setPort_within ..))) (State.evalUp_within ..)))

theorem execRootHelloRx_within {rx : Rx} (h : execRootHelloRx now rx s = .next t) :
    State.Within { log := false, strm := true, ports := true } (s.tick now) t :=
  act_within h fun u => .receive (.refl ..) (fun _ h => .andThen h (State.rootHello_within ..))

theorem execRootHelloMiss_within {port : Fin 4} (h : execRootHelloMiss now port s = .next t) :
    State.Within { time := true, strm := true, ports := true, cmp := true } (s.tick now) t := by
  refine act_within h fun u => ?_
  extract_lets p₁ x
  split
  · exact .refl ..
  · exact .ite (.refl ..)
      (.ite (.widen (State.setPort_within ..))
        (.andThen (.widen (State.setPort_within ..)) (State.rootLost_within ..)))

theorem execTransitFrameRx_within {rx : Rx} (h : execTransitFrameRx now rx s = .next t) :
    State.Within { log := false, ports := true } (s.tick now) t :=
  act_within h fun u => .receive (.refl ..) (fun _ h => h)

theorem execFrameRxDiscard_within {rx : Rx} (h : execFrameRxDiscard now rx s = .next t) :
    State.Within { log := false, ports := true } (s.tick now) t := by
  refine act_within h fun u => ?_
  split
  next v ok hev =>
  have hv : State.Within { log := false, ports := true } u v := .ofFst hev (.widen (State.rxGate_within ..))
  exact .ite hv (.ite (.bump hv) (.refl ..))

theorem execArpRx_within {port : Fin 4} {eth : Eth} {m : ArpMsg} (h : execArpRx now port eth m s = .next t) :
    State.Within { log := false, ports := true } (s.tick now) t := by
  refine act_within h fun u => ?_
  extract_lets p₁ v
  have hv : State.Within { log := false, ports := true } u v := .bump (.refl ..)
  refine .ite (.refl ..) ?_
  refine .ite (.bump (.refl ..)) ?_
  refine .ite (.bump hv) ?_
  split
  next w ok hew =>
  have hw : State.Within { log := false, ports := true } u w := .ofFst hew (.andThen hv (State.secCheck_within ..))
  exact .ite hw
    (.ite (.bump hw)
      (.ite (.andThen (.ite (.andThen hw (State.modPort_within ..)) hw) (State.sendArp_within ..))
        (.ite (.andThen hw (State.modPort_within ..)) hw)))

theorem execMkpduRx_within {port : Fin 4} {m : Mkpdu} (h : execMkpduRx now port m s = .next t) :
    State.Within { time := true, strm := true, ports := true, cmp := true } (s.tick now) t :=
  act_within h fun u => .ite (.refl ..)
    (.ite (.bump (.bump (.refl ..)))
      (.ite (.bump (.refl ..)) (.andThen (.bump (.refl ..)) (State.mkaUse_within ..))))

theorem execMkaHelloSend_within {port : Fin 4} (h : execMkaHelloSend now port s = .next t) :
    State.Within { log := false, ports := true } (s.tick now) t :=
  act_within h fun u => .ite (.refl ..) (.andThen (.widen (State.modPort_within ..)) (State.sendMkpdu_within ..))

theorem execMkaRekey_within {port : Fin 4} (h : execMkaRekey now port s = .next t) :
    State.Within { time := true, strm := true, ports := true, cmp := true } (s.tick now) t :=
  act_within h fun u => .ite (.refl ..) (.widen (State.newSak_within ..))

theorem execMkaFail_within {port : Fin 4} (h : execMkaFail now port s = .next t) :
    State.Within { ports := true } (s.tick now) t :=
  act_within h fun u => .ite (.refl ..) (.log1 (.widen (State.setPort_within ..)))

theorem execMacsecInstall_within {req : Requester} {port : Fin 4} {data : Word}
    (h : execMacsecInstall now req port data s = .next t) :
    State.Within { resp := true, time := true, strm := true, ports := true, cmp := true } (s.tick now) t :=
  act_within h fun u => .widen (State.sctl_within ..)

theorem execMgmtReadReq_within {rx : Rx} (h : execMgmtReadReq now rx s = .next t) :
    State.Within { log := false, resp := true, ports := true, latch := true } (s.tick now) t := by
  refine act_within h fun u => ?_
  refine .receive (.refl ..) fun v hv => .mgmtRequest hv fun q w hw => ?_
  split
  next x ws bad he =>
  exact .andThen (.ofFst he (.andThen hw (State.readWords_within ..))) (State.mgmtReply_within ..)

theorem execMgmtHealthRx_within {rx : Rx} (h : execMgmtHealthRx now rx s = .next t) :
    State.Within { log := false, ports := true, pair := true } (s.tick now) t := by
  refine act_within h fun u => ?_
  extract_lets f note own v
  have hnote : ∀ w, State.Within { log := false, ports := true, pair := true } u w →
      State.Within { log := false, ports := true, pair := true } u (note w) :=
    fun w hw => .andThen hw (State.modPair_within ..)
  have hv : State.Within { log := false, ports := true, pair := true } u v := .receive (.refl ..) hnote
  exact .ite (hnote v hv) hv

theorem execMgmtUpdPushRx_within {rx : Rx} (h : execMgmtUpdPushRx now rx s = .next t) :
    State.Within { ports := true, sec := true, flash := true } (s.tick now) t :=
  act_within h fun u => .receive (.refl ..)
    (fun _ h => .ite h (.ite (.andThen h (State.pushedMan_within ..)) (.andThen h (State.pushedBlk_within ..))))

theorem execHostLegacyRead_within {half : Fin 8192} {clocks : Nat}
    (h : execHostLegacyRead now half clocks s = .next t) :
    State.Within { log := false, resp := true, latch := true, host := true } (s.tick now) t := by
  refine always_within h fun u => ?_
  refine .ite (.refl ..) ?_
  refine .legacyFrame (.refl ..) fun v hv => ?_
  extract_lets kept w
  have hw : State.Within { log := false, resp := true, latch := true, host := true } u w :=
    .andThen (.bump hv) (State.modHost_within ..)
  split
  · exact .andThen hw (State.modHost_within ..)
  · exact .ite (.andThen hw (State.modHost_within ..))
      (.ite (.andThen (.andThen hw (State.busRead_within ..)) (State.modHost_within ..))
        (.andThen (.andThen hw (State.busRead_within ..)) (State.modHost_within ..)))

theorem execSafetyTick_within {t' : TickIn} (h : execSafetyTick now t' s = .next t) :
    State.Within { dio := true, safe := true } (s.tick now) t :=
  act_within h fun u => .ite (.refl ..)
    (.andThen (.andThen (.widen (State.setSafe_within ..)) (State.safetyTick_within ..)) (State.safeHint_within ..))

theorem execKeeperMarkerTimeout_within {rc : Nat} (h : execKeeperMarkerTimeout now rc s = .next t) :
    State.Within { safe := true } (s.tick now) t :=
  always_within h fun u => .ite (.refl ..)
    (.andThen
      (.log1 (.andThen (.each (.refl ..) fun _ _ h => .andThen h (State.dropLow_within ..))
        (State.setKclk_within ..))) (State.safeHint_within ..))

theorem execCrossLatch_within (h : execCrossLatch now s = .next t) :
    State.Within { safe := true } (s.tick now) t :=
  act_within h fun u => .ite (.refl ..)
    (.andThen (.log1 (.andThen (.widen (State.withdrawAll_within ..)) (State.setCross_within ..)))
      (State.safeHint_within ..))

theorem execSpWatchdog_within (h : execSpWatchdog now s = .next t) :
    State.Within { log := false, safe := true } (s.tick now) t :=
  act_within h fun u => .andThen (.andThen (.widen (State.startSp_within ..)) (State.setSafe_within ..))
    (State.safeHint_within ..)

theorem execSafeInputFilter_within {i : Fin 16} {ch : Fin 2} {level : Bool} {unit : Fin 2} {since : Nat}
    (h : execSafeInputFilter now i ch level unit since s = .next t) :
    State.Within { log := false, safe := true } (s.tick now) t :=
  act_within h fun u => .ite (.refl ..) (.ite (.widen (State.setSafe_within ..)) (.widen (State.setSafe_within ..)))

theorem execSitGapCheck_within {k : Fin 4} {on : List Nat} (h : execSitGapCheck now k on s = .next t) :
    State.Within { safe := true } (s.tick now) t :=
  act_within h fun u => .ite (.refl ..)
    (.each (.refl ..) fun _ _ h => .ite h (.log1 (.andThen h (State.bothUnits_within ..))))

theorem execSitOvl_within {k : Fin 4} {low : Bool} (h : execSitOvl now k low s = .next t) :
    State.Within { safe := true } (s.tick now) t :=
  act_within h fun u => .ite (.refl ..)
    (.ite (.log1 (.widen (State.setSafe_within ..))) (.widen (State.setSafe_within ..)))

theorem execSiDiscrepancy_within {i : Fin 16} (h : execSiDiscrepancy now i s = .next t) :
    State.Within { safe := true } (s.tick now) t :=
  act_within h fun u => .ite (.log1 (.andThen (.widen (State.bothUnits_within ..)) (State.showInputs_within ..)))
    (.refl ..)

theorem execSackRelease_within (h : execSackRelease now s = .next t) :
    State.Within { safe := true, flash := true } (s.tick now) t := by
  refine act_within h fun u => ?_
  extract_lets a b src
  refine .ite (.refl ..) ?_
  split
  · split
    · extract_lets v w bks latched src₁ x y
      have hv : State.Within { safe := true, flash := true } u v := .widen (State.setSafe_within ..)
      have hw : State.Within { safe := true, flash := true } u w :=
        .each hv fun _ _ h => .andThen h (State.ackBk_within ..)
      have hx : State.Within { safe := true, flash := true } u x :=
        .ite
          (.andThen (.andThen (.andThen hw (State.setCross_within ..)) (State.setKclk_within ..))
            (State.setSafe_within ..)) hw
      exact .ite hv
        (.andThen (.andThen (.andThen (.log1 hx) (State.toService_within ..)) (State.showInputs_within ..))
          (State.safeHint_within ..))

theorem execSackStuck_within (h : execSackStuck now s = .next t) :
    State.Within { safe := true } (s.tick now) t :=
  act_within h fun u => .ite (.refl ..)
    (.andThen (.ite (.log1 (.put (.widen (State.bothUnits_within ..)))) (.widen (State.bothUnits_within ..)))
      (State.safeHint_within ..))

theorem execSackStuckClear_within (h : execSackStuckClear now s = .next t) :
    State.Within { log := false, safe := true } (s.tick now) t :=
  act_within h fun u => .andThen (.putBit (.widen (State.bothUnits_within ..))) (State.safeHint_within ..)

theorem execBrakeReadbackFault_within {n : Fin 8} (h : execBrakeReadbackFault now n s = .next t) :
    State.Within { safe := true } (s.tick now) t :=
  act_within h fun u => .ite (.refl ..) (.widen (State.raiseBk_within ..))

theorem execBrakeOvercurrent_within {n : Fin 8} {sbi : Nat} (h : execBrakeOvercurrent now n sbi s = .next t) :
    State.Within { safe := true } (s.tick now) t :=
  act_within h fun u => .ite (.refl ..) (.andThen (.widen (State.raiseBk_within ..)) (State.dropLow_within ..))

theorem execBrakeSwitchTest_within {n : Fin 8} {high : Bool} (h : execBrakeSwitchTest now n high s = .next t) :
    State.Within { log := false, safe := true } (s.tick now) t := by
  refine act_within h fun u => .ite (.refl ..) ?_
  extract_lets x at_ k side y v pulse
  have hv : State.Within { log := false, safe := true } u v := .widen (State.setBk_within ..)
  have hpulse : ∀ how, State.Within { log := false, safe := true } u (pulse how) :=
    fun how => .andThen hv (State.setBk_within ..)
  refine .ite (.refl ..) ?_
  split
  · exact hpulse _
  · exact .ite hv (hpulse _)
  · exact .ite (.andThen hv (State.switchPass_within ..)) hv
  · exact hv

theorem execBrakeSwitchConfirm_within {n : Fin 8} {sbv sbi : Nat}
    (h : execBrakeSwitchConfirm now n sbv sbi s = .next t) :
    State.Within { log := false, safe := true } (s.tick now) t := by
  refine act_within h fun u => ?_
  extract_lets x
  split
  · exact .refl ..
  · extract_lets seen
    exact .ite (.refl ..) (.andThen (.bump (.widen (State.setBk_within ..))) (State.switchPass_within ..))

theorem execBrakeSwitchTimeout_within {n : Fin 8} (h : execBrakeSwitchTimeout now n s = .next t) :
    State.Within { safe := true } (s.tick now) t := by
  refine act_within h fun u => ?_
  extract_lets x
  split
  · exact .refl ..
  · exact .ite (.refl ..)
      (.ite
        (.andThen (.andThen (.bump (.widen (State.setBk_within ..))) (State.raiseBk_within ..))
          (State.dropLow_within ..)) (.andThen (.bump (.widen (State.setBk_within ..))) (State.raiseBk_within ..)))

theorem execSasFaultRecord_within (h : execSasFaultRecord now s = .next t) :
    State.Within { cal := true, safe := true } (s.tick now) t := by
  refine act_within h fun u => ?_
  split
  · exact .refl ..
  · extract_lets src v src₁
    have hv : State.Within { cal := true, safe := true } u v := .setCal (.refl ..)
    split
    · exact .andThen hv (State.setSafe_within ..)
    · exact .each hv fun _ _ h => .ite (.andThen (.andThen h (State.raiseBk_within ..)) (State.setBk_within ..)) h

theorem execBrakeTestEngage_within (h : execBrakeTestEngage now s = .next t) :
    State.Within { log := false, safe := true } (s.tick now) t := by
  refine act_within h fun u => ?_
  split
  · exact .refl ..
  · exact .ite (.refl ..) (.put (.widen (State.setSafe_within ..)))

theorem execBrakeTestTorque_within (h : execBrakeTestTorque now s = .next t) :
    State.Within { log := false, safe := true } (s.tick now) t := by
  refine act_within h fun u => ?_
  split
  · exact .refl ..
  · extract_lets strong src
    exact .ite (.refl ..) (.widen (State.setSafe_within ..))

theorem execBrakeTestNoTorque_within (h : execBrakeTestNoTorque now s = .next t) :
    State.Within { safe := true } (s.tick now) t := by
  refine act_within h fun u => ?_
  split
  · exact .refl ..
  · exact .ite (.refl ..) (.widen (State.endTest_within ..))

theorem execBrakeTestHoldEnd_within (h : execBrakeTestHoldEnd now s = .next t) :
    State.Within { safe := true } (s.tick now) t := by
  refine act_within h fun u => ?_
  split
  · exact .refl ..
  · exact .ite (.refl ..)
      (.andThen
        (.andThen (.andThen (.widen (State.endTest_within ..)) (State.setBk_within ..)) (State.clearBk_within ..))
        (State.clearBk_within ..))

theorem execBrakeTestRestore_within (h : execBrakeTestRestore now s = .next t) :
    State.Within { log := false, safe := true } (s.tick now) t := by
  refine act_within h fun u => ?_
  split
  · exact .refl ..
  · extract_lets weak
    exact .ite (.refl ..) (.andThen (.widen (State.noTest_within ..)) (State.driveBk_within ..))

theorem execTestDue_within {n : Fin 8} (h : execTestDue now n s = .next t) :
    State.Within { safe := true } (s.tick now) t :=
  act_within h fun u => .ite (.refl ..) (.log1 (.widen (State.setBk_within ..)))

theorem execTestGraceExpiry_within {n : Fin 8} (h : execTestGraceExpiry now n s = .next t) :
    State.Within { log := false, safe := true } (s.tick now) t :=
  act_within h fun u => .ite (.refl ..) (.widen (State.setBk_within ..))

theorem execZhocyRx_within {rx : Rx} (h : execZhocyRx now rx s = .next t) :
    State.Within { ports := true, safe := true, pair := true } (s.tick now) t :=
  act_within h fun u => .receive (.refl ..)
    (fun _ h => .andThen (.andThen h (State.zhocy_within ..)) (State.safeHint_within ..))

theorem execZhocyWd_within {c : Fin 8} (h : execZhocyWd now c s = .next t) :
    State.Within { safe := true } (s.tick now) t := by
  refine act_within h fun u => ?_
  split
  · exact .refl ..
  · exact .ite (.refl ..)
      (.andThen (.log1 (.bump (.put (.widen (State.setZc_within ..))))) (State.dropHeld_within ..))

theorem execZhocySend_within {c : Fin 8} (h : execZhocySend now c s = .next t) :
    State.Within { log := false, ports := true, safe := true } (s.tick now) t :=
  act_within h fun u => .ite (.refl ..)
    (.ite (.refl ..)
      (.andThen (.andThen (.put (.widen (State.setZc_within ..))) (.ofOnly (State.sendOwn_only ..)))
        (.ofOnly (State.sendOwn_only ..))))

theorem execPairSafeMismatch_within (h : execPairSafeMismatch now s = .next t) :
    State.Within { safe := true } (s.tick now) t :=
  act_within h fun u => .ite (.refl ..)
    (.andThen (.log1 (.andThen (.widen (State.withdrawAll_within ..)) (State.setCross_within ..)))
      (State.safeHint_within ..))

theorem execSpmbLoadSafety_within {req : Requester} {data : Word} {flashOk : Bool}
    (h : execSpmbLoadSafety now req data flashOk s = .next t) :
    State.Within { resp := true, safe := true, pair := true, flash := true } (s.tick now) t :=
  act_within h fun u => .widen (State.spmbCtl_within ..)

theorem execSpmbSetParam_within {req : Requester} {data : Word} {flashOk : Bool}
    (h : execSpmbSetParam now req data flashOk s = .next t) :
    State.Within { resp := true, safe := true, pair := true, flash := true } (s.tick now) t :=
  act_within h fun u => .widen (State.spmbCtl_within ..)

theorem execSpmbSetPassword_within {req : Requester} {data : Word} {flashOk : Bool}
    (h : execSpmbSetPassword now req data flashOk s = .next t) :
    State.Within { resp := true, safe := true, pair := true, flash := true } (s.tick now) t :=
  act_within h fun u => .widen (State.spmbCtl_within ..)

theorem execSpmbClearLog_within {req : Requester} {data : Word} {flashOk : Bool}
    (h : execSpmbClearLog now req data flashOk s = .next t) :
    State.Within { resp := true, safe := true, pair := true, flash := true } (s.tick now) t :=
  act_within h fun u => .widen (State.spmbCtl_within ..)

theorem execSpmbBrakeTest_within {req : Requester} {data : Word} {flashOk : Bool}
    (h : execSpmbBrakeTest now req data flashOk s = .next t) :
    State.Within { resp := true, safe := true, pair := true, flash := true } (s.tick now) t :=
  act_within h fun u => .widen (State.spmbCtl_within ..)

theorem execSpmbAbortTest_within {req : Requester} {data : Word} {flashOk : Bool}
    (h : execSpmbAbortTest now req data flashOk s = .next t) :
    State.Within { resp := true, safe := true, pair := true, flash := true } (s.tick now) t :=
  act_within h fun u => .widen (State.spmbCtl_within ..)

theorem execSpmbReadLog_within {req : Requester} {data : Word} {flashOk : Bool}
    (h : execSpmbReadLog now req data flashOk s = .next t) :
    State.Within { resp := true, safe := true, pair := true, flash := true } (s.tick now) t :=
  act_within h fun u => .widen (State.spmbCtl_within ..)

theorem execSpmbBadOp_within {req : Requester} {data : Word} {flashOk : Bool}
    (h : execSpmbBadOp now req data flashOk s = .next t) :
    State.Within { resp := true, safe := true, pair := true, flash := true } (s.tick now) t :=
  act_within h fun u => .widen (State.spmbCtl_within ..)

theorem execSafetyConfigSwitch_within {confirmed flashOk : Bool}
    (h : execSafetyConfigSwitch now confirmed flashOk s = .next t) :
    State.Within { safe := true, flash := true } (s.tick now) t := by
  refine act_within h fun u => ?_
  split
  · exact .refl ..
  next c _ =>
  refine .ite (.refl ..) ?_
  extract_lets src v end_
  have hv : State.Within { safe := true, flash := true } u v := .widen (State.setSafe_within ..)
  have hend : ∀ w code, State.Within { safe := true, flash := true } u w →
      State.Within { safe := true, flash := true } u (end_ w code) :=
    fun w code hw => .ite (.hint (.put (.put hw))) hw
  refine .ite (hend v 8 hv) ?_
  split
  next w ok he =>
  have hw : State.Within { safe := true, flash := true } u w := .ofFst he (.andThen hv (State.logChange_within ..))
  refine .ite (hend w 9 hw) ?_
  extract_lets x y
  have hx : State.Within { safe := true, flash := true } u x := .andThen (hend w 0 hw) (State.configure_within ..)
  have hy : State.Within { safe := true, flash := true } u y :=
    .ite (.andThen (.andThen hx (State.setMode_within ..)) (State.extendDm_within ..)) hx
  exact .andThen hy (State.safeHint_within ..)

theorem execSafeLockoutEnd_within (h : execSafeLockoutEnd now s = .next t) :
    State.Within { log := false, safe := true } (s.tick now) t := by
  refine act_within h fun u => ?_
  split
  · exact .refl ..
  · exact .ite (.refl ..) (.andThen (.put (.widen (State.setSafe_within ..))) (State.safeHint_within ..))

theorem execPartnerHeartbeatRx_within {follow : Bool} {unit cycle : Nat} {state : Fin 4}
    (h : execPartnerHeartbeatRx now follow unit cycle state s = .next t) :
    State.Within { ports := true, pair := true } (s.tick now) t :=
  act_within h fun u => .ite (.widen (State.beat_within ..)) (.refl ..)

theorem execHeartbeatTimeout_within {cut : List Nat} (h : execHeartbeatTimeout now cut s = .next t) :
    State.Within takeoverParts (s.tick now) t := by
  refine act_within h fun u => ?_
  split
  · exact .refl ..
  · exact .ite (.refl ..)
      (.ite (.widen (State.declare_within ..)) (.ite (.refl ..) (.widen (State.followLost_within ..))))

theorem execFaultBeatRx_within {cut : List Nat} (h : execFaultBeatRx now cut s = .next t) :
    State.Within takeoverParts (s.tick now) t :=
  act_within h fun u => .ite (.widen (State.declare_within ..)) (.refl ..)

theorem execTakeoverComplete_within (h : execTakeoverComplete now s = .next t) :
    State.Within { pair := true } (s.tick now) t := by
  refine act_within h fun u => ?_
  split
  · exact .refl ..
  · exact .ite (.refl ..)
      (.log1 (.andThen (.andThen (.ite (.log1 (.refl ..)) (.refl ..)) (State.modPair_within ..))
        (State.parState_within ..)))

theorem execPartnerLaneLoss_within {lane : Fin 2} (h : execPartnerLaneLoss now lane s = .next t) :
    State.Within {} (s.tick now) t :=
  act_within h fun u => .ite (.refl ..) (.log1 (.bump (.put (.refl ..))))

theorem execPartnerMirrorRx_within {m : Mirror} (h : execPartnerMirrorRx now m s = .next t) :
    State.Within swapParts (s.tick now) t := by
  refine act_within h fun u => ?_
  refine .ite (.refl ..) ?_
  split
  · exact .andThen (.andThen (.widen (State.setWord_within ..)) (State.setWord_within ..)) (State.doqCtl_within ..)
  · extract_lets v src
    exact .setDio (.widen (State.setWord_within ..))
  · exact .widen (State.setWord_within ..)
  · exact .andThen (.widen (State.zhocy_within ..)) (State.safeHint_within ..)
  · exact .widen (State.compareDigest_within ..)
  · exact .widen (State.setSafe_within ..)
  · exact .widen (State.rehearse_within ..)
  · exact .andThen (.widen (State.swapStep_within ..)) (State.modPair_within ..)
  · exact .widen (State.rehearseBack_within ..)

theorem execStateCopyRx_within {c : StateCopy} {good : Bool} (h : execStateCopyRx now c good s = .next t) :
    State.Within { time := true, strm := true, pair := true } (s.tick now) t :=
  act_within h fun u => .ite (.refl ..)
    (.ite (.bump (.widen (State.modPair_within ..))) (.widen (State.useCopy_within ..)))

theorem execPairCommitMirrorRx_within {m : CommitMsg} (h : execPairCommitMirrorRx now m s = .next t) :
    State.Within { log := false, commits := true, pair := true, chor := true } (s.tick now) t := by
  refine act_within h fun u => ?_
  refine .ite (.refl ..) ?_
  split
  · extract_lets v c src w
    exact .andThen (.setCommits (.widen (State.shadowWords_within ..))) (State.modPair_within ..)
  · split
    · exact .widen (State.modPair_within ..)
    · exact .ite (.widen (State.modPair_within ..))
        (.andThen (.andThen (.put (.setChor (.refl ..))) (State.beginApply_within ..)) (State.modPair_within ..))

theorem execPairCommitFail_within (h : execPairCommitFail now s = .next t) :
    State.Within { commits := true, pair := true, chor := true } (s.tick now) t :=
  act_within h fun u => .ite (.refl ..)
    (.log1 (.andThen
      (.ite (.andThen (.ite (.widen (State.dropCommits_within ..)) (.refl ..)) (State.endApply_within ..))
        (.ite (.widen (State.dropCommits_within ..)) (.refl ..))) (State.modPair_within ..)))

theorem execFollowBist_within {engine : Fin 7} {ok : Bool} (h : execFollowBist now engine ok s = .next t) :
    State.Within { log := false, pair := true } (s.tick now) t :=
  act_within h fun u => .ite (.refl ..) (.andThen (.widen (State.modPair_within ..)) (State.testFault_within ..))

theorem execMemoryScrub_within {corrected uncorrected : Nat}
    (h : execMemoryScrub now corrected uncorrected s = .next t) :
    State.Within { log := false, pair := true } (s.tick now) t :=
  act_within h fun u => .ite (.refl ..)
    (.ite (.widen (State.modPair_within ..))
      (.andThen (.widen (State.modPair_within ..)) (State.testFault_within ..)))

theorem execFollowDegradedClear_within (h : execFollowDegradedClear now s = .next t) :
    State.Within { log := false, pair := true } (s.tick now) t := by
  refine act_within h fun u => ?_
  split
  · exact .refl ..
  · exact .ite (.refl ..) (.andThen (.widen (State.modPair_within ..)) (State.parState_within ..))

theorem execHealthReportSend_within {tjMax : Int} (h : execHealthReportSend now tjMax s = .next t) :
    State.Within { log := false, ports := true, pair := true } (s.tick now) t :=
  act_within h fun u => .ite (.refl ..)
    (.andThen (.andThen (.widen (State.modPair_within ..)) (.ofOnly (State.sendOwn_only ..)))
      (.ofOnly (State.sendOwn_only ..)))

theorem execSwapReady_within (h : execSwapReady now s = .next t) :
    State.Within { log := false, pair := true } (s.tick now) t := by
  refine act_within h fun u => ?_
  split
  · exact .refl ..
  · exact .ite (.refl ..)
      (.ite (.ite (.widen (State.swapStep_within ..)) (.refl ..))
        (.andThen (.andThen (.widen (State.swapStep_within ..)) (.ofOnly (State.mirror_only ..)))
          (State.modPair_within ..)))

theorem execSwapTimeout_within (h : execSwapTimeout now s = .next t) :
    State.Within pairHubParts (s.tick now) t := by
  refine act_within h fun u => ?_
  split
  · exact .refl ..
  · exact .ite (.refl ..)
      (.ite (.widen (State.rehearseBack_within ..))
        (.andThen (.widen (.ofOnly (State.mirror_only ..))) (State.endSwap_within ..)))

theorem execSwapBoundary_within {h : Handover} (h : execSwapBoundary now h s = .next t) :
    State.Within swapParts (s.tick now) t := by
  refine act_within h fun u => ?_
  split
  · exact .refl ..
  · split
    · exact .refl ..
    · exact .ite (.refl ..) (.ite (.widen (State.swapIn_within ..)) (.widen (State.swapOut_within ..)))

theorem execDmExtend_within {req : Requester} {data : Word} (h : execDmExtend now req data s = .next t) :
    State.Within { log := false, resp := true } (s.tick now) t :=
  act_within h fun u => .widen (State.dmCtl_within ..)

theorem execDmLock_within {req : Requester} {data : Word} (h : execDmLock now req data s = .next t) :
    State.Within { log := false, resp := true } (s.tick now) t :=
  act_within h fun u => .widen (State.dmCtl_within ..)

theorem execUpdOfferSend_within (h : execUpdOfferSend now s = .next t) :
    State.Within { log := false, ports := true, sec := true } (s.tick now) t :=
  act_within h fun u => .ite (.refl ..) (.andThen (.setSec (.refl ..)) (.ofOnly (State.sendBoth_only ..)))

theorem execUpdOfferRx_within {rx : Rx} (h : execUpdOfferRx now rx s = .next t) :
    State.Within { log := false, ports := true, sec := true } (s.tick now) t :=
  act_within h fun u => .receive (.refl ..) (fun _ h => .andThen h (State.offerRx_within ..))

theorem execUpdFetch_within {req : Requester} {digest : List Byte} (h : execUpdFetch now req digest s = .next t) :
    State.Within { log := false, resp := true, ports := true, sec := true } (s.tick now) t :=
  act_within h fun u => .ite (.widen (State.answer_within ..))
    (.ite (.widen (State.answer_within ..))
      (.andThen (.widen (State.answer_within ..)) (State.askManifest_within ..)))

theorem execUpdManReqRx_within {rx : Rx} (h : execUpdManReqRx now rx s = .next t) :
    State.Within { log := false, ports := true } (s.tick now) t := by
  refine act_within h fun u => ?_
  refine .receive (.refl ..) fun v hv => ?_
  extract_lets f p₁
  split
  · exact .ite (.andThen hv (State.refuse_within ..)) (.each hv fun _ _ h => .andThen h (State.sendUpd_within ..))
  · exact .andThen hv (State.refuse_within ..)

theorem execUpdManRx_within {rx : Rx} (h : execUpdManRx now rx s = .next t) :
    State.Within { ports := true, sec := true, flash := true } (s.tick now) t :=
  act_within h fun u => .receive (.refl ..) (fun _ h => .andThen h (State.manRx_within ..))

theorem execUpdBlkReqRx_within {rx : Rx} (h : execUpdBlkReqRx now rx s = .next t) :
    State.Within { log := false, ports := true, sec := true } (s.tick now) t :=
  act_within h fun u => .receive (.refl ..) (fun _ h => .andThen h (State.blkReq_within ..))

theorem execUpdBlkRx_within {rx : Rx} (h : execUpdBlkRx now rx s = .next t) :
    State.Within { log := false, ports := true, sec := true } (s.tick now) t :=
  act_within h fun u => .receive (.refl ..) (fun _ h => .andThen h (State.blkRx_within ..))

theorem execUpdRefuseRx_within {rx : Rx} (h : execUpdRefuseRx now rx s = .next t) :
    State.Within { log := false, ports := true, sec := true } (s.tick now) t :=
  act_within h fun u => .receive (.refl ..) (fun _ h => .andThen h (State.refuseRx_within ..))

theorem execUpdFragmentTimeout_within {which : Fin 3} (h : execUpdFragmentTimeout now which s = .next t) :
    State.Within { log := false, ports := true, sec := true } (s.tick now) t :=
  act_within h fun u => .ite (.widen (State.retryBlock_within ..)) (.widen (State.retryManifest_within ..))

theorem execRcvErase_within {req : Requester} {data : Word} (h : execRcvErase now req data s = .next t) :
    State.Within { log := false, resp := true, sec := true } (s.tick now) t :=
  always_within h fun u => .widen (State.rcvCtl_within ..)

theorem execRcvProgram_within {req : Requester} {data : Word} (h : execRcvProgram now req data s = .next t) :
    State.Within { log := false, resp := true, sec := true } (s.tick now) t :=
  always_within h fun u => .widen (State.rcvCtl_within ..)

theorem execRcvFlashDone_within {ok : Bool} (h : execRcvFlashDone now ok s = .next t) :
    State.Within { log := false, sec := true, flash := true } (s.tick now) t := by
  refine always_within h fun u => ?_
  split
  · exact .refl ..
  next ops addr _ =>
  extract_lets sect page data
  split
  next n v he =>
  have hv : State.Within { log := false, sec := true, flash := true } u v := by
    refine .ofSnd he ?_
    split
    · exact .refl ..
    · exact .widen (.ofOnly (State.draw_only ..))
  extract_lets w x good y src
  have hw : State.Within { log := false, sec := true, flash := true } u w :=
    .ite (.andThen hv (State.flashErase_within ..)) hv
  have hx : State.Within { log := false, sec := true, flash := true } u x :=
    .ite (.andThen hw (.ofOnly (State.flashProgram_only ..))) hw
  exact .setSec (.putBit (.put hx))

theorem execChorLoad_within {req : Requester} {data : Word} (h : execChorLoad now req data s = .next t) :
    State.Within { resp := true, pair := true, chor := true } (s.tick now) t :=
  act_within h fun u => .widen (State.chorCtl_within ..)

theorem execChorApply_within {req : Requester} {data : Word} (h : execChorApply now req data s = .next t) :
    State.Within { resp := true, pair := true, chor := true } (s.tick now) t :=
  act_within h fun u => .widen (State.chorCtl_within ..)

theorem execChorDiscard_within {req : Requester} {data : Word} (h : execChorDiscard now req data s = .next t) :
    State.Within { resp := true, pair := true, chor := true } (s.tick now) t :=
  act_within h fun u => .widen (State.chorCtl_within ..)

theorem execChorApplyBoundary_within (h : execChorApplyBoundary now s = .next t) :
    State.Within strobeParts (s.tick now) t := by
  refine act_within h fun u => ?_
  split
  · refine .ite (.refl ..) ?_
    split
    · exact .widen (State.endApply_within ..)
    · extract_lets v w x left src
      have hv : State.Within strobeParts u v := .widen (State.candidate_within ..)
      have hw : State.Within strobeParts u w := .andThen hv (State.dropCommits_within ..)
      have hx : State.Within strobeParts u x := .andThen hw (State.applyCommits_within ..)
      split
      · exact .andThen (.widen (State.chorErr_within ..)) (State.endApply_within ..)
      · exact .ite (.andThen (.restart hw (fun _ h => h)) (State.finishApply_within ..))
          (.ite (.andThen hx (State.finishApply_within ..)) (.setChor hx))
  · exact .refl ..

theorem execChorStore_within {ok : Bool} (h : execChorStore now ok s = .next t) :
    State.Within { chor := true, flash := true } (s.tick now) t := by
  refine act_within h fun u => ?_
  split
  · extract_lets src v w
    have hw : State.Within { chor := true, flash := true } u w :=
      .andThen (.setChor (.refl ..)) (State.flashErase_within ..)
    refine .ite (.put (.put (.andThen hw (.ofOnly (State.flashProgram_only ..))))) ?_
    split
    next n x hex =>
    have hx : State.Within { chor := true, flash := true } u x :=
      .ofSnd hex (.andThen hw (.ofOnly (State.draw_only ..)))
    exact .log1 (.andThen (.andThen hx (.ofOnly (State.flashProgram_only ..))) (State.chorCode_within ..))
  · exact .refl ..

theorem execMonitorIntervalEnd_within {u : Fin 32} (h : execMonitorIntervalEnd now u s = .next t) :
    State.Within { log := false, mon := true } (s.tick now) t :=
  act_within h fun u => .ite (.refl ..) (.widen (monPublish_within ..))

theorem execPartnerLaneUp_within {lane : Fin 2} (h : execPartnerLaneUp now lane s = .next t) :
    State.Within { log := false, pair := true } (s.tick now) t :=
  act_within h fun u => .ite (.refl ..)
    (.ite (.andThen (.put (.refl ..)) (State.modPair_within ..)) (.put (.refl ..)))

theorem execMkaLifeTimeExpiry_within {port : Fin 4} {sci : Nat} (h : execMkaLifeTimeExpiry now port sci s = .next t) :
    State.Within { time := true, strm := true, ports := true, cmp := true } (s.tick now) t :=
  act_within h fun u => .ite (.andThen (.widen (State.setPort_within ..)) (State.peersChanged_within ..)) (.refl ..)

end Effects

end Sys2Proof.Machine
end

section
namespace Sys2Proof.Machine

/-! PROOF. What a command that is not wide leaves, and the statements about it. -/

/-- The parts that the lists of O46 and O49 leave to a command, with the parts that those two do not speak of. -/
def mayParts (i : Instr) : Parts where
  live := true
  wo := true
  log := i.mayLog
  dram := i.mayDram
  resp := i.mayResp
  sys := true
  commits := true
  time := true
  dio := true
  strm := i.mayStrm
  ports := i.mayPorts
  mon := i.mayMon
  cmp := true
  latch := true
  tiles := true
  chains := true
  cal := true
  fuse := true
  safe := i.maySafe
  pair := i.mayPair
  sec := true
  chor := true
  host := true
  flash := i.mayFlash

/-- A command that is not wide stays within the parts that the lists leave to it: where its parts hold more than they
do, by the lemma of its effect, else by its parts. -/
theorem exec_within {i : Instr} {s t : State} (hw : i.wide = false) (h : exec i s = .next t) :
    ∃ now, State.Within (mayParts i) (s.tick now) t := by
  cases i
  case rocRead => exact ⟨_, (execRocRead_within h).widen⟩
  case fieldSupplyFault => exact ⟨_, (execFieldSupplyFault_within h).widen⟩
  case fieldSupplyGood => exact ⟨_, (execFieldSupplyGood_within h).widen⟩
  case logicTrafficLoss => exact ⟨_, (execLogicTrafficLoss_within h).widen⟩
  case resetRelease => exact ⟨_, (execResetRelease_within h).widen⟩
  case controlCycle => exact ⟨_, (execControlCycle_within h).widen⟩
  case frameStrobe => exact ⟨_, (execFrameStrobe_within h).widen⟩
  case tempoStrobeFix => exact ⟨_, (execTempoStrobeFix_within h).widen⟩
  case tileResultTransfer => exact ⟨_, (execTileResultTransfer_within h).widen⟩
  case excFault => exact ⟨_, (execExcFault_within h).widen⟩
  case excTrip => exact ⟨_, (execExcTrip_within h).widen⟩
  case excTripRetry => exact ⟨_, (execExcTripRetry_within h).widen⟩
  case excClear => exact ⟨_, (execExcClear_within h).widen⟩
  case openInputTest => exact ⟨_, (execOpenInputTest_within h).widen⟩
  case blankPinEdge => exact ⟨_, (execBlankPinEdge_within h).widen⟩
  case bcnClear => exact ⟨_, (execBcnClear_within h).widen⟩
  case calRefRecover => exact ⟨_, (execCalRefRecover_within h).widen⟩
  case sliceBlockEnd => exact ⟨_, (execSliceBlockEnd_within h).widen⟩
  case calRunEnd => exact ⟨_, (execCalRunEnd_within h).widen⟩
  case calStart => exact ⟨_, (execCalStart_within h).widen⟩
  case calCommit => exact ⟨_, (execCalCommit_within h).widen⟩
  case calTempCheck => exact ⟨_, (execCalTempCheck_within h).widen⟩
  case calBurn => exact ⟨_, (execCalBurn_within h).widen⟩
  case calBurnEnd => exact ⟨_, (execCalBurnEnd_within h).widen⟩
  case resLoRead => exact ⟨_, (execResLoRead_within h).widen⟩
  case resHiRead => exact ⟨_, (execResHiRead_within h).widen⟩
  case wbNsRead => exact ⟨_, (execWbNsRead_within h).widen⟩
  case nbNsRead => exact ⟨_, (execNbNsRead_within h).widen⟩
  case tempoPosRead => exact ⟨_, (execTempoPosRead_within h).widen⟩
  case ledgerRead => exact ⟨_, (execLedgerRead_within h).widen⟩
  case cmpInbytesRead => exact ⟨_, (execCmpInbytesRead_within h).widen⟩
  case logEntryRead => exact ⟨_, (execLogEntryRead_within h).widen⟩
  case ptpRx => exact ⟨_, (execPtpRx_within h).widen⟩
  case ptpDelayReqSend => exact ⟨_, (execPtpDelayReqSend_within h).widen⟩
  case ptpSyncLoss => exact ⟨_, (execPtpSyncLoss_within h).widen⟩
  case holdLimitExceeded => exact ⟨_, (execHoldLimitExceeded_within h).widen⟩
  case timOffsetLarge => exact ⟨_, (execTimOffsetLarge_within h).widen⟩
  case nbWrap => exact ⟨_, (execNbWrap_within h).widen⟩
  case ppsOutPulse => exact ⟨_, (execPpsOutPulse_within h).widen⟩
  case ppsInEdge => exact ⟨_, (execPpsInEdge_within h).widen⟩
  case ppsInLoss => exact ⟨_, (execPpsInLoss_within h).widen⟩
  case wb1Set => exact ⟨_, (execWb1Set_within h).widen⟩
  case encoderEdge => exact ⟨_, (execEncoderEdge_within h).widen⟩
  case encoderIndex => exact ⟨_, (execEncoderIndex_within h).widen⟩
  case mainsEdge => exact ⟨_, (execMainsEdge_within h).widen⟩
  case mainsHoldover => exact ⟨_, (execMainsHoldover_within h).widen⟩
  case mainsLost => exact ⟨_, (execMainsLost_within h).widen⟩
  case tempoRx => exact ⟨_, (execTempoRx_within h).widen⟩
  case tempoHoldover => exact ⟨_, (execTempoHoldover_within h).widen⟩
  case tempoLost => exact ⟨_, (execTempoLost_within h).widen⟩
  case tempoRecordWrite => exact ⟨_, (execTempoRecordWrite_within h).widen⟩
  case diLevelAccept => exact ⟨_, (execDiLevelAccept_within h).widen⟩
  case diLevelSample => exact ⟨_, (execDiLevelSample_within h).widen⟩
  case doPush => exact ⟨_, (execDoPush_within h).widen⟩
  case doClear => exact ⟨_, (execDoClear_within h).widen⟩
  case doFix => exact ⟨_, (execDoFix_within h).widen⟩
  case doEdge => exact ⟨_, (execDoEdge_within h).widen⟩
  case streamFlush => exact ⟨_, (execStreamFlush_within h).widen⟩
  case queueStallResume => exact ⟨_, (execQueueStallResume_within h).widen⟩
  case streamSkipResume => exact ⟨_, (execStreamSkipResume_within h).widen⟩
  case historyBlockRelease => exact ⟨_, (execHistoryBlockRelease_within h).widen⟩
  case streamNakRx => exact ⟨_, (execStreamNakRx_within h).widen⟩
  case cmpJobSubmit => exact ⟨_, (execCmpJobSubmit_within h).widen⟩
  case cmpJobCancel => exact ⟨_, (execCmpJobCancel_within h).widen⟩
  case cmpJobStart => exact ⟨_, (execCmpJobStart_within h).widen⟩
  case cmpJobEnd => exact ⟨_, (execCmpJobEnd_within h).widen⟩
  case phyLinkUp => exact ⟨_, (execPhyLinkUp_within h).widen⟩
  case sgmiiControlWord => exact ⟨_, (execSgmiiControlWord_within h).widen⟩
  case linkHelloSend => exact ⟨_, (execLinkHelloSend_within h).widen⟩
  case linkHelloRx => exact ⟨_, (execLinkHelloRx_within h).widen⟩
  case helloMiss => exact ⟨_, (execHelloMiss_within h).widen⟩
  case rootHelloRx => exact ⟨_, (execRootHelloRx_within h).widen⟩
  case rootHelloMiss => exact ⟨_, (execRootHelloMiss_within h).widen⟩
  case transitFrameRx => exact ⟨_, (execTransitFrameRx_within h).widen⟩
  case frameRxDiscard => exact ⟨_, (execFrameRxDiscard_within h).widen⟩
  case arpRx => exact ⟨_, (execArpRx_within h).widen⟩
  case mkpduRx => exact ⟨_, (execMkpduRx_within h).widen⟩
  case mkaHelloSend => exact ⟨_, (execMkaHelloSend_within h).widen⟩
  case mkaRekey => exact ⟨_, (execMkaRekey_within h).widen⟩
  case mkaFail => exact ⟨_, (execMkaFail_within h).widen⟩
  case macsecInstall => exact ⟨_, (execMacsecInstall_within h).widen⟩
  case mgmtReadReq => exact ⟨_, (execMgmtReadReq_within h).widen⟩
  case mgmtHealthRx => exact ⟨_, (execMgmtHealthRx_within h).widen⟩
  case mgmtUpdPushRx => exact ⟨_, (execMgmtUpdPushRx_within h).widen⟩
  case hostLegacyRead => exact ⟨_, (execHostLegacyRead_within h).widen⟩
  case safetyTick => exact ⟨_, (execSafetyTick_within h).widen⟩
  case keeperMarkerTimeout => exact ⟨_, (execKeeperMarkerTimeout_within h).widen⟩
  case crossLatch => exact ⟨_, (execCrossLatch_within h).widen⟩
  case spWatchdog => exact ⟨_, (execSpWatchdog_within h).widen⟩
  case safeInputFilter => exact ⟨_, (execSafeInputFilter_within h).widen⟩
  case sitGapCheck => exact ⟨_, (execSitGapCheck_within h).widen⟩
  case sitOvl => exact ⟨_, (execSitOvl_within h).widen⟩
  case siDiscrepancy => exact ⟨_, (execSiDiscrepancy_within h).widen⟩
  case sackRelease => exact ⟨_, (execSackRelease_within h).widen⟩
  case sackStuck => exact ⟨_, (execSackStuck_within h).widen⟩
  case sackStuckClear => exact ⟨_, (execSackStuckClear_within h).widen⟩
  case brakeReadbackFault => exact ⟨_, (execBrakeReadbackFault_within h).widen⟩
  case brakeOvercurrent => exact ⟨_, (execBrakeOvercurrent_within h).widen⟩
  case brakeSwitchTest => exact ⟨_, (execBrakeSwitchTest_within h).widen⟩
  case brakeSwitchConfirm => exact ⟨_, (execBrakeSwitchConfirm_within h).widen⟩
  case brakeSwitchTimeout => exact ⟨_, (execBrakeSwitchTimeout_within h).widen⟩
  case sasFaultRecord => exact ⟨_, (execSasFaultRecord_within h).widen⟩
  case brakeTestEngage => exact ⟨_, (execBrakeTestEngage_within h).widen⟩
  case brakeTestTorque => exact ⟨_, (execBrakeTestTorque_within h).widen⟩
  case brakeTestNoTorque => exact ⟨_, (execBrakeTestNoTorque_within h).widen⟩
  case brakeTestHoldEnd => exact ⟨_, (execBrakeTestHoldEnd_within h).widen⟩
  case brakeTestRestore => exact ⟨_, (execBrakeTestRestore_within h).widen⟩
  case testDue => exact ⟨_, (execTestDue_within h).widen⟩
  case testGraceExpiry => exact ⟨_, (execTestGraceExpiry_within h).widen⟩
  case zhocyRx => exact ⟨_, (execZhocyRx_within h).widen⟩
  case zhocyWd => exact ⟨_, (execZhocyWd_within h).widen⟩
  case zhocySend => exact ⟨_, (execZhocySend_within h).widen⟩
  case pairSafeMismatch => exact ⟨_, (execPairSafeMismatch_within h).widen⟩
  case spmbLoadSafety => exact ⟨_, (execSpmbLoadSafety_within h).widen⟩
  case spmbSetParam => exact ⟨_, (execSpmbSetParam_within h).widen⟩
  case spmbSetPassword => exact ⟨_, (execSpmbSetPassword_within h).widen⟩
  case spmbClearLog => exact ⟨_, (execSpmbClearLog_within h).widen⟩
  case spmbBrakeTest => exact ⟨_, (execSpmbBrakeTest_within h).widen⟩
  case spmbAbortTest => exact ⟨_, (execSpmbAbortTest_within h).widen⟩
  case spmbReadLog => exact ⟨_, (execSpmbReadLog_within h).widen⟩
  case spmbBadOp => exact ⟨_, (execSpmbBadOp_within h).widen⟩
  case safetyConfigSwitch => exact ⟨_, (execSafetyConfigSwitch_within h).widen⟩
  case safeLockoutEnd => exact ⟨_, (execSafeLockoutEnd_within h).widen⟩
  case partnerHeartbeatRx => exact ⟨_, (execPartnerHeartbeatRx_within h).widen⟩
  case heartbeatTimeout => exact ⟨_, (execHeartbeatTimeout_within h).widen⟩
  case faultBeatRx => exact ⟨_, (execFaultBeatRx_within h).widen⟩
  case takeoverComplete => exact ⟨_, (execTakeoverComplete_within h).widen⟩
  case partnerLaneLoss => exact ⟨_, (execPartnerLaneLoss_within h).widen⟩
  case partnerMirrorRx => exact ⟨_, (execPartnerMirrorRx_within h).widen⟩
  case stateCopyRx => exact ⟨_, (execStateCopyRx_within h).widen⟩
  case pairCommitMirrorRx => exact ⟨_, (execPairCommitMirrorRx_within h).widen⟩
  case pairCommitFail => exact ⟨_, (execPairCommitFail_within h).widen⟩
  case followBist => exact ⟨_, (execFollowBist_within h).widen⟩
  case memoryScrub => exact ⟨_, (execMemoryScrub_within h).widen⟩
  case followDegradedClear => exact ⟨_, (execFollowDegradedClear_within h).widen⟩
  case healthReportSend => exact ⟨_, (execHealthReportSend_within h).widen⟩
  case swapReady => exact ⟨_, (execSwapReady_within h).widen⟩
  case swapTimeout => exact ⟨_, (execSwapTimeout_within h).widen⟩
  case swapBoundary => exact ⟨_, (execSwapBoundary_within h).widen⟩
  case dmExtend => exact ⟨_, (execDmExtend_within h).widen⟩
  case dmLock => exact ⟨_, (execDmLock_within h).widen⟩
  case updOfferSend => exact ⟨_, (execUpdOfferSend_within h).widen⟩
  case updOfferRx => exact ⟨_, (execUpdOfferRx_within h).widen⟩
  case updFetch => exact ⟨_, (execUpdFetch_within h).widen⟩
  case updManReqRx => exact ⟨_, (execUpdManReqRx_within h).widen⟩
  case updManRx => exact ⟨_, (execUpdManRx_within h).widen⟩
  case updBlkReqRx => exact ⟨_, (execUpdBlkReqRx_within h).widen⟩
  case updBlkRx => exact ⟨_, (execUpdBlkRx_within h).widen⟩
  case updRefuseRx => exact ⟨_, (execUpdRefuseRx_within h).widen⟩
  case updFragmentTimeout => exact ⟨_, (execUpdFragmentTimeout_within h).widen⟩
  case rcvErase => exact ⟨_, (execRcvErase_within h).widen⟩
  case rcvProgram => exact ⟨_, (execRcvProgram_within h).widen⟩
  case rcvFlashDone => exact ⟨_, (execRcvFlashDone_within h).widen⟩
  case chorLoad => exact ⟨_, (execChorLoad_within h).widen⟩
  case chorApply => exact ⟨_, (execChorApply_within h).widen⟩
  case chorDiscard => exact ⟨_, (execChorDiscard_within h).widen⟩
  case chorApplyBoundary => exact ⟨_, (execChorApplyBoundary_within h).widen⟩
  case chorStore => exact ⟨_, (execChorStore_within h).widen⟩
  case monitorIntervalEnd => exact ⟨_, (execMonitorIntervalEnd_within h).widen⟩
  case partnerLaneUp => exact ⟨_, (execPartnerLaneUp_within h).widen⟩
  case mkaLifeTimeExpiry => exact ⟨_, (execMkaLifeTimeExpiry_within h).widen⟩
  case registerWrite | powerOnReset | logicSupplyFall | thermalReset | refclkLoss | resetNAssert | watchdogReset
    | softReset | bootStageStart | bootWatchdog | firmwareStart | mgmtWriteReq | mediatedWriteDone | hostWrite
    | hostFrameAbort | hostLegacyWrite | updBlockStored | updActivate | updConfirm | updRollback | updAbort
    | updClrconf | confirmWindowExpiry => cases hw
  all_goals exact ⟨_, within_of_parts h⟩

end Sys2Proof.Machine
end

section
namespace Sys2Proof.Machine

/-! PROOF. The DRAM window (R213): its canonical form and its bound through every command. -/

/-- The bytes of the DRAM window are in canonical form and within its 8 GiB. -/
def State.DramOk (s : State) : Prop := Memory.wf s.dram = true ∧ ∀ e ∈ s.dram, e.1 < dramBytes

theorem Tbl.mem_set {α : Type} [DecidableEq α] {d v : α} {m : Tbl α} {k : Nat} {e : Nat × α}
    (h : e ∈ Tbl.set d m k v) : e = (k, v) ∨ e ∈ m := by
  unfold Tbl.set at h
  split at h
  · exact .inr (Tbl.mem_del h)
  · exact Tbl.mem_ins h

theorem State.mem_dramWrite {s : State} {a : Nat} {l : List Byte} {e : Nat × Byte} (h : e ∈ (s.dramWrite a l).dram) :
    e ∈ s.dram ∨ e.1 < a + l.length := by
  induction l generalizing s a with
  | nil => exact .inl h
  | cons b l ih =>
    rw [List.length_cons]
    rcases ih h with hs | hl
    · rcases Tbl.mem_set hs with rfl | hs
      · exact .inr (by dsimp only; omega)
      · exact .inl hs
    · exact .inr (by omega)

theorem dramOffset?_bound {a size o : Nat} (h : dramOffset? a size = some o) : o + size ≤ dramBytes := by
  unfold dramOffset? at h
  split at h
  next hb =>
    have ho := Option.some.inj h
    omega
  · cases h

theorem State.draw_dram (s : State) : s.draw.2.dram = s.dram := rfl

theorem State.hostStatus_dram (s : State) : s.hostStatus.1.dram = s.dram := by
  unfold State.hostStatus
  split
  next c u he =>
  split at he
  · cases he
    exact s.draw_dram
  · cases he
    rfl

theorem State.hostEnd_dram (s : State) (code : Nat) (early : Bool) : (s.hostEnd code early).dram = s.dram := by
  unfold State.hostEnd
  split_ifs <;> rfl

theorem State.toFirmware_dram (s : State) (m : MedReq) (port : Nat) (f : Frame) :
    (s.toFirmware m port f).dram = s.dram := by
  unfold State.toFirmware
  split
  · exact (State.mgmtReply_within ..).dram rfl
  · rfl

namespace State.DramOk

variable {s t : State}

theorem of_eq (h : s.DramOk) (he : t.dram = s.dram) : t.DramOk := by
  rwa [DramOk, he]

theorem of_nil (he : s.dram = []) : s.DramOk := by
  rw [DramOk, he]
  exact ⟨rfl, fun _ h => nomatch h⟩

theorem within {p : Parts} (h : s.DramOk) (hw : State.Within p s t) (hp : p.dram = false := by rfl) : t.DramOk :=
  h.of_eq (hw.dram hp)

theorem dramWrite {a : Nat} {l : List Byte} (h : s.DramOk) (hl : a + l.length ≤ dramBytes) : (s.dramWrite a l).DramOk := by
  refine ⟨s.wf_dramWrite a l h.1, fun e he => ?_⟩
  rcases State.mem_dramWrite he with he | he
  · exact h.2 e he
  · exact he.trans_le hl

/-- A write of any requester stores its bytes within the window, and a command that a register carries leaves it. -/
theorem busWrite {q : Requester} {a size data : Nat} {ph : Phys} (h : s.DramOk) : (s.busWrite q a size data ph).DramOk := by
  unfold State.busWrite
  split
  · split
    · exact h.within (.andThen (p := { log := false, resp := true }) (.widen (s.deny_within ..)) (State.answer_within ..))
    split
    next o ho => exact .of_eq (h.dramWrite (by rw [leBytes_length]; exact dramOffset?_bound ho)) (State.answer_dram ..)
    · split
      · exact h.within (s.misaligned_within q)
      · exact h.within (s.unmapped_within q)
  · exact h

theorem writeWords {q : Requester} {l : List (Nat × Word)} {k : Nat} (h : s.DramOk) : (writeWords q l k s).1.DramOk := by
  induction l generalizing s k with
  | nil => exact h
  | cons x l ih =>
    unfold Machine.writeWords
    split
    · exact h
    extract_lets u
    split
    · exact h.busWrite
    · exact ih h.busWrite

theorem finishWords {q : Requester} {ph : Phys} {l : List (Nat × Word)} {k : Nat} (h : s.DramOk) :
    (finishWords q ph l k s).1.DramOk := by
  induction l generalizing s k with
  | nil => exact h
  | cons x l ih =>
    unfold Machine.finishWords
    extract_lets u
    split
    · exact h.busWrite
    split
    · exact h.busWrite
    · exact ih h.busWrite

theorem receive {rx : Rx} {mine : Frame → Bool} {f : State → State} (h : s.DramOk)
    (hf : ∀ u : State, u.DramOk → (f u).DramOk) : (s.receive rx mine f).DramOk := by
  unfold State.receive
  split
  next u ok he =>
  have hu : u.DramOk := h.within (.ofFst he (s.rxGate_within rx))
  have hmine : (if mine rx.frame then f u else u).DramOk := by
    split
    · exact hf u hu
    · exact hu
  split
  · exact hu
  split
  · exact hu
  · exact hu.within (State.sendTransit_within ..)
  · exact hmine
  · exact hmine.within (State.sendTransit_within ..)

theorem mgmtRequest {port : Nat} {f : Frame} {run : Requester → State → State} (h : s.DramOk)
    (hrun : ∀ q (u : State), u.DramOk → (run q u).DramOk) : (s.mgmtRequest port f run).DramOk := by
  unfold State.mgmtRequest
  split
  · exact h.within (s.mgmtReply_within ..)
  split
  · exact .within (s := s.bump R.SYS_MGMTCNT.REJECTED) h (State.mgmtReply_within ..)
  extract_lets code role u
  split
  · exact .within (s := (s.bump R.SYS_MGMTCNT.REJECTED).logCycle L.MGMT_AUTH) h (State.mgmtReply_within ..)
  · exact hrun _ u h

theorem legacyFrame {clocks : Nat} {f : State → State} (h : s.DramOk) (hf : ∀ u : State, u.DramOk → (f u).DramOk) :
    (s.legacyFrame clocks f).DramOk := by
  unfold State.legacyFrame
  split
  · exact h
  · exact hf _ h

/-- What the meaning of a command keeps, the command does. -/
theorem always {p : Parts} {now : Nat} {f : State → State} (h : s.DramOk) (hf : ∀ u : State, u.DramOk → (f u).DramOk)
    (he : Machine.always p now s f = .next t) : t.DramOk := by
  cases he
  have hu : (s.tick now).DramOk := h
  by_cases hp : p.dram = true
  · exact (hf _ hu).of_eq (if_pos hp)
  · exact hu.of_eq (if_neg hp)

theorem act {p : Parts} {now : Nat} {f : State → State} (h : s.DramOk) (hf : ∀ u : State, u.DramOk → (f u).DramOk)
    (he : Machine.act p now s f = .next t) : t.DramOk :=
  h.always (fun u hu => by
    split
    · exact hu
    · exact hf u hu) he

theorem hostFrame {header addr : Word} {data : List Word} {crc : Word} {late early : Bool} (h : s.DramOk) :
    (s.hostFrame header addr data crc late early).DramOk := by
  unfold State.hostFrame
  split
  next u status he =>
  have hu : u.DramOk := h.of_eq ((congrArg (fun r => State.dram r.1) he).symm.trans s.hostStatus_dram)
  extract_lets op n sent front show_ fault placed as
  have hend : ∀ (v : State) code l, v.DramOk → (show_ (v.hostEnd code early) l).DramOk :=
    fun v code l hv => hv.of_eq (v.hostEnd_dram code early)
  split
  · exact hend _ _ _ hu
  split
  · exact hend _ _ _ hu
  split
  · exact hend _ _ _ hu
  split
  · split
    next v ws bad he =>
    have hv : v.DramOk := hu.within (.ofFst he (u.readWords_within ..))
    split
    · exact hend _ _ _ (hv.of_eq v.draw_dram)
    · exact hend _ _ _ hv
  · split
    next v k bad left he =>
    have hv : v.DramOk := by
      have hw := hu.writeWords (q := .host) (l := as.zip data) (k := 0)
      rwa [he] at hw
    split
    · exact hend _ _ _ hv
    · exact hv

end State.DramOk

/-! The commands that may change the window -/

section Stores

variable {now : Nat} {s t : State} (h : s.DramOk)
include h

theorem execRegisterWrite_dramOk {q : Requester} {a size data : Nat} {ph : Phys}
    (he : execRegisterWrite now q a size data ph s = .next t) : t.DramOk :=
  h.act (fun _ hu => hu.busWrite) he

theorem execPowerOnReset_dramOk (he : execPowerOnReset now s = .next t) : t.DramOk := by
  refine h.always (fun u _ => ?_) he
  obtain ⟨-, -, -, hd⟩ := u.coldReset_eq 0
  exact .of_nil hd

theorem execLogicSupplyFall_dramOk {n : Fin 3} (he : execLogicSupplyFall now n s = .next t) : t.DramOk := by
  unfold execLogicSupplyFall at he
  refine h.always (fun u _ => ?_) he
  obtain ⟨-, -, -, hd⟩ := u.coldReset_eq 1
  exact .of_nil hd

theorem execMgmtWriteReq_dramOk {rx : Rx} (he : execMgmtWriteReq now rx s = .next t) : t.DramOk := by
  refine h.act (fun u hu => hu.receive fun v hv => hv.mgmtRequest fun q w hw => ?_) he
  extract_lets as ws
  split
  next x k bad left he =>
  have hx : x.DramOk := by
    have hx := hw.writeWords (q := q) (l := as.zip ws) (k := 0)
    rwa [he] at hx
  split
  · exact hx.within (State.mgmtReply_within ..)
  · exact hx.of_eq (State.toFirmware_dram ..)

theorem execMediatedWriteDone_dramOk {ph : Phys} (he : execMediatedWriteDone now ph s = .next t) : t.DramOk := by
  refine h.act (fun u hu => ?_) he
  split
  · exact hu
  next m rest _ =>
  extract_lets v
  split
  next w bad he =>
  have hw : w.DramOk := by
    have hw := State.DramOk.finishWords (s := v) (q := m.req) (ph := ph) (l := m.words) (k := m.index) hu
    rwa [he] at hw
  split
  · exact hw
  split
  · split
    · exact hw.within (State.mgmtReply_within ..)
    · exact hw.within (State.mgmtReply_within ..)
  have hend : ∀ code, (w.hostEnd code m.early).DramOk := fun code => hw.of_eq (w.hostEnd_dram code m.early)
  split
  · exact hw
  extract_lets code x
  split
  · exact hend code
  · exact hend code

theorem execHostWrite_dramOk {header addr : Word} {data : List Word} {crc : Word}
    (he : execHostWrite now header addr data crc s = .next t) : t.DramOk := by
  refine h.always (fun u hu => ?_) he
  split
  · exact hu.hostFrame
  · exact hu

theorem execHostFrameAbort_dramOk {request : Option (Word × Word × List Word × Word)} {late : Bool}
    (he : execHostFrameAbort now request late s = .next t) : t.DramOk := by
  refine h.always (fun u hu => ?_) he
  split
  · exact hu
  split
  · exact hu.hostFrame
  · exact hu.of_eq u.hostStatus_dram

theorem execHostLegacyWrite_dramOk {half : Fin 8192} {data : BitVec 16} {clocks : Nat}
    (he : execHostLegacyWrite now half data clocks s = .next t) : t.DramOk := by
  refine h.always (fun u hu => ?_) he
  split
  · exact hu
  refine hu.legacyFrame fun v hv => ?_
  extract_lets low w x
  have hw : w.DramOk := hv
  have hx : x.DramOk := hv
  clear_value low w x
  split
  · exact hw
  split
  · exact hw
  split
  · exact hw
  split
  · exact hw
  split
  · exact hx
  · exact hx.busWrite

end Stores

/-- A command outside the list answers `keep` of parts that leave out the window. -/
theorem keep_off_dram {p : Parts} {now : Nat} {s t u : State} (h : (.next (keep p (s.tick now) u) : Out) = .next t)
    (hp : p.dram = false) : t.dram = s.dram := by
  cases h
  rw [keep_dram, hp, if_neg Bool.false_ne_true, State.tick_dram]

theorem exec_dram {i : Instr} {s t : State} (hm : i.mayDram = false) (h : exec i s = .next t) : t.dram = s.dram := by
  cases i
  case registerWrite | powerOnReset | logicSupplyFall | mgmtWriteReq | mediatedWriteDone | hostWrite | hostFrameAbort
    | hostLegacyWrite => cases hm
  all_goals exact keep_off_dram h rfl

theorem exec_dramOk {i : Instr} {s t : State} (hs : s.DramOk) (h : exec i s = .next t) : t.DramOk := by
  cases i
  case registerWrite => exact execRegisterWrite_dramOk hs h
  case powerOnReset => exact execPowerOnReset_dramOk hs h
  case logicSupplyFall _ n => exact execLogicSupplyFall_dramOk hs (n := n) h
  case mgmtWriteReq => exact execMgmtWriteReq_dramOk hs h
  case mediatedWriteDone => exact execMediatedWriteDone_dramOk hs h
  case hostWrite => exact execHostWrite_dramOk hs h
  case hostFrameAbort => exact execHostFrameAbort_dramOk hs h
  case hostLegacyWrite => exact execHostLegacyWrite_dramOk hs h
  all_goals exact hs.of_eq (exec_dram rfl h)

theorem step_dramOk {s t : State} (hs : s.DramOk) (h : step s = .next t) : t.DramOk := by
  unfold step at h
  split at h
  · cases h
    exact hs
  next i rest _ =>
    have hpop : { s with pending := rest }.DramOk := hs
    exact exec_dramOk hpop h

/-- Settles O43: a write stores within the window in canonical form, a power-on reset empties it, and every other
command leaves it. -/
theorem dramStaysCanonical : Obligations.DramStaysCanonical :=
  ⟨fun _ _ hwf hin h => step_dramOk ⟨hwf, hin⟩ h, State.DramOk.of_nil (s := State.reset) rfl⟩

/-- A write of a register leaves the window, whatever command the register carries. -/
theorem execRegisterWrite_dram {now : Nat} {q : Requester} {a data : Nat} {ph : Phys} {r : RegHit} {s t : State}
    (ha : a % 4 = 0) (hr : regAt? a = some r) (h : execRegisterWrite now q a 4 data ph s = .next t) : t.dram = s.dram := by
  have hb : ∀ u : State, (u.busWrite q a 4 data ph).dram = u.dram := fun u => by
    simp only [State.busWrite, ha, hr, and_self, if_true]
  cases h
  rw [keep_dram, if_pos rfl]
  beta_reduce
  split
  · exact s.tick_dram now
  · exact (hb _).trans (s.tick_dram now)

/-- Settles O46: the window by the parts of a command and the register hit of a write, the fuses by `exec_fuse`, the flash
by the parts that the lists leave. -/
theorem memoriesKept : Obligations.MemoriesKept :=
  ⟨fun _ _ _ hm h => exec_dram hm h, fun _ _ _ _ _ _ _ _ ha hr h => execRegisterWrite_dram ha hr h,
    fun _ _ _ hw hm h => exec_fuse hw hm h, fun _ _ _ hw hm h => (exec_within hw h).elim fun _ hk => hk.flash hm⟩

/-- Settles O49: every part that the lists keep from a command is outside the parts that the command stays within. -/
theorem othersKept : Obligations.OthersKept := by
  intro i s t hw h
  obtain ⟨now, hk⟩ := exec_within hw h
  exact ⟨hk.resp, hk.safe, hk.pair, hk.mon, hk.strm, hk.ports, hk.log⟩

end Sys2Proof.Machine
end

section
namespace Sys2Proof.Machine

/-! PROOF. Streams, acknowledgements and the history (R201, R203, R210, R217, R260). -/

/-! A received frame, before its command: what the checks leave, and that they do not look at the time -/

/-- The checks of a received frame count in the registers of ports, and put no frame on a wire. -/
structure State.RxKeeps (s t : State) : Prop where
  get : ∀ f : FldAt, f.reg.addr < 0x7000000 → t.get f = s.get f
  wire : ∀ p, (t.portSt p).wire = (s.portSt p).wire

namespace State.RxKeeps

variable {s t : State}

theorem refl (s : State) : RxKeeps s s := ⟨fun _ _ => rfl, fun _ => rfl⟩

theorem trans {u : State} (h : RxKeeps s t) (h' : RxKeeps t u) : RxKeeps s u :=
  ⟨fun f hf => (h'.get f hf).trans (h.get f hf), fun p => (h'.wire p).trans (h.wire p)⟩

theorem bump (s : State) {g : FldAt} (hg : 0x7000000 ≤ g.reg.addr) : RxKeeps s (s.bump g) :=
  ⟨fun _ hf => s.get_bump_ne 1 (.inl (hf.trans_le hg).ne), fun _ => rfl⟩

theorem setPort (s : State) (p : Nat) {x : PortSt} (hx : x.wire = (s.portSt p).wire) : RxKeeps s (s.setPort p x) := by
  refine ⟨fun _ _ => rfl, fun q => ?_⟩
  unfold State.portSt State.setPort
  by_cases hq : q = p
  · subst hq
    rw [Tbl.get_set_self]
    exact hx
  · rw [Tbl.get_set_ne _ _ _ hq]

end State.RxKeeps

theorem State.secCheck_rxKeeps (s : State) (p : Nat) (sec : Option SecTag) : s.RxKeeps (s.secCheck p sec).1 := by
  have hb : ∀ (u : State) {g : FldAt}, 0x7000000 ≤ g.reg.addr → u.RxKeeps (u.bump g) := .bump
  unfold State.secCheck
  split
  · split
    · exact .refl s
    · exact hb s (Nat.le_add_right_of_le (by decide))
  split
  · exact hb s (Nat.le_add_right_of_le (by decide))
  extract_lets x
  split
  · exact hb s (Nat.le_add_right_of_le (by decide))
  split
  · exact hb s (Nat.le_add_right_of_le (by decide))
  split
  · exact hb s (Nat.le_add_right_of_le (by decide))
  extract_lets sas sas' u
  have hu : s.RxKeeps u := .setPort s p rfl
  exact hu.trans (hb u (Nat.le_add_right_of_le (by decide)))

theorem State.gated_rxKeeps (s : State) (rx : Rx) : s.RxKeeps (s.gated rx) := by
  have hb : ∀ (u : State) {g : FldAt}, 0x7000000 ≤ g.reg.addr → u.RxKeeps (u.bump g) := .bump
  unfold State.gated State.rxGate
  extract_lets p u
  have hu : s.RxKeeps u := hb s (Nat.le_add_right_of_le (by decide))
  split
  · exact .refl s
  split
  · exact hb s (Nat.le_add_right_of_le (by decide))
  split
  · exact hu.trans (hb u (Nat.le_add_right_of_le (by decide)))
  split
  next v ok he =>
  have hv : s.RxKeeps v := by
    have hsec := hu.trans (u.secCheck_rxKeeps p rx.eth.sec)
    rwa [he] at hsec
  split
  · exact hv
  split
  · extract_lets w
    have hw : v.RxKeeps w := .setPort v p rfl
    exact (hv.trans hw).trans (hb w (Nat.le_add_right_of_le (by decide)))
  split
  · exact hv.trans (hb v (Nat.le_add_right_of_le (by decide)))
  · exact hv

/-- A choice between two outcomes of a check, made alike at another time. -/
theorem ite_tick {c : Prop} [Decidable c] {now : Nat} {a b a' b' : State × Bool} (ha : a' = (a.1.tick now, a.2))
    (hb : b' = (b.1.tick now, b.2)) : (if c then a' else b') =
      ((if c then a else b).1.tick now, (if c then a else b).2) := by
  split
  · exact ha
  · exact hb

theorem State.secCheck_tick (s : State) (now p : Nat) (sec : Option SecTag) :
    (s.tick now).secCheck p sec = ((s.secCheck p sec).1.tick now, (s.secCheck p sec).2) := by
  unfold State.secCheck
  refine ite_tick ?_ ?_
  · cases sec <;> rfl
  rcases sec with _ | tag
  · rfl
  rw [show (s.tick now).portSt p = s.portSt p from rfl]
  generalize s.portSt p = x
  dsimp only
  generalize List.find? _ x.sas = r
  rcases r with _ | sa
  · rfl
  exact ite_tick rfl (ite_tick rfl rfl)

theorem State.rxGate_tick (s : State) (now : Nat) (rx : Rx) :
    (s.tick now).rxGate rx = ((s.rxGate rx).1.tick now, (s.rxGate rx).2) := by
  unfold State.rxGate
  extract_lets p v u
  refine ite_tick rfl (ite_tick rfl (ite_tick rfl ?_))
  have hsec : v.secCheck p rx.eth.sec = _ := u.secCheck_tick now p rx.eth.sec
  rw [hsec]
  generalize u.secCheck p rx.eth.sec = r
  obtain ⟨w, ok⟩ := r
  exact ite_tick rfl (ite_tick rfl (ite_tick rfl rfl))

theorem State.gated_tick (s : State) (now : Nat) (rx : Rx) : (s.tick now).gated rx = (s.gated rx).tick now := by
  rw [State.gated, State.rxGate_tick]
  rfl

theorem State.consumes_tick (s : State) (now : Nat) (rx : Rx) : (s.tick now).consumes rx = s.consumes rx := by
  rw [State.consumes, State.gated_tick, State.rxGate_tick]
  rfl

theorem State.Only.strm {p : Parts} {s t : State} (h : State.Only p s t) (hp : p.strm = false) : t.strm = s.strm := by
  rw [h, keep_strm, hp, if_neg Bool.false_ne_true]

/-- What a consumed frame does to the streams is what its command does to them after the checks. -/
theorem State.receive_strm {s : State} {rx : Rx} {mine : Frame → Bool} {h : State → State} (now : Nat)
    (hc : s.consumes rx = true) (hmine : mine rx.frame = true) :
    ((s.tick now).receive rx mine h).strm = (h ((s.gated rx).tick now)).strm := by
  rw [← State.gated_tick]
  exact (State.receive_consumed (by rwa [State.consumes_tick]) hmine).strm rfl

theorem keep_receive_strm {p : Parts} {s : State} {rx : Rx} {mine : Frame → Bool} {h : State → State} (now : Nat)
    (hp : p.strm = true) (hc : s.consumes rx = true) (hmine : mine rx.frame = true) :
    (keep p (s.tick now) ((s.tick now).receive rx mine h)).strm = (h ((s.gated rx).tick now)).strm := by
  rw [keep_strm, if_pos hp, State.receive_strm now hc hmine]

/-! Queues and streams -/

theorem State.queue_congr {s t : State} (h : t.strm = s.strm) (q : Nat) : t.queue q = s.queue q := by
  rw [State.queue, h, State.queue]

theorem State.strmSt_congr {s t : State} (h : t.strm = s.strm) (n : Nat) : t.strmSt n = s.strmSt n := by
  rw [State.strmSt, h, State.strmSt]

@[simp] theorem State.queue_setQueue (s : State) (q : Nat) (x : QueueSt) : (s.setQueue q x).queue q = x :=
  Tbl.get_set_self ..

@[simp] theorem State.strmSt_setStrm (s : State) (n : Nat) (x : StreamSt) : (s.setStrm n x).strmSt n = x :=
  Tbl.get_set_self ..

@[simp] theorem State.strmSt_modStrm (s : State) (n : Nat) (f : StreamSt → StreamSt) :
    (s.modStrm n f).strmSt n = f (s.strmSt n) := s.strmSt_setStrm ..

@[simp] theorem State.strmReady_strm (s : State) (n : Nat) : (s.strmReady n).strm = s.strm := (s.strmReady_only n).strm rfl

@[simp] theorem State.strmReady_regs (s : State) (n : Nat) : (s.strmReady n).regs = s.regs := by
  unfold State.strmReady
  extract_lets p
  split
  · rfl
  split
  · rfl
  · exact State.enqueue_regs ..

/-! A packet that is committed (R200, R201, R207) -/

/-- A committed packet stands last in its queue and takes the next PSN. -/
theorem State.commitStrmPkt_commits (s : State) (n : Nat) (p : Packet) :
    (s.commitStrmPkt n p).strmSt n = s.strmSt n ∧
      ((s.commitStrmPkt n p).queue n).pkts.length = (s.queue n).pkts.length + 1 ∧
      (s.commitStrmPkt n p).get (R.QUE_S_PSN.PSN n) = (s.get (R.QUE_S_PSN.PSN n) + 1) % 2 ^ 32 := by
  unfold State.commitStrmPkt
  extract_lets psn u x
  have hx : x = s.queue n := rfl
  refine ⟨State.strmSt_congr (State.strmReady_strm ..) n, ?_, ?_⟩
  · rw [State.queue_congr (State.strmReady_strm ..), State.queue_setQueue, hx, List.length_append]
    rfl
  · rw [State.get_congr (State.strmReady_regs ..)]
    have hdepth : FldAt.Apart (R.QUE_S_PSN.PSN n) (R.QUE_Q_STAT.DEPTH n) :=
      .inl (show 0x5000c10 + n * 0x40 ≠ 0x5000004 + n * 0x20 by omega)
    exact (State.get_put_ne _ _ hdepth).trans (s.get_put _ _ (show 0 + 32 ≤ 32 by decide))

/-- The open packet of a stream with rows is committed, and the stream has no rows. -/
theorem State.closePacket_commits (s : State) (n : Nat) (hrows : (s.strmSt n).rows ≠ []) :
    ∃ p, s.closePacket n = (s.setStrm n { s.strmSt n with rows := [] }).commitStrmPkt n p := by
  unfold State.closePacket
  extract_lets x
  have hx : x.rows ≠ [] := hrows
  rw [List.head?_eq_some_head hx, List.getLast?_eq_some_getLast hx]
  exact ⟨_, rfl⟩

theorem streamFlush_commits (now : Nat) {st : Fin 64} {s : State} (hr : s.Running) (hrows : (s.strmSt st).rows ≠ [])
    (hdue : (s.strmSt st).openAt + s.inUse (R.QUE_S_FLUSH.FLUSH st) * usU ≤ max s.now now) :
    Completes (.streamFlush now st) s fun t => (t.strmSt st).rows = [] ∧
      (t.queue st).pkts.length = (s.queue st).pkts.length + 1 ∧
      t.get (R.QUE_S_PSN.PSN st) = (s.get (R.QUE_S_PSN.PSN st) + 1) % 2 ^ 32 := by
  have he : exec (.streamFlush now st) s = execStreamFlush now st s := rfl
  unfold execStreamFlush at he
  refine completes_act he hr ?_
  extract_lets x
  have hx : x = s.strmSt st := rfl
  have hgo : ¬ (x.rows.isEmpty = true ∨
      (s.tick now).now < x.openAt + (s.tick now).inUse (R.QUE_S_FLUSH.FLUSH st) * usU) := by
    rw [hx, List.isEmpty_iff, State.inUse_tick, State.tick_now]
    rintro (h | h)
    · exact hrows h
    · exact absurd h (not_lt.2 hdue)
  rw [if_neg hgo]
  obtain ⟨p, hp⟩ := (s.tick now).closePacket_commits st hrows
  rw [hp]
  obtain ⟨hst, hqueue, hpsn⟩ :=
    State.commitStrmPkt_commits ((s.tick now).setStrm st { s.strmSt st with rows := [] }) st p
  rw [State.strmSt_setStrm] at hst
  exact ⟨congrArg StreamSt.rows hst, hqueue, hpsn⟩

theorem streamSkipResume_resumes (now : Nat) {st : Fin 64} {s : State} (hr : s.Running)
    (hskip : (s.strmSt st).skipping = true)
    (hfits : s.fits st (s.strmRows st * rowWords (s.strmClass st) (s.inUse (R.QUE_S_CFG.WIDTH st)) + 1) 0 = true) :
    Completes (.streamSkipResume now st) s fun t =>
      (t.strmSt st).skipping = false ∧ (t.strmSt st).owed = oweMore (s.strmSt st).owed 3 2 := by
  have he : exec (.streamSkipResume now st) s = execStreamSkipResume now st s := rfl
  unfold execStreamSkipResume at he
  refine completes_act he hr ?_
  extract_lets x whole
  rw [if_pos ⟨hskip, hfits⟩]
  have hst := State.strmSt_setStrm (s.tick now) st { x with skipping := false, owed := oweMore x.owed 3 2 }
  exact ⟨congrArg StreamSt.skipping hst, congrArg StreamSt.owed hst⟩

/-! A block of history that is released (R217) -/

theorem historyBlockRelease_releases (now : Nat) {e : Fin 512} {b : HBlock} {bs : List HBlock} {s : State}
    (hr : s.Running) (hb : (s.histEp e).blocks = b :: bs) (halloc : (s.histEp e).alloc ≤ bs.length)
    (hclosed : b.isOpen = false) (hexp : (s.tick now).expired e b = true) :
    Completes (.historyBlockRelease now e) s fun t =>
      (t.histEp e).blocks = bs ∧ t.strm.free = s.strm.free + 1 := by
  have he : exec (.historyBlockRelease now e) s = execHistoryBlockRelease now e s := rfl
  unfold execHistoryBlockRelease at he
  refine completes_act he hr ?_
  extract_lets h
  have hh : h.blocks = b :: bs := hb
  have hgo : h.alloc < h.blocks.length ∧ (!b.isOpen) = true ∧ (s.tick now).expired e b = true := by
    rw [hh, hclosed]
    exact ⟨Nat.lt_succ_of_le halloc, rfl, hexp⟩
  rw [hh]
  dsimp only
  rw [← hh, if_pos hgo]
  exact ⟨congrArg HistEp.blocks (Tbl.get_set_self (d := ({} : HistEp)) _ _ _), rfl⟩

/-! Acknowledgements (R203, R260) -/

theorem State.ackPkt_queues (s : State) (n : Nat) (p : Packet) : (s.ackPkt n p).strm.queues = s.strm.queues := by
  unfold State.ackPkt
  extract_lets u v
  have hu : u.strm = s.strm := (s.measure_only ..).strm rfl
  have hv : v.strm = u.strm := by
    unfold v
    split
    · exact (u.measure_only ..).strm rfl
    · rfl
  have hqueues : v.strm.queues = s.strm.queues := congrArg StrmSt.queues (hv.trans hu)
  exact hqueues

theorem State.unqueueStrm_strm (s : State) (n : Nat) : (s.unqueueStrm n).strm = s.strm := by
  unfold State.unqueueStrm
  exact State.each_keeps State.strm (fun u p => by exact rfl) ..

/-- An acknowledgement of a packet that was sent removes every packet up to it from the stream's queue. -/
theorem State.ack_removes {s : State} {n psn runid : Nat} (hrun : runid = s.get R.QUE_RUNID.RUNID)
    (hsent : serialLt psn (s.strmSt n).sentTop = true) :
    ((s.ack n psn runid).queue n).pkts = (s.queue n).pkts.filter fun p => !serialLe p.psn psn := by
  unfold State.ack
  extract_lets x gone q u v w
  rw [if_neg (by simp [hrun, x, hsent])]
  split
  next hgone =>
    refine (List.filter_eq_self.2 fun p hp => ?_).symm
    have hnone := List.filter_eq_nil_iff.1 (List.isEmpty_iff.1 hgone) p hp
    simpa using hnone
  · have hw : w.strm.queues = u.strm.queues :=
      State.each_keeps (fun s => s.strm.queues) (fun s p => s.ackPkt_queues n p) u gone
    have hend : (w.queue n).pkts = q.pkts.filter fun p => !serialLe p.psn psn := by
      rw [State.queue, hw]
      exact congrArg QueueSt.pkts (s.queue_setQueue n _)
    split
    · rw [State.queue_congr (State.unqueueStrm_strm ..)]
      exact hend
    · exact hend

/-- A NAK of a packet before the send point that is still queued moves the send point back to it. -/
theorem State.nak_moves {s : State} {n psn runid : Nat} (hrun : runid = s.get R.QUE_RUNID.RUNID)
    (hany : (s.queue n).pkts.any (fun p => p.psn == psn) = true) (hlt : serialLt psn (s.strmSt n).sendPsn = true) :
    ((s.nak n psn runid).strmSt n).sendPsn = psn := by
  unfold State.nak
  rw [if_neg (by simp [hrun, hany]), if_pos hlt, State.strmSt_congr (State.strmReady_strm ..), State.strmSt_modStrm]

theorem runid_gated (s : State) (now : Nat) (rx : Rx) :
    ((s.gated rx).tick now).get R.QUE_RUNID.RUNID = s.get R.QUE_RUNID.RUNID :=
  (s.gated_rxKeeps rx).get _ (by decide)

theorem gated_strm (s : State) (now : Nat) (rx : Rx) : ((s.gated rx).tick now).strm = s.strm :=
  (s.gated_only rx).strm rfl

/-! An entry of an ACKS (Table 10.5) -/

theorem chunks_entry (n psn : Nat) : chunks 8 64 ([BitVec.ofNat 8 n, 0, 0, 0] ++ beBytes 4 psn) =
    [[BitVec.ofNat 8 n, 0, 0, 0] ++ beBytes 4 psn] := rfl

theorem State.each_one {α : Type} (s : State) (x : α) (f : State → α → State) : s.each [x] f = f s x := rfl

theorem beNat_beBytes_four {v : Nat} (h : v < 2 ^ 32) : beNat (beBytes 4 v) = v := by
  simp only [beNat, beBytes, List.foldl_cons, List.foldl_nil, BitVec.toNat_ofNat]
  omega

/-- An entry that names a stream in use acknowledges its packets. -/
theorem State.acksEntry_entry (s : State) (p runid : Nat) {n psn : Nat} (hn : n < 64) (hpsn : psn < 2 ^ 32)
    (hon : s.strmOn n = true) :
    s.acksEntry p runid ([BitVec.ofNat 8 n, 0, 0, 0] ++ beBytes 4 psn) = s.ack n psn runid := by
  have hno : (([BitVec.ofNat 8 n, 0, 0, 0] ++ beBytes 4 psn).getD 0 0).toNat = n := by
    show (BitVec.ofNat 8 n).toNat = n
    rw [BitVec.toNat_ofNat]
    omega
  have hslice : slice ([BitVec.ofNat 8 n, 0, 0, 0] ++ beBytes 4 psn) 4 4 = beBytes 4 psn := rfl
  have hzero : beNat (slice ([BitVec.ofNat 8 n, 0, 0, 0] ++ beBytes 4 psn) 1 3) = 0 := rfl
  rw [State.acksEntry, hno, hslice, hzero, beNat_beBytes_four hpsn, if_neg (by omega), if_neg (by simp [hon])]

section Received

variable (now : Nat) {rx : Rx} {s : State} (hr : s.Running) (hc : s.consumes rx = true)
include hr hc

theorem streamAckRx_removes (hflow : rx.frame.flow = 1) (htype : rx.frame.type = 2)
    (hrun : rx.frame.b / 2 ^ 16 = s.get R.QUE_RUNID.RUNID)
    (hsent : serialLt rx.frame.a (s.strmSt rx.frame.ch).sentTop = true) :
    Completes (.streamAckRx now rx) s fun t =>
      (t.queue rx.frame.ch).pkts = (s.queue rx.frame.ch).pkts.filter fun p => !serialLe p.psn rx.frame.a := by
  have he : exec (.streamAckRx now rx) s = execStreamAckRx now rx s := rfl
  unfold execStreamAckRx at he
  refine completes_act he hr ?_
  have hstrm := gated_strm s now rx
  have hkeep := keep_receive_strm (p := rxParts) (mine := fun f => f.flow == 1 && f.type == 2)
    (h := fun s => s.ack rx.frame.ch rx.frame.a (rx.frame.b / 2 ^ 16)) now rfl hc (by simp [hflow, htype])
  rw [State.queue_congr hkeep, State.ack_removes (by rw [hrun, runid_gated]) (by rwa [State.strmSt_congr hstrm]),
    State.queue_congr hstrm]

theorem streamNakRx_moves (hflow : rx.frame.flow = 1) (htype : rx.frame.type = 3)
    (hrun : rx.frame.b / 2 ^ 16 = s.get R.QUE_RUNID.RUNID)
    (hany : (s.queue rx.frame.ch).pkts.any (fun p => p.psn == rx.frame.a) = true)
    (hlt : serialLt rx.frame.a (s.strmSt rx.frame.ch).sendPsn = true) :
    Completes (.streamNakRx now rx) s fun t => (t.strmSt rx.frame.ch).sendPsn = rx.frame.a := by
  have he : exec (.streamNakRx now rx) s = execStreamNakRx now rx s := rfl
  unfold execStreamNakRx at he
  refine completes_act he hr ?_
  have hstrm := gated_strm s now rx
  have hkeep := keep_receive_strm (p := rxParts) (mine := fun f => f.flow == 1 && f.type == 3)
    (h := fun s => s.nak rx.frame.ch rx.frame.a (rx.frame.b / 2 ^ 16)) now rfl hc (by simp [hflow, htype])
  rw [State.strmSt_congr hkeep, State.nak_moves (by rw [hrun, runid_gated]) (by rwa [State.queue_congr hstrm])
    (by rwa [State.strmSt_congr hstrm])]

theorem streamAcksRx_removes {n psn : Nat} (hflow : rx.frame.flow = 1) (htype : rx.frame.type = 4)
    (hlen : rx.frame.length = 8) (hn : n < 64)
    (hpay : rx.frame.payload.take 8 = [BitVec.ofNat 8 n, 0, 0, 0] ++ beBytes 4 psn) (hpsn : psn < 2 ^ 32)
    (hon : s.strmOn n = true) (hrun : rx.frame.b / 2 ^ 16 = s.get R.QUE_RUNID.RUNID)
    (hsent : serialLt psn (s.strmSt n).sentTop = true) :
    Completes (.streamAcksRx now rx) s fun t =>
      (t.queue n).pkts = (s.queue n).pkts.filter fun p => !serialLe p.psn psn := by
  have he : exec (.streamAcksRx now rx) s = execStreamAcksRx now rx s := rfl
  unfold execStreamAcksRx at he
  refine completes_act he hr ?_
  have hstrm := gated_strm s now rx
  have hbody : rx.frame.body = [BitVec.ofNat 8 n, 0, 0, 0] ++ beBytes 4 psn := by rw [Frame.body, hlen, hpay]
  have hon' : ((s.gated rx).tick now).strmOn n = true := by
    rw [State.strmOn, State.inUse_tick, State.inUse_congr ((s.gated_only rx).live rfl)]
    exact hon
  have hkeep := keep_receive_strm (p := rxParts) (mine := fun f => f.flow == 1 && f.type == 4)
    (h := fun s =>
      let f := rx.frame
      if f.length = 0 ∨ f.length % 8 ≠ 0 ∨ f.length > 512 then s.bump (R.PRT_P_CNT2.BADHDR rx.port.val)
      else s.each (chunks 8 64 f.body) fun s e => s.acksEntry rx.port.val (f.b / 2 ^ 16) e)
    now rfl hc (by simp [hflow, htype])
  rw [State.queue_congr hkeep]
  dsimp only
  rw [if_neg (by omega), hbody, chunks_entry, State.each_one, State.acksEntry_entry _ _ _ hn hpsn hon',
    State.ack_removes (by rw [hrun, runid_gated]) (by rwa [State.strmSt_congr hstrm]), State.queue_congr hstrm]

end Received

/-- Settles O17, by the lemma of each event. -/
theorem streamEventsComplete : Obligations.StreamEventsComplete := by
  unfold Obligations.StreamEventsComplete
  exact ⟨fun now _ _ _ _ => historyBlockRelease_releases now, fun now _ _ => streamFlush_commits now,
    fun now _ _ => streamSkipResume_resumes now, fun now _ _ => streamAckRx_removes now,
    fun now _ _ => streamNakRx_moves now, fun now _ _ _ _ hr hc => streamAcksRx_removes now hr hc⟩

end Sys2Proof.Machine
end

section
namespace Sys2Proof.Machine

/-! PROOF. Pulls: requests, segments, retries and cancels (R219 to R223). -/

/-! The last segment of a pull -/

theorem State.each_eq_self {α : Type} {s : State} {f : State → α → State} {l : List α} (h : ∀ x ∈ l, f s x = s) :
    s.each l f = s := by
  unfold State.each
  induction l with
  | nil => rfl
  | cons x l ih => rw [List.foldl_cons, h x List.mem_cons_self, ih fun y hy => h y (List.mem_cons_of_mem x hy)]

/-- Where no wire is taken, none becomes free. -/
theorem State.settleWires_idle {s : State} (h : ∀ q : Fin 4, (s.portSt q).wire = none) : s.settleWires = s :=
  State.each_eq_self fun p hp => by
    have hp4 : p < 4 := by
      simp only [List.mem_cons, List.not_mem_nil, or_false] at hp
      omega
    rw [h ⟨p, hp4⟩]

theorem State.pullReady_strm (s : State) (p : Nat) : (s.pullReady p).strm = s.strm := by
  unfold State.pullReady
  split
  · rfl
  split
  · rfl
  · exact State.enqueue_strm ..

theorem State.pullReady_regs (s : State) (p : Nat) : (s.pullReady p).regs = s.regs := by
  unfold State.pullReady
  split
  · rfl
  split
  · rfl
  · exact State.enqueue_regs ..

theorem State.endPull_strm (s : State) (p : PullSt) : (s.endPull p).strm = (s.delPull p.id).strm := by
  unfold State.endPull
  extract_lets u v
  have hv : v.strm = u.strm := by
    unfold v
    split <;> rfl
  split
  · exact hv
  · exact ((v.measure_only ..).strm rfl).trans hv

/-- A pull that ends leaves the count of retries. -/
theorem State.endPull_retry (s : State) (p : PullSt) :
    (s.endPull p).get R.QUE_PULLCNT2.RETRY = s.get R.QUE_PULLCNT2.RETRY := by
  unfold State.endPull
  extract_lets u v
  have hu : u.get R.QUE_PULLCNT2.RETRY = s.get R.QUE_PULLCNT2.RETRY := State.get_put_ne _ _ (.inl (by decide))
  have hv : v.get R.QUE_PULLCNT2.RETRY = u.get R.QUE_PULLCNT2.RETRY := by
    unfold v
    split
    · exact u.get_bump_ne _ (.inr ⟨rfl, .inr (by decide)⟩)
    · rfl
  split
  · exact hv.trans hu
  · exact (State.get_measure _ _ _ _ (FldAt.offLog_of_between (by decide) (by decide))).trans (hv.trans hu)

/-- The final segment of a pull enters Q64, and the pull leaves the list. -/
theorem State.pushSegment_ends {s : State} {p : PullSt} {ws : List Nat} (hfits : s.fits 64 (ws.length + 1) 0 = true) :
    (s.pushSegment p ws true).pull? p.id = none ∧
      ((s.pushSegment p ws true).queue 64).pkts.length = (s.queue 64).pkts.length + 1 ∧
      (s.pushSegment p ws true).get R.QUE_PULLCNT2.RETRY = s.get R.QUE_PULLCNT2.RETRY := by
  unfold State.pushSegment
  rw [if_neg (by simp [hfits])]
  extract_lets q u v
  rw [if_pos rfl]
  have hstrm : ((u.endPull v).pullReady v.port).strm = (u.delPull p.id).strm :=
    (State.pullReady_strm ..).trans (u.endPull_strm v)
  refine ⟨?_, ?_, ?_⟩
  · rw [State.pull?, hstrm]
    refine List.find?_eq_none.2 fun r hr => ?_
    have hid := (List.mem_filter.1 hr).2
    simpa using hid
  · have hdel : (u.delPull p.id).queue 64 = u.queue 64 := rfl
    rw [State.queue_congr hstrm, hdel, s.queue_setQueue 64, List.length_append, List.length_singleton]
  · rw [State.get_congr (State.pullReady_regs ..), State.endPull_retry]
    exact State.get_put_ne _ _ (.inl (by decide))

theorem State.pushStatus_ends {s : State} {p : PullSt} (hfits : s.fits 64 9 0 = true) :
    (s.pushStatus p).pull? p.id = none ∧ ((s.pushStatus p).queue 64).pkts.length = (s.queue 64).pkts.length + 1 ∧
      (s.pushStatus p).get R.QUE_PULLCNT2.RETRY = s.get R.QUE_PULLCNT2.RETRY :=
  State.pushSegment_ends (s := (s.statusPacket p).2) (p := { p with job := none }) (ws := (s.statusPacket p).1) hfits

theorem PullSt.id_of_pull? {s : State} {id : Nat} {p : PullSt} (h : s.pull? id = some p) : p.id = id := by
  unfold State.pull? at h
  exact beq_iff_eq.1 (List.find?_some (p := fun p : PullSt => p.id == id) h)

/-- A pull with no endpoints left sends its last segment. -/
theorem State.advancePull_ends {s : State} {p : PullSt} (crcFails : Bool) (heps : p.eps = [])
    (hfits : s.fits 64 9 0 = true) : (s.advancePull p crcFails).pull? p.id = none ∧
      ((s.advancePull p crcFails).queue 64).pkts.length = (s.queue 64).pkts.length + 1 := by
  have hend : s.advancePull p crcFails = s.pushStatus { p with short := p.short || s.shortNow p } := by
    unfold State.advancePull
    dsimp only
    rw [heps]
    rfl
  rw [hend]
  obtain ⟨hgone, hlen, -⟩ := State.pushStatus_ends (p := { p with short := p.short || s.shortNow p }) hfits
  exact ⟨hgone, hlen⟩

theorem pullSegment_ends (now : Nat) {id : Nat} {p : PullSt} {s : State} (hr : s.Running)
    (hw : ∀ q : Fin 4, (s.portSt q).wire = none) (hp : s.pull? id = some p) (hlead : s.isFollow = false)
    (hretry : p.retry = false) (hjob : p.job = none) (heps : p.eps = []) (hfits : s.fits 64 9 0 = true) :
    Completes (.pullSegment now id false) s fun t =>
      t.pull? id = none ∧ (t.queue 64).pkts.length = (s.queue 64).pkts.length + 1 := by
  have he : exec (.pullSegment now id false) s = execPullSegment now id false s := rfl
  unfold execPullSegment at he
  refine completes_act he hr ?_
  have hset : (s.tick now).settleWires = s.tick now := State.settleWires_idle hw
  have hp' : (s.tick now).pull? id = some p := hp
  have hgo : ¬ ((s.tick now).isFollow = true ∨ p.retry = true ∨ p.job.isSome = true) := by
    rw [show (s.tick now).isFollow = false from hlead, hretry, hjob]
    decide
  rw [hset]
  dsimp only
  rw [hp']
  dsimp only
  rw [if_neg hgo]
  obtain ⟨hgone, hlen⟩ := State.advancePull_ends (s := s.tick now) false heps hfits
  rw [PullSt.id_of_pull? hp] at hgone
  exact ⟨hgone, hlen⟩

theorem pullSegmentRetry_ends (now : Nat) {id : Nat} {p : PullSt} {s : State} (hr : s.Running)
    (hw : ∀ q : Fin 4, (s.portSt q).wire = none) (hp : s.pull? id = some p) (hretry : p.retry = true)
    (hjob : p.job = none) (hfits : s.fits 64 9 0 = true) :
    Completes (.pullSegmentRetry now id) s fun t => t.pull? id = none ∧
      (t.queue 64).pkts.length = (s.queue 64).pkts.length + 1 ∧
      t.get R.QUE_PULLCNT2.RETRY = satAdd 16 (s.get R.QUE_PULLCNT2.RETRY) 1 := by
  have he : exec (.pullSegmentRetry now id) s = execPullSegmentRetry now id s := rfl
  unfold execPullSegmentRetry at he
  refine completes_act he hr ?_
  have hset : (s.tick now).settleWires = s.tick now := State.settleWires_idle hw
  have hp' : (s.tick now).pull? id = some p := hp
  have hgo : ¬ ((!p.retry) = true ∨ (!(s.tick now).fits 64 9 0) = true) := by
    rw [hretry, show (s.tick now).fits 64 9 0 = true from hfits]
    decide
  rw [hset]
  dsimp only
  rw [hp']
  dsimp only
  rw [hjob]
  dsimp only
  rw [if_neg hgo]
  obtain ⟨hgone, hlen, hcount⟩ :=
    State.pushStatus_ends (s := (s.tick now).bump R.QUE_PULLCNT2.RETRY) (p := p) hfits
  rw [PullSt.id_of_pull? hp] at hgone
  exact ⟨hgone, hlen, hcount.trans ((s.tick now).get_bump R.QUE_PULLCNT2.RETRY 1 (by decide))⟩

/-! Requests (R219 to R221) -/

/-- A frame that passes the checks is as long as its payload at most (R257). -/
theorem State.rxGate_length {s : State} {rx : Rx} (h : (s.rxGate rx).2 = true) :
    rx.frame.length ≤ rx.frame.payload.length := by
  unfold State.rxGate at h
  extract_lets p u at h
  split at h
  · cases h
  split at h
  · cases h
  split at h
  · cases h
  split at h
  next v ok _ =>
  split at h
  · cases h
  split at h
  · cases h
  split at h
  · cases h
  next hheader =>
    simp only [State.headerOk, Bool.not_eq_true', Bool.not_eq_false, Bool.and_eq_true, decide_eq_true_eq] at hheader
    obtain ⟨⟨⟨-, hle⟩, -⟩, -⟩ := hheader
    exact hle

/-- What a request asks for depends on the history, the numbers of pulls and the time alone. -/
theorem State.pullOf_congr {s t : State} (hstrm : t.strm = s.strm) (hnow : t.now = s.now) (rx : Rx) :
    t.pullOf rx = s.pullOf rx := by
  simp only [State.pullOf, State.nextSsn, hstrm, hnow]

theorem State.badRequest_congr {s t : State} (hlive : t.live = s.live) (p : PullSt) (whole : Bool) :
    t.badRequest p whole = s.badRequest p whole := by
  have hview : t.inUse = s.inUse := funext (State.inUse_congr hlive)
  simp only [State.badRequest, hview]

theorem State.fits_congr {s t : State} (hstrm : t.strm = s.strm) (hlive : t.live = s.live) (q need reserved : Nat) :
    t.fits q need reserved = s.fits q need reserved := by
  rw [State.fits, State.queue_congr hstrm, State.queueCap, State.inUse_congr hlive, State.fits, State.queueCap]

theorem State.pull?_congr {s t : State} (h : t.strm = s.strm) (id : Nat) : t.pull? id = s.pull? id := by
  rw [State.pull?, h, State.pull?]

/-- An accepted request is the last of the pulls, under the next number. -/
theorem State.acceptPull_enters (s : State) (p : PullSt) : ∃ p' : PullSt, p'.id = p.id ∧
    (s.acceptPull p).strm.pulls = s.strm.pulls ++ [p'] ∧ (s.acceptPull p).strm.pullId = s.strm.pullId + 1 := by
  unfold State.acceptPull
  extract_lets u p' v
  exact ⟨p', rfl, rfl, rfl⟩

/-- A CANCEL ends the pull in flight that bears its TAG. -/
theorem State.cancelPull_ends {s : State} {p q : PullSt}
    (hfind : s.strm.pulls.find? (fun q => q.code == 0 && sameKey p q) = some q) (hfits : s.fits 64 9 0 = true) :
    (s.cancelPull p).pull? q.id = none ∧ ((s.cancelPull p).queue 64).pkts.length = (s.queue 64).pkts.length + 1 := by
  unfold State.cancelPull
  rw [hfind]
  dsimp -zeta only
  extract_lets cmp u v
  have hv : v.fits 64 9 0 = true := hfits
  have hqueue : v.queue 64 = s.queue 64 := rfl
  clear_value v
  obtain ⟨hgone, hlen, -⟩ := State.pushStatus_ends (p := { q with code := 4, retry := false }) hv
  rw [hqueue] at hlen
  exact ⟨hgone, hlen⟩

section Received

variable {s : State} {rx : Rx} (hw : ∀ q : Fin 4, (s.portSt q).wire = none) (hc : s.consumes rx = true)
  (hlead : s.isFollow = false) (hlen : rx.frame.length = 88) (now : Nat)
include hw hc hlead hlen

/-- A whole request on the lead, before its meaning: a CANCEL or a pull that is rejected or accepted. -/
theorem pullRx_gated : ((s.gated rx).tick now).pullRx rx =
    let u := (s.gated rx).tick now
    let p := (s.tick now).pullOf rx
    if hasBit (rx.frame.payload.getD 3 0).toNat 7 = true then u.cancelPull p
    else if s.strm.pulls.any fun q => q.code == 0 && sameKey p q then u.rejectPull p 1
    else if 256 ≤ (s.strm.pulls.filter fun q => q.code == 0).length then u.rejectPull p 2
    else if s.badRequest p true then u.rejectPull p 3
    else u.acceptPull p := by
  have hgate := s.gated_only rx
  have hkeeps := s.gated_rxKeeps rx
  have hstrm := gated_strm s now rx
  have hfollow : ((s.gated rx).tick now).isFollow = false := by
    rw [State.isFollow, State.on, State.get_tick, hkeeps.get _ (by decide)]
    exact hlead
  have hidle : ((s.gated rx).tick now).settleWires = (s.gated rx).tick now :=
    State.settleWires_idle fun q => (hkeeps.wire q).trans (hw q)
  have hpull : ((s.gated rx).tick now).pullOf rx = (s.tick now).pullOf rx :=
    State.pullOf_congr (s := s.tick now) hstrm (by rw [State.tick_now, State.tick_now, hgate.now]) rx
  have hlong : 88 ≤ rx.frame.payload.length := hlen ▸ State.rxGate_length (Bool.and_eq_true_iff.1 hc).1
  have hwhole : (rx.frame.body.length == 88) = true := by
    rw [Frame.body, hlen, List.length_take, Nat.min_eq_left hlong]
    rfl
  have hbyte : rx.frame.body.getD 3 0 = rx.frame.payload.getD 3 0 := by
    rw [Frame.body, hlen, List.getD_eq_getElem?_getD, List.getElem?_take_of_lt (by decide), List.getD_eq_getElem?_getD]
  unfold State.pullRx
  rw [hfollow, if_neg (by decide), hidle]
  dsimp only
  rw [hpull, hwhole, hbyte, hstrm, Bool.true_and,
    State.badRequest_congr (s := s) (t := (s.gated rx).tick now) (hgate.live rfl)]

theorem pullRequestRx_accepts (hr : s.Running) (hflow : rx.frame.flow = 2) (htype : rx.frame.type = 0)
    (hreq : hasBit (rx.frame.payload.getD 3 0).toNat 7 = false)
    (hkey : s.strm.pulls.any (fun q => q.code == 0 && sameKey ((s.tick now).pullOf rx) q) = false)
    (hroom : (s.strm.pulls.filter fun q => q.code == 0).length < 256)
    (hgood : s.badRequest ((s.tick now).pullOf rx) true = false) :
    Completes (.pullRequestRx now rx) s fun t => t.strm.pulls.length = s.strm.pulls.length + 1 ∧
      t.strm.pullId = s.strm.pullId + 1 ∧ t.strm.pulls.getLast?.map (·.id) = some s.strm.pullId := by
  have he : exec (.pullRequestRx now rx) s = execPullRequestRx now rx s := rfl
  unfold execPullRequestRx at he
  refine completes_act he hr ?_
  have hkeep := keep_receive_strm (p := { rxParts with cmp := true }) (mine := fun f => f.flow == 2 && f.type == 0)
    (h := fun s => s.pullRx rx) now rfl hc (by simp [hflow, htype])
  rw [hkeep, pullRx_gated hw hc hlead hlen now]
  dsimp only
  rw [hreq, hkey, hgood, if_neg (by decide), if_neg (by decide), if_neg (by omega), if_neg (by decide)]
  obtain ⟨p, hid, hpulls, hnext⟩ := ((s.gated rx).tick now).acceptPull_enters ((s.tick now).pullOf rx)
  rw [hpulls, hnext, gated_strm, List.length_append, List.getLast?_concat, Option.map_some, hid]
  exact ⟨rfl, rfl, rfl⟩

theorem pullCancelRx_ends {q : PullSt} (hr : s.Running) (hflow : rx.frame.flow = 2) (htype : rx.frame.type = 0)
    (hreq : hasBit (rx.frame.payload.getD 3 0).toNat 7 = true)
    (hkey : s.strm.pulls.find? (fun q => q.code == 0 && sameKey ((s.tick now).pullOf rx) q) = some q)
    (hfits : s.fits 64 9 0 = true) : Completes (.pullCancelRx now rx) s fun t =>
      t.pull? q.id = none ∧ (t.queue 64).pkts.length = (s.queue 64).pkts.length + 1 := by
  have he : exec (.pullCancelRx now rx) s = execPullCancelRx now rx s := rfl
  unfold execPullCancelRx at he
  refine completes_act he hr ?_
  have hkeep := keep_receive_strm (p := { rxParts with cmp := true }) (mine := fun f => f.flow == 2 && f.type == 0)
    (h := fun s => s.pullRx rx) now rfl hc (by simp [hflow, htype])
  have hgate := s.gated_only rx
  have hstrm := gated_strm s now rx
  have hrx : ((s.gated rx).tick now).pullRx rx = ((s.gated rx).tick now).cancelPull ((s.tick now).pullOf rx) :=
    (pullRx_gated hw hc hlead hlen now).trans (if_pos hreq)
  obtain ⟨hgone, hlen'⟩ := State.cancelPull_ends (s := (s.gated rx).tick now) (by rwa [hstrm])
    ((State.fits_congr (s := s) (t := (s.gated rx).tick now) hstrm (hgate.live rfl) ..).trans hfits)
  rw [State.queue_congr hkeep, State.pull?_congr hkeep, hrx, ← State.queue_congr hstrm]
  exact ⟨hgone, hlen'⟩

end Received

/-- Settles O18, by the lemma of each event. -/
theorem pullEventsComplete : Obligations.PullEventsComplete := by
  unfold Obligations.PullEventsComplete
  refine ⟨fun now _ _ _ => pullSegment_ends now, fun now _ _ _ => pullSegmentRetry_ends now, ?_, ?_⟩
  · intro now rx s hr hw hc hlead hflow htype hlen hreq hkey hroom hgood
    exact pullRequestRx_accepts hw hc hlead hlen now hr hflow htype hreq hkey hroom hgood
  · intro now rx q s hr hw hc hlead hflow htype hlen hreq hkey hfits
    exact pullCancelRx_ends hw hc hlead hlen now hr hflow htype hreq hkey hfits

end Sys2Proof.Machine
end

section
namespace Sys2Proof.Machine

/-! PROOF. The member that compressing nothing gives (R235, R236), from what packing bits into bytes undoes. -/

/-! Bits of bytes, and bytes of bits -/

@[simp] theorem bitsLsb_length (n v : Nat) : (bitsLsb n v).length = n := by simp [bitsLsb]

theorem bitsLsb_succ (n v : Nat) : bitsLsb (n + 1) v = (v % 2 == 1) :: bitsLsb n (v / 2) := by
  simp [bitsLsb, List.range_succ_eq_map, Nat.div_div_eq_div_mul, Nat.pow_succ']

/-- The low bits of a number spell what is left of it (as `packBits` reads them). -/
theorem foldr_bitsLsb (n v : Nat) :
    (bitsLsb n v).foldr (fun b a => (if b then 1 else 0) + 2 * a) 0 = v % 2 ^ n := by
  induction n generalizing v with
  | zero => simp [bitsLsb, Nat.mod_one]
  | succ n ih =>
    have hlow : (if (v % 2 == 1) = true then 1 else 0) = v % 2 := by
      rcases Nat.mod_two_eq_zero_or_one v with h | h <;> simp [h]
    rw [bitsLsb_succ, List.foldr_cons, ih, hlow, Nat.pow_succ', Nat.mod_mul]

theorem chunks_succ {α : Type} (n f : Nat) {l : List α} (h : l ≠ []) :
    chunks n (f + 1) l = l.take n :: chunks n f (l.drop n) := by
  cases l with
  | nil => exact absurd rfl h
  | cons x l => rfl

/-- Fuel beyond the length of a list makes no further block. -/
theorem chunks_fuel {α : Type} {n : Nat} (hn : 0 < n) {f g : Nat} {l : List α} (hf : l.length < f) (hg : l.length < g) :
    chunks n f l = chunks n g l := by
  induction f generalizing g l with
  | zero => omega
  | succ f ih =>
    obtain ⟨g, rfl⟩ := Nat.exists_eq_succ_of_ne_zero (Nat.ne_zero_of_lt hg)
    by_cases h : l = []
    · rw [h, chunks, chunks]
    · have hlen := List.length_pos_of_ne_nil h
      have hdrop : (l.drop n).length < l.length := by
        rw [List.length_drop]
        omega
      rw [chunks_succ n f h, chunks_succ n g h, ih (g := g) (by omega) (by omega)]

/-- A byte whose bits come first is the first byte that they pack to. -/
theorem packBits_byte (b : Byte) (l : List Bool) : packBits (bitsLsb 8 b.toNat ++ l) = b :: packBits l := by
  have hlen : (bitsLsb 8 b.toNat ++ l).length = l.length + 8 := by
    rw [List.length_append, bitsLsb_length, Nat.add_comm]
  have hblock : chunks 8 (l.length + 8 + 1) (bitsLsb 8 b.toNat ++ l) =
      bitsLsb 8 b.toNat :: chunks 8 (l.length + 1) l := by
    rw [chunks_succ _ _ (List.ne_nil_of_length_eq_add_one hlen), List.take_left' (bitsLsb_length ..),
      List.drop_left' (bitsLsb_length ..), chunks_fuel (g := l.length + 1) (by decide) (by omega) (Nat.lt_succ_self _)]
  rw [packBits, hlen, hblock, List.map_cons, foldr_bitsLsb, Nat.mod_eq_of_lt b.isLt, BitVec.ofNat_toNat,
    BitVec.setWidth_eq, packBits]

theorem packBits_byteBits (bs : List Byte) : packBits (byteBits bs) = bs := by
  induction bs with
  | nil => rfl
  | cons b bs ih => rw [byteBits, List.flatMap_cons, packBits_byte, ← byteBits, ih]

theorem byteBits_append (as bs : List Byte) : byteBits (as ++ bs) = byteBits as ++ byteBits bs :=
  List.flatMap_append

theorem byteBits_length (bs : List Byte) : (byteBits bs).length = 8 * bs.length := by
  simp [byteBits, List.length_flatMap, Nat.mul_comm]

theorem pieceBits_eq_length (ps : List Piece) : pieceBits ps = (ps.flatMap (·.1)).length := by
  have h : ∀ n, ps.foldl (fun n p => n + p.1.length) n = n + (ps.flatMap (·.1)).length := by
    induction ps with
    | nil => simp
    | cons p ps ih => intro n; rw [List.foldl_cons, ih, List.flatMap_cons, List.length_append, Nat.add_assoc]
  rw [pieceBits, h, Nat.zero_add]

/-! The empty member -/

/-- Nothing to shuffle leaves nothing. -/
theorem shuffle_nil (shuf stride : Nat) : shuffle shuf stride [] = [] := by
  simp [shuffle, shufDelta, laneOrder]

theorem deflate_nil (dense : Bool) (pos : Nat) : deflate dense pos [] = fixedBlock true [] := rfl

/-- What follows the header of an empty member: DEFLATE data 03 00, CRC32 0 and ISIZE 0. -/
def emptyTail : List Byte := [3, 0, 0, 0, 0, 0, 0, 0, 0, 0]

theorem memberPieces_nil (dense : Bool) (shuf stride : Nat) :
    (memberPieces dense shuf stride []).flatMap (·.1) = byteBits (gzHeader dense shuf stride 0 ++ emptyTail) := by
  have hbs : (if shuf = 0 then [] else shuffle shuf stride ((chunks 4 ([] : List Byte).length []).map beNat)) = [] :=
    ite_eq_left_iff.2 fun _ => shuffle_nil ..
  have hcrc : crc32 [] = 0 := rfl
  have hbody : pieceBits (fixedBlock true []) = 10 := rfl
  unfold memberPieces
  extract_lets bs head body n pad
  have hpad : pad = 6 := by
    unfold pad n body bs
    rw [hbs, deflate_nil, hbody]
    omega
  clear_value pad
  subst hpad
  unfold body bs head
  rw [hbs, deflate_nil, hcrc, byteBits_append (gzHeader dense shuf stride 0)]
  rfl

theorem compress_nil (dense : Bool) (shuf stride : Nat) {space : Nat}
    (h : (gzHeader dense shuf stride 0).length + 10 ≤ space) : compress dense shuf stride [] space =
      { code := 0, consumed := 0, out := gzHeader dense shuf stride 0 ++ emptyTail } := by
  have hfit : pieceBits (memberPieces dense shuf stride []) ≤ 8 * space := by
    rw [pieceBits_eq_length, memberPieces_nil, byteBits_length, List.length_append]
    exact Nat.mul_le_mul_left 8 h
  rw [compress, if_pos hfit, memberPieces_nil, packBits_byteBits]
  rfl

/-- Settles O55: the empty member is its header (Tables 9.1 and 9.2) and its tail. -/
theorem emptyMember : Obligations.EmptyMember := by
  unfold Obligations.EmptyMember
  constructor
  · intro dense stride space hspace
    exact compress_nil dense 0 stride hspace
  · intro dense shuf stride space hshuf _ _ _ hspace
    have hhead : gzHeader dense shuf stride 0 = [0x1F, 0x8B, 8, 4, 0, 0, 0, 0, if dense then 2 else 4, 0xFF, 12, 0, 0x47,
        0x50, 8, 0, 1, BitVec.ofNat 8 shuf, BitVec.ofNat 8 stride, BitVec.ofNat 8 (stride / 256), 0, 0, 0, 0] := by
      have hne : shuf ≠ 0 := by omega
      rw [gzHeader, if_neg hne, if_neg hne]
      rfl
    rw [compress_nil dense shuf stride (by rw [hhead]; exact hspace), hhead]
    rfl

end Sys2Proof.Machine
end

section
namespace Sys2Proof.Machine

/-! PROOF. The jobs of the compression engines: what a submission, a start, an end and a cancel of a slot leave (R228, R238,
R244, R248), and a push that waited (R210). -/

theorem exec_cmpJobSubmit (now : Nat) (q : Requester) (j : Fin 32) (data : Word) (s : State) :
    exec (.cmpJobSubmit now q j data) s = act jobParts now s fun s => s.slotCtl q j data := rfl
theorem exec_cmpJobCancel (now : Nat) (q : Requester) (j : Fin 32) (data : Word) (s : State) :
    exec (.cmpJobCancel now q j data) s = act jobParts now s fun s => s.slotCtl q j data := rfl

/-! The registers of a slot stand above those of the block -/

section Frames

variable {g : FldAt} (hg : 0x6001000 ≤ g.reg.addr)
include hg

theorem FldAt.apart_of_lt_slots {f : FldAt} (hf : f.reg.addr < 0x6001000) : FldAt.Apart g f := .inl (by omega)

theorem State.get_cmpStat (s : State) : s.cmpStat.get g = s.get g := by
  have h (f : FldAt) (hf : f.reg = R.CMP_STAT) : FldAt.Apart g f := FldAt.apart_of_lt_slots hg (by rw [hf]; decide)
  rw [State.cmpStat, State.get_put_ne _ _ (h _ rfl), State.get_put_ne _ _ (h _ rfl), State.get_put_ne _ _ (h _ rfl)]

theorem State.get_setEngine (s : State) (e : Nat) (j : Option EngJob) : (s.setEngine e j).get g = s.get g :=
  State.get_cmpStat hg _

theorem State.get_countJob (s : State) (slot : Option Nat) (code : Nat) : (s.countJob slot code).get g = s.get g := by
  unfold State.countJob
  split
  · exact s.get_bump_ne _ (FldAt.apart_of_lt_slots hg (by decide))
  · extract_lets u v
    have hu : u.get g = s.get g := s.get_bump_ne _ (FldAt.apart_of_lt_slots hg (by decide))
    have hv : v.get g = s.get g := by
      unfold v
      split
      · exact (u.get_bump_ne _ (FldAt.apart_of_lt_slots hg (by decide))).trans hu
      · exact hu
    split
    · exact hv
    · cases slot <;> exact hv

/-- Beyond STATE, CODE and OUTLEN, a slot that ends writes its USED and AUX, and registers of the block. -/
theorem State.get_finishSlot (s : State) {j code outlen consumed spare aux : Nat}
    (hused : g.reg.addr ≠ (R.CMP_J_USED j).addr) (haux : g.reg.addr ≠ (R.CMP_J_AUX j).addr) :
    (s.finishSlot j code outlen consumed spare aux).get g =
      (((s.put (R.CMP_J_ST.STATE j) 3).put (R.CMP_J_ST.CODE j) code).put (R.CMP_J_OUT.OUTLEN j) outlen).get g := by
  rw [State.finishSlot, State.get_countJob hg, State.hint_get_ne _ _ (FldAt.apart_of_lt_slots hg (by decide)),
    State.get_put_ne _ _ (FldAt.apart_of_lt_slots hg (by decide)), State.get_put_ne _ _ (.inl haux),
    State.get_put_ne _ _ (.inl hused), State.get_put_ne _ _ (.inl hused)]

end Frames

/-! A slot that ends -/

/-- STATE shares no bit with CODE and ENGINE. -/
theorem FldAt.state_apart {j : Nat} {f : FldAt} (h : f = R.CMP_J_ST.CODE j ∨ f = R.CMP_J_ST.ENGINE j) :
    FldAt.Apart (R.CMP_J_ST.STATE j) f := by
  rcases h with rfl | rfl
  · exact .inr ⟨rfl, .inl (show 0 + 2 ≤ 2 by decide)⟩
  · exact .inr ⟨rfl, .inl (show 0 + 2 ≤ 6 by decide)⟩

/-- A slot that ends is DONE with its code and its output length. -/
theorem State.finishSlot_done (s : State) (j code outlen consumed spare aux : Nat) :
    (s.finishSlot j code outlen consumed spare aux).get (R.CMP_J_ST.STATE j) = 3 ∧
      (s.finishSlot j code outlen consumed spare aux).get (R.CMP_J_ST.CODE j) = code % 2 ^ 4 ∧
      (s.finishSlot j code outlen consumed spare aux).get (R.CMP_J_OUT.OUTLEN j) = outlen % 2 ^ 15 := by
  have hst : 0x6001000 ≤ (R.CMP_J_ST j).addr ∧ (R.CMP_J_ST j).addr ≠ (R.CMP_J_USED j).addr ∧
      (R.CMP_J_ST j).addr ≠ (R.CMP_J_AUX j).addr ∧ (R.CMP_J_ST j).addr ≠ (R.CMP_J_OUT j).addr := by
    simp only [R.CMP_J_ST, R.CMP_J_USED, R.CMP_J_AUX, R.CMP_J_OUT]
    omega
  have hout : 0x6001000 ≤ (R.CMP_J_OUT j).addr ∧ (R.CMP_J_OUT j).addr ≠ (R.CMP_J_USED j).addr ∧
      (R.CMP_J_OUT j).addr ≠ (R.CMP_J_AUX j).addr := by
    simp only [R.CMP_J_USED, R.CMP_J_AUX, R.CMP_J_OUT]
    omega
  obtain ⟨hhi, hused, haux, hlen⟩ := hst
  obtain ⟨hhi', hused', haux'⟩ := hout
  refine ⟨?_, ?_, ?_⟩
  · rw [State.get_finishSlot hhi s hused haux, State.get_put_ne _ _ (.inl hlen),
      State.get_put_ne _ _ (FldAt.state_apart (.inl rfl))]
    exact s.get_put _ _ (show 0 + 2 ≤ 32 by decide)
  · rw [State.get_finishSlot hhi s hused haux, State.get_put_ne _ _ (.inl hlen)]
    exact State.get_put _ _ _ (show 2 + 4 ≤ 32 by decide)
  · rw [State.get_finishSlot hhi' s hused' haux']
    exact State.get_put _ _ _ (show 0 + 15 ≤ 32 by decide)

theorem State.Within.cmp {p : Parts} {s t : State} (h : State.Within p s t) (hp : p.cmp = false) : t.cmp = s.cmp := by
  rw [h, keepCyc, keep_cmp, hp, if_neg Bool.false_ne_true]

@[simp] theorem State.finishSlot_cmp (s : State) (j code outlen consumed spare aux : Nat) :
    (s.finishSlot j code outlen consumed spare aux).cmp = s.cmp := (State.finishSlot_within ..).cmp rfl

theorem State.engine_congr {s t : State} (h : t.cmp = s.cmp) (e : Nat) : t.engine e = s.engine e := by
  rw [State.engine, h, State.engine]

@[simp] theorem State.engine_setEngine (s : State) (e : Nat) (j : Option EngJob) : (s.setEngine e j).engine e = j :=
  Tbl.get_set_self ..

/-- A push that completes frees its engine, ends its slot with code 0, and its packet stands last in the queue. -/
theorem State.finishPush_done (s : State) (w : PushWait) :
    (s.finishPush w).engine w.eng = none ∧ (s.finishPush w).get (R.CMP_J_ST.STATE w.slot) = 3 ∧
      (s.finishPush w).get (R.CMP_J_ST.CODE w.slot) = 0 ∧
      (s.finishPush w).get (R.CMP_J_OUT.OUTLEN w.slot) = w.outlen % 2 ^ 15 ∧
      (s.finishPush w).cmp.waiting = s.cmp.waiting ∧
      ((s.finishPush w).queue w.queue).pkts.length = (s.queue w.queue).pkts.length + 1 := by
  unfold State.finishPush
  obtain ⟨hstate, hcode, hlen⟩ :=
    ((s.pushPacket w.queue w.words).setEngine w.eng none).finishSlot_done w.slot 0 w.outlen w.consumed w.spare w.aux
  refine ⟨?_, hstate, hcode, hlen, ?_, ?_⟩
  · rw [State.engine_congr (State.finishSlot_cmp ..), State.engine_setEngine]
  · rw [State.finishSlot_cmp]
    rfl
  · rw [State.queue_congr ((State.finishSlot_within ..).strm rfl), State.queue_congr ((State.setEngine_within ..).strm rfl),
      State.pushPacket, State.queue_setQueue, List.length_append, List.length_singleton]

/-! What a command of the engines takes from its effect -/

@[simp] theorem State.get_keep_job (s t : State) (f : FldAt) : (keep jobParts s t).get f = t.get f :=
  State.get_keep rfl ..
@[simp] theorem State.engine_keep_job (s t : State) (e : Nat) : (keep jobParts s t).engine e = t.engine e :=
  State.engine_congr rfl e
@[simp] theorem State.queue_keep_job (s t : State) (q : Nat) : (keep jobParts s t).queue q = t.queue q :=
  State.queue_congr rfl q
@[simp] theorem State.get_answer (s : State) (q : Requester) (err : Bool) (d : Nat) (f : FldAt) :
    (s.answer q err d).get f = s.get f := State.get_congr rfl f
@[simp] theorem State.cmp_keep_job (s t : State) : (keep jobParts s t).cmp = t.cmp := rfl

/-! Submission and cancel (R244, R248) -/

section Control

variable {s : State} {q : Requester} {j : Nat}

theorem State.slotCtl_go (h : s.Accepts q (R.CMP_J_CTL j).addr) :
    s.slotCtl q j 1 = (s.goSlot q j).answer q false 0 := by
  rw [State.slotCtl, State.cmdWrite_taken h]
  rfl

theorem State.slotCtl_cancel (h : s.Accepts q (R.CMP_J_CTL j).addr) :
    s.slotCtl q j 2 = (s.cancelSlot j).answer q false 0 := by
  rw [State.slotCtl, State.cmdWrite_taken h]
  rfl

/-- GO of a valid descriptor queues its slot behind the others. -/
theorem State.goSlot_queues (h1 : s.get (R.CMP_J_ST.STATE j) ≠ 1) (h2 : s.get (R.CMP_J_ST.STATE j) ≠ 2)
    (hbad : s.badJob j = false) (hsrc : s.sourceOk q.cls j = true) :
    (s.goSlot q j).get (R.CMP_J_ST.STATE j) = 1 ∧ (s.goSlot q j).cmp.slots = s.cmp.slots ++ [j] := by
  rw [State.goSlot, if_neg (by omega), hbad, hsrc]
  exact ⟨State.get_put _ _ _ (show 0 + 2 ≤ 32 by decide), rfl⟩

/-- CANCEL of a queued slot takes it out of the queue and ends it with CANCELLED. -/
theorem State.cancelSlot_queued (h : s.get (R.CMP_J_ST.STATE j) = 1) : ∃ (u : State) (x : Nat),
    s.cancelSlot j = u.finishSlot j 11 0 0 0 x ∧ u.cmp.slots = s.cmp.slots.filter fun i => i != j := by
  simp only [State.cancelSlot, h]
  exact ⟨_, _, rfl, rfl⟩

end Control

theorem cmpJobSubmit_queues (now : Nat) {req : Requester} {j : Fin 32} {s : State} (hr : s.Running)
    (hp : s.Accepts req (R.CMP_J_CTL j).addr) (h1 : s.get (R.CMP_J_ST.STATE j) ≠ 1)
    (h2 : s.get (R.CMP_J_ST.STATE j) ≠ 2) (hbad : s.badJob j = false) (hsrc : s.sourceOk req.cls j = true) :
    Completes (.cmpJobSubmit now req j 1) s fun t => t.Answered req 0 ∧ t.get (R.CMP_J_ST.STATE j) = 1 ∧
      t.cmp.slots = s.cmp.slots ++ [j.val] := by
  refine completes_act (exec_cmpJobSubmit ..) hr ?_
  simp only [State.get_keep_job, State.cmp_keep_job, State.slotCtl_go (s := s.tick now) hp, State.get_answer,
    State.answer_cmp]
  exact ⟨State.answered_of_resp rfl, State.goSlot_queues (s := s.tick now) h1 h2 hbad hsrc⟩

theorem cmpJobCancel_cancels (now : Nat) {req : Requester} {j : Fin 32} {s : State} (hr : s.Running)
    (hp : s.Accepts req (R.CMP_J_CTL j).addr) (h : s.get (R.CMP_J_ST.STATE j) = 1) :
    Completes (.cmpJobCancel now req j 2) s fun t => t.Answered req 0 ∧ t.get (R.CMP_J_ST.STATE j) = 3 ∧
      t.get (R.CMP_J_ST.CODE j) = 11 ∧ t.cmp.slots = s.cmp.slots.filter fun i => i != j.val := by
  refine completes_act (exec_cmpJobCancel ..) hr ?_
  obtain ⟨u, x, hend, hslots⟩ := State.cancelSlot_queued (s := s.tick now) h
  obtain ⟨hstate, hcode, -⟩ := u.finishSlot_done j 11 0 0 0 x
  simp only [State.get_keep_job, State.cmp_keep_job, State.slotCtl_cancel (s := s.tick now) hp, State.get_answer,
    State.answer_cmp, hend, State.finishSlot_cmp]
  exact ⟨State.answered_of_resp rfl, hstate, hcode, hslots⟩

/-! Start (R228) -/

/-- An engine that takes a slot runs it, and the slot shows it. -/
theorem State.takeSlot_runs (s : State) (e j : Nat) : (s.takeSlot e j).engine e = some (.slot j) ∧
    (s.takeSlot e j).get (R.CMP_J_ST.STATE j) = 2 ∧ (s.takeSlot e j).get (R.CMP_J_ST.ENGINE j) = e % 4 := by
  have hhi : 0x6001000 ≤ (R.CMP_J_ST j).addr := by
    simp only [R.CMP_J_ST]
    omega
  unfold State.takeSlot
  refine ⟨State.engine_setEngine .., ?_, ?_⟩
  · rw [State.get_setEngine hhi, State.get_put_ne _ _ (FldAt.state_apart (.inr rfl))]
    exact State.get_put _ _ _ (show 0 + 2 ≤ 32 by decide)
  · rw [State.get_setEngine hhi]
    exact (State.get_put _ _ _ (show 6 + 2 ≤ 32 by decide)).trans (Nat.mod_mod _ 4)

theorem cmpJobStart_takes (now : Nat) {e : Fin 6} {j : Nat} {s : State} (hr : s.Running) (hfree : s.engine e = none)
    (hpulls : s.cmp.pulls = []) (hj : s.earliest (if 4 ≤ e.val then 1 else 0) = some j) :
    Completes (.cmpJobStart now e) s fun t => t.engine e = some (.slot j) ∧ t.get (R.CMP_J_ST.STATE j) = 2 ∧
      t.get (R.CMP_J_ST.ENGINE j) = e.val % 4 := by
  have he : exec (.cmpJobStart now e) s = execCmpJobStart now e s := rfl
  unfold execCmpJobStart at he
  refine completes_act he hr ?_
  have hfree' : (s.tick now).engine e = none := hfree
  have hpulls' : (s.tick now).cmp.pulls = [] := hpulls
  have hj' : (s.tick now).earliest (if 4 ≤ e.val then 1 else 0) = some j := hj
  simp only [State.get_keep_job, State.engine_keep_job]
  rw [hfree', if_neg (by simp)]
  split at hj'
  next hd =>
    rw [if_pos hd, hj']
    exact State.takeSlot_runs ..
  next hc =>
    rw [if_neg hc, hpulls', hj']
    exact State.takeSlot_runs ..

/-! End (R238) -/

/-- Without WAIT, a packet that fits a queue where no push waits enters it. -/
theorem State.pushSlot_fits {s : State} {w : PushWait} (hwait : s.on (R.CMP_J_D0.WAIT w.slot) = false)
    (hheld : s.cmp.waiting = []) (hfits : s.fits w.queue (w.words.length + 1) 0 = true) :
    s.pushSlot w = s.finishPush w := by
  rw [State.pushSlot, hheld, hwait, if_neg Bool.false_ne_true, if_pos (by rw [hfits]; rfl)]

/-- A job that succeeds pushes its packet, when that fits. -/
theorem State.endSlot_pushes {s : State} {j : Nat} (e : Nat) (hheld : s.cmp.waiting = []) (hcode : (s.slotResult j).code = 0)
    (hsize : s.inUse (R.QUE_Q_CFG.SIZE (s.get (R.CMP_J_D0.QUEUE j))) ≠ 0) (hwait : s.on (R.CMP_J_D0.WAIT j) = false)
    (hfits : s.fits (s.get (R.CMP_J_D0.QUEUE j)) ((s.slotPacket j (s.slotResult j).out).length + 1) 0 = true) :
    ∃ (u : State) (w : PushWait), s.endSlot e j = u.finishPush w ∧ w.slot = j ∧ w.eng = e ∧
      w.outlen = (s.slotResult j).out.length := by
  unfold State.endSlot
  extract_lets r qn src u
  split
  next x v hv =>
  obtain rfl : u.draw.2 = v := congrArg Prod.snd hv
  rw [if_neg (not_not.2 hcode), if_neg (show ¬ u.draw.2.inUse (R.QUE_Q_CFG.SIZE qn) = 0 from hsize)]
  exact ⟨_, _, State.pushSlot_fits hwait hheld hfits, rfl, rfl, rfl⟩

theorem cmpJobEnd_ends (now : Nat) {e : Fin 6} {j : Fin 32} {s : State} (hr : s.Running)
    (hw : ∀ q : Fin 4, (s.portSt q).wire = none) (hrun : s.engine e = some (.slot j)) (hheld : s.cmp.waiting = [])
    (hcode : (s.slotResult j).code = 0) (hsize : s.inUse (R.QUE_Q_CFG.SIZE (s.get (R.CMP_J_D0.QUEUE j))) ≠ 0)
    (hwait : s.on (R.CMP_J_D0.WAIT j) = false)
    (hfits : s.fits (s.get (R.CMP_J_D0.QUEUE j)) ((s.slotPacket j (s.slotResult j).out).length + 1) 0 = true) :
    Completes (.cmpJobEnd now e) s fun t => t.engine e = none ∧ t.get (R.CMP_J_ST.STATE j) = 3 ∧
      t.get (R.CMP_J_ST.CODE j) = 0 ∧ t.get (R.CMP_J_OUT.OUTLEN j) = (s.slotResult j).out.length % 2 ^ 15 := by
  have he : exec (.cmpJobEnd now e) s = execCmpJobEnd now e s := rfl
  unfold execCmpJobEnd at he
  refine completes_act he hr ?_
  have hset : (s.tick now).settleWires = s.tick now := State.settleWires_idle hw
  obtain ⟨u, w, hend, hslot, heng, hlen⟩ := State.endSlot_pushes (s := s.tick now) e hheld hcode hsize hwait hfits
  rw [hset]
  dsimp only
  rw [show (s.tick now).engine e = some (.slot j) from hrun]
  dsimp only
  rw [show (s.tick now).cmp.waiting = [] from hheld, if_neg (by simp), hend]
  simp only [State.get_keep_job, State.engine_keep_job]
  obtain ⟨hfree, hstate, hdone, hout, -, -⟩ := u.finishPush_done w
  rw [hslot] at hstate hdone hout
  rw [heng] at hfree
  rw [hlen] at hout
  exact ⟨hfree, hstate, hdone, hout⟩

/-! A push that waited (R210) -/

theorem PushWait.queue_of_find? {l : List PushWait} {q : Nat} {w : PushWait}
    (h : l.find? (fun w => w.queue == q) = some w) : w.queue = q :=
  beq_iff_eq.1 (List.find?_some (p := fun w : PushWait => w.queue == q) h)

theorem queueStallResume_pushes (now : Nat) {q : Fin 80} {w : PushWait} {s : State} (hr : s.Running)
    (hfind : s.cmp.waiting.find? (fun w => w.queue == q.val) = some w) (hstall : s.inUse (R.QUE_Q_CFG.POLICY q) = 1)
    (hfits : s.fits q (w.words.length + 1) 0 = true) : Completes (.queueStallResume now q) s fun t =>
      t.cmp.waiting = s.cmp.waiting.erase w ∧ t.engine w.eng = none ∧
        (t.queue q).pkts.length = (s.queue q).pkts.length + 1 ∧ t.get (R.CMP_J_ST.STATE w.slot) = 3 ∧
        t.get (R.CMP_J_ST.CODE w.slot) = 0 := by
  have he : exec (.queueStallResume now q) s = execQueueStallResume now q s := rfl
  unfold execQueueStallResume at he
  refine completes_act he hr ?_
  have hfind' : (s.tick now).cmp.waiting.find? (fun w => w.queue == q.val) = some w := hfind
  have hstall' : (s.tick now).inUse (R.QUE_Q_CFG.POLICY q) = 1 := hstall
  have hfits' : (s.tick now).fits q (w.words.length + 1) 0 = true := hfits
  simp only [State.get_keep_job, State.engine_keep_job, State.queue_keep_job, State.cmp_keep_job, hfind', if_pos hstall',
    hfits', Bool.not_true, if_neg Bool.false_ne_true]
  obtain ⟨hfree, hstate, hcode, -, hwaiting, hqueue⟩ := State.finishPush_done
    { s.tick now with cmp := { (s.tick now).cmp with waiting := (s.tick now).cmp.waiting.erase w } } w
  rw [PushWait.queue_of_find? hfind] at hqueue
  exact ⟨hwaiting, hfree, hqueue, hstate, hcode⟩

/-- Settles O19: one clause for each of its five commands. -/
theorem compressionJobsComplete : Obligations.CompressionJobsComplete := by
  unfold Obligations.CompressionJobsComplete
  refine ⟨?_, ?_, ?_, ?_, ?_⟩
  · intro now req j s hr hp hi h1 h2 hbad hsrc
    exact cmpJobSubmit_queues now hr ⟨hp, hi⟩ h1 h2 hbad hsrc
  · intro now req j s hr hp hi h
    exact cmpJobCancel_cancels now hr ⟨hp, hi⟩ h
  · intro now e j s hr _ hfree hpulls hj
    exact cmpJobStart_takes now hr hfree hpulls hj
  · intro now e j s hr hw hrun hheld hcode hsize hwait hfits
    exact cmpJobEnd_ends now hr hw hrun hheld hcode hsize hwait hfits
  · intro now q w s hr hfind _ _ hstall hfits
    exact queueStallResume_pushes now hr hfind hstall hfits

end Sys2Proof.Machine
end

section
/-! PROOF. What rerouting leaves of the ports and of their registers (R20, R21, R263, R264, R271). -/
namespace Sys2Proof.Machine

/-! The state of a port -/

@[simp] theorem State.portSt_setPort (s : State) (p : Nat) (x : PortSt) : (s.setPort p x).portSt p = x :=
  Tbl.get_set_self ..

@[simp] theorem State.portSt_modPort (s : State) (p : Nat) (f : PortSt → PortSt) :
    (s.modPort p f).portSt p = f (s.portSt p) := s.portSt_setPort ..

theorem State.portSt_congr {s t : State} (h : t.ports = s.ports) (p : Nat) : t.portSt p = s.portSt p := by
  rw [State.portSt, h, State.portSt]

theorem State.portSt_keep {p : Parts} (hp : p.ports = true) (s t : State) (q : Nat) :
    (keep p s t).portSt q = t.portSt q :=
  State.portSt_congr (by rw [keep_ports, if_pos hp]) q

/-- What becomes ready waits last at its port. -/
theorem State.portSt_enqueue (s : State) (p : Nat) (i : TxItem) : (s.enqueue p i).portSt p = { s.portSt p with
    txq := (s.portSt p).txq ++ [{ i with ready := s.now, order := s.ports.order }] } := State.portSt_modPort ..

theorem State.on_congr {s t : State} {f : FldAt} (h : t.get f = s.get f) : t.on f = s.on f := by
  rw [State.on, h, State.on]

theorem State.on_putBit (s : State) (f : FldAt) (b : Bool) (hfit : f.Fits) (hw : 0 < f.w) : (s.putBit f b).on f = b := by
  rw [State.on, State.get_putBit _ _ _ hfit hw]
  cases b <;> rfl

/-! What an operation keeps of the ports -/

/-- `t` has the fields `F` of `s`, and each port of it has the `v` of that port of `s`. -/
structure State.Keeps {α : Type} (F : FldAt → Prop) (v : PortSt → α) (s t : State) : Prop where
  get : ∀ f, F f → t.get f = s.get f
  port : ∀ p, v (t.portSt p) = v (s.portSt p)

namespace State.Keeps

variable {α β : Type} {F G : FldAt → Prop} {v : PortSt → α} {s t u : State}

theorem refl (F : FldAt → Prop) (v : PortSt → α) (s : State) : Keeps F v s s := ⟨fun _ _ => rfl, fun _ => rfl⟩

theorem trans (h : Keeps F v s t) (h' : Keeps F v t u) : Keeps F v s u :=
  ⟨fun f hf => (h'.get f hf).trans (h.get f hf), fun p => (h'.port p).trans (h.port p)⟩

/-- Fewer fields, and what a part of a port depends on. -/
theorem mono (h : Keeps F v s t) (hF : ∀ f, G f → F f) (w : α → β) : Keeps G (fun x => w (v x)) s t :=
  ⟨fun f hf => h.get f (hF f hf), fun p => congrArg w (h.port p)⟩

theorem ite {c : Prop} [Decidable c] (ht : Keeps F v s t) (hu : Keeps F v s u) : Keeps F v s (if c then t else u) := by
  split
  · exact ht
  · exact hu

theorem each {β : Type} {f : State → β → State} {l : List β} (h : Keeps F v s t)
    (hf : ∀ u, ∀ x ∈ l, Keeps F v s u → Keeps F v s (f u x)) : Keeps F v s (t.each l f) := by
  unfold State.each
  induction l generalizing t with
  | nil => exact h
  | cons x l ih => exact ih (hf t x List.mem_cons_self h) fun u y hy => hf u y (List.mem_cons_of_mem x hy)

/-- An update of neither registers nor ports. -/
theorem same (h : Keeps F v s t) (hr : u.regs = t.regs := by rfl) (hp : u.ports.port = t.ports.port := by rfl) :
    Keeps F v s u :=
  h.trans ⟨fun f _ => State.get_congr hr f, fun p => congrArg (fun m => v (Tbl.get {} m p)) hp⟩

theorem put (h : Keeps F v s t) {g : FldAt} (n : Nat) (hg : ∀ f, F f → f.Apart g) : Keeps F v s (t.put g n) :=
  h.trans ⟨fun f hf => t.get_put_ne n (hg f hf), fun _ => rfl⟩

theorem setPort (h : Keeps F v s t) (p : Nat) {x : PortSt} (hx : v x = v (t.portSt p)) : Keeps F v s (t.setPort p x) := by
  refine h.trans ⟨fun _ _ => rfl, fun q => ?_⟩
  by_cases hq : q = p
  · subst hq
    rw [State.portSt_setPort, hx]
  · exact congrArg v (Tbl.get_set_ne _ _ _ hq)

theorem modPort (h : Keeps F v s t) (p : Nat) {f : PortSt → PortSt} (hf : ∀ x, v (f x) = v x) :
    Keeps F v s (t.modPort p f) :=
  h.setPort p (hf _)

end State.Keeps

/-- A field of a port or of the wiring that rerouting leaves: none of the counts of frames dropped, none of SECST. -/
def FldAt.OfLink (f : FldAt) : Prop :=
  (f.reg.addr = R.SYS_CHAINPOS.addr ∨ 0x7000000 ≤ f.reg.addr ∧ f.reg.addr < 0x8000000) ∧ ∀ p,
    f.reg.addr ≠ (R.PRT_P_CNT3 p).addr ∧ f.reg.addr ≠ (R.PRT_P_CNT4 p).addr ∧ f.reg.addr ≠ (R.PRT_P_SECST p).addr

theorem FldAt.OfLink.ofPort {f : FldAt} {p n : Nat} (hp : p < 4) (hf : f.reg.addr = 0x7000000 + n + p * 0x1000)
    (hn : n < 0x1000 ∧ n ≠ 0x4c ∧ n ≠ 0x50 ∧ n ≠ 0x138) : f.OfLink := by
  refine ⟨.inr (by omega), fun q => ?_⟩
  simp only [hf, R.PRT_P_CNT3, R.PRT_P_CNT4, R.PRT_P_SECST]
  omega

theorem FldAt.OfLink.ofStat {f : FldAt} {p : Nat} (hp : p < 4) (hf : f.reg = R.PRT_P_STAT p) : f.OfLink :=
  .ofPort (n := 4) hp (by rw [hf, R.PRT_P_STAT]) (by decide)

theorem FldAt.OfLink.ofChainPos {f : FldAt} (hf : f.reg = R.SYS_CHAINPOS) : f.OfLink := by
  refine ⟨.inl (by rw [hf]), fun q => ?_⟩
  simp only [hf, R.SYS_CHAINPOS, R.PRT_P_CNT3, R.PRT_P_CNT4, R.PRT_P_SECST]
  omega

/-- Registers of the other blocks are none of these. -/
theorem FldAt.OfLink.apart {f g : FldAt} (hf : f.OfLink) (hg : g.reg.addr ≠ R.SYS_CHAINPOS.addr)
    (hblock : g.reg.addr < 0x7000000 ∨ 0x8000000 ≤ g.reg.addr) : f.Apart g := by
  obtain ⟨hf | hf, -⟩ := hf
  · exact .inl (hf ▸ hg.symm)
  · exact .inl (by omega)

/-- What a port is beside the frames that wait and the count of its root hellos. -/
def PortSt.link (x : PortSt) : PortSt := { x with txq := [], rootGood := 0 }

/-- Between `s` and `t`, links are as they were: what waits at the ports, the counts of root hellos and of frames dropped, and
SECST may differ. -/
abbrev State.LinkKeeps (s t : State) : Prop := State.Keeps FldAt.OfLink PortSt.link s t

namespace State.Keeps

variable {s t : State}

theorem log1 (h : s.LinkKeeps t) (c k i d x : Nat) : s.LinkKeeps (t.log1 c k i d x) := by
  refine h.trans ⟨fun f hf => t.get_log1 c k i d x ?_, fun p => congrArg _ (State.portSt_congr (t.log1_ports ..) p)⟩
  exact ⟨hf.apart (by decide) (by decide), hf.apart (by decide) (by decide), hf.apart (by decide) (by decide),
    hf.apart (by decide) (by decide)⟩

theorem bumpDrop (h : s.LinkKeeps t) (p n : Nat) : s.LinkKeeps (t.bump (R.PRT_P_CNT3.NOROUTE p) n) :=
  h.put _ fun _ hf => .inl (hf.2 p).1

theorem enqueue (h : s.LinkKeeps t) (p : Nat) (i : TxItem) : s.LinkKeeps (t.enqueue p i) := by
  unfold State.enqueue
  extract_lets it ports u
  have hu : s.LinkKeeps u := h.same
  exact hu.modPort p fun _ => rfl

theorem sendTransit (h : s.LinkKeeps t) (p : Nat) (f : Frame) : s.LinkKeeps (t.sendTransit p f) :=
  .ite (h.bumpDrop p 1) (.ite (h.put _ fun _ hf => .inl (hf.2 p).2.1) (h.enqueue ..))

theorem strmReady (h : s.LinkKeeps t) (n : Nat) : s.LinkKeeps (t.strmReady n) := by
  unfold State.strmReady
  extract_lets p
  split
  · exact h
  split
  · exact h
  · exact h.enqueue ..

theorem resend (h : s.LinkKeeps t) (n : Nat) : s.LinkKeeps (t.resend n) := by
  unfold State.resend
  split
  · exact .strmReady h.same n
  · exact h.strmReady n

theorem unqueueStrm (h : s.LinkKeeps t) (n : Nat) : s.LinkKeeps (t.unqueueStrm n) :=
  .each h fun _ p _ hu => hu.modPort p fun _ => rfl

theorem moveStrm (h : s.LinkKeeps t) (n q : Nat) : s.LinkKeeps (t.moveStrm n q) := by
  have hmoved : s.LinkKeeps ((t.unqueueStrm n).modStrm n fun x =>
      { x with port := q, moved := decide ((t.unqueueStrm n).inUse (R.QUE_S_CFG.HOME n) ≠ q) }) := (h.unqueueStrm n).same
  exact .resend (.ite (hmoved.put _ fun _ hf => hf.apart (by decide) (by decide)) hmoved) n

theorem rerouteFrom (h : s.LinkKeeps t) (p : Nat) : s.LinkKeeps (t.rerouteFrom p) :=
  .ite h (.each h fun _ n _ hu => hu.moveStrm n _)

theorem chainBack (h : s.LinkKeeps t) (p : Nat) : s.LinkKeeps (t.chainBack p) := by
  have hsent (l : List Nat) : s.LinkKeeps (t.each l fun u n => u.resend n) := .each h fun _ n _ hu => hu.resend n
  exact .ite h (.ite (hsent _) (.each (hsent _) fun _ n _ hu => hu.moveStrm n _))

theorem repair (h : s.LinkKeeps t) (p : Nat) : s.LinkKeeps (t.repair p) :=
  .ite h (.each h fun _ n _ hu =>
    .strmReady (.put (hu.unqueueStrm n).same _ fun _ hf => hf.apart (by decide) (by decide)) n)

theorem endPulls (h : s.LinkKeeps t) (p : Nat) : s.LinkKeeps (t.endPulls p) := by
  unfold State.endPulls
  extract_lets ids u pulls v w q x
  have hu : s.LinkKeeps u := .put h.same _ fun _ hf => hf.apart (by decide) (by decide)
  have hw : s.LinkKeeps w := .put (State.Keeps.same (u := v) hu) _ fun _ hf => hf.apart (by decide) (by decide)
  have hx : s.LinkKeeps x := .put hw.same _ fun _ hf => hf.apart (by decide) (by decide)
  exact hx.modPort p fun _ => rfl

theorem enterWb (h : s.LinkKeeps t) {k : Nat} (hk : k < 2) (st : Nat) : s.LinkKeeps (t.enterWb k st) := by
  unfold State.enterWb
  extract_lets old u
  have hu : s.LinkKeeps u := h.put _ fun _ hf =>
    hf.apart (show 0x4000010 + k * 0x40 ≠ 0x104 by omega) (.inl (show 0x4000010 + k * 0x40 < 0x7000000 by omega))
  split
  · exact h
  split
  · exact .log1 hu.same ..
  split
  · split
    next x v hv =>
    obtain rfl : u.draw.2 = v := congrArg Prod.snd hv
    exact .log1 hu.same ..
  · exact hu.same

theorem takePort (h : s.LinkKeeps t) {k : Nat} (hk : k < 2) (p : Nat) : s.LinkKeeps (t.takePort k p) := by
  unfold State.takePort
  extract_lets u x
  have hu : s.LinkKeeps u := h.put _ fun _ hf =>
    hf.apart (show 0x4000010 + k * 0x40 ≠ 0x104 by omega) (.inl (show 0x4000010 + k * 0x40 < 0x7000000 by omega))
  exact .ite h (.ite (.ite hu.same (.enterWb hu.same hk 3)) hu.same)

theorem ptpDown (h : s.LinkKeeps t) (p : Nat) : s.LinkKeeps (t.ptpDown p) :=
  .each h fun _ k hk hu => .ite (.takePort hu.same (by simp at hk; omega) _) hu.same

theorem fellDown (h : s.LinkKeeps t) (p : Nat) : s.LinkKeeps (t.fellDown p) := by
  unfold State.fellDown
  extract_lets q u v w
  have hv : s.LinkKeeps v := (h.bumpDrop p _).endPulls p
  have hw : s.LinkKeeps w := hv.modPort p fun _ => rfl
  exact (hw.rerouteFrom p).ptpDown p

theorem cameUp (h : s.LinkKeeps t) (p : Nat) : s.LinkKeeps (t.cameUp p) :=
  .ite (h.chainBack p) ((h.chainBack p).enqueue ..)

theorem showSec (h : s.LinkKeeps t) (p : Nat) : s.LinkKeeps (t.showSec p) :=
  have hst (g : FldAt) (hg : g.reg = R.PRT_P_SECST p) : ∀ f : FldAt, f.OfLink → f.Apart g :=
    fun _ hf => .inl (hg ▸ (hf.2 p).2.2)
  .put (.put (.put h _ (hst _ rfl)) _ (hst _ rfl)) _ (hst _ rfl)

end State.Keeps

/-! UP follows its conditions (R263) -/

/-- Bringing UP in line leaves the other fields of links. -/
theorem State.evalUp_keeps (s : State) (p : Nat) :
    State.Keeps (fun f => f.OfLink ∧ f.Apart (R.PRT_P_STAT.UP p)) PortSt.link s (s.evalUp p) := by
  unfold State.evalUp
  extract_lets was is u
  have hu : State.Keeps (fun f => f.OfLink ∧ f.Apart (R.PRT_P_STAT.UP p)) PortSt.link s u :=
    .put (.refl ..) _ fun _ hf => hf.2
  refine .ite (.refl ..) (.ite ?_ ?_)
  · exact hu.trans ((State.Keeps.cameUp (.refl ..) p).mono (fun _ hf => hf.1) id)
  · exact hu.trans ((State.Keeps.fellDown (.refl ..) p).mono (fun _ hf => hf.1) id)

theorem State.evalUp_link (s : State) (p q : Nat) : ((s.evalUp p).portSt q).link = (s.portSt q).link :=
  (s.evalUp_keeps p).port q

theorem State.evalUp_portUp (s : State) {p : Nat} (hp : p < 4) : (s.evalUp p).portUp p = s.upNow p := by
  have hup : (R.PRT_P_STAT.UP p).OfLink := .ofStat hp rfl
  have hset (b : Bool) : (s.putBit (R.PRT_P_STAT.UP p) b).portUp p = b :=
    State.on_putBit _ _ _ (show 1 + 1 ≤ 32 by decide) Nat.one_pos
  unfold State.evalUp
  extract_lets was is u
  split
  next h => exact h
  split
  · exact (State.on_congr ((State.Keeps.cameUp (.refl ..) p).get _ hup)).trans (hset _)
  · exact (State.on_congr ((State.Keeps.fellDown (.refl ..) p).get _ hup)).trans (hset _)

/-- A field of STAT beside UP. -/
theorem State.evalUp_stat (s : State) {p : Nat} (hp : p < 4) {f : FldAt} (hf : f.reg = R.PRT_P_STAT p)
    (hup : f.Apart (R.PRT_P_STAT.UP p)) : (s.evalUp p).on f = s.on f :=
  State.on_congr ((s.evalUp_keeps p).get f ⟨.ofStat hp hf, hup⟩)

theorem State.upNow_of_noLink {s : State} {p : Nat} (h : s.on (R.PRT_P_STAT.LINK p) = false) : s.upNow p = false := by
  simp [State.upNow, h]

theorem State.upNow_of_noHello {s : State} {p : Nat} (h : (s.portSt p).good = 0) : s.upNow p = false := by
  simp [State.upNow, h]

end Sys2Proof.Machine
end

section
/-! PROOF. Frames that go on, that are discarded and that are sent (R16, R253 to R255, R263, R268, R270). -/
namespace Sys2Proof.Machine

/-! What the checks of a received frame keep -/

/-- A field of the wiring or of the state of a port. -/
def FldAt.OfWiring (f : FldAt) : Prop := f.reg = R.SYS_CHAINPOS ∨ ∃ p, f.reg = R.PRT_P_STAT p

/-- A count of a port, and of MACsec, is none of them. -/
theorem FldAt.OfWiring.apart {f g : FldAt} {p n : Nat} (hf : f.OfWiring) (hg : g.reg.addr = 0x7000000 + n + p * 0x1000)
    (hn : 4 < n ∧ n < 0x1000) : f.Apart g := by
  obtain hf | ⟨q, hf⟩ := hf
  · refine .inl ?_
    rw [hf, hg]
    show 0x104 ≠ 0x7000000 + n + p * 0x1000
    omega
  · refine .inl ?_
    rw [hf, hg]
    show 0x7000004 + q * 0x1000 ≠ 0x7000000 + n + p * 0x1000
    omega

/-- The checks leave the wiring and what waits at the ports. -/
abbrev State.CheckKeeps (s t : State) : Prop := State.Keeps FldAt.OfWiring PortSt.txq s t

theorem State.Keeps.count {s t : State} (h : s.CheckKeeps t) {g : FldAt} {p : Nat} (n : Nat)
    (hg : g.reg.addr = 0x7000000 + n + p * 0x1000) (hn : 4 < n ∧ n < 0x1000) : s.CheckKeeps (t.bump g) :=
  h.put _ fun _ hf => hf.apart hg hn

theorem State.secCheck_checkKeeps (s : State) (p : Nat) (sec : Option SecTag) : s.CheckKeeps (s.secCheck p sec).1 := by
  have hs : s.CheckKeeps s := .refl ..
  unfold State.secCheck
  split
  · split
    · exact hs
    · exact hs.count 0x54 rfl (by decide)
  split
  · exact hs.count 0x144 rfl (by decide)
  extract_lets x
  split
  · exact hs.count 0x144 rfl (by decide)
  split
  · exact hs.count 0x140 rfl (by decide)
  split
  · exact hs.count 0x140 rfl (by decide)
  · extract_lets sas sas' u
    have hu : s.CheckKeeps u := hs.setPort p rfl
    exact hu.count 0x148 rfl (by decide)

theorem State.gated_checkKeeps (s : State) (rx : Rx) : s.CheckKeeps (s.gated rx) := by
  have hs : s.CheckKeeps s := .refl ..
  unfold State.gated State.rxGate
  extract_lets p u
  have hu : s.CheckKeeps u := hs.count 0x40 rfl (by decide)
  split
  · exact hs
  split
  · exact hs.count 0x48 rfl (by decide)
  split
  · exact hu.count 0x54 rfl (by decide)
  split
  next v ok he =>
  have hv : s.CheckKeeps v := by
    have hsec := hu.trans (u.secCheck_checkKeeps p rx.eth.sec)
    rwa [he] at hsec
  split
  · exact hv
  split
  · extract_lets w
    have hw : s.CheckKeeps w := hv.modPort p fun _ => rfl
    exact hw.count 0x54 rfl (by decide)
  split
  · exact hv.count 0x48 rfl (by decide)
  · exact hv

theorem State.Keeps.portUp {s t : State} (h : s.CheckKeeps t) (p : Nat) : t.portUp p = s.portUp p :=
  State.on_congr (h.get _ (.inr ⟨p, rfl⟩))

theorem State.Keeps.reach {s t : State} (h : s.CheckKeeps t) (p : Nat) : t.reach p = s.reach p := by
  rw [State.reach, State.on_congr (h.get R.SYS_CHAINPOS.REACH_A (.inl rfl)),
    State.on_congr (h.get R.SYS_CHAINPOS.REACH_B (.inl rfl)), State.reach]

theorem State.Keeps.transitBytes_eq {s t : State} (h : s.CheckKeeps t) (p : Nat) :
    transitBytes (t.portSt p) = transitBytes (s.portSt p) := by
  rw [transitBytes, h.port p, transitBytes]

theorem wireBytes_congr {s t : State} (h : t.live = s.live) (p n : Nat) : wireBytes t p n = wireBytes s p n := by
  rw [wireBytes, State.inUse_congr h, State.inUse_congr h, wireBytes]

/-! A frame that goes on (R268, R270) -/

theorem State.receive_forward {s : State} {rx : Rx} {q : Nat} (mine : Frame → Bool) (h : State → State)
    (hok : (s.rxGate rx).2 = true) (hfate : (s.gated rx).fate rx = .forward q) :
    s.receive rx mine h = (s.gated rx).sendTransit q rx.frame.trimmed := by
  unfold State.receive
  unfold State.gated at *
  generalize s.rxGate rx = r at *
  obtain ⟨u, ok⟩ := r
  dsimp only at hok hfate ⊢
  rw [hok, if_neg (by decide), hfate]

/-- The item that a transit frame becomes. -/
def State.transitItem (s : State) (p : Nat) (f : Frame) : TxItem :=
  { prio := flowPrio f.flow, transit := true, bytes := wireBytes s p f.length, body := .peb f }

theorem State.sendTransit_enters {s : State} {p : Nat} {f : Frame} (hup : s.portUp p = true)
    (hroot : f.dtype = 1 ∨ f.dtype = 2 → s.reach p = true)
    (hroom : transitBytes (s.portSt p) + wireBytes s p f.length ≤ if flowPrio f.flow ≤ 1 then 131072 else 114688) :
    s.sendTransit p f = s.enqueue p (s.transitItem p f) := by
  have hroute : (!s.portUp p || (f.flow != 0 && (f.dtype == 1 || f.dtype == 2) && !s.reach p)) = false := by
    by_cases hd : f.dtype = 1 ∨ f.dtype = 2
    · simp [hup, hroot hd]
    · rw [not_or] at hd
      simp [hup, hd]
  unfold State.sendTransit
  extract_lets prio n
  rw [hroute, if_neg Bool.false_ne_true, if_neg (not_lt.2 hroom), State.transitItem]

theorem exec_transitFrameRx (now : Nat) (rx : Rx) (s : State) :
    exec (.transitFrameRx now rx) s = act rxParts now s fun s => s.receive rx (fun _ => false) id := rfl

theorem transitFrameRx_forwards (now : Nat) {rx : Rx} {q : Nat} {s : State} (hr : s.Running)
    (hok : (s.rxGate rx).2 = true) (hfate : (s.gated rx).fate rx = .forward q) (hup : s.portUp q = true)
    (hroot : rx.frame.dtype = 1 ∨ rx.frame.dtype = 2 → s.reach q = true)
    (hroom : transitBytes (s.portSt q) + wireBytes s q rx.frame.length ≤
      if flowPrio rx.frame.flow ≤ 1 then 131072 else 114688) :
    Completes (.transitFrameRx now rx) s fun t => (t.portSt q).txq.length = (s.portSt q).txq.length + 1 ∧
      (t.portSt q).txq.getLast?.map (·.body) = some (.peb rx.frame.trimmed) := by
  refine completes_act (exec_transitFrameRx ..) hr ?_
  have hk := s.gated_checkKeeps rx
  have hlive : (s.gated rx).live = s.live := (s.gated_only rx).live rfl
  have htxq := hk.port q
  rw [State.portSt_keep rfl, State.receive_forward (s := s.tick now) _ _ (by rw [State.rxGate_tick]; exact hok)
    (by rw [State.gated_tick]; exact hfate), State.gated_tick]
  generalize s.gated rx = u at hk hlive htxq
  have hfits : transitBytes (u.portSt q) + wireBytes u q rx.frame.length ≤
      if flowPrio rx.frame.flow ≤ 1 then 131072 else 114688 := by
    rw [hk.transitBytes_eq, wireBytes_congr hlive]
    exact hroom
  rw [State.sendTransit_enters (s := u.tick now) (f := rx.frame.trimmed) ((hk.portUp q).trans hup)
    (fun hd => (hk.reach q).trans (hroot hd)) hfits, State.portSt_enqueue]
  refine ⟨?_, ?_⟩
  · rw [List.length_append, List.length_singleton, show ((u.tick now).portSt q).txq = (s.portSt q).txq from htxq]
  · rw [List.getLast?_concat, Option.map_some, State.transitItem]

/-! A frame that is discarded (R253 to R255) -/

theorem State.envelopeOk_rxfrm (s : State) (p q : Nat) (e : Eth) :
    (s.bump (R.PRT_P_CNT0.RXFRM q)).envelopeOk p e = s.envelopeOk p e := by
  have hunit : (s.bump (R.PRT_P_CNT0.RXFRM q)).unitId = s.unitId := by
    rw [State.unitId, State.get_bump_ne _ _ (.inl (show 0x14 ≠ 0x7000040 + q * 0x1000 by omega)),
      State.get_bump_ne _ _ (.inl (show 0x18 ≠ 0x7000040 + q * 0x1000 by omega)), State.unitId]
  have hmac : (s.bump (R.PRT_P_CNT0.RXFRM q)).portMac p = s.portMac p := by
    rw [State.portMac, hunit]
    rfl
  rw [State.envelopeOk, hmac]
  rfl

/-- A whole frame in a wrong envelope fails the checks at it. -/
theorem State.rxGate_envelope {s : State} {rx : Rx} (hlink : s.on (R.PRT_P_STAT.LINK rx.port) = true)
    (hfcs : rx.eth.fcsOk = true) (hlen : rx.eth.bytes ≤ 1518) (henv : s.envelopeOk rx.port rx.eth = false) :
    s.rxGate rx = ((s.bump (R.PRT_P_CNT0.RXFRM rx.port)).bump (R.PRT_P_CNT5.DISCARD rx.port), false) := by
  unfold State.rxGate
  extract_lets p u
  have henv' : u.envelopeOk p rx.eth = false := (s.envelopeOk_rxfrm ..).trans henv
  have hwhole : ¬ ((!rx.eth.fcsOk) = true ∨ rx.eth.bytes > 1518) := by
    rw [hfcs]
    simp [hlen]
  rw [show s.on (R.PRT_P_STAT.LINK p) = true from hlink, if_neg (by decide), if_neg hwhole, henv', if_pos (by decide)]

theorem frameRxDiscard_counts (now : Nat) {rx : Rx} {s : State} (hr : s.Running)
    (hlink : s.on (R.PRT_P_STAT.LINK rx.port) = true) (hfcs : rx.eth.fcsOk = true) (hlen : rx.eth.bytes ≤ 1518)
    (henv : s.envelopeOk rx.port rx.eth = false) : Completes (.frameRxDiscard now rx) s fun t =>
      t.get (R.PRT_P_CNT0.RXFRM rx.port) = satAdd 32 (s.get (R.PRT_P_CNT0.RXFRM rx.port)) 1 ∧
        t.get (R.PRT_P_CNT5.DISCARD rx.port) = satAdd 16 (s.get (R.PRT_P_CNT5.DISCARD rx.port)) 1 := by
  have he : exec (.frameRxDiscard now rx) s = execFrameRxDiscard now rx s := rfl
  unfold execFrameRxDiscard at he
  refine completes_act he hr ?_
  have hap : (R.PRT_P_CNT0.RXFRM rx.port).Apart (R.PRT_P_CNT5.DISCARD rx.port) :=
    .inl (show 0x7000040 + rx.port.val * 0x1000 ≠ 0x7000054 + rx.port.val * 0x1000 by omega)
  have hap' : (R.PRT_P_CNT5.DISCARD rx.port).Apart (R.PRT_P_CNT0.RXFRM rx.port) :=
    .inl (show 0x7000054 + rx.port.val * 0x1000 ≠ 0x7000040 + rx.port.val * 0x1000 by omega)
  rw [State.rxGate_envelope (s := s.tick now) hlink hfcs hlen henv, State.get_keep rfl, State.get_keep rfl]
  dsimp only
  rw [if_pos (by decide)]
  refine ⟨?_, ?_⟩
  · rw [State.get_bump_ne _ _ hap, State.get_bump _ _ _ (show 0 + 32 ≤ 32 by decide), State.get_tick]
    rfl
  · rw [State.get_bump _ _ _ (show 16 + 16 ≤ 32 by decide), State.get_bump_ne _ _ hap', State.get_tick]
    rfl

/-! A frame that is sent (R16, R263) -/

theorem Frame.flow_of_isHello {f : Frame} (h : f.isHello = true) : f.flow = 0 := by
  rw [Frame.isHello, Bool.and_eq_true, beq_iff_eq] at h
  exact h.1

/-- A LINK_HELLO starts in whatever version the link has, and nothing paces it. -/
theorem State.startPeb_hello {s : State} {p : Nat} {i : TxItem} {f : Frame} (hbody : i.body = .peb f)
    (hf : f.isHello = true) :
    s.startPeb p i f = s.onWire p i.body (some (s.stamped p f)) (wireBytes s p f.length) := by
  have hflow := Frame.flow_of_isHello hf
  have hpaced : i.paced = false := by simp [TxItem.paced, hbody, hflow]
  simp [State.startPeb, hf, hflow, hpaced, State.stamped]

theorem State.onWire_takes (s : State) (p : Nat) (body : TxBody) (sent : Option Frame) (bytes : Nat) :
    ((s.onWire p body sent bytes).portSt p).wire.isSome = true ∧
      ((s.onWire p body sent bytes).portSt p).txq = (s.portSt p).txq ∧
      (s.onWire p body sent bytes).get (R.PRT_P_CNT1.TXFRM p) = satAdd 32 (s.get (R.PRT_P_CNT1.TXFRM p)) 1 := by
  unfold State.onWire
  extract_lets sec u
  have hu : (u.bump (R.PRT_P_CNT1.TXFRM p)).portSt p = u.portSt p := rfl
  rw [hu, State.portSt_modPort, State.get_bump _ _ _ (show 0 + 32 ≤ 32 by decide)]
  exact ⟨rfl, rfl, rfl⟩

theorem frameTransmit_sends (now : Nat) {port : Fin 4} {i : TxItem} {f : Frame} {s : State} (hr : s.Running)
    (hw : ∀ q : Fin 4, (s.portSt q).wire = none) (hlink : s.on (R.PRT_P_STAT.LINK port) = true)
    (hrate : portRate s port ≠ 0)
    (hfirst : firstItem ((s.portSt port).txq.filter ((s.tick now).mayStart port)) = some i) (hbody : i.body = .peb f)
    (hf : f.isHello = true) : Completes (.frameTransmit now port) s fun t => (t.portSt port).wire.isSome = true ∧
      (t.portSt port).txq = (s.portSt port).txq.erase i ∧
      t.get (R.PRT_P_CNT1.TXFRM port) = satAdd 32 (s.get (R.PRT_P_CNT1.TXFRM port)) 1 := by
  have he : exec (.frameTransmit now port) s = execFrameTransmit now port s := rfl
  unfold execFrameTransmit at he
  refine completes_act he hr ?_
  have hfree : ¬ ((!(s.tick now).on (R.PRT_P_STAT.LINK port)) = true ∨ ((s.tick now).portSt port).wire.isSome = true ∨
      portRate (s.tick now) port = 0) := by
    rw [show (s.tick now).on (R.PRT_P_STAT.LINK port) = true from hlink,
      show ((s.tick now).portSt port).wire = none from hw port]
    rintro (h | h | h)
    · cases h
    · cases h
    · exact hrate h
  rw [State.settleWires_idle (s := s.tick now) hw, State.portSt_keep rfl, State.get_keep rfl]
  dsimp only
  rw [if_neg hfree, show firstItem (((s.tick now).portSt port).txq.filter ((s.tick now).mayStart port)) = some i from hfirst]
  dsimp only
  rw [State.startItem, hbody]
  dsimp only
  rw [State.startPeb_hello hbody hf]
  obtain ⟨hwire, htxq, hcount⟩ := ((s.tick now).setPort port { (s.tick now).portSt port with
    txq := ((s.tick now).portSt port).txq.erase i }).onWire_takes port i.body
      (some (State.stamped _ port f)) (wireBytes _ port f.length)
  rw [State.portSt_setPort] at htxq
  exact ⟨hwire, htxq, hcount⟩

/-- Settles O20, by the lemma of each event. -/
theorem portFramesComplete : Obligations.PortFramesComplete := by
  unfold Obligations.PortFramesComplete
  refine ⟨?_, ?_, ?_⟩
  · intro now rx q s hr hok hfate hup hroot hroom
    exact transitFrameRx_forwards now hr hok hfate hup hroot hroom
  · intro now rx s hr hlink hfcs hlen henv
    exact frameRxDiscard_counts now hr hlink hfcs hlen henv
  · intro now port i f s hr hw hlink hrate hfirst hbody hf _
    exact frameTransmit_sends now hr hw hlink hrate hfirst hbody hf

end Sys2Proof.Machine
end

section
/-! PROOF. Links that come and go, hellos, and the peer's address (R20, R249, R252, R255, R263, R264). -/
namespace Sys2Proof.Machine

/-! A link that comes and goes (R20, R249, R252) -/

theorem State.get_modPort (s : State) (p : Nat) (f : PortSt → PortSt) (g : FldAt) : (s.modPort p f).get g = s.get g := rfl

/-- A field of STAT beside LINK. -/
theorem link_apart {p : Nat} {f : FldAt} (hf : f.reg = R.PRT_P_STAT p) (hlo : 1 ≤ f.lo) : (R.PRT_P_STAT.LINK p).Apart f :=
  .inr ⟨hf.symm, .inl hlo⟩

theorem link_apart_timePort {p n : Nat} {f : FldAt} (hf : f.reg.addr = 0x4000200 + n + p * 0x20) (hn : n < 0x20) :
    (R.PRT_P_STAT.LINK p).Apart f := by
  refine .inl ?_
  rw [hf]
  show 0x7000004 + p * 0x1000 ≠ 0x4000200 + n + p * 0x20
  omega

/-- What a PHY reports with its link leaves LINK. -/
theorem State.Keeps.showPhy {α : Type} {v : PortSt → α} {s t : State} {p : Nat}
    (h : State.Keeps (fun f => f = R.PRT_P_STAT.LINK p) v s t) (master snr peerOk egr ing pcs : Nat) :
    State.Keeps (fun f => f = R.PRT_P_STAT.LINK p) v s
      ((((((t.put (R.PRT_P_STAT.MASTER p) master).put (R.PRT_P_PHY.SNR p) snr).put (R.PRT_P_PHY.PEEROK p) peerOk).put
        (R.TIM_PORT_EGR.EGR p) egr).put (R.TIM_PORT_ING.ING p) ing).put (R.TIM_PORT_PCS.PCS p) pcs) := by
  have hphy {f : FldAt} (hf : f.reg = R.PRT_P_PHY p) : (R.PRT_P_STAT.LINK p).Apart f := by
    refine .inl ?_
    rw [hf]
    show 0x7000004 + p * 0x1000 ≠ 0x7000008 + p * 0x1000
    omega
  have hmaster := h.put (g := R.PRT_P_STAT.MASTER p) master fun f (hf : f = _) =>
    hf ▸ link_apart rfl (show 1 ≤ 7 by decide)
  have hsnr := hmaster.put (g := R.PRT_P_PHY.SNR p) snr fun f (hf : f = _) => hf ▸ hphy rfl
  have hpeer := hsnr.put (g := R.PRT_P_PHY.PEEROK p) peerOk fun f (hf : f = _) => hf ▸ hphy rfl
  have hegr := hpeer.put (g := R.TIM_PORT_EGR.EGR p) egr fun f (hf : f = _) =>
    hf ▸ link_apart_timePort (n := 0) rfl (by decide)
  have hing := hegr.put (g := R.TIM_PORT_ING.ING p) ing fun f (hf : f = _) =>
    hf ▸ link_apart_timePort (n := 4) rfl (by decide)
  exact hing.put (g := R.TIM_PORT_PCS.PCS p) pcs fun f (hf : f = _) =>
    hf ▸ link_apart_timePort (n := 8) rfl (by decide)

theorem phyLinkUp_links (now : Nat) {port : Fin 4} {pcs snr : Nat} {master peerOk : Bool} {s : State} (hr : s.Running)
    (huse : s.inUse (R.PRT_P_CFG.USE port) ≠ 0) (hlink : s.on (R.PRT_P_STAT.LINK port) = false) :
    Completes (.phyLinkUp now port pcs master snr peerOk) s fun t => t.on (R.PRT_P_STAT.LINK port) = true ∧
      (t.portSt port).linkAt = t.now ∧ (t.portSt port).good = 0 := by
  have he : exec (.phyLinkUp now port pcs master snr peerOk) s = execPhyLinkUp now port pcs master snr peerOk s := rfl
  unfold execPhyLinkUp at he
  refine completes_act he hr ?_
  extract_lets p mode an forced a b c d e f g
  have hgo : ¬ ((s.tick now).inUse (R.PRT_P_CFG.USE p) = 0 ∨ (s.tick now).on (R.PRT_P_STAT.LINK p) = true) := by
    rw [show (s.tick now).on (R.PRT_P_STAT.LINK p) = false from hlink]
    exact not_or.2 ⟨huse, Bool.false_ne_true⟩
  have ha : a.on (R.PRT_P_STAT.LINK p) = true := State.on_putBit _ _ _ (show 0 + 1 ≤ 32 by decide) Nat.one_pos
  have hkeep : State.Keeps (fun f => f = R.PRT_P_STAT.LINK p) PortSt.link a g := .showPhy (.refl ..) ..
  rw [if_neg hgo, State.portSt_keep rfl, State.portSt_modPort, keep_now]
  refine ⟨(State.on_congr ?_).trans ha, rfl, rfl⟩
  rw [State.get_keep rfl, State.get_modPort, hkeep.get _ rfl]

/-- The end of a session of MKA leaves the link and the wire. -/
theorem State.endMka_keeps (s : State) {p : Nat} (hp : p < 4) :
    State.Keeps (fun f => f = R.PRT_P_STAT.LINK p) PortSt.wire s (s.endMka p) := by
  have hshow {t : State} (h : State.Keeps (fun f => f = R.PRT_P_STAT.LINK p) PortSt.wire s t) :
      State.Keeps (fun f => f = R.PRT_P_STAT.LINK p) PortSt.wire s (t.showSec p) :=
    h.trans ((State.Keeps.showSec (.refl ..) p).mono (fun f (hf : f = _) => hf ▸ .ofStat hp rfl) PortSt.wire)
  unfold State.endMka
  extract_lets u v
  have hu : State.Keeps (fun f => f = R.PRT_P_STAT.LINK p) PortSt.wire s u := .modPort (.refl ..) p fun _ => rfl
  have hv : State.Keeps (fun f => f = R.PRT_P_STAT.LINK p) PortSt.wire s v := hu.modPort p fun _ => rfl
  have hw : State.Keeps (fun f => f = R.PRT_P_STAT.LINK p) PortSt.wire s (v.putBit (R.PRT_P_STAT.SECURED p) false) :=
    hv.put _ fun f (hf : f = _) => hf ▸ link_apart rfl (show 1 ≤ 4 by decide)
  exact .ite (hshow hu) (hshow hw)

/-- Without its link, a port is down and its wire empty. -/
theorem State.linkLost_leaves {s : State} {p : Nat} (hp : p < 4) (hlink : s.on (R.PRT_P_STAT.LINK p) = true) :
    (s.linkLost p).on (R.PRT_P_STAT.LINK p) = false ∧ (s.linkLost p).portUp p = false ∧
      ((s.linkLost p).portSt p).wire = none := by
  unfold State.linkLost
  rw [hlink, if_neg (by decide)]
  extract_lets a b c d e f g
  have hc : c.on (R.PRT_P_STAT.LINK p) = false := State.on_putBit _ _ _ (show 0 + 1 ≤ 32 by decide) Nat.one_pos
  have hd : d.on (R.PRT_P_STAT.LINK p) = false := (State.on_congr (State.get_modPort ..)).trans hc
  have hwire : (d.portSt p).wire = none := by rw [State.portSt_modPort]
  have hkeep : State.Keeps (fun f => f = R.PRT_P_STAT.LINK p) PortSt.wire d g := by
    have hlver := State.Keeps.put (.refl _ PortSt.wire d) (g := R.PRT_P_STAT.LVER p) 0
      fun f (hf : f = R.PRT_P_STAT.LINK p) => hf ▸ link_apart rfl (show 1 ≤ 2 by decide)
    have hmiswire := hlver.put (g := R.PRT_P_STAT.MISWIRE p) 0 fun f hf => hf ▸ link_apart rfl (show 1 ≤ 5 by decide)
    have hdup := hmiswire.put (g := R.PRT_P_STAT.DUP p) 0 fun f hf => hf ▸ link_apart rfl (show 1 ≤ 6 by decide)
    have hpartner := hdup.put (g := R.PRT_P_STAT.PARTNER p) 0 fun f hf => hf ▸ link_apart rfl (show 1 ≤ 11 by decide)
    exact hpartner.showPhy ..
  have hend := hkeep.trans (g.endMka_keeps hp)
  have hdown : (g.endMka p).on (R.PRT_P_STAT.LINK p) = false := (State.on_congr (hend.get _ rfl)).trans hd
  refine ⟨?_, ?_, ?_⟩
  · rw [State.evalUp_stat _ hp rfl (link_apart rfl (show 1 ≤ 1 by decide)), hdown]
  · rw [State.evalUp_portUp _ hp, State.upNow_of_noLink hdown]
  · exact (congrArg PortSt.wire (State.evalUp_link ..)).trans ((hend.port p).trans hwire)

theorem exec_phyLinkLoss (now : Nat) (port : Fin 4) (s : State) :
    exec (.phyLinkLoss now port) s = act linkParts now s fun s => s.linkLost port := rfl

theorem phyLinkLoss_unlinks (now : Nat) {port : Fin 4} {s : State} (hr : s.Running)
    (hlink : s.on (R.PRT_P_STAT.LINK port) = true) : Completes (.phyLinkLoss now port) s fun t =>
      t.on (R.PRT_P_STAT.LINK port) = false ∧ t.portUp port = false ∧ (t.portSt port).wire = none := by
  refine completes_act (exec_phyLinkLoss ..) hr ?_
  rw [State.portSt_keep rfl]
  exact State.linkLost_leaves (s := s.tick now) port.2 hlink

theorem sgmiiControlWord_sets (now : Nat) {port : Fin 4} {link fullDuplex : Bool} {speed : Nat} {s : State} (hr : s.Running)
    (hmode : s.inUse (R.PRT_P_CFG.MODE port) = 3) (han : s.inUse (R.PRT_P_CFG.AN port) = 1)
    (hlink : s.on (R.PRT_P_STAT.LINK port) = true) : Completes (.sgmiiControlWord now port link fullDuplex speed) s fun t =>
      (t.portSt port).sgmiiOk = (link && fullDuplex && (speed == 1000 || speed == 100)) ∧
        (t.portSt port).speed = if link && fullDuplex && (speed == 1000 || speed == 100) then speed else 0 := by
  have he : exec (.sgmiiControlWord now port link fullDuplex speed) s =
    execSgmiiControlWord now port link fullDuplex speed s := rfl
  unfold execSgmiiControlWord at he
  refine completes_act he hr ?_
  extract_lets p ok
  have hgo : ¬ ((s.tick now).inUse (R.PRT_P_CFG.MODE p) ≠ 3 ∨ (s.tick now).inUse (R.PRT_P_CFG.AN p) = 0 ∨
      (!(s.tick now).on (R.PRT_P_STAT.LINK p)) = true) := by
    rw [show (s.tick now).inUse (R.PRT_P_CFG.MODE p) = 3 from hmode, show (s.tick now).inUse (R.PRT_P_CFG.AN p) = 1 from han,
      show (s.tick now).on (R.PRT_P_STAT.LINK p) = true from hlink]
    decide
  rw [if_neg hgo, State.portSt_keep rfl]
  have hkept := State.evalUp_link
    ((s.tick now).modPort p fun x => { x with sgmiiOk := ok, speed := if ok then speed else 0 }) p p
  rw [State.portSt_modPort] at hkept
  exact ⟨congrArg PortSt.sgmiiOk hkept, congrArg PortSt.speed hkept⟩

/-! Hellos of the link (R263) -/

/-- What is sent at intervals is due when none has been sent, or the interval is over. -/
theorem due_eq_all (o : Option Nat) (n t : Nat) : (match o with
    | none => true
    | some a => decide (a + n ≤ t)) = o.all fun a => decide (a + n ≤ t) := by
  cases o <;> rfl

theorem State.enqueue_link (s : State) (p : Nat) (i : TxItem) (q : Nat) :
    ((s.enqueue p i).portSt q).link = (s.portSt q).link := (State.Keeps.enqueue (.refl ..) p i).port q

theorem linkHelloSend_counts (now : Nat) {port : Fin 4} {s : State} (hr : s.Running)
    (hlink : s.on (R.PRT_P_STAT.LINK port) = true) (hrate : portRate s port ≠ 0)
    (hdue : ((s.portSt port).helloAt.all fun a => decide (a + helloU ≤ max s.now now)) = true) :
    Completes (.linkHelloSend now port) s fun t => (t.portSt port).helloAt = some t.now ∧
      (t.portSt port).seq = ((s.portSt port).seq + 1) % 2 ^ 32 := by
  have he : exec (.linkHelloSend now port) s = execLinkHelloSend now port s := rfl
  unfold execLinkHelloSend at he
  refine completes_act he hr ?_
  extract_lets p x due src f u
  have hdue' : due = true := (due_eq_all ..).trans hdue
  have hgo : ¬ ((!(s.tick now).on (R.PRT_P_STAT.LINK p)) = true ∨ (!due) = true ∨ portRate (s.tick now) p = 0) := by
    rw [show (s.tick now).on (R.PRT_P_STAT.LINK p) = true from hlink, hdue']
    rintro (h | h | h)
    · cases h
    · cases h
    · exact hrate h
  rw [if_neg hgo, State.portSt_keep rfl, keep_now]
  have hu : (u.portSt p).helloAt = some (s.tick now).now ∧ (u.portSt p).seq = ((s.portSt port).seq + 1) % 2 ^ 32 := by
    rw [State.portSt_setPort]
    exact ⟨rfl, rfl⟩
  split
  · exact hu
  · exact ⟨(congrArg PortSt.helloAt (u.enqueue_link ..)).trans hu.1, (congrArg PortSt.seq (u.enqueue_link ..)).trans hu.2⟩

/-- A consumed frame of the kind that a command takes has its effect, and what goes on besides leaves links. -/
theorem State.receive_linkKeeps {s : State} {rx : Rx} {mine : Frame → Bool} {h : State → State}
    (hc : s.consumes rx = true) (hmine : mine rx.frame = true) : (h (s.gated rx)).LinkKeeps (s.receive rx mine h) := by
  obtain ⟨hok, hfate⟩ := Bool.and_eq_true_iff.1 hc
  unfold State.receive
  unfold State.gated at *
  generalize s.rxGate rx = r at *
  obtain ⟨u, ok⟩ := r
  dsimp only at hok hfate ⊢
  rw [hok, if_neg (by decide), hmine, if_pos rfl]
  split
  next heq => rw [heq] at hfate; cases hfate
  next heq => rw [heq] at hfate; cases hfate
  · exact .refl ..
  · exact .sendTransit (.refl ..) ..

theorem State.split_link (s : State) (p : Nat) : (s.split.portSt p).link = (s.portSt p).link := by
  have hput {t : State} (h : State.Keeps (fun _ => False) PortSt.link s t) (f : FldAt) (n : Nat) :
      State.Keeps (fun _ => False) PortSt.link s (t.put f n) := h.put n fun _ hf => hf.elim
  have hstop {t : State} (h : State.Keeps (fun _ => False) PortSt.link s t) :
      State.Keeps (fun _ => False) PortSt.link s t.stopOriginating := .each h fun _ q _ hu => hu.modPort q fun _ => rfl
  unfold State.split
  extract_lets u pair v
  have hrole : State.Keeps (fun _ => False) PortSt.link s (s.setRole true) :=
    hput (hput (.ite (.refl ..) (hput (.refl ..) ..)) ..) ..
  have hu : State.Keeps (fun _ => False) PortSt.link s u := hput (hput hrole _ _) _ _
  have hv : State.Keeps (fun _ => False) PortSt.link s v := hu.same
  have hlog := hput hv R.PAR_CNT0.SPLITS (satAdd R.PAR_CNT0.SPLITS.w (v.get R.PAR_CNT0.SPLITS) 1)
  have hlogged := hlog.trans ((State.Keeps.log1 (.refl ..) L.PAIR_SPLIT 0 0 0 0).mono (fun _ hf => hf.elim) id)
  exact (hstop hlogged).port p

/-- A hello of the right length is noted at its port. -/
theorem State.helloRx_notes (s : State) (p : Nat) {f : Frame} (hlen : f.length = 16) :
    ((s.helloRx p f).portSt p).lastHello = some s.now ∧ ((s.helloRx p f).portSt p).misses = 0 := by
  have hwhen (u : State) (c : Bool) (code : Nat) : (u.when c (·.log1 code 5 p)).now = u.now := by
    unfold State.when
    split
    · exact u.log1_now ..
    · rfl
  unfold State.helloRx
  split
  next hne => exact absurd hlen hne
  extract_lets h vmax lver bad dup first a b c d e g i j k
  have ha : a.now = s.now := hwhen s _ _
  have hb : b.now = s.now := (hwhen a _ _).trans ha
  have hc : c.now = s.now := (hwhen b _ _).trans hb
  have hnow : i.now = s.now := by simp only [i, g, e, d, State.put_now, State.putBit_now, hc]
  have hk : (k.portSt p).lastHello = some s.now ∧ (k.portSt p).misses = 0 := by
    have hkept := j.evalUp_link p p
    rw [State.portSt_modPort] at hkept
    exact ⟨(congrArg PortSt.lastHello hkept).trans (congrArg some hnow), congrArg PortSt.misses hkept⟩
  split
  · exact ⟨(congrArg PortSt.lastHello (k.split_link p)).trans hk.1,
      (congrArg PortSt.misses (k.split_link p)).trans hk.2⟩
  · exact hk

theorem linkHelloRx_notes (now : Nat) {rx : Rx} {s : State} (hr : s.Running) (hc : s.consumes rx = true)
    (hf : rx.frame.isHello = true) (hlen : rx.frame.length = 16) : Completes (.linkHelloRx now rx) s fun t =>
      (t.portSt rx.port).lastHello = some t.now ∧ (t.portSt rx.port).misses = 0 := by
  have he : exec (.linkHelloRx now rx) s = execLinkHelloRx now rx s := rfl
  unfold execLinkHelloRx at he
  refine completes_act he hr ?_
  rw [State.portSt_keep rfl, keep_now]
  have hkept := (State.receive_linkKeeps (h := fun s => s.helloRx rx.port rx.frame) (mine := (·.isHello))
    ((s.consumes_tick now rx).trans hc) hf).port rx.port
  obtain ⟨hlast, hmiss⟩ := ((s.tick now).gated rx).helloRx_notes rx.port hlen
  rw [((s.tick now).gated_only rx).now] at hlast
  exact ⟨(congrArg PortSt.lastHello hkept).trans hlast, (congrArg PortSt.misses hkept).trans hmiss⟩

/-- What a hello that is missed in its time, on a port with link, leaves: it counts, and the third one ends the link. -/
theorem completes_helloMiss {now : Nat} {port : Fin 4} {a : Nat} {s : State} {P : State → Prop} (hr : s.Running)
    (hlast : (s.portSt port).lastHello = some a) (hlink : s.on (R.PRT_P_STAT.LINK port) = true)
    (hmiss : (s.portSt port).misses < 3) (hdue : a + ((s.portSt port).misses + 1) * helloU ≤ max s.now now)
    (h : P (keep linkParts (s.tick now) (if (s.portSt port).misses < 2
      then (s.tick now).setPort port { s.portSt port with misses := (s.portSt port).misses + 1 }
      else (((s.tick now).setPort port { s.portSt port with misses := 3, good := 0 }).bump
        (R.PRT_P_CNT5.DOWNS port)).evalUp port))) : Completes (.helloMiss now port) s P := by
  have he : exec (.helloMiss now port) s = execHelloMiss now port s := rfl
  unfold execHelloMiss at he
  refine completes_act he hr ?_
  extract_lets p x
  have hgo : ¬ ((!(s.tick now).on (R.PRT_P_STAT.LINK p)) = true ∨ 3 ≤ x.misses ∨
      (s.tick now).now < a + (x.misses + 1) * helloU) := by
    rw [show (s.tick now).on (R.PRT_P_STAT.LINK p) = true from hlink]
    rintro (h | h | h)
    · cases h
    · exact absurd h (not_le.2 hmiss)
    · exact absurd h (not_lt.2 hdue)
  split
  next hnone => cases hnone.symm.trans hlast
  next b hb =>
    obtain rfl : b = a := Option.some.inj (hb.symm.trans hlast)
    rw [if_neg hgo]
    exact h

theorem helloMiss_counts (now : Nat) {port : Fin 4} {a : Nat} {s : State} (hr : s.Running)
    (hlast : (s.portSt port).lastHello = some a) (hlink : s.on (R.PRT_P_STAT.LINK port) = true)
    (hmiss : (s.portSt port).misses < 2) (hdue : a + ((s.portSt port).misses + 1) * helloU ≤ max s.now now) :
    Completes (.helloMiss now port) s fun t => (t.portSt port).misses = (s.portSt port).misses + 1 := by
  refine completes_helloMiss hr hlast hlink (hmiss.trans (by decide)) hdue ?_
  rw [State.portSt_keep rfl, if_pos hmiss, State.portSt_setPort]

theorem helloMiss_downs (now : Nat) {port : Fin 4} {a : Nat} {s : State} (hr : s.Running)
    (hlast : (s.portSt port).lastHello = some a) (hlink : s.on (R.PRT_P_STAT.LINK port) = true)
    (hmiss : (s.portSt port).misses = 2) (hdue : a + 3 * helloU ≤ max s.now now) :
    Completes (.helloMiss now port) s fun t => (t.portSt port).misses = 3 ∧ t.portUp port = false ∧
      t.get (R.PRT_P_CNT5.DOWNS port) = satAdd 8 (s.get (R.PRT_P_CNT5.DOWNS port)) 1 := by
  refine completes_helloMiss hr hlast hlink (by rw [hmiss]; decide) (by rw [hmiss]; exact hdue) ?_
  have hport (y : PortSt) : (((s.tick now).setPort port y).bump (R.PRT_P_CNT5.DOWNS port)).portSt port = y :=
    (s.tick now).portSt_setPort port y
  have hcount : (R.PRT_P_CNT5.DOWNS port).OfLink := .ofPort (n := 0x54) port.2 rfl (by decide)
  have hup : (R.PRT_P_CNT5.DOWNS port).Apart (R.PRT_P_STAT.UP port) :=
    .inl (show 0x7000054 + port.val * 0x1000 ≠ 0x7000004 + port.val * 0x1000 by omega)
  rw [State.portSt_keep rfl, State.get_keep rfl, if_neg (by rw [hmiss]; decide)]
  refine ⟨?_, ?_, ?_⟩
  · refine (congrArg PortSt.misses (State.evalUp_link ..)).trans ?_
    rw [hport]
    rfl
  · exact (State.evalUp_portUp _ port.2).trans (State.upNow_of_noHello (by rw [hport]))
  · exact ((State.evalUp_keeps ..).get _ ⟨hcount, hup⟩).trans (State.get_bump _ _ _ (show 0 + 8 ≤ 32 by decide))

/-! Hellos of the roots (R264) -/

/-- The REACH bit of a chain port. -/
def reachField (p : Nat) : FldAt := if p = 0 then R.SYS_CHAINPOS.REACH_A else R.SYS_CHAINPOS.REACH_B

theorem reachField_cases (p : Nat) : reachField p = R.SYS_CHAINPOS.REACH_A ∨ reachField p = R.SYS_CHAINPOS.REACH_B := by
  unfold reachField
  split
  · exact .inl rfl
  · exact .inr rfl

theorem State.reach_eq (s : State) (p : Nat) : s.reach p = s.on (reachField p) := by
  unfold State.reach reachField
  split <;> rfl

theorem ofLink_reachField (p : Nat) : (reachField p).OfLink :=
  .ofChainPos (by obtain h | h := reachField_cases p <;> rw [h] <;> rfl)

theorem State.Keeps.linkReach {s t : State} (h : s.LinkKeeps t) (p : Nat) : t.reach p = s.reach p := by
  rw [State.reach_eq, State.reach_eq, State.on_congr (h.get _ (ofLink_reachField p))]

theorem State.reach_put (s : State) (p : Nat) (b : Bool) : (s.putBit (reachField p) b).reach p = b := by
  have hfit : (reachField p).Fits ∧ 0 < (reachField p).w := by
    obtain h | h := reachField_cases p <;> rw [h] <;> decide
  rw [State.reach_eq, State.on_putBit _ _ _ hfit.1 hfit.2]

/-- A root hello that is accepted shows its root, and starts its count anew. -/
theorem State.rootHello_reaches (s : State) (p : Nat) (f : Frame) : (s.rootHello p f).reach p = true ∧
    ((s.rootHello p f).portSt p).rootAt = some s.now ∧ ((s.rootHello p f).portSt p).rootMiss = 0 := by
  unfold State.rootHello
  extract_lets hops ver was a b c q g d e
  have ha : a.reach p = true := s.reach_put p true
  have hhops : (reachField p).Apart (if p = 0 then R.SYS_CHAINPOS.HOPS_A else R.SYS_CHAINPOS.HOPS_B) := by
    obtain h | h := reachField_cases p <;> rw [h] <;> split <;> decide
  have hc : c.reach p = true := by
    rw [State.reach_eq] at ha ⊢
    exact (State.on_congr (a.get_put_ne hops hhops)).trans ha
  have hd : c.LinkKeeps d := .sendTransit (.refl ..) ..
  have hkept : c.LinkKeeps (e.repair p) := .repair (.ite hd (hd.chainBack p)) p
  have hport := hkept.port p
  rw [State.portSt_modPort] at hport
  exact ⟨(hkept.linkReach p).trans hc, congrArg PortSt.rootAt hport, congrArg PortSt.rootMiss hport⟩

theorem rootHelloRx_reaches (now : Nat) {rx : Rx} {s : State} (hr : s.Running) (hc : s.consumes rx = true)
    (hflow : rx.frame.flow = 0) (htype : rx.frame.type = 1) : Completes (.rootHelloRx now rx) s fun t =>
      t.reach rx.port = true ∧ (t.portSt rx.port).rootAt = some t.now ∧ (t.portSt rx.port).rootMiss = 0 := by
  have he : exec (.rootHelloRx now rx) s = execRootHelloRx now rx s := rfl
  unfold execRootHelloRx at he
  refine completes_act he hr ?_
  have hmine : (rx.frame.flow == 0 && rx.frame.type == 1) = true := by rw [hflow, htype]; rfl
  have hkept := State.receive_linkKeeps (h := fun s => s.rootHello rx.port rx.frame)
    (mine := fun f => f.flow == 0 && f.type == 1) ((s.consumes_tick now rx).trans hc) hmine
  obtain ⟨hreach, hat, hmiss⟩ := ((s.tick now).gated rx).rootHello_reaches rx.port rx.frame
  rw [((s.tick now).gated_only rx).now] at hat
  rw [State.portSt_keep rfl, keep_now]
  exact ⟨(hkept.linkReach _).trans hreach, (congrArg PortSt.rootAt (hkept.port _)).trans hat,
    (congrArg PortSt.rootMiss (hkept.port _)).trans hmiss⟩

/-- The REACH bit clears for the root that is lost, and what is known of the port stays. -/
theorem State.rootLost_clears (s : State) (p : Nat) :
    (s.rootLost p).reach p = false ∧ ((s.rootLost p).portSt p).link = (s.portSt p).link := by
  unfold State.rootLost
  extract_lets a own b c
  have ha : a.reach p = false := s.reach_put p false
  have hc : a.LinkKeeps c := .modPort (.bumpDrop (.refl ..) p _) p fun _ => rfl
  have hkept : a.LinkKeeps (((c.endPulls p).rerouteFrom p).ptpDown p) := ((hc.endPulls p).rerouteFrom p).ptpDown p
  exact ⟨(hkept.linkReach p).trans ha, hkept.port p⟩

/-- What a root hello that is missed in its time leaves at a chain port that reaches the root. -/
theorem completes_rootHelloMiss {now : Nat} {port : Fin 4} {a : Nat} {s : State} {P : State → Prop} (hr : s.Running)
    (hport : port.val < 2) (hreach : s.reach port = true) (hat : (s.portSt port).rootAt = some a)
    (hdue : a + ((s.portSt port).rootMiss + 1) * helloU ≤ max s.now now)
    (h : P (keep linkParts (s.tick now) (if (s.portSt port).rootMiss < 2
      then (s.tick now).setPort port { s.portSt port with rootMiss := (s.portSt port).rootMiss + 1 }
      else ((s.tick now).setPort port { s.portSt port with rootMiss := 3, rootAt := none }).rootLost port))) :
    Completes (.rootHelloMiss now port) s P := by
  have he : exec (.rootHelloMiss now port) s = execRootHelloMiss now port s := rfl
  unfold execRootHelloMiss at he
  refine completes_act he hr ?_
  extract_lets p x
  have hgo : ¬ (2 ≤ p ∨ (!(s.tick now).reach p) = true ∨ (s.tick now).now < a + (x.rootMiss + 1) * helloU) := by
    rw [show (s.tick now).reach p = true from hreach]
    rintro (h | h | h)
    · exact absurd h (not_le.2 hport)
    · cases h
    · exact absurd h (not_lt.2 hdue)
  split
  next hnone => cases hnone.symm.trans hat
  next b hb =>
    obtain rfl : b = a := Option.some.inj (hb.symm.trans hat)
    rw [if_neg hgo]
    exact h

theorem rootHelloMiss_counts (now : Nat) {port : Fin 4} {a : Nat} {s : State} (hr : s.Running) (hport : port.val < 2)
    (hreach : s.reach port = true) (hat : (s.portSt port).rootAt = some a) (hmiss : (s.portSt port).rootMiss < 2)
    (hdue : a + ((s.portSt port).rootMiss + 1) * helloU ≤ max s.now now) : Completes (.rootHelloMiss now port) s fun t =>
      (t.portSt port).rootMiss = (s.portSt port).rootMiss + 1 ∧ t.reach port = true := by
  refine completes_rootHelloMiss hr hport hreach hat hdue ?_
  rw [State.portSt_keep rfl, if_pos hmiss, State.portSt_setPort]
  exact ⟨rfl, hreach⟩

theorem rootHelloMiss_loses (now : Nat) {port : Fin 4} {a : Nat} {s : State} (hr : s.Running) (hport : port.val < 2)
    (hreach : s.reach port = true) (hat : (s.portSt port).rootAt = some a) (hmiss : (s.portSt port).rootMiss = 2)
    (hdue : a + 3 * helloU ≤ max s.now now) : Completes (.rootHelloMiss now port) s fun t =>
      t.reach port = false ∧ (t.portSt port).rootAt = none := by
  refine completes_rootHelloMiss hr hport hreach hat (by rw [hmiss]; exact hdue) ?_
  obtain ⟨hlost, hlink⟩ :=
    ((s.tick now).setPort port { s.portSt port with rootMiss := 3, rootAt := none }).rootLost_clears port
  rw [State.portSt_setPort] at hlink
  rw [State.portSt_keep rfl, if_neg (by rw [hmiss]; decide)]
  exact ⟨hlost, congrArg PortSt.rootAt hlink⟩

/-! The peer's address (R255) -/

/-- Whether MACsec lets a frame pass depends on the configuration and the ports alone. -/
theorem State.secCheck_congr {s t : State} (hlive : t.live = s.live) (hports : t.ports = s.ports) (p : Nat)
    (sec : Option SecTag) : (t.secCheck p sec).2 = (s.secCheck p sec).2 := by
  unfold State.secCheck
  rw [State.inUse_congr hlive, State.inUse_congr hlive, State.portSt_congr hports]
  cases sec with
  | none => split <;> rfl
  | some tag =>
    generalize s.portSt p = x
    dsimp only
    generalize List.find? _ x.sas = r
    cases r with
    | none => split <;> rfl
    | some sa =>
      dsimp only
      split_ifs <;> rfl

theorem arpRx_resolves (now : Nat) {port : Fin 4} {eth : Eth} {m : ArpMsg} {s : State} (hr : s.Running)
    (hlink : s.on (R.PRT_P_STAT.LINK port) = true) (hfcs : eth.fcsOk = true) (hlen : eth.bytes ≤ 1518)
    (htag : eth.tagged = false) (hudp : s.inUse (R.PRT_P_CFG.TRANSPORT port) = 1)
    (hsec : (s.secCheck port eth.sec).2 = true) (hup : s.portUp port = true)
    (hpeer : m.senderIp = s.inUse (R.PRT_P_IPB.IPB port)) : Completes (.arpRx now port eth m) s fun t =>
      (t.portSt port).arpOk = true ∧ (t.portSt port).arpMac = m.senderMac := by
  have he : exec (.arpRx now port eth m) s = execArpRx now port eth m s := rfl
  unfold execArpRx at he
  refine completes_act he hr ?_
  extract_lets p u
  have hwhole : ¬ ((!eth.fcsOk) = true ∨ eth.bytes > 1518) := by
    rw [hfcs]
    simp [hlen]
  have hplain : ¬ (eth.tagged = true ∨ u.inUse (R.PRT_P_CFG.TRANSPORT p) = 0) := by
    rw [htag, show u.inUse (R.PRT_P_CFG.TRANSPORT p) = 1 from hudp]
    decide
  have hok : (u.secCheck p eth.sec).2 = true := (State.secCheck_congr (s := s) (t := u) rfl rfl p eth.sec).trans hsec
  have hchecks : s.CheckKeeps (u.secCheck p eth.sec).1 :=
    .trans (.count (State.Keeps.same (.refl ..)) 0x40 rfl (by decide)) (u.secCheck_checkKeeps p eth.sec)
  have hlive : (u.secCheck p eth.sec).1.live = s.live := (u.secCheck_only p eth.sec).live rfl
  rw [State.portSt_keep rfl, show (s.tick now).on (R.PRT_P_STAT.LINK p) = true from hlink, if_neg (by decide), if_neg hwhole,
    if_neg hplain]
  generalize u.secCheck p eth.sec = r at hok hchecks hlive
  obtain ⟨v, ok⟩ := r
  dsimp only at hok hchecks hlive ⊢
  have hpeer' : m.senderIp = v.inUse (R.PRT_P_IPB.IPB p) := hpeer.trans (State.inUse_congr hlive _).symm
  rw [hok, if_neg (by decide), (hchecks.portUp p).trans hup, if_neg (by decide), if_pos hpeer']
  have hset : ((v.modPort p fun x => { x with arpOk := true, arpMac := m.senderMac }).portSt p).arpOk = true ∧
      ((v.modPort p fun x => { x with arpOk := true, arpMac := m.senderMac }).portSt p).arpMac = m.senderMac := by
    rw [State.portSt_modPort]
    exact ⟨rfl, rfl⟩
  split
  · exact ⟨(congrArg PortSt.arpOk (State.enqueue_link ..)).trans hset.1,
      (congrArg PortSt.arpMac (State.enqueue_link ..)).trans hset.2⟩
  · exact hset

/-- Settles O21, by the lemma of each event. -/
theorem linkEventsComplete : Obligations.LinkEventsComplete := by
  unfold Obligations.LinkEventsComplete
  refine ⟨?_, ?_, ?_, ?_, ?_, ?_, ?_, ?_, ?_, ?_, ?_⟩
  · intro now port pcs master snr peerOk s hr huse hlink
    exact phyLinkUp_links now hr huse hlink
  · intro now port s hr hlink
    exact phyLinkLoss_unlinks now hr hlink
  · intro now port link fullDuplex speed s hr hmode han hlink
    exact sgmiiControlWord_sets now hr hmode han hlink
  · intro now port s hr hlink hrate hdue
    exact linkHelloSend_counts now hr hlink hrate hdue
  · intro now rx s hr hc hf hlen
    exact linkHelloRx_notes now hr hc hf hlen
  · intro now port a s hr hlast hlink hmiss hdue
    exact helloMiss_counts now hr hlast hlink hmiss hdue
  · intro now port a s hr hlast hlink hmiss hdue
    exact helloMiss_downs now hr hlast hlink hmiss hdue
  · intro now rx s hr hc hflow htype
    exact rootHelloRx_reaches now hr hc hflow htype
  · intro now port a s hr hport hreach hat hmiss hdue
    exact rootHelloMiss_counts now hr hport hreach hat hmiss hdue
  · intro now port a s hr hport hreach hat hmiss hdue
    exact rootHelloMiss_loses now hr hport hreach hat hmiss hdue
  · intro now port eth m s hr hlink hfcs hlen htag hudp hsec hup hpeer
    exact arpRx_resolves now hr hlink hfcs hlen htag hudp hsec hup hpeer

end Sys2Proof.Machine
end

section
/-! PROOF. The peers and keys of MACsec (R274 to R276). -/
namespace Sys2Proof.Machine

/-! An association that is installed, and what it leaves (R274, R275) -/

/-- A field of a link in another register than STAT of port `p`. -/
def FldAt.OffStat (p : Nat) (f : FldAt) : Prop := f.OfLink ∧ f.reg.addr ≠ (R.PRT_P_STAT p).addr

/-- Showing the keys and bringing UP in line leave the fields beside STAT and what links know. -/
theorem State.Keeps.secured {α : Type} {w : PortSt → α} {s t : State} {p : Nat}
    (h : State.Keeps (FldAt.OffStat p) (fun x => w x.link) s t) (b : Bool) :
    State.Keeps (FldAt.OffStat p) (fun x => w x.link) s (((t.putBit (R.PRT_P_STAT.SECURED p) b).showSec p).evalUp p) := by
  have hset : State.Keeps (FldAt.OffStat p) (fun x => w x.link) s (t.putBit (R.PRT_P_STAT.SECURED p) b) :=
    h.put _ fun _ hf => .inl hf.2
  exact (hset.trans ((State.Keeps.showSec (.refl ..) p).mono (fun _ hf => hf.1) w)).trans
    ((State.evalUp_keeps _ p).mono (fun _ hf => ⟨hf.1, .inl hf.2⟩) w)

theorem State.installSa_keeps (s : State) (p an key salt : Nat) :
    State.Keeps (FldAt.OffStat p) (fun x => (x.link.peers, x.link.rekeyAt)) s (s.installSa p an key salt) := by
  unfold State.installSa
  extract_lets u
  have hu : State.Keeps (FldAt.OffStat p) (fun x => (x.link.peers, x.link.rekeyAt)) s u :=
    .modPort (.refl ..) p fun _ => rfl
  exact hu.secured (w := fun x => (x.peers, x.rekeyAt)) true

/-- The association installed is in use. -/
theorem State.installSa_secures (s : State) {p : Nat} (hp : p < 4) (an key salt : Nat) :
    (s.installSa p an key salt).on (R.PRT_P_STAT.SECURED p) = true ∧ ((s.installSa p an key salt).portSt p).txAn = an := by
  unfold State.installSa
  extract_lets u
  have hset : (u.putBit (R.PRT_P_STAT.SECURED p) true).on (R.PRT_P_STAT.SECURED p) = true :=
    State.on_putBit _ _ _ (show 4 + 1 ≤ 32 by decide) Nat.one_pos
  have hshow : (u.putBit (R.PRT_P_STAT.SECURED p) true).LinkKeeps ((u.putBit (R.PRT_P_STAT.SECURED p) true).showSec p) :=
    .showSec (.refl ..) p
  refine ⟨?_, ?_⟩
  · rw [State.evalUp_stat (f := R.PRT_P_STAT.SECURED p) _ hp rfl (.inr ⟨rfl, .inr (show 1 + 1 ≤ 4 by decide)⟩),
      State.on_congr (hshow.get _ (.ofStat hp rfl)), hset]
  · refine (congrArg PortSt.txAn ((State.evalUp_link ..).trans (hshow.port p))).trans ?_
    have hu : (u.portSt p).txAn = an := by rw [State.portSt_modPort]
    exact hu

/-- A new SAK leaves the peers, and the fields beside STAT. -/
theorem State.newSak_keeps (s : State) (p : Nat) :
    State.Keeps (FldAt.OffStat p) (fun x => x.link.peers) s (s.newSak p) := by
  unfold State.newSak
  split
  next k u hu =>
  obtain rfl : s.draw.2 = u := congrArg Prod.snd hu
  extract_lets x v
  have hv : State.Keeps (FldAt.OffStat p) (fun x => x.link.peers) s v :=
    .modPort (State.Keeps.same (.refl ..)) p fun _ => rfl
  have hset := hv.trans ((v.installSa_keeps p (if x.sas.isEmpty then 0 else (x.txAn + 1) % 4) (k % 2 ^ 256) 0).mono
    (fun _ hf => hf) Prod.fst)
  exact hset.trans ((State.Keeps.enqueue (.refl ..) p _).mono (fun _ hf => hf.1) PortSt.peers)

/-- A new SAK is in use, and its time noted. -/
theorem State.newSak_secures (s : State) {p : Nat} (hp : p < 4) :
    (s.newSak p).on (R.PRT_P_STAT.SECURED p) = true ∧ ((s.newSak p).portSt p).rekeyAt = s.now := by
  unfold State.newSak
  split
  next k u hu =>
  obtain rfl : s.draw.2 = u := congrArg Prod.snd hu
  extract_lets x v
  obtain ⟨hset, -⟩ := v.installSa_secures hp (if x.sas.isEmpty then 0 else (x.txAn + 1) % 4) (k % 2 ^ 256) 0
  have hkept := (v.installSa_keeps p (if x.sas.isEmpty then 0 else (x.txAn + 1) % 4) (k % 2 ^ 256) 0).port p
  generalize v.installSa p _ (k % 2 ^ 256) 0 = w at hset hkept
  have hsent : w.LinkKeeps (w.sendMkpdu p) := .enqueue (.refl ..) p _
  have hat : (v.portSt p).rekeyAt = s.now := by
    rw [State.portSt_modPort]
    rfl
  refine ⟨(State.on_congr (hsent.get _ (.ofStat hp rfl))).trans hset, ?_⟩
  exact (congrArg PortSt.rekeyAt (hsent.port p)).trans ((congrArg Prod.snd hkept).trans hat)

theorem State.peersChanged_keeps (s : State) (p : Nat) :
    State.Keeps (FldAt.OffStat p) (fun x => x.link.peers) s (s.peersChanged p) := by
  unfold State.peersChanged
  extract_lets u
  have hu : State.Keeps (FldAt.OffStat p) (fun x => x.link.peers) s u := .modPort (.refl ..) p fun _ => rfl
  exact .ite (hu.secured (w := PortSt.peers) false)
    (.ite (s.newSak_keeps p) ((State.Keeps.showSec (.refl ..) p).mono (fun _ hf => hf.1) PortSt.peers))

/-! MKPDUs (R275) -/

/-- A participant that lists this hub is a live peer from now on; only STAT and SECST of the port show it. -/
theorem State.mkaUse_peers (s : State) (p : Nat) {m : Mkpdu} (hlists : m.listsUs = true) :
    (m.sci, m.prio, s.now) ∈ ((s.mkaUse p m).portSt p).peers ∧
      ∀ f : FldAt, f.OffStat p → (s.mkaUse p m).get f = s.get f := by
  unfold State.mkaUse
  extract_lets x known u v best
  have hu : (m.sci, m.prio, s.now) ∈ (u.portSt p).peers ∧ ∀ f : FldAt, u.get f = s.get f := by
    unfold u
    rw [hlists, Bool.not_true, Bool.and_false, if_neg Bool.false_ne_true, State.portSt_setPort]
    exact ⟨List.mem_cons_self, fun _ => rfl⟩
  have hv : State.Keeps (FldAt.OffStat p) (fun x => x.link.peers) u v :=
    .ite ((State.Keeps.showSec (.refl ..) p).mono (fun _ hf => hf.1) PortSt.peers) (u.peersChanged_keeps p)
  have hall {t : State} (ht : State.Keeps (FldAt.OffStat p) (fun x => x.link.peers) u t) :
      (m.sci, m.prio, s.now) ∈ (t.portSt p).peers ∧ ∀ f : FldAt, f.OffStat p → t.get f = s.get f :=
    ⟨(ht.port p).symm ▸ hu.1, fun f hf => (ht.get f hf).trans (hu.2 f)⟩
  split
  · exact hall hv
  next an key _ =>
  split
  · exact hall hv
  · exact hall (hv.trans ((v.installSa_keeps p an key 0).mono (fun _ hf => hf) Prod.fst))

theorem mkpduRx_peers (now : Nat) {port : Fin 4} {m : Mkpdu} {s : State} (hr : s.Running)
    (hlink : s.on (R.PRT_P_STAT.LINK port) = true) (hmode : s.secMode port = 1) (hicv : m.icvOk = true)
    (hckn : m.ckn = s.ckn port) (hlists : m.listsUs = true) : Completes (.mkpduRx now port m) s fun t =>
      (m.sci, m.prio, t.now) ∈ (t.portSt port).peers ∧
        t.get (R.PRT_P_CNT0.RXFRM port) = satAdd 32 (s.get (R.PRT_P_CNT0.RXFRM port)) 1 := by
  have he : exec (.mkpduRx now port m) s = execMkpduRx now port m s := rfl
  unfold execMkpduRx at he
  refine completes_act he hr ?_
  extract_lets p u
  have hours : ¬ ((!m.icvOk) = true ∨ m.ckn ≠ u.ckn p) := by
    rw [hicv]
    rintro (h | h)
    · cases h
    · exact h hckn
  rw [State.portSt_keep rfl, State.get_keep rfl, keep_now, show (s.tick now).on (R.PRT_P_STAT.LINK p) = true from hlink,
    if_neg (by decide), if_neg (not_not.2 (show u.secMode p = 1 from hmode)), if_neg hours]
  obtain ⟨hpeer, hget⟩ := u.mkaUse_peers p hlists
  have hoff : (R.PRT_P_CNT0.RXFRM p).OffStat p :=
    ⟨.ofPort (n := 0x40) port.2 rfl (by decide), show 0x7000040 + p * 0x1000 ≠ 0x7000004 + p * 0x1000 by omega⟩
  exact ⟨hpeer, (hget _ hoff).trans (State.get_bump _ _ _ (show 0 + 32 ≤ 32 by decide))⟩

theorem mkaHelloSend_sends (now : Nat) {port : Fin 4} {s : State} (hr : s.Running)
    (hlink : s.on (R.PRT_P_STAT.LINK port) = true) (hmode : s.secMode port = 1)
    (hdue : ((s.portSt port).mkaAt.all fun a => decide (a + s.mkaHello port ≤ max s.now now)) = true) :
    Completes (.mkaHelloSend now port) s fun t => (t.portSt port).mkaAt = some t.now ∧
      (t.portSt port).txq.length = (s.portSt port).txq.length + 1 := by
  have he : exec (.mkaHelloSend now port) s = execMkaHelloSend now port s := rfl
  unfold execMkaHelloSend at he
  refine completes_act he hr ?_
  extract_lets p due
  have hdue' : due = true := (due_eq_all ..).trans hdue
  have hgo : ¬ ((!(s.tick now).on (R.PRT_P_STAT.LINK p)) = true ∨ (s.tick now).secMode p ≠ 1 ∨ (!due) = true) := by
    rw [show (s.tick now).on (R.PRT_P_STAT.LINK p) = true from hlink, show (s.tick now).secMode p = 1 from hmode, hdue']
    decide
  rw [if_neg hgo, State.portSt_keep rfl, keep_now, State.sendMkpdu, State.portSt_enqueue, State.portSt_modPort]
  refine ⟨rfl, ?_⟩
  rw [List.length_append, List.length_singleton]
  rfl

theorem mkaRekey_secures (now : Nat) {port : Fin 4} {s : State} (hr : s.Running) (hmode : s.secMode port = 1)
    (hrekey : s.inUse (R.PRT_P_MKA.REKEY port) ≠ 0) (hpeers : (s.portSt port).peers ≠ [])
    (hserver : s.keyServer port = true)
    (hdue : (s.portSt port).rekeyAt + s.inUse (R.PRT_P_MKA.REKEY port) * secU ≤ max s.now now) :
    Completes (.mkaRekey now port) s fun t => t.on (R.PRT_P_STAT.SECURED port) = true ∧
      (t.portSt port).rekeyAt = t.now := by
  have he : exec (.mkaRekey now port) s = execMkaRekey now port s := rfl
  unfold execMkaRekey at he
  refine completes_act he hr ?_
  extract_lets p x every
  have hgo : ¬ ((s.tick now).secMode p ≠ 1 ∨ every = 0 ∨ x.peers.isEmpty = true ∨ (!(s.tick now).keyServer p) = true ∨
      (s.tick now).now < x.rekeyAt + every) := by
    rw [show (s.tick now).keyServer p = true from hserver]
    rintro (h | h | h | h | h)
    · exact h hmode
    · exact (Nat.mul_eq_zero.1 h).elim hrekey (by decide)
    · exact hpeers (List.isEmpty_iff.1 h)
    · cases h
    · exact absurd h (not_lt.2 hdue)
  rw [if_neg hgo, State.portSt_keep rfl, keep_now]
  exact (s.tick now).newSak_secures port.2

theorem mkaFail_logs (now : Nat) {port : Fin 4} {s : State} (hr : s.Running)
    (hlink : s.on (R.PRT_P_STAT.LINK port) = true) (hmode : s.secMode port = 1)
    (hnew : (s.portSt port).failLogged = false) (hpeers : (s.portSt port).peers = [])
    (hdue : (s.portSt port).linkAt + 6 * secU ≤ max s.now now) : Completes (.mkaFail now port) s fun t =>
      (t.portSt port).failLogged = true ∧ s.Logs L.PRT_MKA_FAIL 5 port t := by
  have he : exec (.mkaFail now port) s = execMkaFail now port s := rfl
  unfold execMkaFail at he
  refine completes_act he hr ?_
  extract_lets p x
  have hgo : ¬ ((!(s.tick now).on (R.PRT_P_STAT.LINK p)) = true ∨ (s.tick now).secMode p ≠ 1 ∨ x.failLogged = true ∨
      (!x.peers.isEmpty) = true ∨ (s.tick now).now < x.linkAt + 6 * secU) := by
    rw [show (s.tick now).on (R.PRT_P_STAT.LINK p) = true from hlink, show x.failLogged = false from hnew,
      show x.peers = [] from hpeers]
    rintro (h | h | h | h | h)
    · cases h
    · exact h hmode
    · cases h
    · cases h
    · exact absurd h (not_lt.2 hdue)
  rw [if_neg hgo, State.portSt_keep rfl, State.portSt_congr (State.log1_ports ..), State.portSt_setPort]
  exact ⟨rfl, State.logs_keep rfl rfl (State.logs_log1 s _ _ 5 p 0 0 rfl)⟩

theorem mkaLifeTimeExpiry_removes (now : Nat) {port : Fin 4} {sci : Nat} {s : State} (hr : s.Running)
    (hold : (s.portSt port).peers.any (fun q => q.1 == sci && decide (q.2.2 + 6 * secU ≤ max s.now now)) = true) :
    Completes (.mkaLifeTimeExpiry now port sci) s fun t =>
      (t.portSt port).peers = (s.portSt port).peers.filter fun q => q.1 != sci := by
  have he : exec (.mkaLifeTimeExpiry now port sci) s = execMkaLifeTimeExpiry now port sci s := rfl
  unfold execMkaLifeTimeExpiry at he
  refine completes_act he hr ?_
  extract_lets p x
  have hold' : (x.peers.any fun q => q.1 == sci && decide (q.2.2 + 6 * secU ≤ (s.tick now).now)) = true := hold
  rw [if_pos hold', State.portSt_keep rfl]
  refine ((State.peersChanged_keeps _ p).port p).trans ?_
  rw [State.portSt_setPort]
  rfl

/-! A static key (R276) -/

/-- A write that installs goes to no block of the lead's. -/
theorem State.ignoresWrite_sctl (s : State) (p : Fin 4) : s.ignoresWrite (R.PRT_P_SCTL p).addr = false := by
  have hblock : ∀ p : Fin 4, inLeadBlocks (R.PRT_P_SCTL p).addr = false := by decide
  rw [State.ignoresWrite, hblock, Bool.and_false]

theorem exec_macsecInstall (now : Nat) (req : Requester) (port : Fin 4) (data : Word) (s : State) :
    exec (.macsecInstall now req port data) s =
      act { linkParts with resp := true } now s fun s => s.sctl req port data := rfl

/-- A permitted write with INSTALL, under a static key, installs the words of the key. -/
theorem State.sctl_installs {s : State} {q : Requester} {p : Fin 4} {data : Word}
    (hp : s.permits q (R.PRT_P_SCTL p).addr 4 true = true) (hgo : hasBit data.toNat 2 = true) (hmode : s.secMode p = 2) :
    ∃ (u : State) (key salt : Nat), s.sctl q p data = (u.installSa p (data.toNat % 4) key salt).answer q false 0 := by
  have hmode' (u : State) (hu : u.live = s.live) : ¬ ((!hasBit data.toNat 2) = true ∨ u.secMode p ≠ 2) := by
    rw [hgo, State.secMode, State.inUse_congr hu]
    rintro (h | h)
    · cases h
    · exact h hmode
  rw [State.sctl, State.cmdWrite_taken ⟨hp, s.ignoresWrite_sctl p⟩]
  have hlive : (if data &&& ~~~ 7 ≠ 0 then s.bump (R.SYS_REQERR2.RSVD q.no) else s).live = s.live := by
    split <;> rfl
  generalize (if data &&& ~~~ 7 ≠ 0 then s.bump (R.SYS_REQERR2.RSVD q.no) else s) = u at hlive
  rw [if_neg (hmode' u hlive)]
  exact ⟨u, _, _, rfl⟩

theorem macsecInstall_secures (now : Nat) {req : Requester} {port : Fin 4} {data : Word} {s : State} (hr : s.Running)
    (hp : s.permits req (R.PRT_P_SCTL port).addr 4 true = true) (hgo : hasBit data.toNat 2 = true)
    (hmode : s.secMode port = 2) : Completes (.macsecInstall now req port data) s fun t => t.Answered req 0 ∧
      t.on (R.PRT_P_STAT.SECURED port) = true ∧ (t.portSt port).txAn = data.toNat % 4 := by
  refine completes_act (exec_macsecInstall ..) hr ?_
  obtain ⟨u, key, salt, hset⟩ := State.sctl_installs (s := s.tick now) hp hgo hmode
  rw [State.portSt_keep rfl, hset]
  exact ⟨State.answered_of_resp rfl, u.installSa_secures port.2 (data.toNat % 4) key salt⟩

/-- Settles O22, by the lemma of each event. -/
theorem macsecEventsComplete : Obligations.MacsecEventsComplete := by
  unfold Obligations.MacsecEventsComplete
  refine ⟨?_, ?_, ?_, ?_, ?_, ?_⟩
  · intro now port m s hr hlink hmode hicv hckn hlists
    exact mkpduRx_peers now hr hlink hmode hicv hckn hlists
  · intro now port s hr hlink hmode hdue
    exact mkaHelloSend_sends now hr hlink hmode hdue
  · intro now port s hr hmode hrekey hpeers hserver hdue
    exact mkaRekey_secures now hr hmode hrekey hpeers hserver hdue
  · intro now port s hr hlink hmode hnew hpeers hdue
    exact mkaFail_logs now hr hlink hmode hnew hpeers hdue
  · intro now port sci s hr hold
    exact mkaLifeTimeExpiry_removes now hr hold
  · intro now req port data s hr hp hgo hmode
    exact macsecInstall_secures now hr hp hgo hmode

end Sys2Proof.Machine
end

section
/-! PROOF. What the operations of the safety units leave: of their state, of the registers and of the log (R281 to R304). -/
namespace Sys2Proof.Machine

/-! Plain updates -/

@[simp] theorem State.setSafe_safe (s : State) (x : SafeSt) : (s.setSafe x).safe = x := rfl
@[simp] theorem State.get_setSafe (s : State) (x : SafeSt) (f : FldAt) : (s.setSafe x).get f = s.get f := rfl
@[simp] theorem State.get_setBk (s : State) (n : Nat) (x : BkSt) (f : FldAt) : (s.setBk n x).get f = s.get f := rfl
@[simp] theorem State.bk_setBk (s : State) (n : Nat) (x : BkSt) : (s.setBk n x).bk n = x := Tbl.get_set_self ..

theorem State.bk_setBk_ne (s : State) {n m : Nat} (x : BkSt) (h : m ≠ n) : (s.setBk n x).bk m = s.bk m :=
  Tbl.get_set_ne _ _ _ h

theorem State.bk_congr {s t : State} (h : t.safe.bk = s.safe.bk) (n : Nat) : t.bk n = s.bk n := by
  rw [State.bk, h, State.bk]

@[simp] theorem SafeUnit.input_setInput (u : SafeUnit) (i : Nat) (x : SiSt) : (u.setInput i x).input i = x :=
  Tbl.get_set_self ..

theorem SafeUnit.input_setInput_ne (u : SafeUnit) {i j : Nat} (x : SiSt) (h : j ≠ i) :
    (u.setInput i x).input j = u.input j := Tbl.get_set_ne _ _ _ h

theorem mem_inputs16 (i : Fin 16) : i.val ∈ inputs16 := List.mem_range.2 i.2
theorem mem_chans8 (n : Fin 8) : n.val ∈ chans8 := List.mem_range.2 n.2

/-! What a command leaves, read from its effect -/

theorem State.safe_keep {p : Parts} (hp : p.safe = true) (s t : State) : (keep p s t).safe = t.safe := by
  rw [keep_safe, if_pos hp]

theorem State.bk_keep {p : Parts} (hp : p.safe = true) (s t : State) (n : Nat) : (keep p s t).bk n = t.bk n :=
  State.bk_congr (by rw [keep_safe, if_pos hp]) n

theorem State.on_keep {p : Parts} (hp : p.regs = true) (s t : State) (f : FldAt) : (keep p s t).on f = t.on f :=
  State.on_congr (State.get_keep hp s t f)

/-! Repeated operations -/

/-- What every step over the members of a list keeps, the whole keeps. -/
theorem State.each_keeps_of_mem {α β : Type} (g : State → β) {f : State → α → State} {l : List α}
    (h : ∀ s, ∀ x ∈ l, g (f s x) = g s) (s : State) : g (s.each l f) = g s := by
  unfold State.each
  induction l generalizing s with
  | nil => rfl
  | cons x l ih =>
    rw [List.foldl_cons, ih (fun s y hy => h s y (List.mem_cons_of_mem x hy)), h s x List.mem_cons_self]

/-! The log -/

/-- An event that has been logged stays the newest one while no other is. -/
theorem State.logs_of_quiet {s t u : State} {c k i : Nat} (h : s.Logs c k i t) (hl : u.log = t.log)
    (hseq : u.get R.LOG_HEAD.SEQ = t.get R.LOG_HEAD.SEQ) : s.Logs c k i u := fun hs => by
  have he : u.newestEntry = t.newestEntry := by
    unfold State.newestEntry
    rw [hl, hseq]
  rw [he]
  exact h hs

theorem State.logs_safeHint {s t : State} {c k i : Nat} (h : s.Logs c k i t) (old : State) :
    s.Logs c k i (t.safeHint old) :=
  State.logs_of_quiet h ((State.safeHint_within ..).log rfl) (State.safeHint_get _ _ (by decide))

theorem State.on_safeHint (s old : State) {f : FldAt} (h : f.Apart R.SYS_HINTST.CAUSE) :
    (s.safeHint old).on f = s.on f := State.on_congr (s.safeHint_get old h)

theorem State.on_log1 (s : State) (c k i d x : Nat) {f : FldAt} (h : f.OffLog) : (s.log1 c k i d x).on f = s.on f :=
  State.on_congr (s.get_log1 c k i d x h)

@[simp] theorem State.safeHint_safe (s old : State) : (s.safeHint old).safe = s.safe :=
  (State.safeHint_within ..).safe rfl

theorem State.setCross_safe (s : State) (b : Bool) : (s.setCross b).safe = { s.safe with cross := b } := rfl
theorem State.setKclk_safe (s : State) (b : Bool) : (s.setKclk b).safe = { s.safe with kclk := b } := rfl
theorem State.setCross_get (s : State) (b : Bool) {f : FldAt} (h : f.Apart R.SAFV_STATE.CROSS) :
    (s.setCross b).get f = s.get f := by
  rw [State.setCross, State.get_putBit_ne _ _ h, State.get_setSafe]
theorem State.setKclk_get (s : State) (b : Bool) {f : FldAt} (h : f.Apart R.SAFV_STATE.KCLK) :
    (s.setKclk b).get f = s.get f := by
  rw [State.setKclk, State.get_putBit_ne _ _ h, State.get_setSafe]
theorem State.bothUnits_safe (s : State) (f : SafeUnit → SafeUnit) :
    (s.bothUnits f).safe = { s.safe with sp := f s.safe.sp, kp := f s.safe.kp } := rfl

/-! Brake channels: registers -/

/-- A field that is not among those of channel `n` that show its permits, requests, drives and faults. -/
def FldAt.OffShown (n : Nat) (f : FldAt) : Prop :=
  f.reg.addr ≠ (R.SAFV_BK n).addr ∨ f.reg = R.SAFV_BK n ∧ 10 ≤ f.lo

/-- A field outside the registers of the brake channels and their readings. -/
def FldAt.OffBk (f : FldAt) : Prop := f.reg.addr < 0x8000200 ∨ 0x8000240 ≤ f.reg.addr

theorem FldAt.OffBk.shown {f : FldAt} (h : f.OffBk) {n : Nat} (hn : n < 8) : f.OffShown n := by
  refine .inl ?_
  show f.reg.addr ≠ 0x8000200 + n * 0x8
  unfold FldAt.OffBk at h
  omega

theorem State.showBk_get (s : State) {n : Nat} {f : FldAt} (h : f.OffShown n) : (s.showBk n).get f = s.get f := by
  have ha (g : FldAt) (hg : g.reg = R.SAFV_BK n) (hw : g.lo + g.w ≤ 10) : f.Apart g := by
    rcases h with h | ⟨h, hlo⟩
    · exact .inl (hg ▸ h)
    · exact .inr ⟨h.trans hg.symm, .inr (hw.trans hlo)⟩
  unfold State.showBk State.putBit
  extract_lets x u v
  rw [State.get_put_ne _ _ (ha _ rfl (show 6 + 4 ≤ 10 by decide)),
    State.get_put_ne _ _ (ha _ rfl (show 4 + 1 ≤ 10 by decide)),
    State.get_put_ne _ _ (ha _ rfl (show 3 + 1 ≤ 10 by decide)), State.get_put_ne _ _ (ha _ rfl (show 2 + 1 ≤ 10 by decide)),
    State.get_put_ne _ _ (ha _ rfl (show 1 + 1 ≤ 10 by decide)), State.get_put_ne _ _ (ha _ rfl (show 0 + 1 ≤ 10 by decide))]

theorem State.dropHigh_get (s : State) {n : Nat} {f : FldAt} (h : f.OffShown n) : (s.dropHigh n).get f = s.get f :=
  State.showBk_get _ h

theorem State.dropLow_get (s : State) {n : Nat} {f : FldAt} (h : f.OffShown n) : (s.dropLow n).get f = s.get f :=
  State.showBk_get _ h

theorem State.clearBk_get (s : State) {n c : Nat} {f : FldAt} (h : f.OffShown n) : (s.clearBk n c).get f = s.get f :=
  State.showBk_get _ h

theorem State.driveBk_get (s : State) {n : Nat} {f : FldAt} (h : f.OffShown n) : (s.driveBk n).get f = s.get f :=
  State.showBk_get _ h

/-- Both gate drives of a channel go off. -/
def State.driveOff (s : State) (n : Nat) : State :=
  (s.setBk n { s.bk n with
    hs := false, ls := false, pulse := none
    changed := if (s.bk n).hs || (s.bk n).ls then s.now else (s.bk n).changed }).showBk n

theorem State.drivesOff_eq (s : State) : s.drivesOff = s.each chans8 State.driveOff := rfl

theorem State.driveOff_get (s : State) {n : Nat} {f : FldAt} (h : f.OffShown n) : (s.driveOff n).get f = s.get f :=
  State.showBk_get _ h

theorem State.drivesOff_get (s : State) {f : FldAt} (h : f.OffBk) : s.drivesOff.get f = s.get f := by
  rw [State.drivesOff_eq]
  exact State.each_keeps_of_mem (fun s => s.get f) (fun s n hn => s.driveOff_get (h.shown (List.mem_range.1 hn))) s

theorem State.withdrawAll_get (s : State) {f : FldAt} (h : f.OffBk) : s.withdrawAll.get f = s.get f :=
  State.drivesOff_get _ h

/-- A channel that the safety processor sees a reason to hold loses its permit. -/
def State.dropIfHeld (s : State) (n : Nat) : State := if s.spStops n then s.dropHigh n else s

theorem State.dropHeld_eq (s : State) : s.dropHeld = s.each chans8 State.dropIfHeld := rfl

theorem State.dropIfHeld_get (s : State) {n : Nat} {f : FldAt} (h : f.OffShown n) : (s.dropIfHeld n).get f = s.get f := by
  unfold State.dropIfHeld
  split
  · exact s.dropHigh_get h
  · rfl

theorem State.dropHeld_get (s : State) {f : FldAt} (h : f.OffBk) : s.dropHeld.get f = s.get f := by
  rw [State.dropHeld_eq]
  exact State.each_keeps_of_mem (fun s => s.get f) (fun s n hn => s.dropIfHeld_get (h.shown (List.mem_range.1 hn))) s

/-! Brake channels: state -/

@[simp] theorem State.showBk_safe (s : State) (n : Nat) : (s.showBk n).safe = s.safe := (s.showBk_within n).safe rfl

/-- The safety functions without the brake channels. -/
def SafeSt.noBk (x : SafeSt) : SafeSt := { x with bk := [] }

/-- The safety functions without the brake channels and the permits. -/
def SafeSt.core (x : SafeSt) : SafeSt :=
  { x.noBk with sp := { x.sp with permits := 0 }, kp := { x.kp with permits := 0 } }

theorem SafeSt.eq_of_noBk {x y : SafeSt} (h : x.noBk = y.noBk) :
    x.tick = y.tick ∧ x.vfld = y.vfld ∧ x.sp = y.sp ∧ x.kp = y.kp :=
  ⟨(congrArg SafeSt.tick h :), (congrArg SafeSt.vfld h :), (congrArg SafeSt.sp h :), (congrArg SafeSt.kp h :)⟩

theorem State.driveOff_noBk (s : State) (n : Nat) : (s.driveOff n).safe.noBk = s.safe.noBk := by
  rw [State.driveOff, State.showBk_safe]
  rfl

theorem State.drivesOff_noBk (s : State) : s.drivesOff.safe.noBk = s.safe.noBk := by
  rw [State.drivesOff_eq]
  exact State.each_keeps (fun s => s.safe.noBk) State.driveOff_noBk s chans8

theorem State.driveBk_noBk (s : State) (n : Nat) : (s.driveBk n).safe.noBk = s.safe.noBk := by
  rw [State.driveBk, State.showBk_safe]
  rfl

theorem State.readBk_noBk (s : State) (n : Nat) (t : TickIn) : (s.readBk n t).safe.noBk = s.safe.noBk := by
  unfold State.readBk
  extract_lets x sbv sbi own u v w sum
  split
  · rfl
  split
  rfl

theorem State.dropHigh_core (s : State) (n : Nat) : (s.dropHigh n).safe.core = s.safe.core := by
  rw [State.dropHigh, State.showBk_safe]
  rfl

theorem State.dropHeld_core (s : State) : s.dropHeld.safe.core = s.safe.core := by
  rw [State.dropHeld_eq]
  refine State.each_keeps (fun s => s.safe.core) (fun s n => ?_) s chans8
  unfold State.dropIfHeld
  split
  · exact s.dropHigh_core n
  · rfl

theorem State.raiseBk_core (s : State) (n f : Nat) : (s.raiseBk n f).safe.core = s.safe.core := by
  unfold State.raiseBk
  extract_lets x u v
  have hv : v.safe = u.safe := by
    unfold v
    split
    · exact u.log1_safe ..
    · rfl
  split
  · rfl
  · rw [State.dropHigh_core, hv]
    rfl

@[simp] theorem State.bk_showBk (s : State) (n m : Nat) : (s.showBk n).bk m = s.bk m :=
  State.bk_congr (by rw [State.showBk_safe]) m

/-- A withdrawn permit turns the drive of its own side off, and leaves the other channels. -/
theorem State.dropHigh_hs (s : State) (n : Nat) : ((s.dropHigh n).bk n).hs = false := by
  rw [State.dropHigh, State.bk_showBk, State.bk_setBk]

theorem State.dropHigh_bk_ne (s : State) {n m : Nat} (h : m ≠ n) : (s.dropHigh n).bk m = s.bk m := by
  rw [State.dropHigh, State.bk_showBk, State.bk_setBk_ne _ _ h]
  rfl

theorem State.dropLow_ls (s : State) (n : Nat) : ((s.dropLow n).bk n).ls = false := by
  rw [State.dropLow, State.bk_showBk, State.bk_setBk]

theorem State.dropLow_bk_ne (s : State) {n m : Nat} (h : m ≠ n) : (s.dropLow n).bk m = s.bk m := by
  rw [State.dropLow, State.bk_showBk, State.bk_setBk_ne _ _ h]
  rfl

/-- Every low side, and every high side, goes off. -/
theorem State.lowsOff_ls (s : State) (n : Fin 8) : ((s.each chans8 State.dropLow).bk n).ls = false := by
  refine State.each_establishes (f := State.dropLow) (fun u => (u.bk n).ls = false) (fun s => ?_) (fun s m hm h => ?_) s
    (mem_chans8 n)
  · exact s.dropLow_ls n
  · rw [s.dropLow_bk_ne hm.symm]
    exact h

theorem State.lowsOff_get (s : State) {f : FldAt} (h : f.OffBk) : (s.each chans8 State.dropLow).get f = s.get f :=
  State.each_keeps_of_mem (fun s => s.get f) (fun s _ hn => s.dropLow_get (h.shown (List.mem_range.1 hn))) s

theorem State.highsOff_hs (s : State) (n : Fin 8) : ((s.each chans8 State.dropHigh).bk n).hs = false := by
  refine State.each_establishes (f := State.dropHigh) (fun u => (u.bk n).hs = false) (fun s => ?_) (fun s m hm h => ?_) s
    (mem_chans8 n)
  · exact s.dropHigh_hs n
  · rw [s.dropHigh_bk_ne hm.symm]
    exact h

end Sys2Proof.Machine
end

section
/-! PROOF. The safety tick, the latches of the units and the restart of the safety processor (R281 to R285, R295, R314). -/
namespace Sys2Proof.Machine

/-! The tick (R281, R295) -/

/-- What of the safety functions the faults and tests of a tick leave: its number, VFLD and the latches. -/
def SafeSt.latches (x : SafeSt) : Option Nat × Nat × Bool × Bool := (x.tick, x.vfld, x.cross, x.kclk)

theorem State.raiseBk_latches (s : State) (n f : Nat) : (s.raiseBk n f).safe.latches = s.safe.latches :=
  (congrArg SafeSt.latches (s.raiseBk_core n f) :)

theorem State.endTest_latches (s : State) (h : HoldTest) (result : Nat) :
    (s.endTest h result).safe.latches = s.safe.latches := by
  unfold State.endTest
  extract_lets n u x v w
  have hw : w.safe.latches = s.safe.latches := by
    unfold w
    split
    · exact v.raiseBk_latches n 7
    · rfl
  rw [State.log1_safe]
  exact hw

theorem State.testTick_latches (s : State) : s.testTick.safe.latches = s.safe.latches := by
  unfold State.testTick
  split
  · rfl
  split
  · rfl
  split
  · exact s.endTest_latches ..
  split
  · rfl
  extract_lets enc creep h bad
  split
  · exact s.endTest_latches ..
  split
  · exact s.endTest_latches ..
  split
  · split
    · exact s.endTest_latches ..
    · rfl
  · exact s.endTest_latches ..

/-- While CROSS or KCLK is latched no channel is permitted. -/
theorem State.inputsPermit_latched {s : State} (h : s.safe.cross = true ∨ s.safe.kclk = true) (u : SafeUnit) (n : Nat) :
    s.inputsPermit u n = false := by
  unfold State.inputsPermit
  rcases h with h | h <;> simp [h]

theorem maskOf_eq_zero {f : Nat → Bool} (h : ∀ n, f n = false) : maskOf f = 0 := by
  rw [maskOf, List.filter_eq_nil_iff.2 fun n _ => by simp [h n]]
  rfl

/-- The drives and readings of a tick leave everything but the brake channels. -/
theorem State.driveAll_noBk (s : State) (x : TickIn) :
    (s.each chans8 fun s n => (s.driveBk n).readBk n x).safe.noBk = s.safe.noBk :=
  State.each_keeps (fun s => s.safe.noBk) (fun s n => (State.readBk_noBk ..).trans (s.driveBk_noBk n)) s chans8

/-- A tick takes VFLD, keeps its own number, and permits nothing while a latch is set. -/
theorem State.safetyTick_safe (s : State) (x : TickIn) : (s.safetyTick x).safe.tick = s.safe.tick ∧
    (s.safetyTick x).safe.vfld = x.vfld ∧ (s.safe.cross = true ∨ s.safe.kclk = true →
      (s.safetyTick x).safe.sp.permits = 0 ∧ (s.safetyTick x).safe.kp.permits = 0) := by
  unfold State.safetyTick
  extract_lets vs was
  split
  next sp₀ kp₀ _ =>
  extract_lets _ sp _ kp u _ v w tested stop _ sp' _ kp' bad run prun _ permitted shown inputs
  have hv : v.safe.latches = (s.safe.tick, x.vfld, s.safe.cross, s.safe.kclk) := by
    unfold v
    split
    · rfl
    · rfl
  have hw : w.safe.latches = v.safe.latches := State.each_keeps (fun s => s.safe.latches) (fun s n => by
    split
    · exact s.raiseBk_latches n 9
    · rfl) v chans8
  have htested : tested.safe.latches = (s.safe.tick, x.vfld, s.safe.cross, s.safe.kclk) :=
    w.testTick_latches.trans (hw.trans hv)
  have hinputs : inputs.safe = permitted.safe := (shown.showInputs_within).safe rfl
  have hdriven := inputs.driveAll_noBk x
  have hpermitted : permitted.safe = { tested.safe with
      sp := sp', kp := kp', disagree := run, partnerRun := prun
      stop := if hasBit vs 1 then stop else tested.safe.stop } := State.setSafe_safe ..
  obtain ⟨htick, hvfld, hcross, hkclk⟩ : tested.safe.tick = s.safe.tick ∧ tested.safe.vfld = x.vfld ∧
      tested.safe.cross = s.safe.cross ∧ tested.safe.kclk = s.safe.kclk := by
    simpa only [SafeSt.latches, Prod.mk.injEq] using htested
  have hoff (h : s.safe.cross = true ∨ s.safe.kclk = true) (u : SafeUnit) (n : Nat) : tested.inputsPermit u n = false :=
    State.inputsPermit_latched (by rw [hcross, hkclk]; exact h) u n
  have hsp (h : s.safe.cross = true ∨ s.safe.kclk = true) : sp'.permits = 0 :=
    maskOf_eq_zero fun n => by rw [hoff h, Bool.false_and, Bool.false_and]
  have hkp (h : s.safe.cross = true ∨ s.safe.kclk = true) : kp'.permits = 0 :=
    maskOf_eq_zero fun n => by rw [hoff h, Bool.false_and, Bool.false_and]
  clear_value inputs permitted tested sp' kp'
  rw [hinputs, hpermitted] at hdriven
  obtain ⟨httick, htvfld, htsp, htkp⟩ := SafeSt.eq_of_noBk hdriven
  refine ⟨httick.trans htick, htvfld.trans hvfld, fun h => ?_⟩
  rw [htsp, htkp]
  exact ⟨hsp h, hkp h⟩

theorem safetyTick_takes (now : Nat) (x : TickIn) {s : State} (hr : s.Running) (hf : s.sys.fieldFault = false)
    (hnew : s.safe.tick ≠ some (s.wbAt 0 (max s.now now) / ((250 * usU : Nat) : Int)).toNat) :
    Completes (.safetyTick now x) s fun t =>
      t.safe.tick = some (s.wbAt 0 (max s.now now) / ((250 * usU : Nat) : Int)).toNat ∧ t.safe.vfld = x.vfld ∧
        (s.safe.cross = true ∨ s.safe.kclk = true → t.safe.sp.permits = 0 ∧ t.safe.kp.permits = 0) := by
  have he : exec (.safetyTick now x) s = execSafetyTick now x s := rfl
  unfold execSafetyTick at he
  refine completes_act he hr ?_
  extract_lets k y
  have hgo : ¬ ((s.tick now).safe.tick = some k ∨ (s.tick now).sys.fieldFault = true) :=
    not_or.2 ⟨hnew, fun h => Bool.false_ne_true (hf.symm.trans h)⟩
  rw [if_neg hgo, State.safe_keep rfl, State.safeHint_safe]
  exact State.safetyTick_safe _ x

/-! The latches (R281, R283, R314) -/

theorem keeperMarkerTimeout_latches (now : Nat) {rc : Nat} {s : State} (hrc : rc < 4500 ∨ 5500 < rc)
    (hk : s.safe.kclk = false) : Completes (.keeperMarkerTimeout now rc) s fun t => t.safe.kclk = true ∧
      t.on R.SAFV_STATE.KCLK = true ∧ (∀ n : Fin 8, (t.bk n).ls = false) ∧ s.Logs L.KEEPER_CLK 0 0 t := by
  have he : exec (.keeperMarkerTimeout now rc) s = execKeeperMarkerTimeout now rc s := rfl
  unfold execKeeperMarkerTimeout at he
  refine completes_always he ?_
  extract_lets t
  have hgo : ¬ (4500 ≤ rc ∧ rc ≤ 5500 ∨ (s.tick now).safe.kclk = true) :=
    not_or.2 ⟨by omega, fun h => Bool.false_ne_true (hk.symm.trans h)⟩
  have hmin : t.get R.LOG_CFG.MINSEV = s.get R.LOG_CFG.MINSEV := (s.tick now).lowsOff_get (.inr (by decide))
  have hls (n : Fin 8) : (t.bk n).ls = false := (s.tick now).lowsOff_ls n
  clear_value t
  have hset : (t.setKclk true).on R.SAFV_STATE.KCLK = true := State.on_putBit _ _ _ (by decide) (by decide)
  have hlog : s.Logs L.KEEPER_CLK 0 0 ((t.setKclk true).log1 L.KEEPER_CLK) :=
    State.logs_log1 s _ L.KEEPER_CLK 0 0 0 0 ((t.setKclk_get true (by decide)).trans hmin)
  rw [if_neg hgo, State.safe_keep rfl, State.on_keep rfl, State.on_safeHint _ _ (by decide),
    State.on_log1 _ _ _ _ _ _ (by decide), hset, State.safeHint_safe, State.log1_safe, State.setKclk_safe]
  refine ⟨rfl, rfl, fun n => ?_, State.logs_keep rfl rfl (State.logs_safeHint hlog _)⟩
  rw [State.bk_keep rfl, State.bk_congr (s := t) (by rw [State.safeHint_safe, State.log1_safe, State.setKclk_safe])]
  exact hls n

/-- Latching CROSS withdraws every permit, and says why in the log (R283, R314). -/
theorem State.latchCross_safe (s old : State) (c : Nat) {u : State}
    (hu : u = ((s.withdrawAll.setCross true).log1 c).safeHint old) : u.safe.cross = true ∧
      u.on R.SAFV_STATE.CROSS = true ∧ u.safe.sp.permits = 0 ∧ u.safe.kp.permits = 0 ∧
        ∀ s₀ : State, s.get R.LOG_CFG.MINSEV = s₀.get R.LOG_CFG.MINSEV → s₀.Logs c 0 0 u := by
  have hset : (s.withdrawAll.setCross true).on R.SAFV_STATE.CROSS = true :=
    State.on_putBit _ _ _ (by decide) (by decide)
  obtain ⟨-, -, hsp, hkp⟩ := SafeSt.eq_of_noBk (s.bothUnits fun u => { u with permits := 0 }).drivesOff_noBk
  have hsafe : u.safe = { s.withdrawAll.safe with cross := true } := by
    rw [hu, State.safeHint_safe, State.log1_safe, State.setCross_safe]
  have hoff : s.withdrawAll.safe.sp.permits = 0 ∧ s.withdrawAll.safe.kp.permits = 0 := by
    rw [State.withdrawAll, hsp, hkp, State.bothUnits_safe]
    exact ⟨rfl, rfl⟩
  rw [hsafe]
  refine ⟨rfl, ?_, hoff.1, hoff.2, fun s₀ hmin => ?_⟩
  · rw [hu, State.on_safeHint _ _ (by decide), State.on_log1 _ _ _ _ _ _ (by decide), hset]
  · rw [hu]
    refine State.logs_safeHint (State.logs_log1 s₀ _ c 0 0 0 0 ?_) old
    exact (State.setCross_get _ true (by decide)).trans ((s.withdrawAll_get (.inr (by decide))).trans hmin)

theorem crossLatch_latches (now : Nat) {s : State} (hr : s.Running) (hd : 33 ≤ s.safe.disagree)
    (hc : s.safe.cross = false) : Completes (.crossLatch now) s fun t => t.safe.cross = true ∧
      t.on R.SAFV_STATE.CROSS = true ∧ t.safe.sp.permits = 0 ∧ t.safe.kp.permits = 0 ∧ s.Logs L.CROSS_FAULT 0 0 t := by
  have he : exec (.crossLatch now) s = execCrossLatch now s := rfl
  unfold execCrossLatch at he
  refine completes_act he hr ?_
  have hgo : ¬ ((s.tick now).safe.disagree < 33 ∨ (s.tick now).safe.cross = true) :=
    not_or.2 ⟨not_lt.2 hd, fun h => Bool.false_ne_true (hc.symm.trans h)⟩
  obtain ⟨hcross, hon, hsp, hkp, hlog⟩ := (s.tick now).latchCross_safe (s.tick now) L.CROSS_FAULT rfl
  rw [if_neg hgo, State.safe_keep rfl, State.on_keep rfl]
  exact ⟨hcross, hon, hsp, hkp, State.logs_keep rfl rfl (hlog s rfl)⟩

theorem pairSafeMismatch_latches (now : Nat) {s : State} (hr : s.Running) (hd : 33 ≤ s.safe.partnerRun)
    (hc : s.safe.cross = false) : Completes (.pairSafeMismatch now) s fun t => t.safe.cross = true ∧
      t.on R.SAFV_STATE.CROSS = true ∧ t.safe.sp.permits = 0 ∧ t.safe.kp.permits = 0 ∧
        s.Logs L.PAIR_SAFE_MISMATCH 0 0 t := by
  have he : exec (.pairSafeMismatch now) s = execPairSafeMismatch now s := rfl
  unfold execPairSafeMismatch at he
  refine completes_act he hr ?_
  have hgo : ¬ ((s.tick now).safe.partnerRun < 33 ∨ (s.tick now).safe.cross = true) :=
    not_or.2 ⟨not_lt.2 hd, fun h => Bool.false_ne_true (hc.symm.trans h)⟩
  obtain ⟨hcross, hon, hsp, hkp, hlog⟩ := (s.tick now).latchCross_safe (s.tick now) L.PAIR_SAFE_MISMATCH rfl
  rw [if_neg hgo, State.safe_keep rfl, State.on_keep rfl]
  exact ⟨hcross, hon, hsp, hkp, State.logs_keep rfl rfl (hlog s rfl)⟩

/-! The restart of the safety processor (R284, R285) -/

/-- The safety functions without the connections. -/
def SafeSt.noZc (x : SafeSt) : SafeSt := { x with zc := [], incTx := 0 }

theorem SafeSt.eq_of_noZc {x y : SafeSt} (h : x.noZc = y.noZc) : x.bk = y.bk ∧ x.kp = y.kp :=
  ⟨(congrArg SafeSt.bk h :), (congrArg SafeSt.kp h :)⟩

theorem State.startZc_noZc (s : State) (c : Nat) : (s.startZc c).safe.noZc = s.safe.noZc := by
  unfold State.startZc
  extract_lets on x u v inc w
  have hw : w.safe = u.safe := by
    unfold w v
    rw [State.put_safe, State.put_safe, State.put_safe]
  rw [State.put_safe, State.put_safe, State.put_safe, hw, State.setSafe_safe]
  rfl

theorem State.startZcs_noZc (s : State) : s.startZcs.safe.noZc = s.safe.noZc := by
  unfold State.startZcs
  extract_lets x u
  exact State.each_keeps (fun s => s.safe.noZc) State.startZc_noZc u chans8

theorem State.noTest_kp (s : State) : s.noTest.safe.kp = s.safe.kp := by
  unfold State.noTest
  split
  · rfl
  · rfl

theorem State.dropHigh_kp (s : State) (n : Nat) : (s.dropHigh n).safe.kp = s.safe.kp := by
  rw [State.dropHigh, State.showBk_safe]
  rfl

/-- The start of the safety processor turns every high side off, and leaves Keeper's unit. -/
theorem State.startSp_safe (s : State) (n : Fin 8) : (s.startSp.bk n).hs = false ∧ s.startSp.safe.kp = s.safe.kp := by
  unfold State.startSp
  extract_lets u x v w
  have hu : u.safe.kp = s.safe.kp := s.noTest_kp
  clear_value u
  have hx : v.safe.kp = u.safe.kp := by
    unfold v
    rw [State.setSafe_safe]
  clear_value v
  have hkp : w.safe.kp = v.safe.kp := State.each_keeps (fun s => s.safe.kp) State.dropHigh_kp v chans8
  have hhs : (w.bk n).hs = false := v.highsOff_hs n
  clear_value w
  obtain ⟨hbk, hzkp⟩ := SafeSt.eq_of_noZc w.startZcs_noZc
  rw [State.bk_congr hbk, hzkp, hkp, hx]
  exact ⟨hhs, hu⟩

/-- The safety processor restarts alone, and is down until its next tick. -/
theorem State.markDown_safe (s old : State) {v : State}
    (hv : v = (s.startSp.setSafe { s.startSp.safe with down := true }).safeHint old) :
    v.safe.down = true ∧ (∀ n : Fin 8, (v.bk n).hs = false) ∧ v.safe.kp = s.safe.kp := by
  have hstart := s.startSp_safe
  have hsafe : v.safe = { s.startSp.safe with down := true } := by
    rw [hv, State.safeHint_safe, State.setSafe_safe]
  generalize s.startSp = u at hstart hsafe
  have hbk (n : Nat) : v.bk n = u.bk n := State.bk_congr (by rw [hsafe]) n
  rw [hsafe]
  exact ⟨rfl, fun n => (congrArg BkSt.hs (hbk n)).trans (hstart n).1, (hstart 0).2⟩

theorem spWatchdog_drops (now : Nat) {s : State} (hr : s.Running) : Completes (.spWatchdog now) s fun t =>
    t.safe.down = true ∧ (∀ n : Fin 8, (t.bk n).hs = false) ∧ t.safe.kp = s.safe.kp := by
  have he : exec (.spWatchdog now) s = execSpWatchdog now s := rfl
  unfold execSpWatchdog at he
  refine completes_act he hr ?_
  obtain ⟨hdown, hhs, hkp⟩ := (s.tick now).markDown_safe (s.tick now) rfl
  rw [State.safe_keep rfl]
  refine ⟨hdown, fun n => ?_, hkp⟩
  rw [State.bk_keep rfl]
  exact hhs n

/-- Settles O24, by the lemma of each event. -/
theorem safetyUnitEventsComplete : Obligations.SafetyUnitEventsComplete := by
  unfold Obligations.SafetyUnitEventsComplete
  refine ⟨?_, ?_, ?_, ?_, ?_⟩
  · intro now x s hr hf hnew
    exact safetyTick_takes now x hr hf hnew
  · intro now rc s _ hrc hk
    exact keeperMarkerTimeout_latches now hrc hk
  · intro now s hr hd hc
    exact crossLatch_latches now hr hd hc
  · intro now s hr hd hc
    exact pairSafeMismatch_latches now hr hd hc
  · intro now s hr
    exact spWatchdog_drops now hr

end Sys2Proof.Machine
end

section
/-! PROOF. The holding test (R303, R304). -/
namespace Sys2Proof.Machine

/-! Bits of a mask -/

theorem hasBit_clearBit (m n : Nat) : hasBit (clearBit m n) n = false := by
  unfold clearBit
  split
  next h => exact hasBit_toggle (on := false) (by rw [h]; decide)
  next h => exact Bool.eq_false_of_not_eq_true h

/-! The phases (R303) -/

/-- Before its end a test goes on with the phase, the time and the count that its event gives it. -/
theorem brakeTestEngage_asks (now : Nat) {h : HoldTest} {s : State} (hr : s.Running) (ht : s.safe.test = some h)
    (hph : h.phase = 0) (hdue : h.at_ + s.sparam pBkTeng h.ch * msU ≤ max s.now now) :
    Completes (.brakeTestEngage now) s fun t => t.safe.test = some ⟨h.ch, 1, t.now,
      Tbl.get 0 s.time.enc (s.sparam pBkEnc h.ch), h.creep⟩ ∧ t.get (R.SAFV_BK.TORQUE_REQ h.ch) = 1 := by
  have he : exec (.brakeTestEngage now) s = execBrakeTestEngage now s := rfl
  unfold execBrakeTestEngage at he
  refine completes_act he hr ?_
  have hgo : ¬ (h.phase ≠ 0 ∨ (s.tick now).now < h.at_ + (s.tick now).sparam pBkTeng h.ch * msU) :=
    not_or.2 ⟨not_not.2 hph, not_lt.2 hdue⟩
  rw [show (s.tick now).safe.test = some h from ht]
  dsimp only
  rw [if_neg hgo, State.safe_keep rfl, State.get_keep rfl, keep_now]
  exact ⟨rfl, State.get_put _ _ _ (show 15 + 1 ≤ 32 by decide)⟩

theorem brakeTestTorque_holds (now : Nat) {h : HoldTest} {v : Nat} {s : State} (hr : s.Running)
    (ht : s.safe.test = some h) (hph : h.phase = 1) (hv : s.testCurrent h.ch = some v)
    (hi : s.sparam pBkItest h.ch ≤ v) (hdue : max s.now now ≤ h.at_ + 5 * secU) :
    Completes (.brakeTestTorque now) s fun t => t.safe.test = some ⟨h.ch, 2, t.now, h.c0, h.creep⟩ := by
  have he : exec (.brakeTestTorque now) s = execBrakeTestTorque now s := rfl
  unfold execBrakeTestTorque at he
  refine completes_act he hr ?_
  rw [show (s.tick now).safe.test = some h from ht]
  dsimp only
  rw [show (s.tick now).testCurrent h.ch = some v from hv]
  dsimp only
  have hgo : ¬ (h.phase ≠ 1 ∨ (!decide ((s.tick now).sparam pBkItest h.ch ≤ v)) = true ∨
      h.at_ + 5 * secU < (s.tick now).now) := by
    rw [decide_eq_true (show (s.tick now).sparam pBkItest h.ch ≤ v from hi)]
    exact not_or.2 ⟨not_not.2 hph, not_or.2 ⟨Bool.false_ne_true, not_lt.2 hdue⟩⟩
  rw [if_neg hgo, State.safe_keep rfl, keep_now]
  rfl

/-! The end (R303, R304) -/

theorem State.Within.now {p : Parts} {s t : State} (h : State.Within p s t) : t.now = s.now := by
  rw [h, keepCyc, keep_now]

/-- The registers of the safety functions are none of the log's, and none of the hint's. -/
theorem FldAt.offLog_of_safety {f : FldAt} (h : 0x8000000 ≤ f.reg.addr ∧ f.reg.addr < 0xC000000) : f.OffLog :=
  ⟨.inl (h.2.trans (by decide)).ne, .inl (h.2.trans (by decide)).ne, .inl (h.2.trans (by decide)).ne,
    .inl ((show 0x420 < 0x8000000 by decide).trans_le h.1).ne'⟩

theorem safvBk_addr {n : Nat} (hn : n < 8) : 0x8000200 ≤ (R.SAFV_BK n).addr ∧ (R.SAFV_BK n).addr < 0x8000240 := by
  show 0x8000200 ≤ 0x8000200 + n * 0x8 ∧ 0x8000200 + n * 0x8 < 0x8000240
  omega

/-- A test that ends without a brake fault restores, shows its result and says so in the log. -/
theorem State.endTest_ends (s : State) {h : HoldTest} (hch : h.ch < 8) {result : Nat} (hres : result ≠ 2)
    (hw : result < 2 ^ 4) {u : State} (hu : u = s.endTest h result) :
    u.safe = { s.safe with test := some { h with phase := 3, at_ := s.now }, lastTest := h.ch } ∧
      u.get (R.SAFV_BK.TEST h.ch) = result ∧
      ∀ s₀ : State, s.get R.LOG_CFG.MINSEV = s₀.get R.LOG_CFG.MINSEV → s₀.Logs L.BRAKE_TEST 4 h.ch u := by
  obtain ⟨hlo, hhi⟩ := safvBk_addr hch
  unfold State.endTest at hu
  extract_lets _ v _ w x at hu
  have hmin : w.get R.LOG_CFG.MINSEV = s.get R.LOG_CFG.MINSEV := by
    have hne : R.LOG_CFG.MINSEV.reg.addr ≠ (R.SAFV_BK h.ch).addr := (hhi.trans (by decide)).ne'
    rw [State.get_setSafe, State.get_put_ne _ _ (.inl hne), State.get_put_ne _ _ (.inl hne)]
  rw [hu, show x = w from if_neg hres]
  refine ⟨?_, ?_, fun s₀ h₀ => State.logs_log1 s₀ _ _ _ _ _ _ (hmin.trans h₀)⟩
  · rw [State.log1_safe]
    rfl
  · rw [State.get_log1 _ _ _ _ _ _ (FldAt.offLog_of_safety ⟨(Nat.le_trans (by decide) hlo), hhi.trans (by decide)⟩),
      State.get_setSafe, State.get_put _ _ _ (show 10 + 4 ≤ 32 by decide)]
    exact Nat.mod_eq_of_lt hw

theorem brakeTestNoTorque_ends (now : Nat) {h : HoldTest} {s : State} (hr : s.Running) (ht : s.safe.test = some h)
    (hph : h.phase = 1) (hch : h.ch < 8) (hdue : h.at_ + 5 * secU ≤ max s.now now) :
    Completes (.brakeTestNoTorque now) s fun t => t.safe.test.map (·.phase) = some 3 ∧
      t.get (R.SAFV_BK.TEST h.ch) = 3 ∧ s.Logs L.BRAKE_TEST 4 h.ch t := by
  have he : exec (.brakeTestNoTorque now) s = execBrakeTestNoTorque now s := rfl
  unfold execBrakeTestNoTorque at he
  refine completes_act he hr ?_
  have hgo : ¬ (h.phase ≠ 1 ∨ (s.tick now).now < h.at_ + 5 * secU) := not_or.2 ⟨not_not.2 hph, not_lt.2 hdue⟩
  rw [show (s.tick now).safe.test = some h from ht]
  dsimp only
  rw [if_neg hgo]
  obtain ⟨hsafe, htest, hlog⟩ := (s.tick now).endTest_ends hch (result := 3) (by decide) (by decide) rfl
  rw [State.safe_keep rfl, State.get_keep rfl, hsafe]
  exact ⟨rfl, htest, State.logs_keep rfl rfl (hlog s rfl)⟩

theorem State.clearBk_bk (s : State) (n f : Nat) : (s.clearBk n f).bk n =
    { s.bk n with faults := clearBit (s.bk n).faults f, acked := clearBit (s.bk n).acked f } := by
  rw [State.clearBk, State.bk_showBk, State.bk_setBk]

theorem State.clearBk_test (s : State) (n f : Nat) : (s.clearBk n f).safe.test = s.safe.test := by
  rw [State.clearBk, State.showBk_safe]
  rfl

/-- A pass is noted and clears the faults of a failed and of a missing test. -/
theorem State.passed_marks (s : State) {n : Nat} {u : State}
    (hu : u = ((s.setBk n { s.bk n with passAt := s.now, due := false, overdue := false }).clearBk n 7).clearBk n 9) :
    (u.bk n).passAt = s.now ∧ (u.bk n).due = false ∧ hasBit (u.bk n).faults 9 = false ∧ u.safe.test = s.safe.test ∧
      u.log = s.log ∧ ∀ {f : FldAt}, f.OffShown n → u.get f = s.get f := by
  have hbk := congrArg (State.bk · n) hu
  dsimp only at hbk
  rw [State.clearBk_bk, State.clearBk_bk, State.bk_setBk] at hbk
  rw [hbk]
  refine ⟨rfl, rfl, hasBit_clearBit .., ?_, ?_, fun hf => ?_⟩
  · rw [hu, State.clearBk_test, State.clearBk_test]
    rfl
  · rw [hu, (State.clearBk_within ..).log rfl, (State.clearBk_within ..).log rfl]
    rfl
  · rw [hu, State.clearBk_get _ hf, State.clearBk_get _ hf, State.get_setBk]

theorem brakeTestHoldEnd_passes (now : Nat) {h : HoldTest} {s : State} (hr : s.Running) (ht : s.safe.test = some h)
    (hph : h.phase = 2) (hch : h.ch < 8) (hdue : h.at_ + s.sparam pBkThold h.ch * msU ≤ max s.now now) :
    Completes (.brakeTestHoldEnd now) s fun t => t.safe.test.map (·.phase) = some 3 ∧
      t.get (R.SAFV_BK.TEST h.ch) = 1 ∧ (t.bk h.ch).passAt = t.now ∧ (t.bk h.ch).due = false ∧
      hasBit (t.bk h.ch).faults 9 = false := by
  have he : exec (.brakeTestHoldEnd now) s = execBrakeTestHoldEnd now s := rfl
  unfold execBrakeTestHoldEnd at he
  refine completes_act he hr ?_
  have hgo : ¬ (h.phase ≠ 2 ∨ (s.tick now).now < h.at_ + (s.tick now).sparam pBkThold h.ch * msU) :=
    not_or.2 ⟨not_not.2 hph, not_lt.2 hdue⟩
  rw [show (s.tick now).safe.test = some h from ht]
  dsimp only
  rw [if_neg hgo]
  obtain ⟨hsafe, htest, -⟩ := (s.tick now).endTest_ends hch (result := 1) (by decide) (by decide) rfl
  have hnow : ((s.tick now).endTest h 1).now = (s.tick now).now := (State.endTest_within ..).now
  generalize (s.tick now).endTest h 1 = u at hsafe htest hnow ⊢
  obtain ⟨hpass, hdue', hfault, htest', -, hget⟩ := u.passed_marks (n := h.ch) rfl
  rw [State.safe_keep rfl, State.get_keep rfl, State.bk_keep rfl, keep_now]
  refine ⟨?_, ?_, hpass.trans hnow, hdue', hfault⟩
  · rw [htest', hsafe]
    rfl
  · rw [hget (.inr ⟨rfl, show 10 ≤ 10 by decide⟩), htest]

theorem State.noTest_ends (s : State) {h : HoldTest} (ht : s.safe.test = some h) :
    (s.noTest.driveBk h.ch).safe.test = none ∧ s.noTest.get (R.SAFV_BK.TESTING h.ch) = 0 := by
  have hu : s.noTest = ((s.setSafe { s.safe with test := none }).put (R.SAFV_BK.TESTING h.ch) 0).put
      (R.SAFV_BK.TORQUE_REQ h.ch) 0 := by
    rw [State.noTest, ht]
  constructor
  · rw [State.driveBk, State.showBk_safe, hu]
    rfl
  · have hne : (R.SAFV_BK.TESTING h.ch).Apart (R.SAFV_BK.TORQUE_REQ h.ch) :=
      .inr ⟨rfl, .inl (show 14 + 1 ≤ 15 by decide)⟩
    rw [hu, State.get_put_ne _ _ hne, State.get_put _ _ _ (show 14 + 1 ≤ 32 by decide), Nat.zero_mod]

theorem brakeTestRestore_ends (now : Nat) {h : HoldTest} {v : Nat} {s : State} (hr : s.Running)
    (ht : s.safe.test = some h) (hph : h.phase = 3) (hv : s.testCurrent h.ch = some v)
    (hi : 2 * v < s.sparam pBkItest h.ch) :
    Completes (.brakeTestRestore now) s fun t => t.safe.test = none ∧ t.get (R.SAFV_BK.TESTING h.ch) = 0 := by
  have he : exec (.brakeTestRestore now) s = execBrakeTestRestore now s := rfl
  unfold execBrakeTestRestore at he
  refine completes_act he hr ?_
  rw [show (s.tick now).safe.test = some h from ht]
  dsimp only
  rw [show (s.tick now).testCurrent h.ch = some v from hv]
  dsimp only
  have hgo : ¬ (h.phase ≠ 3 ∨ (!decide (2 * v < (s.tick now).sparam pBkItest h.ch)) = true) := by
    rw [decide_eq_true (show 2 * v < (s.tick now).sparam pBkItest h.ch from hi)]
    exact not_or.2 ⟨not_not.2 hph, Bool.false_ne_true⟩
  rw [if_neg hgo, State.safe_keep rfl, State.get_keep rfl, State.driveBk_get _ (.inr ⟨rfl, show 10 ≤ 14 by decide⟩)]
  exact (s.tick now).noTest_ends ht

/-! When a test falls due (R304) -/

theorem testDue_logs (now : Nat) {n : Fin 8} {s : State} (hr : s.Running) (ht : s.sparam pBkTbt n ≠ 0)
    (hd : (s.bk n).due = false) (hdue : s.dueAt n ≤ max s.now now) :
    Completes (.testDue now n) s fun t => (t.bk n).due = true ∧ s.Logs L.TEST_DUE 4 n t := by
  have he : exec (.testDue now n) s = execTestDue now n s := rfl
  unfold execTestDue at he
  refine completes_act he hr ?_
  have hgo : ¬ ((s.tick now).sparam pBkTbt n = 0 ∨ ((s.tick now).bk n).due = true ∨
      (s.tick now).now < (s.tick now).dueAt n) :=
    not_or.2 ⟨ht, not_or.2 ⟨fun h => Bool.false_ne_true (hd.symm.trans h), not_lt.2 hdue⟩⟩
  rw [if_neg hgo, State.bk_keep rfl, State.bk_congr (congrArg SafeSt.bk (State.log1_safe ..)), State.bk_setBk]
  exact ⟨rfl, State.logs_keep rfl rfl (State.logs_log1 s _ _ _ _ _ _ rfl)⟩

theorem testGraceExpiry_marks (now : Nat) {n : Fin 8} {s : State} (hr : s.Running) (hd : (s.bk n).due = true)
    (hdue : s.dueAt n + s.sparam pBkGrace n * 3600 * secU ≤ max s.now now) :
    Completes (.testGraceExpiry now n) s fun t => (t.bk n).overdue = true := by
  have he : exec (.testGraceExpiry now n) s = execTestGraceExpiry now n s := rfl
  unfold execTestGraceExpiry at he
  refine completes_act he hr ?_
  have hgo : ¬ ((!((s.tick now).bk n).due) = true ∨
      (s.tick now).now < (s.tick now).dueAt n + (s.tick now).sparam pBkGrace n * 3600 * secU) := by
    rw [show ((s.tick now).bk n).due = true from hd]
    exact not_or.2 ⟨Bool.false_ne_true, not_lt.2 hdue⟩
  rw [if_neg hgo, State.bk_keep rfl, State.bk_setBk]

/-- Settles O27, by the lemma of each event. -/
theorem holdingTestEventsComplete : Obligations.HoldingTestEventsComplete := by
  unfold Obligations.HoldingTestEventsComplete
  refine ⟨?_, ?_, ?_, ?_, ?_, ?_, ?_⟩
  · intro now h s hr ht hph hdue
    exact brakeTestEngage_asks now hr ht hph hdue
  · intro now h v s hr ht hph hv hi hdue
    exact brakeTestTorque_holds now hr ht hph hv hi hdue
  · intro now h s hr ht hph hch hdue
    exact brakeTestNoTorque_ends now hr ht hph hch hdue
  · intro now h s hr ht hph hch hdue
    exact brakeTestHoldEnd_passes now hr ht hph hch hdue
  · intro now h v s hr ht hph _ hv hi
    exact brakeTestRestore_ends now hr ht hph hv hi
  · intro now n s hr ht hd hdue
    exact testDue_logs now hr ht hd hdue
  · intro now n s hr hd hdue
    exact testGraceExpiry_marks now hr hd hdue

end Sys2Proof.Machine
end

section
/-! PROOF. Safe inputs, the gaps of their test signals and acknowledges (R287 to R293). -/
namespace Sys2Proof.Machine

/-! Inputs (R287, R288) -/

/-- A bit that is written into a mask reads as written. -/
theorem hasBit_writeBit (m n : Nat) (b : Bool) : hasBit (clearBit m n + if b then 2 ^ n else 0) n = b := by
  cases b
  case false => exact hasBit_clearBit m n
  case true => exact hasBit_toggle (on := true) (by rw [hasBit_clearBit]; decide)

theorem safeInputFilter_reads (now : Nat) {i : Fin 16} {ch : Fin 2} {level : Bool} {unit : Fin 2} {since : Nat} {s : State}
    (hr : s.Running) (hon : s.siOn i = true) (hheld : since + s.sparam pSiFilt i * 250 * usU ≤ max s.now now)
    (hgap : s.sparam (pSiTsa + ch.val) i ≠ 0 → 300 * usU ≤ (s.tick now).gapPhase (s.sparam (pSiTsa + ch.val) i - 1)) :
    Completes (.safeInputFilter now i ch level unit since) s fun t =>
      hasBit ((if unit.val = 0 then t.safe.sp else t.safe.kp).input i).lev ch = level := by
  have he : exec (.safeInputFilter now i ch level unit since) s = execSafeInputFilter now i ch level unit since s := rfl
  unfold execSafeInputFilter at he
  refine completes_act he hr ?_
  extract_lets src f
  have hf (u : SafeUnit) : hasBit ((f u).input i).lev ch = level := by
    unfold f
    rw [SafeUnit.input_setInput]
    exact hasBit_writeBit ..
  clear_value f
  have hgo : ¬ ((!(s.tick now).siOn i) = true ∨ (s.tick now).now < since + (s.tick now).sparam pSiFilt i * 250 * usU ∨
      (src ≠ 0 ∧ (s.tick now).gapPhase (src - 1) < 300 * usU)) := by
    rw [show (s.tick now).siOn i = true from hon]
    exact not_or.2 ⟨Bool.false_ne_true, not_or.2 ⟨not_lt.2 hheld, fun h => not_lt.2 (hgap h.1) h.2⟩⟩
  rw [if_neg hgo, State.safe_keep rfl]
  by_cases hu : unit.val = 0
  · rw [if_pos hu, if_pos hu]
    exact hf _
  · rw [if_neg hu, if_neg hu]
    exact hf _

/-! Test gaps (R287) -/

/-- The gap check of input `i`: source `k` is off, and the channels of `on` read on. -/
def State.gapFault (k : Nat) (on : List Nat) (s : State) (i : Nat) : State :=
  let hit (ch : Nat) : Bool := s.sparam (pSiTsa + ch) i == k + 1 && on.contains (2 * i + ch)
  if !s.siOn i || !(hit 0 || hit 1) || (s.safe.sp.input i).st == 3 then s
  else
    let s := s.bothUnits fun u => u.setInput i { u.input i with test := true }
    s.log1 L.SI_TEST 4 i

/-- What the gap check of an input does to the configuration and to the inputs of both units. -/
theorem State.gapFault_safe (k : Nat) (on : List Nat) (s : State) (i : Nat) : s.gapFault k on i = s ∨
    (s.gapFault k on i).safe = { s.safe with
      sp := s.safe.sp.setInput i { s.safe.sp.input i with test := true }
      kp := s.safe.kp.setInput i { s.safe.kp.input i with test := true } } := by
  unfold State.gapFault
  extract_lets hit u
  split
  · exact .inl rfl
  · right
    rw [State.log1_safe]
    rfl

/-- An input that the gap check finds on is marked in both units. -/
theorem State.gapFault_marks {k : Nat} {on : List Nat} {s : State} {i : Nat} {ch : Fin 2} (hon : s.siOn i = true)
    (hsrc : s.sparam (pSiTsa + ch.val) i = k + 1) (hread : on.contains (2 * i + ch.val) = true)
    (hst : (s.safe.sp.input i).st ≠ 3) : ((s.gapFault k on i).safe.sp.input i).test = true ∧
      ((s.gapFault k on i).safe.kp.input i).test = true := by
  unfold State.gapFault
  extract_lets hit u
  have hhit : hit ch.val = true := by
    unfold hit
    rw [hsrc, hread, beq_self_eq_true, Bool.and_self]
  have hany : (hit 0 || hit 1) = true := by
    obtain h | h : ch.val = 0 ∨ ch.val = 1 := by omega
    · rw [← congrArg hit h, hhit, Bool.true_or]
    · rw [← congrArg hit h, hhit, Bool.or_true]
  have hgo : ¬ (!s.siOn i || !(hit 0 || hit 1) || (s.safe.sp.input i).st == 3) = true := by
    rw [hon, hany, beq_false_of_ne hst]
    decide
  rw [if_neg hgo, State.log1_safe]
  unfold u
  rw [State.bothUnits_safe]
  exact ⟨congrArg SiSt.test (SafeUnit.input_setInput ..), congrArg SiSt.test (SafeUnit.input_setInput ..)⟩

/-- Marking an input leaves the marks that stand, and every state. -/
theorem SafeUnit.mark_keeps (u : SafeUnit) (i j : Nat) :
    ((u.setInput j { u.input j with test := true }).input i).st = (u.input i).st ∧
      ((u.input i).test = true → ((u.setInput j { u.input j with test := true }).input i).test = true) := by
  by_cases h : i = j
  · rw [h, SafeUnit.input_setInput]
    exact ⟨rfl, fun _ => rfl⟩
  · rw [SafeUnit.input_setInput_ne _ _ h]
    exact ⟨rfl, id⟩

/-- The gap checks of all the inputs mark one that reads on from the source that is off. -/
theorem State.gapFaults_mark {k : Nat} {on : List Nat} {s : State} {i : Fin 16} {ch : Fin 2} (hon : s.siOn i = true)
    (hsrc : s.sparam (pSiTsa + ch.val) i = k + 1) (hread : on.contains (2 * i.val + ch.val) = true)
    (hst : (s.safe.sp.input i).st ≠ 3) : ((s.each inputs16 (State.gapFault k on)).safe.sp.input i).test = true ∧
      ((s.each inputs16 (State.gapFault k on)).safe.kp.input i).test = true := by
  refine State.each_establishes_under (f := State.gapFault k on)
    (inv := fun u => u.safe.cfg = s.safe.cfg ∧ (u.safe.sp.input i).st ≠ 3)
    (p := fun u => (u.safe.sp.input i).test = true ∧ (u.safe.kp.input i).test = true)
    (fun u j hu => ?_) (fun u hu => ?_) (fun u j hu => ?_) ⟨rfl, hst⟩ (mem_inputs16 i)
  · rcases u.gapFault_safe k on j with h | h
    · rw [h]
      exact hu
    · rw [h]
      exact ⟨hu.1, ((u.safe.sp.mark_keeps i j).1.trans_ne hu.2)⟩
  · have hpar (no : Nat) : u.sparam no i = s.sparam no i := by
      rw [State.sparam, hu.1, State.sparam]
    refine State.gapFault_marks (ch := ch) ?_ ((hpar _).trans hsrc) hread hu.2
    rw [State.siOn, hpar]
    exact hon
  · rcases u.gapFault_safe k on j with h | h
    · rw [h]
      exact hu
    · rw [h]
      exact ⟨(u.safe.sp.mark_keeps i j).2 hu.1, (u.safe.kp.mark_keeps i j).2 hu.2⟩

theorem execSitGapCheck_eq (now : Nat) (k : Fin 4) (on : List Nat) (s : State) : execSitGapCheck now k on s =
    act safeParts now s fun s => if s.gapPhase k < 150 * usU ∨ 200 * usU ≤ s.gapPhase k ∨ s.sys.fieldFault then s
      else s.each inputs16 (State.gapFault k on) := rfl

theorem sitGapCheck_marks (now : Nat) {k : Fin 4} {on : List Nat} {i : Fin 16} {ch : Fin 2} {s : State} (hr : s.Running)
    (hlo : 150 * usU ≤ (s.tick now).gapPhase k) (hhi : (s.tick now).gapPhase k < 200 * usU)
    (hf : s.sys.fieldFault = false) (hon : s.siOn i = true) (hsrc : s.sparam (pSiTsa + ch.val) i = k.val + 1)
    (hread : on.contains (2 * i.val + ch.val) = true) (hst : (s.safe.sp.input i).st ≠ 3) :
    Completes (.sitGapCheck now k on) s fun t =>
      (t.safe.sp.input i).test = true ∧ (t.safe.kp.input i).test = true := by
  have he : exec (.sitGapCheck now k on) s = execSitGapCheck now k on s := rfl
  rw [execSitGapCheck_eq] at he
  refine completes_act he hr ?_
  have hgo : ¬ ((s.tick now).gapPhase k < 150 * usU ∨ 200 * usU ≤ (s.tick now).gapPhase k ∨
      (s.tick now).sys.fieldFault = true) :=
    not_or.2 ⟨not_lt.2 hlo, not_or.2 ⟨not_le.2 hhi, fun h => Bool.false_ne_true (hf.symm.trans h)⟩⟩
  rw [if_neg hgo, State.safe_keep rfl]
  exact State.gapFaults_mark (s := s.tick now) hon hsrc hread hst

theorem sitOvl_shows (now : Nat) {k : Fin 4} {low : Bool} {s : State} (hr : s.Running)
    (hk : hasBit s.safe.sitOvl k = !low) : Completes (.sitOvl now k low) s fun t =>
      hasBit t.safe.sitOvl k = low ∧ (low = true → s.Logs L.SIT_OVL 4 k t) := by
  have he : exec (.sitOvl now k low) s = execSitOvl now k low s := rfl
  unfold execSitOvl at he
  refine completes_act he hr ?_
  have hgo : ¬ low = hasBit (s.tick now).safe.sitOvl k := fun h => (Bool.eq_not_self low).1 (h.trans hk)
  rw [if_neg hgo, State.safe_keep rfl]
  cases low
  case true =>
    rw [if_pos rfl, State.log1_safe, State.setSafe_safe]
    refine ⟨hasBit_toggle (on := true) ?_, fun _ => State.logs_keep rfl rfl (State.logs_log1 s _ _ _ _ _ _ rfl)⟩
    rw [show hasBit (s.tick now).safe.sitOvl k = false from hk]
    exact Bool.false_ne_true
  case false =>
    rw [if_neg Bool.false_ne_true]
    exact ⟨hasBit_clearBit .., fun h => absurd h Bool.false_ne_true⟩

/-! Discrepancy (R290) -/

/-- The registers of input `i` follow the safety processor's unit. -/
def State.showInput (s : State) (i : Nat) : State :=
  let x := s.safe.sp.input i
  let on := s.siOn i
  let s := ((s.put (R.SAFV_SI.STATE i) (if on then x.st else 1)).put (R.SAFV_SI.FCLASS i) (if on && x.st == 3 then x.fcls else 0))
  let s := (s.putBit (R.SAFV_SI.SAFE_A i) (on && s.chanSafe i 0 x.lev)).putBit (R.SAFV_SI.SAFE_B i) (on && s.chanSafe i 1 x.lev)
  (s.putBit (R.SAFV_SI.EN i) on).put (R.SAFV_SI.DCNT i) (min 8191 x.cnt)

theorem State.showInputs_eq (s : State) : s.showInputs = s.each inputs16 State.showInput := rfl

theorem State.showInputs_safe (s : State) : s.showInputs.safe = s.safe := (State.showInputs_within s).safe rfl

theorem State.showInput_safe (s : State) (i : Nat) : (s.showInput i).safe = s.safe := by
  unfold State.showInput State.putBit
  simp only [State.put_safe]

theorem State.showInput_get (s : State) {i : Nat} {f : FldAt} (h : f.reg.addr ≠ (R.SAFV_SI i).addr) :
    (s.showInput i).get f = s.get f := by
  have hput (u : State) (g : FldAt) (hg : g.reg = R.SAFV_SI i) (v : Nat) : (u.put g v).get f = u.get f :=
    u.get_put_ne v (.inl (hg ▸ h))
  unfold State.showInput State.putBit
  extract_lets x on u v
  rw [hput _ _ rfl, hput _ _ rfl, hput _ _ rfl, hput _ _ rfl, hput _ _ rfl, hput _ _ rfl]

/-- The state of an enabled input shows. -/
theorem State.showInput_state (s : State) {i : Nat} (hon : s.siOn i = true) :
    (s.showInput i).get (R.SAFV_SI.STATE i) = (s.safe.sp.input i).st % 2 ^ 2 := by
  have hput (u : State) (g : FldAt) (hg : g.reg = R.SAFV_SI i) (hlo : 2 ≤ g.lo) (v : Nat) :
      (u.put g v).get (R.SAFV_SI.STATE i) = u.get (R.SAFV_SI.STATE i) :=
    u.get_put_ne v (.inr ⟨hg.symm, .inl hlo⟩)
  unfold State.showInput State.putBit
  extract_lets x on u v
  rw [hput _ _ rfl (show 2 ≤ 16 by decide), hput _ _ rfl (show 2 ≤ 6 by decide), hput _ _ rfl (show 2 ≤ 5 by decide),
    hput _ _ rfl (show 2 ≤ 4 by decide), hput _ _ rfl (show 2 ≤ 2 by decide),
    State.get_put _ _ _ (show 0 + 2 ≤ 32 by decide),
    show on = true from hon, if_pos rfl]
  rfl

/-- After the registers follow, an enabled input shows its state. -/
theorem State.showInputs_state (s : State) {i : Fin 16} (hon : s.siOn i = true) :
    s.showInputs.get (R.SAFV_SI.STATE i) = (s.safe.sp.input i).st % 2 ^ 2 := by
  have hshow (u : State) (hu : u.safe = s.safe) :
      (u.showInput i).get (R.SAFV_SI.STATE i) = (s.safe.sp.input i).st % 2 ^ 2 := by
    have hon' : u.siOn i = true := by
      rw [State.siOn, State.sparam, hu]
      exact hon
    rw [u.showInput_state hon', hu]
  rw [State.showInputs_eq]
  refine (State.each_establishes_under (f := State.showInput) (inv := fun u => u.safe = s.safe)
    (p := fun u => u.safe = s.safe ∧ u.get (R.SAFV_SI.STATE i) = (s.safe.sp.input i).st % 2 ^ 2)
    (fun u j hu => ?_) (fun u hu => ?_) (fun u j hu => ?_) rfl (mem_inputs16 i)).2
  · rw [State.showInput_safe, hu]
  · exact ⟨by rw [State.showInput_safe, hu], hshow u hu⟩
  · refine ⟨by rw [State.showInput_safe, hu.1], ?_⟩
    by_cases hj : j = i.val
    · rw [hj]
      exact hshow u hu.1
    · have hne : (R.SAFV_SI i).addr ≠ (R.SAFV_SI j).addr := by
        show 0x8000100 + i.val * 0x4 ≠ 0x8000100 + j * 0x4
        omega
      rw [u.showInput_get hne]
      exact hu.2

theorem State.showInputs_get (s : State) {f : FldAt} (h : f.reg.addr < 0x8000100 ∨ 0x8000140 ≤ f.reg.addr) :
    s.showInputs.get f = s.get f := by
  rw [State.showInputs_eq]
  refine State.each_keeps_of_mem (fun s => s.get f) (fun s i hi => s.showInput_get ?_) s
  have := List.mem_range.1 hi
  show f.reg.addr ≠ 0x8000100 + i * 0x4
  omega

theorem siDiscrepancy_faults (now : Nat) {i : Fin 16} {s : State} (hr : s.Running) (hon : s.siOn i = true)
    (hst : (s.safe.sp.input i).st = 1) (hcnt : s.sparam pSiDt i + 1 ≤ (s.safe.sp.input i).cnt) :
    Completes (.siDiscrepancy now i) s fun t => (t.safe.sp.input i).st = 3 ∧ (t.safe.sp.input i).fcls = 1 ∧
      t.get (R.SAFV_SI.STATE i) = 3 ∧ s.Logs L.SI_DISCREPANCY 4 i t := by
  have he : exec (.siDiscrepancy now i) s = execSiDiscrepancy now i s := rfl
  unfold execSiDiscrepancy at he
  refine completes_act he hr ?_
  extract_lets lim due f log t
  have hdue : due (s.tick now).safe.sp = true := by
    show ((s.siOn i && (s.safe.sp.input i).st == 1 && decide (s.sparam pSiDt i + 1 ≤ (s.safe.sp.input i).cnt)) = true)
    rw [hon, hst, decide_eq_true hcnt]
    rfl
  have hlog : log = true := by
    unfold log
    rw [hdue, Bool.true_or]
  have hf : (f (s.tick now).safe.sp).input i = { s.safe.sp.input i with st := 3, fcls := 1 } := by
    unfold f
    rw [if_pos hdue, SafeUnit.input_setInput]
    rfl
  have hsafe : t.safe = ((s.tick now).bothUnits f).safe := State.showInputs_safe _
  have hstate := ((s.tick now).bothUnits f).showInputs_state (i := i) hon
  have hmin : t.get R.LOG_CFG.MINSEV = s.get R.LOG_CFG.MINSEV := State.showInputs_get _ (.inr (by decide))
  rw [State.bothUnits_safe] at hsafe hstate
  have hoff : (R.SAFV_SI.STATE i).OffLog := FldAt.offLog_of_safety (by
    show 0x8000000 ≤ 0x8000100 + i.val * 0x4 ∧ 0x8000100 + i.val * 0x4 < 0xC000000
    omega)
  rw [if_pos hlog, State.safe_keep rfl, State.get_keep rfl, State.get_log1 _ _ _ _ _ _ hoff, State.log1_safe, hsafe]
  refine ⟨congrArg SiSt.st hf, congrArg SiSt.fcls hf, hstate.trans ?_,
    State.logs_keep rfl rfl (State.logs_log1 s _ _ _ _ _ _ hmin)⟩
  exact congrArg (fun x : SiSt => x.st % 2 ^ 2) hf

/-! Acknowledges (R291, R293) -/

/-- What an acknowledge does to input `i` of a unit, with the mask of the inputs it acted on. -/
def State.ackInput (s : State) (r : SafeUnit × Nat) (i : Nat) : SafeUnit × Nat :=
  let x := r.1.input i
  if x.st = 3 ∧ s.chanSafe i 0 x.lev ∧ s.chanSafe i 1 x.lev then
    (r.1.setInput i { x with st := 1, fcls := 0, cnt := 0 }, r.2 + 2 ^ i)
  else if x.st = 2 then (r.1.setInput i { x with st := 0 }, r.2 + 2 ^ i)
  else r

theorem State.ackInputs_eq (s : State) (u : SafeUnit) :
    s.ackInputs u = (inputs16.filter s.siOn).foldl s.ackInput (u, 0) := rfl

theorem State.ackInput_other (s : State) (r : SafeUnit × Nat) {i j : Nat} (h : i ≠ j) :
    (s.ackInput r j).1.input i = r.1.input i := by
  unfold State.ackInput
  extract_lets x
  split
  · exact SafeUnit.input_setInput_ne _ _ h
  split
  · exact SafeUnit.input_setInput_ne _ _ h
  · rfl

/-- An input that waits for its acknowledge runs, and one that runs goes on. -/
theorem State.ackInput_runs (s : State) (r : SafeUnit × Nat) (i : Nat) (h : (r.1.input i).st = 2 ∨ (r.1.input i).st = 0) :
    ((s.ackInput r i).1.input i).st = 0 := by
  unfold State.ackInput
  extract_lets x
  have hnot3 : ¬ x.st = 3 := fun h3 => by
    have : x.st = 2 ∨ x.st = 0 := h
    omega
  rw [if_neg fun h3 => hnot3 h3.1]
  rcases h with h | h
  · rw [if_pos h, SafeUnit.input_setInput]
  · rw [if_neg fun h2 => absurd (h.symm.trans h2) (by decide)]
    exact h

theorem State.ackInputs_runs (s : State) {u : SafeUnit} {i : Fin 16} (hon : s.siOn i = true) (hst : (u.input i).st = 2) :
    ((s.ackInputs u).1.input i).st = 0 := by
  rw [State.ackInputs_eq]
  have hmem : i.val ∈ inputs16.filter s.siOn := List.mem_filter.2 ⟨mem_inputs16 i, hon⟩
  have hwait : (((u, 0) : SafeUnit × Nat).1.input i).st = 2 := hst
  generalize inputs16.filter s.siOn = l at hmem
  generalize ((u, 0) : SafeUnit × Nat) = r at hwait
  induction l generalizing r with
  | nil => exact absurd hmem List.not_mem_nil
  | cons j l ih =>
    rw [List.foldl_cons]
    by_cases hj : i.val = j
    · rw [← hj]
      refine List.foldlRecOn (motive := fun r => (r.1.input i).st = 0) l s.ackInput
        (s.ackInput_runs r i (.inl hwait)) fun r hr k _ => ?_
      by_cases hk : i.val = k
      · rw [← hk]
        exact s.ackInput_runs r i (.inr hr)
      · rw [s.ackInput_other r hk]
        exact hr
    · exact ih ((List.mem_cons.1 hmem).resolve_left hj) _ (by rw [s.ackInput_other r hj]; exact hwait)

/-- The two units. -/
def SafeSt.units (x : SafeSt) : SafeUnit × SafeUnit := (x.sp, x.kp)

theorem SafeSt.units_of_noBk {x y : SafeSt} (h : x.noBk = y.noBk) : x.units = y.units := by
  obtain ⟨-, -, hsp, hkp⟩ := SafeSt.eq_of_noBk h
  rw [SafeSt.units, hsp, hkp, SafeSt.units]

theorem State.clearBk_noBk (s : State) (n f : Nat) : (s.clearBk n f).safe.noBk = s.safe.noBk := by
  rw [State.clearBk, State.showBk_safe]
  rfl

theorem State.ackBk_noBk (s : State) (n : Nat) : (s.ackBk n).safe.noBk = s.safe.noBk := by
  unfold State.ackBk
  extract_lets x held u _ v
  have hu : u.safe.noBk = s.safe.noBk := State.each_keeps (fun s => s.safe.noBk) (fun s f => by
    split
    · exact s.clearBk_noBk n f
    · rfl) s _
  have hv : v.safe.noBk = u.safe.noBk := by
    unfold v
    split
    · exact State.clearBk_noBk ..
    · rfl
  exact hv.trans hu

theorem State.setMode_units (s : State) (m : Nat) : (s.setMode m).safe.units = s.safe.units := by
  unfold State.setMode
  extract_lets old _ u
  split
  · rfl
  · rw [State.log1_safe]
    rfl

theorem State.toService_units (s : State) : s.toService.safe.units = s.safe.units := by
  unfold State.toService
  split
  · rfl
  split
  next r u hd =>
  extract_lets mid v
  have hu : u.safe = s.safe := by
    rw [show u = s.draw.2 by rw [hd]]
    exact (State.Within.ofOnly s.draw_only).safe rfl
  have hv : v.safe = u.safe := by
    unfold v
    split
    · exact (State.logChange_within ..).safe rfl
    · rfl
  rw [State.setMode_units, hv, hu]

theorem sackRelease_runs (now : Nat) {i : Fin 16} {s : State} (hr : s.Running) (hack : s.safe.sp.acks = true)
    (hon : s.siOn i = true) (hst : (s.safe.sp.input i).st = 2) : Completes (.sackRelease now) s fun t =>
      (t.safe.sp.input i).st = 0 ∧ t.safe.sp.ended = none ∧ t.safe.kp.ended = none := by
  have he : exec (.sackRelease now) s = execSackRelease now s := rfl
  unfold execSackRelease at he
  refine completes_act he hr ?_
  rw [State.safe_keep rfl]
  extract_lets a b
  have hruns : (((s.tick now).ackInputs s.safe.sp).1.input i).st = 0 := State.ackInputs_runs (s.tick now) hon hst
  have ha : a = true := hack
  have hgo : ¬ (!a && !b) = true := by
    rw [ha]
    exact Bool.false_ne_true
  rw [if_neg hgo, if_pos ha]
  change (((s.tick now).ackInputs (s.tick now).safe.sp).1.input i).st = 0 at hruns
  generalize (s.tick now).ackInputs (s.tick now).safe.sp = r at hruns ⊢
  obtain ⟨sp, m⟩ := r
  obtain ⟨kp, _⟩ := if b = true then (s.tick now).ackInputs (s.tick now).safe.kp else ((s.tick now).safe.kp, 0)
  dsimp -zeta only
  extract_lets t u bks latched _ v w
  have ht : t.safe.units = ({ sp with ended := none }, { kp with ended := none }) := rfl
  clear_value t
  have hu : u.safe.units = t.safe.units :=
    SafeSt.units_of_noBk (State.each_keeps (fun s => s.safe.noBk) State.ackBk_noBk t chans8)
  clear_value u
  have hv : v.safe.units = u.safe.units := by
    unfold v
    split
    · rfl
    · rfl
  clear_value v
  have hw : w.safe.units = v.safe.units := (State.toService_units _).trans (congrArg SafeSt.units (State.log1_safe ..))
  clear_value w
  rw [if_neg (by rw [ha]; decide), State.safeHint_safe, State.showInputs_safe]
  obtain ⟨hsp, hkp⟩ := Prod.mk.inj (hw.trans (hv.trans (hu.trans ht)))
  rw [hsp, hkp]
  exact ⟨hruns, rfl, rfl⟩

/-! A press that does not end (R292) -/

theorem sackStuck_marks (now : Nat) {s : State} (hr : s.Running) (hs : s.safe.sp.sack = true)
    (hk : s.safe.sp.stuck = false) (hp : 20000 ≤ s.safe.sp.press) : Completes (.sackStuck now) s fun t =>
      t.safe.sp.stuck = true ∧ t.on R.SAFV_STATE.SACK_STUCK = true ∧ s.Logs L.SACK_STUCK 0 0 t := by
  have he : exec (.sackStuck now) s = execSackStuck now s := rfl
  unfold execSackStuck at he
  refine completes_act he hr ?_
  extract_lets due t u
  have hdue : due (s.tick now).safe.sp = true := by
    show ((s.safe.sp.sack && !s.safe.sp.stuck && decide (20000 ≤ s.safe.sp.press)) = true)
    rw [hs, hk, decide_eq_true hp]
    rfl
  have hsp : t.safe.sp.stuck = true := by
    unfold t
    rw [State.bothUnits_safe]
    show (if due (s.tick now).safe.sp = true then _ else _ : SafeUnit).stuck = true
    rw [if_pos hdue]
  have hu : u = (t.put R.SAFV_STATE.SACK_STUCK 1).log1 L.SACK_STUCK := if_pos hdue
  have hgo : ¬ ((!due (s.tick now).safe.sp && !due (s.tick now).safe.kp) = true) := by
    rw [hdue]
    exact Bool.false_ne_true
  have hmin : t.get R.LOG_CFG.MINSEV = s.get R.LOG_CFG.MINSEV := rfl
  have hlog : s.Logs L.SACK_STUCK 0 0 u := by
    rw [hu]
    exact State.logs_log1 s _ _ _ _ _ _ ((State.get_put_ne _ _ (.inl (by decide))).trans hmin)
  have hset : u.on R.SAFV_STATE.SACK_STUCK = true := by
    rw [hu, State.on_log1 _ _ _ _ _ _ (by decide)]
    exact State.on_putBit t _ true (by decide) (by decide)
  have hsafe : u.safe = t.safe := by
    rw [hu, State.log1_safe, State.put_safe]
  rw [if_neg hgo, State.safe_keep rfl, State.on_keep rfl, State.on_safeHint _ _ (by decide), State.safeHint_safe, hsafe]
  exact ⟨hsp, hset, State.logs_keep rfl rfl (State.logs_safeHint hlog _)⟩

theorem sackStuckClear_clears (now : Nat) {s : State} (hr : s.Running) (hoff : 4000 ≤ s.safe.sp.offRun) :
    Completes (.sackStuckClear now) s fun t =>
      t.safe.sp.stuck = false ∧ t.on R.SAFV_STATE.SACK_STUCK = false := by
  have he : exec (.sackStuckClear now) s = execSackStuckClear now s := rfl
  unfold execSackStuckClear at he
  refine completes_act he hr ?_
  extract_lets t
  have hsp : t.safe.sp.stuck = false := by
    unfold t
    rw [State.bothUnits_safe]
    show (if 4000 ≤ s.safe.sp.offRun then _ else _ : SafeUnit).stuck = false
    rw [if_pos hoff]
  clear_value t
  rw [State.safe_keep rfl, State.on_keep rfl, State.on_safeHint _ _ (by decide), State.safeHint_safe,
    State.on_putBit _ _ _ (by decide) (by decide)]
  exact ⟨hsp, hsp⟩

/-- Settles O25, by the lemma of each event. -/
theorem safeInputEventsComplete : Obligations.SafeInputEventsComplete := by
  unfold Obligations.SafeInputEventsComplete
  refine ⟨?_, ?_, ?_, ?_, ?_, ?_, ?_⟩
  · intro now i ch level unit since s hr hon hheld hgap
    exact safeInputFilter_reads now hr hon hheld hgap
  · intro now k on i ch s hr hlo hhi hf hon hsrc hread hst
    exact sitGapCheck_marks now hr hlo hhi hf hon hsrc hread hst
  · intro now k low s hr hk
    exact sitOvl_shows now hr hk
  · intro now i s hr hon hst hcnt
    exact siDiscrepancy_faults now hr hon hst hcnt
  · intro now i s hr hack hon hst
    exact sackRelease_runs now hr hack hon hst
  · intro now s hr hs hk hp
    exact sackStuck_marks now hr hs hk hp
  · intro now s hr hoff
    exact sackStuckClear_clears now hr hoff

end Sys2Proof.Machine
end

section
/-! PROOF. Zhocy messages, deadlines and status (R305 to R312). -/
namespace Sys2Proof.Machine

/-! What the ports leave -/

/-- A field whose place in its block is none of a count of a port. -/
def FldAt.OffCounts (f : FldAt) : Prop := f.reg.addr % 0x1000 = 0 ∨ 0x200 ≤ f.reg.addr % 0x1000

/-- The ports may count and queue; every other register is as it was. -/
abbrev State.CountKeeps (s t : State) : Prop := State.Keeps FldAt.OffCounts (fun _ => ()) s t

theorem State.CountKeeps.count {s t : State} (h : s.CountKeeps t) {g : FldAt} {p : Nat} (n : Nat)
    (hg : g.reg.addr = 0x7000000 + n + p * 0x1000) (hn : 0 < n ∧ n < 0x200) : s.CountKeeps (t.bump g) :=
  h.put _ fun f hf => .inl (by unfold FldAt.OffCounts at hf; omega)

theorem State.secCheck_countKeeps (s : State) (p : Nat) (sec : Option SecTag) : s.CountKeeps (s.secCheck p sec).1 := by
  have hs : s.CountKeeps s := .refl ..
  unfold State.secCheck
  split
  · split
    · exact hs
    · exact hs.count 0x54 rfl (by decide)
  split
  · exact hs.count 0x144 rfl (by decide)
  extract_lets x
  split
  · exact hs.count 0x144 rfl (by decide)
  split
  · exact hs.count 0x140 rfl (by decide)
  split
  · exact hs.count 0x140 rfl (by decide)
  · extract_lets sas sas' u
    have hu : s.CountKeeps u := hs.setPort p rfl
    exact hu.count 0x148 rfl (by decide)

theorem State.gated_countKeeps (s : State) (rx : Rx) : s.CountKeeps (s.gated rx) := by
  have hs : s.CountKeeps s := .refl ..
  unfold State.gated State.rxGate
  extract_lets p u
  have hu : s.CountKeeps u := hs.count 0x40 rfl (by decide)
  split
  · exact hs
  split
  · exact hs.count 0x48 rfl (by decide)
  split
  · exact hu.count 0x54 rfl (by decide)
  split
  next v ok he =>
  have hv : s.CountKeeps v := by
    have hsec := hu.trans (u.secCheck_countKeeps p rx.eth.sec)
    rwa [he] at hsec
  split
  · exact hv
  split
  · extract_lets w
    have hw : s.CountKeeps w := hv.modPort p fun _ => rfl
    exact hw.count 0x54 rfl (by decide)
  split
  · exact hv.count 0x48 rfl (by decide)
  · exact hv

theorem State.enqueue_countKeeps (s : State) (p : Nat) (i : TxItem) : s.CountKeeps (s.enqueue p i) :=
  ⟨fun _ _ => rfl, fun _ => rfl⟩

theorem State.sendTransit_countKeeps (s : State) (p : Nat) (f : Frame) : s.CountKeeps (s.sendTransit p f) :=
  .ite (State.CountKeeps.count (.refl ..) 0x4C rfl (by decide))
    (.ite (State.CountKeeps.count (.refl ..) 0x50 rfl (by decide)) (s.enqueue_countKeeps ..))

theorem State.sendOwn_countKeeps (s : State) (p : Nat) (f : Frame) : s.CountKeeps (s.sendOwn p f) :=
  .ite (State.CountKeeps.count (.refl ..) 0x4C rfl (by decide)) (s.enqueue_countKeeps ..)

theorem State.receive_countKeeps {s : State} {rx : Rx} {mine : Frame → Bool} {h : State → State}
    (hc : s.consumes rx = true) (hmine : mine rx.frame = true) : (h (s.gated rx)).CountKeeps (s.receive rx mine h) := by
  obtain ⟨hok, hfate⟩ := Bool.and_eq_true_iff.1 hc
  unfold State.receive
  unfold State.gated at *
  generalize s.rxGate rx = r at *
  obtain ⟨u, ok⟩ := r
  dsimp only at hok hfate ⊢
  rw [hok, if_neg (by decide), hmine, if_pos rfl]
  split
  next heq => rw [heq] at hfate; cases hfate
  next heq => rw [heq] at hfate; cases hfate
  · exact .refl ..
  · exact State.sendTransit_countKeeps ..

/-! Registers of a connection -/

/-- A field that the brake channels, the log and the hint leave. -/
def FldAt.OffTest (f : FldAt) : Prop := f.OffBk ∧ f.OffLog

theorem zcSt_offTest {c : Nat} (hc : c < 8) {f : FldAt} (hf : 0x8000300 ≤ f.reg.addr ∧ f.reg.addr < 0x8000318 + c * 0x20) :
    f.OffTest :=
  ⟨.inr (Nat.le_trans (by decide) hf.1), FldAt.offLog_of_safety (by omega)⟩

theorem zc_offCounts {c : Nat} (hc : c < 8) {f : FldAt} (hf : 0x8000300 ≤ f.reg.addr ∧ f.reg.addr < 0x8000318 + c * 0x20) :
    f.OffCounts := .inr (by omega)

theorem State.zc_congr {s t : State} (h : t.safe.zc = s.safe.zc) (c : Nat) : t.zc c = s.zc c := by
  rw [State.zc, h, State.zc]

@[simp] theorem State.zc_setZc (s : State) (c : Nat) (x : ZcSt) : (s.setZc c x).zc c = x := Tbl.get_set_self ..

theorem SafeSt.zc_of_core {x y : SafeSt} (h : x.core = y.core) : x.zc = y.zc := (congrArg SafeSt.zc h :)

theorem State.dropHeld_zc (s : State) (c : Nat) : s.dropHeld.zc c = s.zc c :=
  State.zc_congr (SafeSt.zc_of_core s.dropHeld_core) c

theorem State.sparam_congr {s t : State} (h : t.safe.cfg = s.safe.cfg) (no i : Nat) : t.sparam no i = s.sparam no i := by
  rw [State.sparam, h, State.sparam]

/-- What a message's checks find rests on the configuration, the connection and two of its registers. -/
theorem State.zcRefuses_congr {s t : State} (hsafe : t.safe = s.safe) (c : Nat) (b : List Byte)
    (hinc : t.get (R.SAFV_ZC_ST.INC_CUR c) = s.get (R.SAFV_ZC_ST.INC_CUR c))
    (hseq : t.get (R.SAFV_ZC_SEQ.SEQRX c) = s.get (R.SAFV_ZC_SEQ.SEQRX c)) : t.zcRefuses c b = s.zcRefuses c b := by
  have hzc : t.zc c = s.zc c := State.zc_congr (congrArg SafeSt.zc hsafe) c
  have hcrc (l : List Byte) : t.zcCrc c l = s.zcCrc c l := by
    rw [State.zcCrc, State.sparam_congr (congrArg SafeSt.cfg hsafe), State.zcCrc]
  unfold State.zcRefuses
  simp only [hzc, hcrc, hinc, hseq]

/-! A test that a message asks for (R311) -/

theorem State.startTest_get (s : State) {n : Nat} (hn : n < 8) {f : FldAt} (hf : f.OffBk) :
    (s.startTest n).get f = s.get f := by
  obtain ⟨hlo, hhi⟩ := safvBk_addr hn
  have hne : f.reg.addr ≠ (R.SAFV_BK n).addr := by
    unfold FldAt.OffBk at hf
    omega
  unfold State.startTest
  extract_lets _ u x
  rw [State.showBk_get _ (hf.shown hn), State.get_put_ne _ _ (.inl hne), State.get_setBk, State.get_setSafe]

theorem State.startTest_safe (s : State) (n : Nat) : (s.startTest n).safe.test = some { ch := n, at_ := s.now } ∧
    (s.startTest n).safe.zc = s.safe.zc := by
  unfold State.startTest
  extract_lets _ u x
  rw [State.showBk_safe, State.put_safe]
  exact ⟨rfl, rfl⟩

theorem State.endTest_get (s : State) {h : HoldTest} (hch : h.ch < 8) {result : Nat} (hres : result ≠ 2) {f : FldAt}
    (hf : f.OffTest) : (s.endTest h result).get f = s.get f := by
  obtain ⟨hlo, hhi⟩ := safvBk_addr hch
  have hne : f.reg.addr ≠ (R.SAFV_BK h.ch).addr := by
    have := hf.1
    unfold FldAt.OffBk at this
    omega
  unfold State.endTest
  extract_lets _ v _ w x
  rw [State.get_log1 _ _ _ _ _ _ hf.2, show x = w from if_neg hres, State.get_setSafe, State.get_put_ne _ _ (.inl hne),
    State.get_put_ne _ _ (.inl hne)]

/-- The test bits of a message leave the connections and their registers. -/
theorem State.zcTest_keeps (s : State) (c flags n : Nat) :
    (s.zcTest c flags n).safe.zc = s.safe.zc ∧ ∀ f : FldAt, f.OffTest → (s.zcTest c flags n).get f = s.get f := by
  unfold State.zcTest
  split
  · exact ⟨rfl, fun _ _ => rfl⟩
  next hn =>
  have hn8 : n < 8 := by omega
  extract_lets u
  have hu : u.safe.zc = s.safe.zc ∧ ∀ f : FldAt, f.OffTest → u.get f = s.get f := by
    unfold u
    split
    · exact ⟨(s.startTest_safe n).2, fun f hf => s.startTest_get hn8 hf.1⟩
    · exact ⟨rfl, fun _ _ => rfl⟩
  clear_value u
  split
  next h _ =>
    split
    next hend =>
      have hch : h.ch < 8 := by
        simp only [Bool.and_eq_true, beq_iff_eq] at hend
        omega
      obtain ⟨hsafe, -⟩ := u.endTest_ends hch (result := 6) (by decide) (by decide) rfl
      refine ⟨?_, fun f hf => (u.endTest_get hch (by decide) hf).trans (hu.2 f hf)⟩
      rw [hsafe]
      exact hu.1
    · exact hu
  · exact hu

/-! An accepted message (R308 to R311) -/

theorem beNat_lt (l : List Byte) : beNat l < 256 ^ l.length := by
  induction l using List.reverseRecOn with
  | nil => decide
  | append_singleton l b ih =>
    have hb := b.isLt
    rw [beNat, List.foldl_append, List.foldl_cons, List.foldl_nil, List.length_append, List.length_singleton, Nat.pow_succ]
    change beNat l * 256 + b.toNat < 256 ^ l.length * 256
    omega

theorem length_takePad (n : Nat) (l : List Byte) : (takePad n l).length = n := by
  induction n generalizing l with
  | zero => rfl
  | succ n ih =>
    cases l with
    | nil => exact congrArg (· + 1) (ih [])
    | cons b l => exact congrArg (· + 1) (ih l)

theorem beNat_slice_two (b : List Byte) (i : Nat) : beNat (slice b i 2) < 2 ^ 16 := by
  have h := beNat_lt (slice b i 2)
  rwa [slice, length_takePad] at h

/-- What a connection keeps of an accepted message: its incarnation, its sequence number and the next deadline. -/
def State.zcTake (s : State) (c : Nat) (b : List Byte) : State :=
  let inc := beNat (slice b 4 2)
  let s := if inc = s.get (R.SAFV_ZC_ST.INC_CUR c) then s
    else
      let s := s.setSafe { s.safe with incs := Tbl.set 0 s.safe.incs (s.sparam pZcConnid c) inc }
      (s.put (R.SAFV_ZC_ST.INC_CUR c) inc).put (R.SAFV_ZC_INC.STOPMASK c) 0xFF
  let s := s.put (R.SAFV_ZC_SEQ.SEQRX c) (beNat (slice b 6 2))
  let wait := (min (beNat (slice b 8 2)) (s.sparam pZcWdmax c) + s.sparam pZcLatw c) * msU
  s.setZc c { s.zc c with fresh := false, deadline := some (s.now + wait) }

/-- What an accepted message with a payload asks for: the stop mask, an end of the failure, and a test. -/
def State.zcServe (s : State) (c : Nat) (b : List Byte) : State :=
  let flags := beNat (slice b 13 1)
  let s := s.put (R.SAFV_ZC_INC.STOPMASK c) (beNat (slice b 12 1))
  let s := if hasBit flags 0 then s.put (R.SAFV_ZC_ST.STATE c) 1 else s
  (s.zcTest c flags (beNat (slice b 14 1))).dropHeld

theorem State.zcAccept_eq (s : State) (c : Nat) (b : List Byte) : s.zcAccept c b =
    if beNat (slice b 10 1) = 0 then s.zcTake c b else (s.zcTake c b).zcServe c b := rfl

/-- The registers of a connection lie apart. -/
theorem zc_addrs (c : Nat) : (R.SAFV_ZC_SEQ c).addr ≠ (R.SAFV_ZC_INC c).addr ∧
    (R.SAFV_ZC_SEQ c).addr ≠ (R.SAFV_ZC_ST c).addr ∧ (R.SAFV_ZC_ST c).addr ≠ (R.SAFV_ZC_INC c).addr := by
  show 0x8000304 + c * 0x20 ≠ 0x8000308 + c * 0x20 ∧ 0x8000304 + c * 0x20 ≠ 0x8000300 + c * 0x20 ∧
    0x8000300 + c * 0x20 ≠ 0x8000308 + c * 0x20
  omega

theorem State.zcTake_takes (s : State) (c : Nat) (b : List Byte) :
    (s.zcTake c b).get (R.SAFV_ZC_SEQ.SEQRX c) = beNat (slice b 6 2) ∧
      (s.zcTake c b).get (R.SAFV_ZC_ST.INC_CUR c) = beNat (slice b 4 2) ∧
      ((s.zcTake c b).zc c).deadline =
        some (s.now + (min (beNat (slice b 8 2)) (s.sparam pZcWdmax c) + s.sparam pZcLatw c) * msU) := by
  obtain ⟨-, hseqst, hstinc⟩ := zc_addrs c
  unfold State.zcTake
  extract_lets inc _ x u v wait _
  have hinc : u.get (R.SAFV_ZC_ST.INC_CUR c) = inc := by
    unfold u
    split
    next h => exact h.symm
    · rw [State.get_put_ne _ _ (.inl hstinc), State.get_put _ _ _ (show 16 + 16 ≤ 32 by decide)]
      exact Nat.mod_eq_of_lt (beNat_slice_two b 4)
  have hu : u.safe.cfg = s.safe.cfg ∧ u.now = s.now := by
    unfold u
    split
    · exact ⟨rfl, rfl⟩
    · exact ⟨rfl, rfl⟩
  clear_value u
  have hv : v.safe.cfg = s.safe.cfg ∧ v.now = s.now := hu
  have hvseq : v.get (R.SAFV_ZC_SEQ.SEQRX c) = beNat (slice b 6 2) :=
    (State.get_put _ _ _ (show 0 + 16 ≤ 32 by decide)).trans (Nat.mod_eq_of_lt (beNat_slice_two b 6))
  have hvinc : v.get (R.SAFV_ZC_ST.INC_CUR c) = inc := (State.get_put_ne _ _ (.inl hseqst.symm)).trans hinc
  clear_value v
  refine ⟨hvseq, hvinc, ?_⟩
  rw [State.zc_setZc]
  unfold wait
  rw [State.sparam_congr hv.1, State.sparam_congr hv.1, hv.2]

theorem State.zcServe_keeps (s : State) {c : Nat} (hc : c < 8) (b : List Byte) :
    (s.zcServe c b).get (R.SAFV_ZC_SEQ.SEQRX c) = s.get (R.SAFV_ZC_SEQ.SEQRX c) ∧
      (s.zcServe c b).get (R.SAFV_ZC_ST.INC_CUR c) = s.get (R.SAFV_ZC_ST.INC_CUR c) ∧
      (s.zcServe c b).zc c = s.zc c := by
  obtain ⟨hseqinc, hseqst, hstinc⟩ := zc_addrs c
  have hseq : (R.SAFV_ZC_SEQ.SEQRX c).OffTest := zcSt_offTest hc (by
    show 0x8000300 ≤ 0x8000304 + c * 0x20 ∧ 0x8000304 + c * 0x20 < 0x8000318 + c * 0x20
    omega)
  have hcur : (R.SAFV_ZC_ST.INC_CUR c).OffTest := zcSt_offTest hc (by
    show 0x8000300 ≤ 0x8000300 + c * 0x20 ∧ 0x8000300 + c * 0x20 < 0x8000318 + c * 0x20
    omega)
  unfold State.zcServe
  extract_lets flags u v
  have hu : u.safe.zc = s.safe.zc := rfl
  have huseq : u.get (R.SAFV_ZC_SEQ.SEQRX c) = s.get (R.SAFV_ZC_SEQ.SEQRX c) := State.get_put_ne _ _ (.inl hseqinc)
  have hucur : u.get (R.SAFV_ZC_ST.INC_CUR c) = s.get (R.SAFV_ZC_ST.INC_CUR c) := State.get_put_ne _ _ (.inl hstinc)
  clear_value u flags
  have hv : v.safe.zc = u.safe.zc ∧ v.get (R.SAFV_ZC_SEQ.SEQRX c) = u.get (R.SAFV_ZC_SEQ.SEQRX c) ∧
      v.get (R.SAFV_ZC_ST.INC_CUR c) = u.get (R.SAFV_ZC_ST.INC_CUR c) := by
    have hapart : (R.SAFV_ZC_ST.INC_CUR c).Apart (R.SAFV_ZC_ST.STATE c) := .inr ⟨rfl, .inr (show 0 + 2 ≤ 16 by decide)⟩
    unfold v
    split
    · rw [State.put_safe, State.get_put_ne _ _ (.inl hseqst), State.get_put_ne _ _ hapart]
      exact ⟨rfl, rfl, rfl⟩
    · exact ⟨rfl, rfl, rfl⟩
  clear_value v
  obtain ⟨hvzc, hvseq, hvcur⟩ := hv
  obtain ⟨htzc, htget⟩ := v.zcTest_keeps c flags (beNat (slice b 14 1))
  rw [State.dropHeld_get _ hseq.1, State.dropHeld_get _ hcur.1, htget _ hseq, htget _ hcur, hvseq, hvcur, huseq, hucur,
    State.dropHeld_zc]
  exact ⟨rfl, rfl, State.zc_congr (htzc.trans (hvzc.trans hu)) c⟩

/-- An accepted message gives the connection its incarnation, its sequence number and the next deadline. -/
theorem State.zcAccept_takes (s : State) {c : Nat} (hc : c < 8) (b : List Byte) {t : State} (ht : t = s.zcAccept c b) :
    t.get (R.SAFV_ZC_SEQ.SEQRX c) = beNat (slice b 6 2) ∧ t.get (R.SAFV_ZC_ST.INC_CUR c) = beNat (slice b 4 2) ∧
      (t.zc c).deadline = some (s.now + (min (beNat (slice b 8 2)) (s.sparam pZcWdmax c) + s.sparam pZcLatw c) * msU) := by
  obtain ⟨hseq, hinc, hzc⟩ := (s.zcTake c b).zcServe_keeps hc b
  have htake := s.zcTake_takes c b
  rw [ht, State.zcAccept_eq]
  split
  · exact htake
  · rw [hseq, hinc, hzc]
    exact htake

/-! The events (R307, R310, R312) -/

@[simp] theorem State.get_setZc (s : State) (c : Nat) (x : ZcSt) (f : FldAt) : (s.setZc c x).get f = s.get f := rfl

theorem State.zhocy_accepts {s : State} {b : List Byte} {c : Nat} (hmode : s.safeMode ≠ 0)
    (hlen : b.length = 16 + (b.getD 10 0).toNat) (hle : (b.getD 10 0).toNat ≤ 64)
    (hfind : chans8.find? (fun c => s.zcOn c && s.sparam pZcConnid c == beNat (slice b 0 4) &&
      (b.getD 11 0).toNat % 2 == 0) = some c) (hok : s.zcRefuses c b = none) :
    s.zhocy b = (s.zcAccept c b).mirror (.zhocy b) := by
  unfold State.zhocy
  extract_lets len
  rw [if_neg hmode, if_neg (not_or.2 ⟨not_lt.2 hle, not_not.2 hlen⟩), hfind]
  dsimp only
  rw [hok]

/-- The message that an enabled connection accepts gives it its numbers and the next deadline. -/
theorem State.zhocy_takes {s : State} {b : List Byte} {c : Nat} (hmode : s.safeMode ≠ 0)
    (hlen : b.length = 16 + (b.getD 10 0).toNat) (hle : (b.getD 10 0).toNat ≤ 64)
    (hfind : chans8.find? (fun c => s.zcOn c && s.sparam pZcConnid c == beNat (slice b 0 4) &&
      (b.getD 11 0).toNat % 2 == 0) = some c) (hok : s.zcRefuses c b = none) {t : State}
    (ht : t = (s.zhocy b).safeHint s) :
    t.get (R.SAFV_ZC_SEQ.SEQRX c) = beNat (slice b 6 2) ∧ t.get (R.SAFV_ZC_ST.INC_CUR c) = beNat (slice b 4 2) ∧
      (t.zc c).deadline = some (s.now + (min (beNat (slice b 8 2)) (s.sparam pZcWdmax c) + s.sparam pZcLatw c) * msU) := by
  have hc : c < 8 := List.mem_range.1 (List.mem_of_find?_eq_some hfind)
  obtain ⟨hseq, hinc, hdl⟩ := s.zcAccept_takes hc b rfl
  rw [State.zhocy_accepts hmode hlen hle hfind hok] at ht
  generalize s.zcAccept c b = u at hseq hinc hdl ht
  have hmirror := u.mirror_only (.zhocy b)
  have hget (f : FldAt) (hf : f.Apart R.SYS_HINTST.CAUSE) : t.get f = u.get f := by
    rw [ht, State.safeHint_get _ _ hf, State.get_congr (hmirror.regs rfl)]
  have hzc : t.zc c = u.zc c := State.zc_congr (congrArg SafeSt.zc (by
    rw [ht, State.safeHint_safe, (State.Within.ofOnly hmirror).safe rfl])) c
  have hseqNe : 0x8000304 + c * 0x20 ≠ 0x420 := by omega
  have hincNe : 0x8000300 + c * 0x20 ≠ 0x420 := by omega
  rw [hget _ (.inl hseqNe), hget _ (.inl hincNe), hzc]
  exact ⟨hseq, hinc, hdl⟩

theorem zhocyRx_takes (now : Nat) {rx : Rx} {c : Nat} {s : State} (hr : s.Running) (hc : s.consumes rx = true)
    (hflow : rx.frame.flow = 4) (htype : rx.frame.type = 0) (hmode : s.safeMode ≠ 0)
    (hlen : rx.frame.body.length = 16 + (rx.frame.body.getD 10 0).toNat) (hle : (rx.frame.body.getD 10 0).toNat ≤ 64)
    (hfind : chans8.find? (fun c => s.zcOn c && s.sparam pZcConnid c == beNat (slice rx.frame.body 0 4) &&
      (rx.frame.body.getD 11 0).toNat % 2 == 0) = some c) (hok : s.zcRefuses c rx.frame.body = none) :
    Completes (.zhocyRx now rx) s fun t => t.get (R.SAFV_ZC_SEQ.SEQRX c) = beNat (slice rx.frame.body 6 2) ∧
      t.get (R.SAFV_ZC_ST.INC_CUR c) = beNat (slice rx.frame.body 4 2) ∧ (t.zc c).deadline = some (t.now +
        (min (beNat (slice rx.frame.body 8 2)) (s.sparam pZcWdmax c) + s.sparam pZcLatw c) * msU) := by
  have he : exec (.zhocyRx now rx) s = execZhocyRx now rx s := rfl
  unfold execZhocyRx at he
  refine completes_act he hr ?_
  have hc8 : c < 8 := List.mem_range.1 (List.mem_of_find?_eq_some hfind)
  have hseqOff : (R.SAFV_ZC_SEQ.SEQRX c).OffCounts := zc_offCounts hc8 (by
    show 0x8000300 ≤ 0x8000304 + c * 0x20 ∧ 0x8000304 + c * 0x20 < 0x8000318 + c * 0x20
    omega)
  have hincOff : (R.SAFV_ZC_ST.INC_CUR c).OffCounts := zc_offCounts hc8 (by
    show 0x8000300 ≤ 0x8000300 + c * 0x20 ∧ 0x8000300 + c * 0x20 < 0x8000318 + c * 0x20
    omega)
  have hcons : (s.tick now).consumes rx = true := by rwa [State.consumes_tick]
  have hmine : (rx.frame.flow == 4 && rx.frame.type == 0) = true := by rw [hflow, htype]; rfl
  have honly := State.receive_consumed (h := fun s => (s.zhocy rx.frame.body).safeHint s)
    (mine := fun f => f.flow == 4 && f.type == 0) hcons hmine
  have hkeeps := State.receive_countKeeps (h := fun s => (s.zhocy rx.frame.body).safeHint s)
    (mine := fun f => f.flow == 4 && f.type == 0) hcons hmine
  generalize (s.tick now).receive rx (fun f => f.flow == 4 && f.type == 0)
    (fun s => (s.zhocy rx.frame.body).safeHint s) = t at honly hkeeps ⊢
  have hgsafe : ((s.tick now).gated rx).safe = s.safe := (State.Within.ofOnly ((s.tick now).gated_only rx)).safe rfl
  have hgnow : ((s.tick now).gated rx).now = (s.tick now).now := ((s.tick now).gated_only rx).now
  have hgget := ((s.tick now).gated_countKeeps rx).get
  generalize (s.tick now).gated rx = u at honly hkeeps hgsafe hgnow hgget
  have hpar (no i : Nat) : u.sparam no i = s.sparam no i := State.sparam_congr (congrArg SafeSt.cfg hgsafe) no i
  have hon (i : Nat) : u.zcOn i = s.zcOn i := by rw [State.zcOn, hpar, State.zcOn]
  have htakes := State.zhocy_takes (s := u) (b := rx.frame.body) (c := c)
    (by rw [State.safeMode, hgget _ (.inl (by decide))]; exact hmode) hlen hle
    (by simpa only [hon, hpar] using hfind)
    (by rw [State.zcRefuses_congr hgsafe c _ (hgget _ hincOff) (hgget _ hseqOff)]; exact hok) rfl
  rw [hgnow, hpar, hpar] at htakes
  obtain ⟨hseq, hinc, hdl⟩ := htakes
  rw [State.get_keep rfl, State.get_keep rfl, keep_now, hkeeps.get _ hseqOff, hkeeps.get _ hincOff,
    State.zc_congr (congrArg SafeSt.zc (State.safe_keep rfl _ t)),
    State.zc_congr (congrArg SafeSt.zc ((State.Within.ofOnly honly).safe rfl))]
  exact ⟨hseq, hinc, hdl⟩

theorem zhocyWd_fails (now : Nat) {c : Fin 8} {d : Nat} {s : State} (hr : s.Running) (hon : s.zcOn c = true)
    (hd : (s.zc c).deadline = some d) (hdue : d ≤ max s.now now) : Completes (.zhocyWd now c) s fun t =>
      t.get (R.SAFV_ZC_ST.STATE c) = 2 ∧ (t.zc c).deadline = none ∧
        t.get (R.SAFV_ZC_C2.WDFAIL c) = satAdd 16 (s.get (R.SAFV_ZC_C2.WDFAIL c)) 1 ∧ s.Logs L.ZHOCY_WD 4 c t := by
  have he : exec (.zhocyWd now c) s = execZhocyWd now c s := rfl
  unfold execZhocyWd at he
  refine completes_act he hr ?_
  rw [show ((s.tick now).zc c).deadline = some d from hd]
  dsimp -zeta only
  have hgo : ¬ ((!(s.tick now).zcOn c) = true ∨ (s.tick now).now < d) := by
    rw [show (s.tick now).zcOn c = true from hon]
    exact not_or.2 ⟨Bool.false_ne_true, not_lt.2 hdue⟩
  rw [if_neg hgo]
  extract_lets _ u
  have hne : (R.SAFV_ZC_ST c).addr ≠ (R.SAFV_ZC_C2 c).addr := by
    show 0x8000300 + c.val * 0x20 ≠ 0x8000314 + c.val * 0x20
    omega
  have hst : (R.SAFV_ZC_ST.STATE c).OffTest := zcSt_offTest c.2 (by
    show 0x8000300 ≤ 0x8000300 + c.val * 0x20 ∧ 0x8000300 + c.val * 0x20 < 0x8000318 + c.val * 0x20
    omega)
  have hwd : (R.SAFV_ZC_C2.WDFAIL c).OffTest := zcSt_offTest c.2 (by
    show 0x8000300 ≤ 0x8000314 + c.val * 0x20 ∧ 0x8000314 + c.val * 0x20 < 0x8000318 + c.val * 0x20
    omega)
  have hustate : u.get (R.SAFV_ZC_ST.STATE c) = 2 := State.get_put _ _ _ (show 0 + 2 ≤ 32 by decide)
  have huwd : u.get (R.SAFV_ZC_C2.WDFAIL c) = s.get (R.SAFV_ZC_C2.WDFAIL c) := by
    unfold u
    rw [State.get_put_ne _ _ (.inl hne.symm), State.get_setZc, State.get_tick]
  have huzc : (u.zc c).deadline = none := congrArg ZcSt.deadline (State.zc_setZc ..)
  have humin : u.get R.LOG_CFG.MINSEV = s.get R.LOG_CFG.MINSEV := by
    have hfar : R.LOG_CFG.addr ≠ (R.SAFV_ZC_ST c).addr := by
      show 0xC040008 ≠ 0x8000300 + c.val * 0x20
      omega
    unfold u
    rw [State.get_put_ne _ _ (.inl hfar), State.get_setZc, State.get_tick]
  clear_value u
  have hbump : (u.bump (R.SAFV_ZC_C2.WDFAIL c)).get R.LOG_CFG.MINSEV = s.get R.LOG_CFG.MINSEV :=
    (State.get_bump_ne _ _ (.inl (by
      show 0xC040008 ≠ 0x8000314 + c.val * 0x20
      omega))).trans humin
  have hlog := State.logs_log1 s _ L.ZHOCY_WD 4 c 0 0 hbump
  have hwstate : (u.bump (R.SAFV_ZC_C2.WDFAIL c)).get (R.SAFV_ZC_ST.STATE c) = 2 :=
    (State.get_bump_ne _ _ (.inl hne)).trans hustate
  have hwwd : (u.bump (R.SAFV_ZC_C2.WDFAIL c)).get (R.SAFV_ZC_C2.WDFAIL c) = satAdd 16 (s.get (R.SAFV_ZC_C2.WDFAIL c)) 1 := by
    rw [State.get_bump _ _ _ (show 0 + 16 ≤ 32 by decide), huwd, R.SAFV_ZC_C2.WDFAIL]
  have hwzc : ((u.bump (R.SAFV_ZC_C2.WDFAIL c)).zc c).deadline = none := by
    rw [State.zc_congr (congrArg SafeSt.zc (State.bump_safe ..))]
    exact huzc
  generalize u.bump (R.SAFV_ZC_C2.WDFAIL c) = w at hlog hwstate hwwd hwzc ⊢
  have hquiet := State.logs_of_quiet hlog ((State.dropHeld_within _).log rfl) (State.dropHeld_get _ (.inr (by decide)))
  have hzc : ((w.log1 L.ZHOCY_WD 4 c).dropHeld.zc c).deadline = none := by
    rw [State.dropHeld_zc, State.zc_congr (congrArg SafeSt.zc (State.log1_safe ..))]
    exact hwzc
  rw [State.get_keep rfl, State.get_keep rfl, State.dropHeld_get _ hst.1, State.get_log1 _ _ _ _ _ _ hst.2,
    State.dropHeld_get _ hwd.1, State.get_log1 _ _ _ _ _ _ hwd.2, State.zc_congr (congrArg SafeSt.zc (State.safe_keep rfl _ _))]
  exact ⟨hwstate, hzc, hwwd, State.logs_keep rfl rfl hquiet⟩

theorem zhocySend_counts (now : Nat) {c : Fin 8} {s : State} (hr : s.Running) (hlead : s.isFollow = false)
    (hon : s.zcOn c = true) (hper : s.sparam pZcTxper c ≠ 0) (hmode : s.safeMode ≠ 0)
    (hnew : (s.zc c).sentAt ≠ some (s.wbAt 0 (max s.now now) / ((s.sparam pZcTxper c * msU : Nat) : Int)).toNat) :
    Completes (.zhocySend now c) s fun t =>
      (t.zc c).sentAt = some (s.wbAt 0 (max s.now now) / ((s.sparam pZcTxper c * msU : Nat) : Int)).toNat ∧
        t.get (R.SAFV_ZC_SEQ.SEQTX c) = (s.get (R.SAFV_ZC_SEQ.SEQTX c) + 1) % 2 ^ 16 := by
  have he : exec (.zhocySend now c) s = execZhocySend now c s := rfl
  unfold execZhocySend at he
  refine completes_act he hr ?_
  extract_lets per k _ u v f
  have hgo : ¬ ((s.tick now).isFollow = true ∨ (!(s.tick now).zcOn c) = true ∨ per = 0 ∨ (s.tick now).safeMode = 0) := by
    rw [show (s.tick now).isFollow = false from hlead, show (s.tick now).zcOn c = true from hon]
    exact not_or.2 ⟨Bool.false_ne_true, not_or.2 ⟨Bool.false_ne_true,
      not_or.2 ⟨Nat.mul_ne_zero hper (by decide), hmode⟩⟩⟩
  rw [if_neg hgo, if_neg (show ¬ ((s.tick now).zc c).sentAt = some k from hnew)]
  have hseqOff : (R.SAFV_ZC_SEQ.SEQTX c).OffCounts := zc_offCounts c.2 (by
    show 0x8000300 ≤ 0x8000304 + c.val * 0x20 ∧ 0x8000304 + c.val * 0x20 < 0x8000318 + c.val * 0x20
    omega)
  have hvzc : (v.zc c).sentAt = some k := congrArg ZcSt.sentAt (State.zc_setZc ..)
  have hvseq : v.get (R.SAFV_ZC_SEQ.SEQTX c) = (s.get (R.SAFV_ZC_SEQ.SEQTX c) + 1) % 2 ^ 16 :=
    State.get_put _ _ _ (show 16 + 16 ≤ 32 by decide)
  clear_value v f
  have hkeeps := (v.sendOwn_countKeeps 0 f).trans (State.sendOwn_countKeeps _ 1 { f with dtype := 2 })
  have hsafe : ((v.sendOwn 0 f).sendOwn 1 { f with dtype := 2 }).safe = v.safe :=
    ((State.Within.ofOnly (State.sendOwn_only ..)).safe rfl).trans ((State.Within.ofOnly (v.sendOwn_only 0 f)).safe rfl)
  rw [State.get_keep rfl, hkeeps.get _ hseqOff, State.zc_congr (congrArg SafeSt.zc (State.safe_keep rfl _ _)),
    State.zc_congr (congrArg SafeSt.zc hsafe)]
  exact ⟨hvzc, hvseq⟩

/-- Settles O29, by the lemma of each event. -/
theorem zhocyEventsComplete : Obligations.ZhocyEventsComplete := by
  unfold Obligations.ZhocyEventsComplete
  refine ⟨?_, ?_, ?_⟩
  · intro now rx c s hr hc hflow htype hmode hlen hle hfind hok
    exact zhocyRx_takes now hr hc hflow htype hmode hlen hle hfind hok
  · intro now c d s hr hon hd hdue
    exact zhocyWd_fails now hr hon hd hdue
  · intro now c s hr hlead hon hper hmode hnew
    exact zhocySend_counts now hr hlead hon hper hmode hnew

end Sys2Proof.Machine
end

section
/-! PROOF. A request of the safety mailbox: its write, what it is read from, what it needs, and its end (R316, R317, R323). -/
namespace Sys2Proof.Machine

/-! A write that its rule allows (R405) -/

/-- A mediated write that is taken counts its reserved bits, has its effect and is answered. -/
theorem State.mediated_taken {s : State} {q : Requester} {a : Nat} {mask data : Word} {ok : Bool} {f : State → State}
    (h : s.mayWrite q a ok = true) : s.mediated q a mask data ok f = (f (s.atWrite q mask data)).answer q false 0 := by
  have hcore (hq : (s.permits q a 4 true && !s.ignoresWrite a) = true) : s.Accepts q a := by
    obtain ⟨hp, hi⟩ := Bool.and_eq_true_iff.1 hq
    exact ⟨hp, by rwa [Bool.not_eq_true'] at hi⟩
  cases q
  case core0 p =>
    rw [State.mediated_core0, State.cmdWrite_taken (hcore h)]
    rfl
  case core1 p =>
    rw [State.mediated_core1, State.cmdWrite_taken (hcore h)]
    rfl
  case host =>
    rw [State.mediated_host, if_pos (show ok = true from h)]
    rfl
  case mgmt r =>
    rw [State.mediated_mgmt, if_pos (show ok = true from h)]
    rfl

/-! What a request is read from -/

/-- A field other than the counts of reserved bits. -/
def FldAt.OffAsk (f : FldAt) : Prop := f.reg.addr < 0x440 ∨ 0x4C0 ≤ f.reg.addr

/-- The safety functions without the count of wrong passwords. -/
def SafeSt.asked (x : SafeSt) : SafeSt := { x with wrong := 0 }

/-- `u` answers what a request asks as `s` does: reserved bits may have been counted, a right password taken, and time may
have passed. -/
structure State.Asks (s u : State) : Prop where
  get : ∀ f : FldAt, f.OffAsk → u.get f = s.get f
  asked : u.safe.asked = s.safe.asked
  live : u.live = s.live
  dram : u.dram = s.dram
  fuse : u.fuse = s.fuse
  flash : u.flash = s.flash
  time : u.time = s.time
  now : s.now ≤ u.now

theorem SafeSt.eq_of_asked {x y : SafeSt} (h : x.asked = y.asked) : x.cfg = y.cfg ∧ x.pw = y.pw ∧ x.salt = y.salt ∧
    x.lockAt = y.lockAt ∧ x.test = y.test ∧ x.bk = y.bk ∧ x.sp = y.sp :=
  ⟨(congrArg SafeSt.cfg h :), (congrArg SafeSt.pw h :), (congrArg SafeSt.salt h :), (congrArg SafeSt.lockAt h :),
    (congrArg SafeSt.test h :), (congrArg SafeSt.bk h :), (congrArg SafeSt.sp h :)⟩

theorem requester_no_lt (q : Requester) : q.no < 4 := by
  unfold Requester.no
  split <;> decide

theorem State.bump_asks (s : State) (q : Requester) : s.Asks (s.bump (R.SYS_REQERR2.RSVD q.no)) where
  get f hf := s.get_bump_ne 1 (.inl (by
    have := requester_no_lt q
    unfold FldAt.OffAsk at hf
    show f.reg.addr ≠ 0x444 + q.no * 0x8
    omega))
  asked := rfl
  live := rfl
  dram := rfl
  fuse := rfl
  flash := rfl
  time := rfl
  now := le_rfl

theorem State.Asks.refl (s : State) : s.Asks s :=
  ⟨fun _ _ => rfl, rfl, rfl, rfl, rfl, rfl, rfl, le_rfl⟩

theorem State.Asks.trans {s t u : State} (h : s.Asks t) (h' : t.Asks u) : s.Asks u where
  get f hf := (h'.get f hf).trans (h.get f hf)
  asked := h'.asked.trans h.asked
  live := h'.live.trans h.live
  dram := h'.dram.trans h.dram
  fuse := h'.fuse.trans h.fuse
  flash := h'.flash.trans h.flash
  time := h'.time.trans h.time
  now := h.now.trans h'.now

theorem State.tick_asks (s : State) (now : Nat) : s.Asks (s.tick now) :=
  ⟨fun _ _ => rfl, rfl, rfl, rfl, rfl, rfl, rfl, le_max_left ..⟩

theorem State.atWrite_asks (s : State) (q : Requester) (mask data : Word) :
    s.Asks (s.atWrite q mask data) ∧ (s.atWrite q mask data).now = s.now := by
  have hcore : s.Asks (if data &&& ~~~ mask ≠ 0 then s.bump (R.SYS_REQERR2.RSVD q.no) else s) ∧
      (if data &&& ~~~ mask ≠ 0 then s.bump (R.SYS_REQERR2.RSVD q.no) else s).now = s.now := by
    split
    · exact ⟨s.bump_asks q, rfl⟩
    · exact ⟨.refl s, rfl⟩
  cases q
  case core0 => exact hcore
  case core1 => exact hcore
  case host => exact ⟨.refl s, rfl⟩
  case mgmt => exact ⟨.refl s, rfl⟩

/-- The state after a right password. -/
def State.wrongCleared (s : State) : State := s.setSafe { s.safe with wrong := 0 }

theorem State.wrongCleared_asks (s : State) : s.Asks s.wrongCleared :=
  ⟨fun _ _ => rfl, rfl, rfl, rfl, rfl, rfl, rfl, le_rfl⟩

namespace State.Asks

variable {s u : State}

theorem on (h : s.Asks u) {f : FldAt} (hf : f.OffAsk) : u.on f = s.on f := State.on_congr (h.get f hf)

theorem cfg (h : s.Asks u) : u.safe.cfg = s.safe.cfg := (SafeSt.eq_of_asked h.asked).1

theorem sparam (h : s.Asks u) (no i : Nat) : u.sparam no i = s.sparam no i := State.sparam_congr h.cfg no i

theorem reqWord (h : s.Asks u) (w : Nat) : u.reqWord w = s.reqWord w := by
  unfold State.reqWord
  rw [h.get _ (.inr (Nat.le_add_right_of_le (by decide))), h.get _ (.inr (Nat.le_add_right_of_le (by decide)))]

theorem reqOp (h : s.Asks u) : u.reqOp = s.reqOp := by rw [State.reqOp, h.reqWord, State.reqOp]
theorem reqRole (h : s.Asks u) : u.reqRole = s.reqRole := by rw [State.reqRole, h.reqWord, State.reqRole]
theorem reqPwlen (h : s.Asks u) : u.reqPwlen = s.reqPwlen := by rw [State.reqPwlen, h.reqWord, State.reqPwlen]
theorem reqBytes (h : s.Asks u) (w n : Nat) : u.reqBytes w n = s.reqBytes w n := by
  simp only [State.reqBytes, h.reqWord]

theorem dramRead (h : s.Asks u) (a n : Nat) : u.dramRead a n = s.dramRead a n := by
  simp only [State.dramRead, State.dramByte, h.dram]

theorem flashRead (h : s.Asks u) (a n : Nat) : u.flashRead a n = s.flashRead a n := by
  simp only [State.flashRead, h.flash]

theorem section_ (h : s.Asks u) : u.section_ = s.section_ := by
  rw [State.section_, h.dramRead, h.reqWord, h.reqWord, State.section_]

theorem inUse (h : s.Asks u) (f : FldAt) : u.inUse f = s.inUse f := State.inUse_congr h.live f

theorem safetyOk (h : s.Asks u) (c : Tbl Nat) : u.safetyOk c = s.safetyOk c := by
  have hview : u.inUse = s.inUse := funext h.inUse
  have hsas : u.sasGood c = s.sasGood c := funext fun k => by
    simp only [State.sasGood, hview]
  rw [State.safetyOk, hsas, State.safetyOk]

theorem lineId (h : s.Asks u) : u.lineId = s.lineId := h.get _ (.inl (by decide))
theorem hubAddr (h : s.Asks u) : u.hubAddr = s.hubAddr := h.get _ (.inl (by decide))
theorem unitId (h : s.Asks u) : u.unitId = s.unitId := by
  rw [State.unitId, h.get _ (.inl (by decide)), h.get _ (.inl (by decide)), State.unitId]

theorem safeMode (h : s.Asks u) : u.safeMode = s.safeMode := h.get _ (.inr (by decide))

theorem sectionBody (h : s.Asks u) : u.sectionBody = s.sectionBody := by
  rw [State.sectionBody, h.section_, State.sectionBody]

theorem sectionBound (h : s.Asks u) (b : List Byte) : u.sectionBound b = s.sectionBound b := by
  rw [State.sectionBound, h.lineId, h.hubAddr, h.unitId, State.sectionBound]

theorem ownerSlot (h : s.Asks u) (key : List Byte) : u.ownerSlot key = s.ownerSlot key := by
  simp only [State.ownerSlot, State.enrolled, State.revoked, State.ownerHash, State.fuseBytes, State.fuseWord, h.fuse]

/-- A test that may start may start later as well. -/
theorem mayTest (h : s.Asks u) {n : Nat} (ht : s.mayTest n = true) : u.mayTest n = true := by
  obtain ⟨-, -, -, -, htest, hbk, hsp⟩ := SafeSt.eq_of_asked h.asked
  have hon (i : Nat) : u.siOn i = s.siOn i := by rw [State.siOn, h.sparam, State.siOn]
  unfold State.mayTest at ht ⊢
  rw [State.bk_congr hbk, h.safeMode, h.time, htest]
  simp only [h.sparam, hon, hsp]
  obtain ⟨hrest, henc⟩ := Bool.and_eq_true_iff.1 ht
  refine Bool.and_eq_true_iff.2 ⟨hrest, ?_⟩
  split at henc
  next t _ =>
    have := h.now
    rw [decide_eq_true_iff] at henc ⊢
    omega
  · rfl

end State.Asks

/-! Seal, password and room (R317) -/

/-- The OWNER password of the request is right, and passwords are not locked out. -/
def State.passes (s : State) : Bool :=
  s.safe.lockAt.isNone && (match s.safe.pw with
    | none => false
    | some d => within s.reqPwlen 8 64 && sha384 (s.safe.salt ++ s.reqBytes 1 s.reqPwlen) == d)

theorem State.password_passes {s : State} (h : s.passes = true) : s.password = (s.wrongCleared, 0) := by
  obtain ⟨hlock, hright⟩ := Bool.and_eq_true_iff.1 h
  unfold State.password
  rw [if_neg (by rw [Option.isNone_iff_eq_none.1 hlock]; exact Bool.false_ne_true)]
  extract_lets n right
  rw [if_pos (show right = true from hright), State.wrongCleared]

/-- Every other password answers a code. -/
theorem State.passes_of_password {s : State} (h : s.password.2 = 0) : s.passes = true := by
  unfold State.password at h
  split at h
  · exact absurd h (show 4 ≠ 0 by decide)
  next hlock =>
  extract_lets n right u k v w at h
  split at h
  next hright =>
    refine Bool.and_eq_true_iff.2 ⟨?_, hright⟩
    rwa [Bool.not_eq_true, Option.isSome_eq_false_iff] at hlock
  split at h
  · exact absurd h (show 3 ≠ 0 by decide)
  split at h
  · exact absurd h (show 3 ≠ 0 by decide)
  · exact absurd h (show 3 ≠ 0 by decide)

theorem State.Asks.passes {s u : State} (h : s.Asks u) : u.passes = s.passes := by
  obtain ⟨-, hpw, hsalt, hlock, -⟩ := SafeSt.eq_of_asked h.asked
  rw [State.passes, hpw, hsalt, hlock, h.reqPwlen, h.reqBytes, State.passes]

/-- The seal, the password and the room in the log that a request needs. -/
structure State.Grants (s : State) (sealed pw room : Bool) : Prop where
  sealOpen : (sealed && !s.on R.SYS_STRAP.SEAL_OPEN) = false
  pass : pw = true → s.passes = true
  room : room = true → s.get R.SAFV_LOG.ENTRIES < 4096

theorem State.grants_of_mayChange {s : State} {sealed pw room : Bool} (h : (s.mayChange sealed pw room).2 = 0) :
    s.Grants sealed pw room := by
  unfold State.mayChange at h
  split at h
  · exact absurd h (show 2 ≠ 0 by decide)
  next hseal =>
  cases pw
  case false =>
    refine ⟨Bool.eq_false_of_not_eq_true hseal, fun hp => absurd hp Bool.false_ne_true, fun hroom => ?_⟩
    subst hroom
    by_contra hfull
    rw [if_neg Bool.false_ne_true] at h
    dsimp only at h
    rw [if_neg (by decide), if_pos (by simpa using not_lt.1 hfull)] at h
    exact absurd h (show 5 ≠ 0 by decide)
  case true =>
    rw [if_pos rfl] at h
    have hpass : s.password.2 = 0 := by
      by_contra hcode
      dsimp only at h
      rw [if_pos hcode] at h
      exact hcode h
    have hp := State.passes_of_password hpass
    refine ⟨Bool.eq_false_of_not_eq_true hseal, fun _ => hp, fun hroom => ?_⟩
    subst hroom
    by_contra hfull
    rw [State.password_passes hp] at h
    dsimp only at h
    rw [if_neg (by decide), s.wrongCleared_asks.get _ (.inr (by decide)), if_pos (by simpa using not_lt.1 hfull)] at h
    exact absurd h (show 5 ≠ 0 by decide)

theorem State.Asks.grants {s u : State} (h : s.Asks u) {sealed pw room : Bool} (hg : s.Grants sealed pw room) :
    u.Grants sealed pw room :=
  ⟨by rw [h.on (.inl (by decide))]; exact hg.sealOpen, fun hp => h.passes.trans (hg.pass hp),
    fun hr => by rw [h.get _ (.inr (by decide))]; exact hg.room hr⟩

/-- A request that has its seal, its password and its room goes on, with no wrong password counted. -/
theorem State.Grants.mayChange {s : State} {sealed pw room : Bool} (h : s.Grants sealed pw room) :
    ∃ v, s.mayChange sealed pw room = (v, 0) ∧ s.Asks v ∧ v.now = s.now := by
  have hroom (v : State) (hv : v.get R.SAFV_LOG.ENTRIES = s.get R.SAFV_LOG.ENTRIES) :
      ¬ (room && decide (4096 ≤ v.get R.SAFV_LOG.ENTRIES)) = true := by
    rw [hv, Bool.and_eq_true, decide_eq_true_iff]
    exact fun hr => not_le.2 (h.room hr.1) hr.2
  unfold State.mayChange
  rw [h.sealOpen, if_neg Bool.false_ne_true]
  cases pw
  case false =>
    refine ⟨s, ?_, .refl s, rfl⟩
    rw [if_neg Bool.false_ne_true]
    dsimp only
    rw [if_neg (by decide), if_neg (hroom s rfl)]
  case true =>
    refine ⟨s.wrongCleared, ?_, s.wrongCleared_asks, rfl⟩
    rw [if_pos rfl, State.password_passes (h.pass rfl)]
    dsimp only
    rw [if_neg (by decide), if_neg (hroom s.wrongCleared rfl)]

/-- What a request may do in a state it may do after its write. -/
theorem State.Asks.mayChange {s u : State} (h : s.Asks u) {sealed pw room : Bool}
    (hc : (s.mayChange sealed pw room).2 = 0) :
    ∃ v, u.mayChange sealed pw room = (v, 0) ∧ s.Asks v ∧ v.now = u.now := by
  obtain ⟨v, hv, hasks, hnow⟩ := (h.grants (State.grants_of_mayChange hc)).mayChange
  exact ⟨v, hv, h.trans hasks, hnow⟩

/-! The mailbox (R316, R323) -/

/-- `w` shows what the run of a request has left in `t`: its registers, its safety functions and its log. -/
structure State.Shows (t w : State) : Prop where
  get : ∀ f : FldAt, f.Apart R.SYS_HINTST.CAUSE → w.get f = t.get f
  safe : w.safe = t.safe
  log : w.log = t.log

theorem State.spmbCtl_runs {s : State} {q : Requester} {data : Word} (flashOk : Bool) (h : s.Submits q data) :
    ∃ u, s.Asks u ∧ u.now = s.now ∧ s.spmbCtl q data flashOk =
      ((if (u.spmbRun q flashOk).on R.SYS_SPMB_ST.BUSY then u.spmbRun q flashOk
        else (u.spmbRun q flashOk).hint 7).safeHint u).answer q false 0 := by
  obtain ⟨hmay, hgo, hidle⟩ := h
  obtain ⟨hasks, hnow⟩ := s.atWrite_asks q 1 data
  refine ⟨s.atWrite q 1 data, hasks, hnow, ?_⟩
  unfold State.spmbCtl
  extract_lets host
  have hrole : (host || q.isEngineer) = (decide (q = .host) || q.isEngineer) := by
    unfold host
    cases q <;> rfl
  have hrun : ¬ ((!hasBit data.toNat 0) = true ∨ (s.atWrite q 1 data).on R.SYS_SPMB_ST.BUSY = true) := by
    rw [hgo, hasks.on (.inr (by decide)), hidle]
    decide
  rw [hrole, State.mediated_taken hmay, if_neg hrun]

/-- A request that is submitted runs, and its end is answered. -/
theorem spmb_completes {i : Instr} {now : Nat} {q : Requester} {data : Word} {flashOk : Bool} {s : State}
    {P : State → Prop} (he : exec i s = act safeParts now s fun s => s.spmbCtl q data flashOk) (hr : s.Running)
    (hsub : s.Submits q data) (hP : ∀ u w, s.Asks u → u.now = w.now → w.Answered q 0 →
      (u.spmbRun q flashOk).Shows w → P w) : Completes i s P := by
  refine completes_act he hr ?_
  have hsub' : (s.tick now).Submits q data := hsub
  obtain ⟨u, hasks, hnow, hctl⟩ := State.spmbCtl_runs flashOk hsub'
  have hrun (v : State) (hv : v = u.spmbRun q flashOk ∨ v = (u.spmbRun q flashOk).hint 7) :
      (u.spmbRun q flashOk).Shows (v.safeHint u) := by
    have hv' : (∀ f : FldAt, f.Apart R.SYS_HINTST.CAUSE → v.get f = (u.spmbRun q flashOk).get f) ∧
        v.safe = (u.spmbRun q flashOk).safe ∧ v.log = (u.spmbRun q flashOk).log := by
      rcases hv with rfl | rfl
      · exact ⟨fun _ _ => rfl, rfl, rfl⟩
      · exact ⟨fun f hf => State.get_put_ne _ _ hf, rfl, rfl⟩
    exact ⟨fun f hf => (v.safeHint_get u hf).trans (hv'.1 f hf), (v.safeHint_safe u).trans hv'.2.1,
      ((v.safeHint_within u).log rfl).trans hv'.2.2⟩
  rw [hctl]
  have hshows : (u.spmbRun q flashOk).Shows
      ((if (u.spmbRun q flashOk).on R.SYS_SPMB_ST.BUSY then u.spmbRun q flashOk
        else (u.spmbRun q flashOk).hint 7).safeHint u) := by
    split
    · exact hrun _ (.inl rfl)
    · exact hrun _ (.inr rfl)
  generalize (if (u.spmbRun q flashOk).on R.SYS_SPMB_ST.BUSY then u.spmbRun q flashOk
    else (u.spmbRun q flashOk).hint 7).safeHint u = v at hshows ⊢
  refine hP u _ ((s.tick_asks now).trans hasks) hnow (State.answered_of_resp (u := v) ?_) ⟨fun f hf => ?_, ?_, ?_⟩
  · rw [keep_resp, if_pos rfl]
  · rw [State.get_keep rfl, State.get_answer]
    exact hshows.get f hf
  · rw [State.safe_keep rfl, State.answer_safe]
    exact hshows.safe
  · rw [keep_log, if_pos rfl, State.answer_log]
    exact hshows.log

end Sys2Proof.Machine
end

section
/-! PROOF. Arrays of bytes, the end of a request, and the configurations that are agreed on (R319, R320, R322). -/
namespace Sys2Proof.Machine

/-! Bytes in an array of registers -/

theorem length_chunks_le {α : Type} (n fuel : Nat) (l : List α) : (chunks n fuel l).length ≤ fuel := by
  induction fuel generalizing l with
  | zero => exact Nat.le_refl 0
  | succ fuel ih =>
    cases l with
    | nil => exact Nat.zero_le _
    | cons b l => exact Nat.succ_le_succ (ih _)

/-- A field apart from the first words of an array keeps its value when bytes are put there. -/
theorem State.putBytes_get (s : State) {f : Nat → FldAt} {bs : List Byte} {g : FldAt}
    (h : ∀ i, i < bs.length → g.Apart (f i)) : (s.putBytes f bs).get g = s.get g := by
  refine State.each_keeps_of_mem (fun s => s.get g) (fun s x hx => s.get_put_ne _ (h x.2 ?_)) s
  have hlt := List.snd_lt_of_mem_zipIdx hx
  have hlen := length_chunks_le 4 bs.length bs
  omega

theorem beBytes_beNat_four (a b c d : Byte) : beBytes 4 (beNat (slice [a, b, c, d] 0 4) % 2 ^ 32) = [a, b, c, d] := by
  have ha := a.isLt
  have hb := b.isLt
  have hc := c.isLt
  have hd := d.isLt
  have hn : beNat (slice [a, b, c, d] 0 4) = ((a.toNat * 256 + b.toNat) * 256 + c.toNat) * 256 + d.toNat := by
    simp [beNat, slice, takePad]
  rw [hn]
  simp only [beBytes, List.cons.injEq, and_true]
  refine ⟨?_, ?_, ?_, ?_⟩ <;> apply BitVec.eq_of_toNat_eq <;> rw [BitVec.toNat_ofNat] <;> omega

/-- The bytes put into an array of whole words are read from it again. -/
theorem State.getBytes_each {f : Nat → FldAt} (hw : ∀ i, (f i).lo = 0 ∧ (f i).w = 32)
    (hne : ∀ i j, i ≠ j → (f i).Apart (f j)) (n fuel k : Nat) (bs : List Byte) (s : State) (hlen : bs.length = 4 * n)
    (hfuel : n ≤ fuel) :
    (List.range n).flatMap (fun w => beBytes 4 ((s.each ((chunks 4 fuel bs).zipIdx k) fun s x =>
      s.put (f x.2) (beNat (slice x.1 0 4))).get (f (k + w)))) = bs := by
  induction n generalizing fuel k bs s with
  | zero => exact (List.eq_nil_of_length_eq_zero hlen).symm
  | succ n ih =>
    obtain ⟨fuel, rfl⟩ : ∃ m, fuel = m + 1 := ⟨fuel - 1, by omega⟩
    match bs, hlen with
    | a :: b :: c :: d :: bs, hlen =>
      have hlen' : bs.length = 4 * n := by
        simp only [List.length_cons] at hlen
        omega
      have hchunks : chunks 4 (fuel + 1) (a :: b :: c :: d :: bs) = [a, b, c, d] :: chunks 4 fuel bs := rfl
      have hrest := ih fuel (k + 1) bs (s.put (f k) (beNat (slice [a, b, c, d] 0 4))) hlen' (by omega)
      have hkeep (s : State) (x : List Byte × Nat) (hx : x ∈ (chunks 4 fuel bs).zipIdx (k + 1)) :
          (s.put (f x.2) (beNat (slice x.1 0 4))).get (f k) = s.get (f k) :=
        s.get_put_ne _ (hne k x.2 (Nat.ne_of_lt (List.le_snd_of_mem_zipIdx hx)))
      have hfirst : ((s.put (f k) (beNat (slice [a, b, c, d] 0 4))).each ((chunks 4 fuel bs).zipIdx (k + 1)) fun s x =>
          s.put (f x.2) (beNat (slice x.1 0 4))).get (f k) = beNat (slice [a, b, c, d] 0 4) % 2 ^ 32 := by
        rw [State.each_keeps_of_mem (fun s => s.get (f k)) hkeep, State.get_put _ _ _ (by rw [FldAt.Fits, (hw k).1, (hw k).2]),
          (hw k).2]
      rw [hchunks, List.zipIdx_cons, State.each, List.foldl_cons, List.range_succ_eq_map, List.flatMap_cons,
        List.flatMap_map]
      have htail (w : Nat) : k + Nat.succ w = k + 1 + w := by omega
      rw [Nat.add_zero, funext fun w => congrArg (fun i => beBytes 4 (State.get _ (f i))) (htail w)]
      exact congrArg₂ (· ++ ·) ((congrArg (beBytes 4) hfirst).trans (beBytes_beNat_four a b c d)) hrest

theorem State.getBytes_putBytes {f : Nat → FldAt} (hw : ∀ i, (f i).lo = 0 ∧ (f i).w = 32)
    (hne : ∀ i j, i ≠ j → (f i).Apart (f j)) (s : State) {n : Nat} {bs : List Byte} (hlen : bs.length = 4 * n) :
    (s.putBytes f bs).getBytes f n = bs := by
  have h := State.getBytes_each hw hne n bs.length 0 bs s hlen (by omega)
  simp only [Nat.zero_add] at h
  exact h

/-! The end of a request -/

/-- The end of a request shows its code, and leaves the registers above the mailbox, the safety functions and the log. -/
theorem State.spmbEnd_ends (s : State) (code : Nat) : (s.spmbEnd code).get R.SYS_SPMB_ST.CODE = code % 2 ^ 4 ∧
    (s.spmbEnd code).on R.SYS_SPMB_ST.BUSY = false ∧ (s.spmbEnd code).safe = s.safe ∧ (s.spmbEnd code).log = s.log ∧
      ∀ f : FldAt, 0x1000 ≤ f.reg.addr → (s.spmbEnd code).get f = s.get f := by
  have hrsp {g : FldAt} (hg : g.reg.addr < 0x900 ∨ 0x1000 ≤ g.reg.addr) (i : Nat)
      (hi : i < (List.replicate 256 (0 : Byte)).length) :
      g.Apart (R.SYS_SPMB_RSP.RSP i) := by
    rw [List.length_replicate] at hi
    refine .inl ?_
    show g.reg.addr ≠ 0x900 + i * 0x4
    omega
  refine ⟨?_, ?_, (State.spmbEnd_within ..).safe rfl, (State.spmbEnd_within ..).log rfl, fun f hf => ?_⟩
  · rw [State.spmbEnd, State.putBytes_get _ (hrsp (.inl (by decide))), State.get_put _ _ _ (by decide)]
    rfl
  · have hapart : R.SYS_SPMB_ST.BUSY.Apart R.SYS_SPMB_ST.CODE := by decide
    rw [State.spmbEnd, State.on_congr (State.putBytes_get _ (hrsp (.inl (by decide)))),
      State.on_congr (State.get_put_ne _ code hapart)]
    exact State.on_putBit _ _ false (by decide) (by decide)
  · have hne : f.reg.addr ≠ R.SYS_SPMB_ST.addr := (Nat.lt_of_lt_of_le (show 0x884 < 0x1000 by decide) hf).ne'
    rw [State.spmbEnd, State.putBytes_get _ (hrsp (.inr hf)), State.get_put_ne _ _ (.inl hne), State.get_put_ne _ _ (.inl hne)]

/-- What the end of a request shows after its answer. -/
theorem State.Shows.ended {v w : State} {code : Nat} (h : (v.spmbEnd code).Shows w) (hcode : code < 2 ^ 4) :
    w.get R.SYS_SPMB_ST.CODE = code ∧ w.on R.SYS_SPMB_ST.BUSY = false ∧ w.safe = v.safe ∧ w.log = v.log ∧
      ∀ f : FldAt, 0x1000 ≤ f.reg.addr → w.get f = v.get f := by
  obtain ⟨hc, hb, hs, hl, hg⟩ := v.spmbEnd_ends code
  refine ⟨?_, ?_, h.safe.trans hs, h.log.trans hl, fun f hf => (h.get f (.inl ?_)).trans (hg f hf)⟩
  · rw [h.get _ (by decide), hc, Nat.mod_eq_of_lt hcode]
  · rw [State.on_congr (h.get _ (by decide)), hb]
  · exact (Nat.lt_of_lt_of_le (show 0x420 < 0x1000 by decide) hf).ne'

/-! A configuration that is agreed on (R319, R320, R322) -/

theorem State.draw_asks (s : State) : s.Asks s.draw.2 := ⟨fun _ _ => rfl, rfl, rfl, rfl, rfl, rfl, rfl, le_rfl⟩

theorem State.entryMid_asks (s : State) (q : Requester) (id old new : Nat) : s.Asks (s.entryMid q id old new).1 := by
  cases q
  case core0 => exact s.draw_asks
  case core1 => exact s.draw_asks
  case host => exact .refl s
  case mgmt => exact .refl s

theorem State.agreeCfg_agrees (s : State) (q : Requester) (cfg : Tbl Nat) (load : Bool) (id old new : Nat) :
    (s.agreeCfg q cfg load id old new).safe.newCfg.map (·.cfg) = some cfg ∧
      (s.agreeCfg q cfg load id old new).on R.SYS_SPMB_ST.BUSY = true := by
  unfold State.agreeCfg
  split
  next u mid _ =>
  extract_lets t c _ v
  have hv : v.safe.newCfg = some c ∧ v.on R.SYS_SPMB_ST.BUSY = true :=
    ⟨rfl, State.on_putBit (u.setSafe _) _ true (by decide) (by decide)⟩
  have hm := v.mirror_only (.safety c)
  rw [(State.Within.ofOnly hm).safe rfl, State.on_congr (State.get_congr (hm.regs rfl) _), hv.1]
  exact ⟨rfl, hv.2⟩

/-- A section that its owner signed, that is bound to this hub and meets every constraint is agreed on. -/
theorem State.Asks.loadSafety {s u : State} (h : s.Asks u) (q : Requester) (hc : (s.mayChange true true true).2 = 0)
    (hlo : s.reqWord 18 ≠ 0) (hhi : s.reqWord 18 ≤ 65536) (hgood : safetyGood s.section_ = true)
    (hslot : (s.ownerSlot (slice s.section_ 32 96)).isSome = true)
    (hsig : ecdsaVerify (slice s.section_ 32 96) s.sectionBody (slice s.section_ s.sectionBody.length 96) = true)
    (hbound : s.sectionBound s.section_ = true) (hok : s.safetyOk (sectionParams s.section_) = true) :
    ∃ v : State, u.loadSafety q = v.agreeCfg q (sectionParams s.section_) true 0 0 0 := by
  obtain ⟨v, hv, hasks, -⟩ := h.mayChange hc
  have hn : within (s.reqWord 18) 1 65536 = true := by
    rw [within, decide_eq_true (Nat.one_le_iff_ne_zero.2 hlo), decide_eq_true hhi]
    rfl
  refine ⟨v, ?_⟩
  rw [← hasks.section_] at hgood hslot hsig hbound hok ⊢
  rw [← hasks.sectionBody] at hsig
  rw [← hasks.ownerSlot] at hslot
  rw [← hasks.sectionBound] at hbound
  rw [← hasks.safetyOk] at hok
  rw [← hasks.reqWord] at hn
  obtain ⟨hline, hunits⟩ := Bool.and_eq_true_iff.1 hbound
  obtain ⟨hline, haddr⟩ := Bool.and_eq_true_iff.1 hline
  unfold State.loadSafety
  rw [hv]
  dsimp -zeta only
  rw [if_neg (not_not.2 rfl)]
  extract_lets n b key body cfg units
  have hshape : ¬ ((!within n 1 65536) = true ∨ (!safetyGood b) = true) := by
    rw [show within n 1 65536 = true from hn, show safetyGood b = true from hgood]
    decide
  have hsigned : ¬ ((v.ownerSlot key).isNone = true ∨ (!ecdsaVerify key body (slice b body.length 96)) = true) := by
    rw [show ecdsaVerify key body (slice b body.length 96) = true from hsig]
    exact not_or.2 ⟨by rw [Bool.not_eq_true, Option.isNone_eq_false_iff]; exact hslot, Bool.false_ne_true⟩
  have hhere : ¬ (fieldAt b 8 1 ≠ v.lineId ∨ fieldAt b 10 2 ≠ v.hubAddr ∨
      (units ≠ [0, 0] ∧ (!units.contains v.unitId) = true)) := by
    refine not_or.2 ⟨not_not.2 (beq_iff_eq.1 hline), not_or.2 ⟨not_not.2 (beq_iff_eq.1 haddr), fun hu => ?_⟩⟩
    rcases Bool.or_eq_true_iff.1 hunits with hz | hmem
    · exact hu.1 (of_decide_eq_true hz)
    · rw [show units.contains v.unitId = true from hmem] at hu
      exact Bool.false_ne_true hu.2
  rw [if_neg hshape, if_neg hsigned, if_neg hhere, if_neg (by rw [show v.safetyOk cfg = true from hok]; decide)]
  rfl

/-- A value that leaves the configuration within its constraints is agreed on. -/
theorem State.Asks.setParam {s u : State} (h : s.Asks u) (q : Requester)
    (hc : (s.mayChange (!isService (s.reqWord 17 / 256)) true true).2 = 0) (hmode : s.safeMode ≠ 0)
    (hid : paramIds.contains (s.reqWord 17) = true)
    (hok : s.safetyOk (Tbl.set 0 s.safe.cfg (s.reqWord 17) (s.reqWord 18)) = true) :
    ∃ (v : State) (id old new : Nat), u.setParam q =
      v.agreeCfg q (Tbl.set 0 s.safe.cfg (s.reqWord 17) (s.reqWord 18)) false id old new := by
  obtain ⟨v, hv, hasks, -⟩ := h.mayChange hc
  unfold State.setParam
  extract_lets id val
  have hid' : id = s.reqWord 17 := h.reqWord 17
  have hval : val = s.reqWord 18 := h.reqWord 18
  rw [hid', hval, hv]
  dsimp -zeta only
  rw [if_neg (not_not.2 rfl), if_neg (by rw [hasks.safeMode]; exact hmode), hasks.cfg]
  extract_lets cfg
  have hgo : ¬ ((!paramIds.contains (s.reqWord 17)) = true ∨ (!v.safetyOk cfg) = true) := by
    rw [hid, hasks.safetyOk, show s.safetyOk cfg = true from hok]
    decide
  rw [if_neg hgo]
  exact ⟨v, _, _, _, rfl⟩

end Sys2Proof.Machine
end

section
/-! PROOF. The requests of the safety mailbox (R303, R316 to R323). -/
namespace Sys2Proof.Machine

/-! The log of changes and the password (R317, R318, R323) -/

/-- An entry that reads back makes the log one longer. -/
theorem State.logChange_counts (s : State) (mid digest : List Byte) : ∃ t, s.logChange mid digest true = (t, true) ∧
    t.get R.SAFV_LOG.ENTRIES = (s.get R.SAFV_LOG.ENTRIES + 1) % 2 ^ 13 ∧ t.safe = s.safe ∧
      ∀ f : FldAt, f.reg.addr ≠ R.SAFV_LOG.addr → t.get f = s.get f := by
  unfold State.logChange
  extract_lets n e
  have hflash := s.flashProgram_only (entryAt n) e
  generalize s.flashProgram (entryAt n) e = u at hflash
  refine ⟨u.put R.SAFV_LOG.ENTRIES n, if_pos rfl, State.get_put _ _ _ (by decide), ?_, fun f hf => ?_⟩
  · rw [State.put_safe, (State.Within.ofOnly hflash).safe rfl]
  · rw [State.get_put_ne _ _ (.inl hf), State.get_congr (hflash.regs rfl)]

/-- A salt takes free values alone. -/
theorem State.drawSalt_regs (l : List Nat) (r : List Byte × State) :
    (l.foldl (fun r _ => (BitVec.ofNat 8 r.2.draw.1 :: r.1, r.2.draw.2)) r).2.regs = r.2.regs := by
  induction l generalizing r with
  | nil => rfl
  | cons _ l ih => exact ih _

/-- The bytes of a request that fit its mailbox. -/
theorem State.reqBytes_congr {s t : State} {w n : Nat} (hw : w + (n + 3) / 4 ≤ 64)
    (h : ∀ f : FldAt, 0x800 ≤ f.reg.addr ∧ f.reg.addr < 0xB00 → t.get f = s.get f) : t.reqBytes w n = s.reqBytes w n := by
  have hword (i : Nat) (hi : i < (n + 3) / 4) : t.reqWord (w + i) = s.reqWord (w + i) := by
    unfold State.reqWord
    split
    · refine h _ ?_
      show 0x800 ≤ 0x800 + (w + i) * 0x4 ∧ 0x800 + (w + i) * 0x4 < 0xB00
      omega
    · refine h _ ?_
      show 0x800 ≤ 0xA00 + (w + i - 32) * 0x4 ∧ 0xA00 + (w + i - 32) * 0x4 < 0xB00
      omega
  unfold State.reqBytes
  rw [List.flatMap_congr fun i hi => congrArg (beBytes 4) (hword i (List.mem_range.1 hi))]

/-- A new password is kept with a salt of its own, and its entry written. -/
theorem State.Asks.setPassword {s u : State} (h : s.Asks u) (q : Requester)
    (hc : (s.mayChange true s.safe.pw.isSome true).2 = 0) (hlo : 8 ≤ s.reqWord 17 % 256) (hhi : s.reqWord 17 % 256 ≤ 64) :
    ∃ v : State, u.setPassword q true = v.spmbEnd 0 ∧ v.get R.SAFV_LOG.ENTRIES = s.get R.SAFV_LOG.ENTRIES + 1 ∧
      v.safe.pw = some (sha384 (v.safe.salt ++ s.reqBytes 18 (s.reqWord 17 % 256))) := by
  obtain ⟨-, hpw, -⟩ := SafeSt.eq_of_asked h.asked
  obtain ⟨v, hv, hasks, -⟩ := h.mayChange hc
  have hroom := (State.grants_of_mayChange hc).room rfl
  have hmid := hasks.trans (v.entryMid_asks q 0 0 0)
  obtain ⟨hlo', hhi'⟩ : 8 ≤ v.reqWord 17 % 256 ∧ v.reqWord 17 % 256 ≤ 64 := by
    rw [hasks.reqWord]
    exact ⟨hlo, hhi⟩
  unfold State.setPassword
  rw [hpw, hv]
  dsimp -zeta only
  extract_lets +onlyGivenNames n
  have hn : n = s.reqWord 17 % 256 := congrArg (· % 256) (hasks.reqWord 17)
  have hwithin : ¬ (!within n 8 64) = true := by
    rw [within, decide_eq_true (show 8 ≤ n from hlo'), decide_eq_true (show n ≤ 64 from hhi')]
    decide
  clear_value n
  rw [if_neg (not_not.2 rfl), if_neg hwithin]
  generalize v.entryMid q 0 0 0 = r at hmid ⊢
  obtain ⟨w, mid⟩ := r
  dsimp -zeta only at hmid ⊢
  obtain ⟨x, hx, hentries, -, hget⟩ :=
    w.logChange_counts mid (if w.safeMode = 0 then List.replicate 48 0 else w.safeDigest)
  rw [hx]
  dsimp -zeta only
  rw [if_neg (by decide)]
  have hsalt := State.drawSalt_regs (List.range 16) ([], x)
  generalize (List.range 16).foldl (fun r _ => (BitVec.ofNat 8 r.2.draw.1 :: r.1, r.2.draw.2)) (([] : List Byte), x) = r
    at hsalt ⊢
  obtain ⟨salt, y⟩ := r
  have hregs : y.regs = x.regs := hsalt
  dsimp -zeta only
  have hbytes : y.reqBytes 18 n = s.reqBytes 18 n := State.reqBytes_congr (by omega) fun f hf => by
    rw [State.get_congr hregs, hget f (Nat.ne_of_lt (hf.2.trans (by decide))), hmid.get f (.inr (Nat.le_trans (by decide) hf.1))]
  refine ⟨_, rfl, ?_, ?_⟩
  · rw [State.get_setSafe, State.get_congr hregs, hentries, hmid.get _ (.inr (by decide))]
    omega
  · rw [State.setSafe_safe, hbytes, hn]

/-- A log that is cleared holds the entry of its clearing. -/
theorem State.Asks.clearLog {s u : State} (h : s.Asks u) (q : Requester) (hc : (s.mayChange true true false).2 = 0) :
    ∃ v : State, u.clearLog q true = v.spmbEnd 0 ∧ v.get R.SAFV_LOG.ENTRIES = 1 := by
  obtain ⟨v, hv, -, -⟩ := h.mayChange hc
  unfold State.clearLog
  rw [hv]
  dsimp -zeta only
  extract_lets +onlyGivenNames old
  rw [if_neg (not_not.2 rfl)]
  generalize v.entryMid q 0 0 0 = r
  obtain ⟨w, mid⟩ := r
  dsimp -zeta only
  extract_lets e x
  exact ⟨x.put R.SAFV_LOG.ENTRIES 1, if_neg (by decide), State.get_put _ _ _ (by decide)⟩

/-! Tests and the reading of the log (R303, R323) -/

theorem State.Asks.brakeTest {s u : State} (h : s.Asks u) (hrole : s.reqRole ≤ 1) (hn : s.reqWord 17 < 8)
    (hmay : s.mayTest (s.reqWord 17) = true) : u.reqTest true = (u.startTest (s.reqWord 17)).spmbEnd 0 := by
  unfold State.reqTest
  extract_lets n
  rw [if_neg (by rw [h.reqRole]; omega), show n = s.reqWord 17 from h.reqWord 17, if_neg (by omega), if_pos rfl,
    if_pos (h.mayTest hmay)]

theorem State.Asks.abortTest {s u : State} (h : s.Asks u) (hrole : s.reqRole ≤ 1) (hn : s.reqWord 17 < 8) {t : HoldTest}
    (ht : s.safe.test = some t) (hch : t.ch = s.reqWord 17) (hph : t.phase ≠ 3) :
    u.reqTest false = (u.endTest t 6).spmbEnd 0 := by
  obtain ⟨-, -, -, -, htest, -⟩ := SafeSt.eq_of_asked h.asked
  unfold State.reqTest
  extract_lets n
  rw [if_neg (by rw [h.reqRole]; omega), show n = s.reqWord 17 from h.reqWord 17, if_neg (by omega),
    if_neg Bool.false_ne_true, htest, ht]
  dsimp only
  rw [if_pos ⟨hch, hph⟩]

theorem State.Asks.readLog {s u : State} (h : s.Asks u) (hrole : s.reqRole ≤ 1) (hlo : s.reqWord 17 ≠ 0)
    (hhi : s.reqWord 17 ≤ s.get R.SAFV_LOG.ENTRIES) :
    u.readLog = (u.spmbEnd 0).putBytes R.SYS_SPMB_RSP.RSP (s.flashRead (entryAt (s.reqWord 17)) 256) := by
  unfold State.readLog
  extract_lets i
  have hi : within (s.reqWord 17) 1 (s.get R.SAFV_LOG.ENTRIES) = true := by
    rw [within, decide_eq_true (Nat.one_le_iff_ne_zero.2 hlo), decide_eq_true hhi]
    rfl
  rw [if_neg (by rw [h.reqRole]; omega), show i = s.reqWord 17 from h.reqWord 17, h.get _ (.inr (by decide)), hi,
    if_neg (by decide), h.flashRead]

theorem State.startTest_testing (s : State) {n : Nat} : (s.startTest n).get (R.SAFV_BK.TESTING n) = 1 := by
  unfold State.startTest
  extract_lets _ u x
  rw [State.showBk_get _ (.inr ⟨rfl, show 10 ≤ 14 by decide⟩), State.get_put _ _ _ (show 14 + 1 ≤ 32 by decide)]
  rfl

/-- An operation that Table 11.7 does not define. -/
theorem State.spmbRun_undefined (s : State) (q : Requester) (flashOk : Bool) (h : s.reqOp = 0 ∨ 7 < s.reqOp) :
    s.spmbRun q flashOk = s.spmbEnd 10 := by
  unfold State.spmbRun
  split
  case h_8 => rfl
  all_goals omega

/-! The requests -/

theorem spmbLoadSafety_agrees (now : Nat) {req : Requester} {data : Word} {flashOk : Bool} {s : State} (hr : s.Running)
    (hsub : s.Submits req data) (hop : s.reqOp = 1) (hc : (s.mayChange true true true).2 = 0) (hlo : s.reqWord 18 ≠ 0)
    (hhi : s.reqWord 18 ≤ 65536) (hgood : safetyGood s.section_ = true)
    (hslot : (s.ownerSlot (slice s.section_ 32 96)).isSome = true)
    (hsig : ecdsaVerify (slice s.section_ 32 96) s.sectionBody (slice s.section_ s.sectionBody.length 96) = true)
    (hbound : s.sectionBound s.section_ = true) (hok : s.safetyOk (sectionParams s.section_) = true) :
    Completes (.spmbLoadSafety now req data flashOk) s fun t => t.Answered req 0 ∧
      t.safe.newCfg.map (·.cfg) = some (sectionParams s.section_) ∧ t.on R.SYS_SPMB_ST.BUSY = true := by
  refine spmb_completes (now := now) (flashOk := flashOk) rfl hr hsub fun u w hu _ hans hw => ?_
  obtain ⟨v, hv⟩ := hu.loadSafety req hc hlo hhi hgood hslot hsig hbound hok
  obtain ⟨hcfg, hbusy⟩ := v.agreeCfg_agrees req (sectionParams s.section_) true 0 0 0
  rw [State.spmbRun, hu.reqOp, hop] at hw
  rw [hv] at hw
  rw [hw.safe, State.on_congr (hw.get _ (by decide))]
  exact ⟨hans, hcfg, hbusy⟩

theorem spmbSetParam_agrees (now : Nat) {req : Requester} {data : Word} {flashOk : Bool} {s : State} (hr : s.Running)
    (hsub : s.Submits req data) (hop : s.reqOp = 2) (hc : (s.mayChange (!isService (s.reqWord 17 / 256)) true true).2 = 0)
    (hmode : s.safeMode ≠ 0) (hid : paramIds.contains (s.reqWord 17) = true)
    (hok : s.safetyOk (Tbl.set 0 s.safe.cfg (s.reqWord 17) (s.reqWord 18)) = true) :
    Completes (.spmbSetParam now req data flashOk) s fun t => t.Answered req 0 ∧
      t.safe.newCfg.map (·.cfg) = some (Tbl.set 0 s.safe.cfg (s.reqWord 17) (s.reqWord 18)) ∧
        t.on R.SYS_SPMB_ST.BUSY = true := by
  refine spmb_completes (now := now) (flashOk := flashOk) rfl hr hsub fun u w hu _ hans hw => ?_
  obtain ⟨v, id, old, new, hv⟩ := hu.setParam req hc hmode hid hok
  obtain ⟨hcfg, hbusy⟩ := v.agreeCfg_agrees req (Tbl.set 0 s.safe.cfg (s.reqWord 17) (s.reqWord 18)) false id old new
  rw [State.spmbRun, hu.reqOp, hop] at hw
  rw [hv] at hw
  rw [hw.safe, State.on_congr (hw.get _ (by decide))]
  exact ⟨hans, hcfg, hbusy⟩

theorem spmbSetPassword_ends (now : Nat) {req : Requester} {data : Word} {s : State} (hr : s.Running)
    (hsub : s.Submits req data) (hop : s.reqOp = 3) (hc : (s.mayChange true s.safe.pw.isSome true).2 = 0)
    (hlo : 8 ≤ s.reqWord 17 % 256) (hhi : s.reqWord 17 % 256 ≤ 64) :
    Completes (.spmbSetPassword now req data true) s fun t => t.Answered req 0 ∧ t.get R.SYS_SPMB_ST.CODE = 0 ∧
      t.get R.SAFV_LOG.ENTRIES = s.get R.SAFV_LOG.ENTRIES + 1 ∧
        t.safe.pw = some (sha384 (t.safe.salt ++ s.reqBytes 18 (s.reqWord 17 % 256))) := by
  refine spmb_completes (now := now) (flashOk := true) rfl hr hsub fun u w hu _ hans hw => ?_
  obtain ⟨v, hv, hentries, hpw⟩ := hu.setPassword req hc hlo hhi
  rw [State.spmbRun, hu.reqOp, hop] at hw
  rw [hv] at hw
  obtain ⟨hcode, -, hsafe, -, hget⟩ := hw.ended (by decide)
  rw [hsafe]
  exact ⟨hans, hcode, (hget _ (by decide)).trans hentries, hpw⟩

theorem spmbClearLog_ends (now : Nat) {req : Requester} {data : Word} {s : State} (hr : s.Running)
    (hsub : s.Submits req data) (hop : s.reqOp = 4) (hc : (s.mayChange true true false).2 = 0) :
    Completes (.spmbClearLog now req data true) s fun t => t.Answered req 0 ∧ t.get R.SYS_SPMB_ST.CODE = 0 ∧
      t.get R.SAFV_LOG.ENTRIES = 1 := by
  refine spmb_completes (now := now) (flashOk := true) rfl hr hsub fun u w hu _ hans hw => ?_
  obtain ⟨v, hv, hentries⟩ := hu.clearLog req hc
  rw [State.spmbRun, hu.reqOp, hop] at hw
  rw [hv] at hw
  obtain ⟨hcode, -, -, -, hget⟩ := hw.ended (by decide)
  exact ⟨hans, hcode, (hget _ (by decide)).trans hentries⟩

theorem spmbBrakeTest_starts (now : Nat) {req : Requester} {data : Word} {flashOk : Bool} {s : State} (hr : s.Running)
    (hsub : s.Submits req data) (hop : s.reqOp = 5) (hrole : s.reqRole ≤ 1) (hn : s.reqWord 17 < 8)
    (hmay : s.mayTest (s.reqWord 17) = true) :
    Completes (.spmbBrakeTest now req data flashOk) s fun t => t.Answered req 0 ∧ t.get R.SYS_SPMB_ST.CODE = 0 ∧
      t.safe.test = some ⟨s.reqWord 17, 0, t.now, 0, 0⟩ ∧ t.get (R.SAFV_BK.TESTING (s.reqWord 17)) = 1 := by
  refine spmb_completes (now := now) (flashOk := flashOk) rfl hr hsub fun u w hu hnow hans hw => ?_
  rw [State.spmbRun, hu.reqOp, hop] at hw
  rw [hu.brakeTest hrole hn hmay] at hw
  obtain ⟨hcode, -, hsafe, -, hget⟩ := hw.ended (by decide)
  have htesting := hget (R.SAFV_BK.TESTING (s.reqWord 17)) (Nat.le_trans (by decide) (safvBk_addr hn).1)
  rw [hsafe, (u.startTest_safe _).1, hnow]
  exact ⟨hans, hcode, rfl, htesting.trans u.startTest_testing⟩

theorem spmbAbortTest_ends (now : Nat) {req : Requester} {data : Word} {flashOk : Bool} {h : HoldTest} {s : State}
    (hr : s.Running) (hsub : s.Submits req data) (hop : s.reqOp = 6) (hrole : s.reqRole ≤ 1) (hn : s.reqWord 17 < 8)
    (ht : s.safe.test = some h) (hch : h.ch = s.reqWord 17) (hph : h.phase ≠ 3) :
    Completes (.spmbAbortTest now req data flashOk) s fun t => t.Answered req 0 ∧ t.get R.SYS_SPMB_ST.CODE = 0 ∧
      t.get (R.SAFV_BK.TEST (s.reqWord 17)) = 6 ∧ s.Logs L.BRAKE_TEST 4 (s.reqWord 17) t := by
  refine spmb_completes (now := now) (flashOk := flashOk) rfl hr hsub fun u w hu _ hans hw => ?_
  rw [State.spmbRun, hu.reqOp, hop] at hw
  rw [hu.abortTest hrole hn ht hch hph] at hw
  obtain ⟨hcode, -, -, hlog, hget⟩ := hw.ended (by decide)
  obtain ⟨-, htest, hlogs⟩ := u.endTest_ends (h := h) (by omega) (result := 6) (by decide) (by decide) rfl
  rw [hch] at htest hlogs
  have hshown := hget (R.SAFV_BK.TEST (s.reqWord 17)) (Nat.le_trans (by decide) (safvBk_addr hn).1)
  exact ⟨hans, hcode, hshown.trans htest,
    State.logs_of_quiet (hlogs s (hu.get _ (.inr (by decide)))) hlog (hget _ (by decide))⟩

theorem spmbReadLog_reads (now : Nat) {req : Requester} {data : Word} {flashOk : Bool} {s : State} (hr : s.Running)
    (hsub : s.Submits req data) (hop : s.reqOp = 7) (hrole : s.reqRole ≤ 1) (hlo : s.reqWord 17 ≠ 0)
    (hhi : s.reqWord 17 ≤ s.get R.SAFV_LOG.ENTRIES) :
    Completes (.spmbReadLog now req data flashOk) s fun t => t.Answered req 0 ∧ t.get R.SYS_SPMB_ST.CODE = 0 ∧
      t.getBytes R.SYS_SPMB_RSP.RSP 64 = s.flashRead (entryAt (s.reqWord 17)) 256 := by
  refine spmb_completes (now := now) (flashOk := flashOk) rfl hr hsub fun u w hu _ hans hw => ?_
  rw [State.spmbRun, hu.reqOp, hop] at hw
  rw [hu.readLog hrole hlo hhi] at hw
  have hlen : (s.flashRead (entryAt (s.reqWord 17)) 256).length = 4 * 64 := by
    rw [State.flashRead, List.length_map, List.length_range]
  generalize s.flashRead (entryAt (s.reqWord 17)) 256 = bs at hw hlen ⊢
  have hrsp (i : Nat) : (R.SYS_SPMB_RSP.RSP i).Apart R.SYS_HINTST.CAUSE := by
    refine .inl ?_
    show 0x900 + i * 0x4 ≠ 0x420
    omega
  have hapart (i j : Nat) (h : i ≠ j) : (R.SYS_SPMB_RSP.RSP i).Apart (R.SYS_SPMB_RSP.RSP j) := by
    refine .inl ?_
    show 0x900 + i * 0x4 ≠ 0x900 + j * 0x4
    omega
  have hcode : ((u.spmbEnd 0).putBytes R.SYS_SPMB_RSP.RSP bs).get R.SYS_SPMB_ST.CODE = 0 := by
    rw [State.putBytes_get _ fun i _ => .inl (by
      show 0x884 ≠ 0x900 + i * 0x4
      omega)]
    exact (u.spmbEnd_ends 0).1
  refine ⟨hans, (hw.get _ (by decide)).trans hcode, ?_⟩
  rw [State.getBytes, List.flatMap_congr fun i _ => congrArg (beBytes 4) (hw.get _ (hrsp i))]
  exact State.getBytes_putBytes (fun _ => ⟨rfl, rfl⟩) hapart _ hlen

theorem spmbBadOp_ends (now : Nat) {req : Requester} {data : Word} {flashOk : Bool} {s : State} (hr : s.Running)
    (hsub : s.Submits req data) (hop : s.reqOp = 0 ∨ 7 < s.reqOp) :
    Completes (.spmbBadOp now req data flashOk) s fun t => t.Answered req 0 ∧ t.get R.SYS_SPMB_ST.CODE = 10 ∧
      t.on R.SYS_SPMB_ST.BUSY = false := by
  refine spmb_completes (now := now) (flashOk := flashOk) rfl hr hsub fun u w hu _ hans hw => ?_
  rw [u.spmbRun_undefined req flashOk (by rw [hu.reqOp]; exact hop)] at hw
  obtain ⟨hcode, hidle, -⟩ := hw.ended (by decide)
  exact ⟨hans, hcode, hidle⟩

theorem safeLockoutEnd_ends (now : Nat) {a : Nat} {s : State} (hr : s.Running) (ha : s.safe.lockAt = some a)
    (hdue : a + 900 * secU ≤ max s.now now) : Completes (.safeLockoutEnd now) s fun t =>
      t.safe.lockAt = none ∧ t.on R.SAFV_STATE.LOCKOUT = false := by
  have he : exec (.safeLockoutEnd now) s = execSafeLockoutEnd now s := rfl
  unfold execSafeLockoutEnd at he
  refine completes_act he hr ?_
  rw [show (s.tick now).safe.lockAt = some a from ha]
  dsimp only
  rw [if_neg (show ¬ (s.tick now).now < a + 900 * secU from not_lt.2 hdue), State.safe_keep rfl, State.on_keep rfl,
    State.on_safeHint _ _ (by decide), State.safeHint_safe, State.put_safe]
  exact ⟨rfl, State.on_putBit ((s.tick now).setSafe _) _ false (by decide) (by decide)⟩

end Sys2Proof.Machine
end

section
/-! PROOF. The change of the safety configuration at its tick (R308, R319, R321). -/
namespace Sys2Proof.Machine

/-! The change of configuration (R308, R319, R321) -/

/-- The configuration in force and the one agreed on. -/
def SafeSt.pact (x : SafeSt) : Tbl Nat × Option NewCfg := (x.cfg, x.newCfg)

theorem SafeSt.pact_of_noZc {x y : SafeSt} (h : x.noZc = y.noZc) : x.pact = y.pact := (congrArg SafeSt.pact h :)
theorem SafeSt.pact_of_core {x y : SafeSt} (h : x.core = y.core) : x.pact = y.pact := (congrArg SafeSt.pact h :)

theorem State.startZc_get (s : State) (c : Nat) {f : FldAt} (hf : f.reg.addr < 0x8000000) :
    (s.startZc c).get f = s.get f := by
  have hput (u : State) (g : FldAt) (hg : 0x8000000 ≤ g.reg.addr) (v : Nat) : (u.put g v).get f = u.get f :=
    u.get_put_ne v (.inl (Nat.lt_of_lt_of_le hf hg).ne)
  have hst : 0x8000000 ≤ (R.SAFV_ZC_ST c).addr := Nat.le_add_right_of_le (by decide)
  have hseq : 0x8000000 ≤ (R.SAFV_ZC_SEQ c).addr := Nat.le_add_right_of_le (by decide)
  have hinc : 0x8000000 ≤ (R.SAFV_ZC_INC c).addr := Nat.le_add_right_of_le (by decide)
  unfold State.startZc
  extract_lets on _ u v inc w
  have hw : w.get f = s.get f := by
    unfold w v u
    rw [hput _ _ hinc, hput _ _ hst, hput _ _ hst, State.get_setSafe]
  rw [hput _ _ hseq, hput _ _ hseq, hput _ _ hinc, hw]

theorem State.startZcs_get (s : State) {f : FldAt} (hf : f.reg.addr < 0x8000000) : s.startZcs.get f = s.get f := by
  unfold State.startZcs
  extract_lets _ u
  exact (State.each_keeps (fun s => s.get f) (fun s c => s.startZc_get c hf) u chans8).trans (State.get_setSafe ..)

/-- A configuration that comes into force leaves what is agreed on, and the registers below the safety functions. -/
theorem State.configure_applies (s : State) (cfg : Tbl Nat) (load : Bool) :
    (s.configure cfg load).safe.pact = (cfg, s.safe.newCfg) ∧
      ∀ f : FldAt, f.reg.addr < 0x8000000 → (s.configure cfg load).get f = s.get f := by
  unfold State.configure
  extract_lets was _ u v w x _ y
  have hv : v.safe.pact = (cfg, s.safe.newCfg) ∧ ∀ f : FldAt, f.reg.addr < 0x8000000 → v.get f = s.get f := by
    refine ⟨?_, fun f hf => ?_⟩
    · rw [show v.safe = u.safe from (State.putBytes_within ..).safe rfl]
      rfl
    · exact State.putBytes_get _ fun i _ => .inl (by
        show f.reg.addr ≠ 0x8000040 + i * 0x4
        omega)
  clear_value v
  have hw : w.safe.pact = v.safe.pact ∧ ∀ f : FldAt, f.reg.addr < 0x8000000 → w.get f = v.get f :=
    ⟨by unfold w; rw [State.bothUnits_safe]; rfl, fun f _ => State.get_setSafe ..⟩
  clear_value w
  have hx : x.safe.pact = w.safe.pact ∧ ∀ f : FldAt, f.reg.addr < 0x8000000 → x.get f = w.get f := by
    unfold x
    split
    · exact ⟨SafeSt.pact_of_noZc w.startZcs_noZc, fun f hf => w.startZcs_get hf⟩
    · refine ⟨State.each_keeps (fun s => s.safe.pact) (fun s c => ?_) w chans8,
        fun f hf => State.each_keeps (fun s => s.get f) (fun s c => ?_) w chans8⟩
      · split
        · exact SafeSt.pact_of_noZc (s.startZc_noZc c)
        · rfl
      · split
        · exact s.startZc_get c hf
        · rfl
  clear_value x
  have hy : y.safe.pact = x.safe.pact ∧ ∀ f : FldAt, f.reg.addr < 0x8000000 → y.get f = x.get f := by
    unfold y
    split
    · split
      · exact ⟨by rw [State.put_safe]; rfl, fun f hf => (State.get_put_ne _ _ (.inl hf.ne)).trans (State.get_setSafe ..)⟩
      · exact ⟨rfl, fun _ _ => rfl⟩
    · exact ⟨rfl, fun _ _ => rfl⟩
  clear_value y
  refine ⟨?_, fun f hf => ?_⟩
  · rw [SafeSt.pact_of_core y.showInputs.dropHeld_core, State.showInputs_safe, hy.1, hx.1, hw.1, hv.1]
  · rw [State.dropHeld_get _ (.inl (hf.trans (by decide))), State.showInputs_get _ (.inl (hf.trans (by decide))), hy.2 f hf,
      hx.2 f hf, hw.2 f hf, hv.2 f hf]

/-- A mode of the safety functions shows, and leaves the mailbox and what is agreed on. -/
theorem State.setMode_sets (s : State) (m : Nat) : (s.setMode m).safeMode = m % 2 ^ 2 ∧
    (s.setMode m).safe.pact = s.safe.pact ∧
      ∀ f : FldAt, f.OffLog → f.reg.addr < 0x8000000 → (s.setMode m).get f = s.get f := by
  unfold State.setMode
  extract_lets old _ u
  have hmode : u.safeMode = m % 2 ^ 2 := State.get_put _ _ _ (by decide)
  have hpact : u.safe.pact = s.safe.pact := by
    unfold u
    rw [State.put_safe]
    rfl
  have hget (f : FldAt) (hf : f.reg.addr < 0x8000000) : u.get f = s.get f :=
    (State.get_put_ne _ _ (.inl hf.ne)).trans (State.get_setSafe ..)
  clear_value u
  split
  · exact ⟨hmode, hpact, fun f _ hf => hget f hf⟩
  · refine ⟨?_, ?_, fun f hlog hf => (State.get_log1 _ _ _ _ _ _ hlog).trans (hget f hf)⟩
    · rw [State.safeMode, State.get_log1 _ _ _ _ _ _ (by decide)]
      exact hmode
    · rw [State.log1_safe]
      exact hpact

theorem State.extendDm_get (s : State) (k : Nat) (v : List Byte) {f : FldAt} (hf : f.reg.addr < 0xA000100) :
    (s.extendDm k v).get f = s.get f :=
  State.putBytes_get _ fun i _ => .inl (by
    show f.reg.addr ≠ 0xA000100 + k * 0x40 + i * 0x4
    omega)

/-- The request that has led to the change ends with it. -/
def State.endChange (t : State) (busy : Bool) (code : Nat) : State :=
  if busy then ((t.put R.SYS_SPMB_ST.BUSY 0).put R.SYS_SPMB_ST.CODE code).hint 7 else t

theorem State.endChange_ends (t : State) (busy : Bool) {code : Nat} (hcode : code < 2 ^ 4) :
    (t.endChange busy code).safe = t.safe ∧ (busy = true →
      (t.endChange busy code).get R.SYS_SPMB_ST.BUSY = 0 ∧ (t.endChange busy code).get R.SYS_SPMB_ST.CODE = code) := by
  cases busy
  case false => exact ⟨rfl, fun h => absurd h Bool.false_ne_true⟩
  case true =>
    have hapart : R.SYS_SPMB_ST.BUSY.Apart R.SYS_SPMB_ST.CODE := by decide
    rw [State.endChange, if_pos rfl]
    refine ⟨?_, fun _ => ⟨?_, ?_⟩⟩
    · rw [State.hint, State.put_safe, State.put_safe, State.put_safe]
    · rw [State.hint_get_ne _ _ (by decide), State.get_put_ne _ _ hapart, State.get_put _ _ _ (by decide), Nat.zero_mod]
    · rw [State.hint_get_ne _ _ (by decide), State.get_put _ _ _ (by decide)]
      exact Nat.mod_eq_of_lt hcode

/-- The agreed configuration in force: the request ended, the mode of a load, and its digest in DM5. -/
def State.switchTo (t : State) (busy : Bool) (c : NewCfg) : State :=
  let t := (t.endChange busy 0).configure c.cfg c.load
  if c.load then (t.setMode 1).extendDm 5 (digestOf c.cfg) else t

theorem State.switchTo_switches (t : State) (busy : Bool) (c : NewCfg) :
    (t.switchTo busy c).safe.pact = (c.cfg, t.safe.newCfg) ∧ (c.load = true → (t.switchTo busy c).safeMode = 1) ∧
      (busy = true → (t.switchTo busy c).get R.SYS_SPMB_ST.BUSY = 0 ∧ (t.switchTo busy c).get R.SYS_SPMB_ST.CODE = 0) := by
  obtain ⟨hsafe, hends⟩ := t.endChange_ends busy (code := 0) (by decide)
  obtain ⟨hpact, hget⟩ := (t.endChange busy 0).configure_applies c.cfg c.load
  rw [hsafe] at hpact
  unfold State.switchTo
  extract_lets u
  have hu : busy = true → u.get R.SYS_SPMB_ST.BUSY = 0 ∧ u.get R.SYS_SPMB_ST.CODE = 0 := fun hb =>
    ⟨(hget _ (by decide)).trans (hends hb).1, (hget _ (by decide)).trans (hends hb).2⟩
  change u.safe.pact = _ at hpact
  clear_value u
  obtain ⟨hmode, hkept, hfld⟩ := u.setMode_sets 1
  split
  · refine ⟨?_, fun _ => ?_, fun hb => ?_⟩
    · rw [(State.Within.ofOnly (State.extendDm_only ..)).safe rfl, hkept, hpact]
    · rw [State.safeMode, State.extendDm_get _ _ _ (by decide)]
      exact hmode
    · rw [State.extendDm_get _ _ _ (by decide), State.extendDm_get _ _ _ (by decide), hfld _ (by decide) (by decide),
        hfld _ (by decide) (by decide)]
      exact hu hb
  next hload => exact ⟨hpact, fun h => absurd h hload, hu⟩

/-- What the agreed tick does with the configuration `c`. -/
def State.switchAt (s : State) (c : NewCfg) (confirmed flashOk : Bool) : State :=
  let t := s.setSafe { s.safe with newCfg := none }
  if s.isPaired && !confirmed then t.endChange (s.on R.SYS_SPMB_ST.BUSY) 8
  else
    let (t, ok) := t.logChange c.entry (digestOf c.cfg) flashOk
    if !ok then t.endChange (s.on R.SYS_SPMB_ST.BUSY) 9
    else (t.switchTo (s.on R.SYS_SPMB_ST.BUSY) c).safeHint s

theorem execSafetyConfigSwitch_eq (now : Nat) (confirmed flashOk : Bool) (s : State) :
    execSafetyConfigSwitch now confirmed flashOk s = act safeParts now s fun s =>
      match s.safe.newCfg with
      | none => s
      | some c =>
        if (s.wbNow 0 / ((250 * usU : Nat) : Int)).toNat < c.tick then s else s.switchAt c confirmed flashOk := rfl

/-- A change that the partner has confirmed and whose entry reads back is made. -/
theorem State.switchAt_switches (s : State) (c : NewCfg) {confirmed : Bool} (hpair : s.isPaired = true → confirmed = true) :
    ∃ u : State, s.switchAt c confirmed true = (u.switchTo (s.on R.SYS_SPMB_ST.BUSY) c).safeHint s ∧
      u.safe.newCfg = none := by
  unfold State.switchAt
  extract_lets _ t
  have hnew : t.safe.newCfg = none := rfl
  clear_value t
  have hgo : ¬ (s.isPaired && !confirmed) = true := by
    rw [Bool.and_eq_true]
    exact fun h => Bool.false_ne_true (((congrArg (!·) (hpair h.1)).symm.trans h.2 :))
  rw [if_neg hgo]
  obtain ⟨u, hu, -, hsafe, -⟩ := t.logChange_counts c.entry (digestOf c.cfg)
  rw [hu]
  dsimp only
  rw [if_neg (by decide)]
  exact ⟨u, rfl, by rw [hsafe, hnew]⟩

theorem safetyConfigSwitch_switches (now : Nat) {confirmed : Bool} {c : NewCfg} {s : State} (hr : s.Running)
    (hcfg : s.safe.newCfg = some c)
    (hdue : c.tick ≤ (s.wbAt 0 (max s.now now) / ((250 * usU : Nat) : Int)).toNat)
    (hpair : s.isPaired = true → confirmed = true) : Completes (.safetyConfigSwitch now confirmed true) s fun t =>
      t.safe.cfg = c.cfg ∧ t.safe.newCfg = none ∧ (c.load = true → t.safeMode = 1) ∧
        (s.on R.SYS_SPMB_ST.BUSY = true → t.on R.SYS_SPMB_ST.BUSY = false ∧ t.get R.SYS_SPMB_ST.CODE = 0) := by
  have he : exec (.safetyConfigSwitch now confirmed true) s = execSafetyConfigSwitch now confirmed true s := rfl
  rw [execSafetyConfigSwitch_eq] at he
  refine completes_act he hr ?_
  rw [show (s.tick now).safe.newCfg = some c from hcfg]
  dsimp only
  rw [if_neg (not_lt.2 (show c.tick ≤ ((s.tick now).wbNow 0 / ((250 * usU : Nat) : Int)).toNat from hdue))]
  obtain ⟨u, hu, hnew⟩ := (s.tick now).switchAt_switches c (confirmed := confirmed) hpair
  obtain ⟨hpact, hmode, hends⟩ := u.switchTo_switches ((s.tick now).on R.SYS_SPMB_ST.BUSY) c
  rw [hu]
  generalize u.switchTo ((s.tick now).on R.SYS_SPMB_ST.BUSY) c = v at hpact hmode hends ⊢
  obtain ⟨hvcfg, hvnew⟩ := Prod.mk.inj hpact
  have hget (f : FldAt) (hf : f.Apart R.SYS_HINTST.CAUSE) :
      (keep safeParts (s.tick now) (v.safeHint (s.tick now))).get f = v.get f := by
    rw [State.get_keep rfl, v.safeHint_get _ hf]
  rw [State.safe_keep rfl, State.safeHint_safe, State.safeMode, hget _ (by decide), hget _ (by decide),
    State.on_congr (hget _ (by decide))]
  refine ⟨hvcfg, hvnew.trans hnew, hmode, fun hb => ⟨?_, (hends hb).2⟩⟩
  rw [State.on, (hends hb).1]
  rfl

/-- Settles O28, by the lemma of each request and of each event. -/
theorem mailboxRequestsComplete : Obligations.MailboxRequestsComplete := by
  unfold Obligations.MailboxRequestsComplete
  refine ⟨?_, ?_, ?_, ?_, ?_, ?_, ?_, ?_, ?_, ?_⟩
  · intro now req data flashOk s hr hsub hop hc hlo hhi hgood hslot hsig hbound hok
    exact spmbLoadSafety_agrees now hr hsub hop hc hlo hhi hgood hslot hsig hbound hok
  · intro now req data flashOk s hr hsub hop hc hmode hid hok
    exact spmbSetParam_agrees now hr hsub hop hc hmode hid hok
  · intro now req data s hr hsub hop hc hlo hhi
    exact spmbSetPassword_ends now hr hsub hop hc hlo hhi
  · intro now req data s hr hsub hop hc
    exact spmbClearLog_ends now hr hsub hop hc
  · intro now req data flashOk s hr hsub hop hrole hn hmay
    exact spmbBrakeTest_starts now hr hsub hop hrole hn hmay
  · intro now req data flashOk h s hr hsub hop hrole hn ht hch hph
    exact spmbAbortTest_ends now hr hsub hop hrole hn ht hch hph
  · intro now req data flashOk s hr hsub hop hrole hlo hhi
    exact spmbReadLog_reads now hr hsub hop hrole hlo hhi
  · intro now req data flashOk s hr hsub hop
    exact spmbBadOp_ends now hr hsub hop
  · intro now confirmed c s hr hcfg hdue hpair
    exact safetyConfigSwitch_switches now hr hcfg hdue hpair
  · intro now a s hr ha hdue
    exact safeLockoutEnd_ends now hr ha hdue

end Sys2Proof.Machine
end
